-- ==== Sys2Proof/Word.lean ====
section
/-!
DEFINITION. Sys2Proof/Word.lean: the word types of the block and their plainest arithmetic. Bytes are what a packet, a
register write or a stored image is made of (R7, R8: little-endian, bits numbered from the least significant end).
-/
namespace Sys2Proof

/-- One byte (R7). -/
abbrev Byte := BitVec 8

/-- The global timestamp counter of R136: 64 bits, nanoseconds, wrapping after 2^64 ns. -/
abbrev Gtc := BitVec 64

/-- The little-endian bytes of `v`, `n` of them (R7); bits above `8 * n` are not carried. -/
def leBytes (n v : Nat) : List Byte :=
  match n with
  | 0 => []
  | k + 1 => BitVec.ofNat 8 v :: leBytes k (v / 256)

/-- The big-endian bytes of `v`, `n` of them (R7: the content of RTCM messages). -/
def beBytes (n v : Nat) : List Byte := (leBytes n v).reverse

/-- The number a little-endian list of bytes spells (R7). -/
def leNat (bs : List Byte) : Nat :=
  match bs with
  | [] => 0
  | b :: r => b.toNat + 256 * leNat r

/-- The number a big-endian list of bytes spells. -/
def beNat (bs : List Byte) : Nat := leNat bs.reverse

/-- A signed number as the two's complement of `n` bytes, little-endian. -/
def leInt (n : Nat) (v : Int) : List Byte := leBytes n (v % ((256 : Int) ^ n)).toNat

/-- The signed reading of an unsigned number of `n` bytes. -/
def toSigned (n v : Nat) : Int :=
  if v < 256 ^ n / 2 then (v : Int) else (v : Int) - ((256 ^ n : Nat) : Int)

/-- Element `i` of a list, or `d` beyond its end. -/
def nth {α : Type} (l : List α) (i : Nat) (d : α) : α := l.getD i d

/-- The list with element `i` put through `f`; unchanged when there is no element `i`. -/
def modNth {α : Type} (l : List α) (i : Nat) (f : α → α) : List α := l.modify i f

/-- A bit of a number, bit 0 the least significant (R8). -/
def bit (v i : Nat) : Bool := v.testBit i

/-- 1 for true, 0 for false: how a flag lies in a field. -/
def flag (b : Bool) : Nat := if b then 1 else 0

/-- The number with bit `i` set to `b` (R8). -/
def putBit (v i : Nat) (b : Bool) : Nat :=
  if bit v i then (if b then v else v - 2 ^ i) else (if b then v + 2 ^ i else v)

/-- The number whose bit `i` is element `i` of the list (R8). -/
def bitsOf (l : List Bool) : Nat :=
  match l with
  | [] => 0
  | b :: r => flag b + 2 * bitsOf r

/-- `n` zero bytes (R9: reserved fields read as 0). -/
def zeros (n : Nat) : List Byte := List.replicate n 0

/-- Nanoseconds that have passed from stamp `t` to `now`, on the wrapping counter of R136. -/
def elapsed (now t : Gtc) : Nat := (now - t).toNat

/-- A signed value held between two limits (the clamp of Table 1-5's loops, R28). -/
def clampInt (lo hi v : Int) : Int := if v < lo then lo else if hi < v then hi else v

/-- Division of a signed number by a positive one, rounded to the nearest, halves away from zero. -/
def roundDiv (a : Int) (b : Nat) : Int :=
  if a < 0 then - ((((-a).toNat + b / 2) / b : Nat) : Int) else (((a.toNat + b / 2) / b : Nat) : Int)

end Sys2Proof
end

