-- ==== Sys2Proof/Types/Host.lean ====
section
/-!
DEFINITION. Sys2Proof/Types/Host.lean: the plain data of chapters 1 to 3 of the spec: requests, sessions, freezing,
the PCIe rings, the SPI target, the UDP ports, and the host window's mailboxes, doorbells, locks and spill queues.
-/
namespace Sys2Proof

/-- Where a packet came from, which is where its reply goes (R66, R107, R109, R72). -/
inductive Via where
  /-- over the master's transport -/
  | transport
  /-- from inbound mailbox `i` of the master's bank (R107) -/
  | mailbox (i : Nat)
deriving DecidableEq, Repr

/-- An IPv4 address and UDP port (R66); zero on transports that have none. -/
structure UdpAddr where
  ip : Nat
  port : Nat
deriving DecidableEq, Repr

/-- One Efbex request as its opcode's meaning sees it: the master (Table 1-3), the tag, whether flag bit 1 was set and
the tag proved (R73), the way back, the session it belongs to (none: it runs without one, R72), and the payload. -/
structure Req where
  master : Nat
  tag : Nat
  auth : Bool
  via : Via
  sess : Option Nat
  addr : UdpAddr
  /-- the request's sequence within its session, under which its reply is cached (R79) -/
  seq : Nat
  payload : List Byte
  /-- the request is urgent: flag bit 3, or group 0x09 (R81) -/
  urgent : Bool
deriving DecidableEq, Repr

/-- An Efbex packet in its fields (Table 2-1); length and CRC follow from them. -/
structure Packet where
  version : Nat
  opcode : Nat
  tag : Nat
  flags : Nat
  seq : Nat
  status : Nat
  session : Nat
  payload : List Byte
deriving DecidableEq, Repr

/-- A device packet that waits to be sent: a reply, one fragment of a reply, or an event (R82, R86). Its device sequence
is given when it is sent (R78). -/
structure Waiting where
  opcode : Nat
  tag : Nat
  flags : Nat
  status : Nat
  via : Via
  addr : UdpAddr
  payload : List Byte
  /-- sent without a tag, as R70 and R72 ask -/
  bare : Bool
  /-- sent under session ID 0 and sequence 0 (R72) -/
  sessionless : Bool
  /-- a HELLO reply, which carries device sequence 0 -/
  hello : Bool
  gtc : Gtc
  /-- an event's source number (R15, R17) -/
  src : Nat
  /-- the reply to an urgent request (R58) -/
  urgent : Bool
deriving DecidableEq, Repr

/-- An outstanding request of a session (R80). -/
structure Outstanding where
  tag : Nat
  opcode : Nat
  seq : Nat
deriving DecidableEq, Repr

/-- A message being put together from fragments (R55 to R57). -/
structure Reassembly where
  opcode : Nat
  tag : Nat
  flags : Nat
  bytes : List Byte
  last : Gtc
  /-- where its first fragment came from, which is where a reply about it goes (R66, R109) -/
  via : Via
  addr : UdpAddr
  /-- the limit was crossed: later fragments are discarded without reply (R56) -/
  discarding : Bool
deriving DecidableEq, Repr

/-- How a session is bound to end (R75): the reason; the GOODBYE whose reply is still due; whether it ends whatever else
waits, since a device packet carried the last sequence. -/
structure Ending where
  reason : Nat
  req : Option Req
  now : Bool
deriving DecidableEq, Repr

/-- A session (R70 to R75). -/
structure Session where
  id : Nat
  major : Nat
  minor : Nat
  authenticated : Bool
  mask : Nat
  keyIn : List Byte
  keyOut : List Byte
  addr : UdpAddr
  /-- next expected request sequence (R78) -/
  next : Nat
  /-- next device sequence (R78) -/
  dev : Nat
  last : Gtc
  outstanding : List Outstanding
  /-- the last 16 replies, newest first, by request sequence (R79) -/
  cache : List (Nat × List Waiting)
  reasm : Option Reassembly
  /-- packets that wait for the transport, oldest first -/
  queue : List Waiting
  /-- the tag of a reply of which some fragments have been sent and others wait (R58) -/
  mid : Option Nat
  lost : Nat
  lostSince : Gtc
  lostTotal : Nat
  ending : Option Ending
deriving DecidableEq, Repr

/-- A HELLO that awaits its phase 2 (R70, R71). -/
structure HelloWait where
  id : Nat
  major : Nat
  minor : Nat
  mask : Nat
  keyIn : List Byte
  keyOut : List Byte
  th : List Byte
  addr : UdpAddr
deriving DecidableEq, Repr

/-- Per-master freeze state and violation counts (R36, R83, Table 3-9). -/
structure Viol where
  /-- 0 not frozen, else the cause of Table 2-7 -/
  cause : Nat
  badAccess : Nat
  /-- GTCs of tag failures inside the sliding 10 s window -/
  tagFails : List Gtc
  helloFails : Nat
  /-- GTCs of sequence abuses inside the sliding 1 s window -/
  seqAbuse : List Gtc
  framing : Nat
  dropped : Nat
deriving DecidableEq, Repr

/-- Settings of one Ethernet port's Efbex transport (R64, R91). -/
structure NetPort where
  prefixLen : Nat
  udp : Nat
  ip : Nat
  gateway : Nat
deriving DecidableEq, Repr

/-- The BAR2 ring registers (Table 2-4) and what the device holds of the rings. -/
structure Rings where
  rqBase : Nat
  rqEntries : Nat
  rqTail : Nat
  rqHead : Nat
  cqBase : Nat
  cqEntries : Nat
  cqHead : Nat
  cqTail : Nat
  rqEn : Bool
  cqEn : Bool
  slotErr : Bool
  dmaErr : Bool
  rqDropped : Nat
  /-- the phase bit of the next CQ slot: 1 on the first pass (R62) -/
  phase : Bool
  /-- the device's cache of the RQ slots filled and not yet taken: bytes from the slot header on -/
  rqSlots : List (List Byte)
deriving DecidableEq, Repr

/-- The SPI target (R67 to R69). -/
structure Spi where
  /-- packets in the two inbound buffers, oldest first -/
  inbound : List (List Byte)
  lastDropped : Bool
deriving DecidableEq, Repr

/-- One inbound mailbox (R100, R101). -/
structure MbxIn where
  staging : List Nat
  data : List Nat
  full : Bool
  coll : Bool
deriving DecidableEq, Repr

/-- One outbound mailbox (R101, R102). -/
structure MbxOut where
  data : List Nat
  full : Bool
  coll : Bool
  latch : List Nat
  latched : Bool
  postedSince : Bool
deriving DecidableEq, Repr

/-- One bank of mailboxes and doorbells (Tables 3-4 and 3-5). -/
structure Bank where
  inb : List MbxIn
  outb : List MbxOut
  mbxIrqEn : Nat
  mbxWakeEn : Nat
  mbxDiscarded : Nat
  dblWake : Bool
  dblEclipse : Bool
  dblOut : Nat
  dblIrqEn : Nat
  dblWakeEn : Nat
deriving DecidableEq, Repr

/-- One spill queue (Table 3-8). The limits of R126 run from the stamps `pushFrom` and `popFrom`. -/
structure SpillQ where
  en : Bool
  flushAt : Option Gtc
  /-- since when each end has been inside its packet under a pending flush request (R126) -/
  pushFrom : Gtc
  popFrom : Gtc
  producer : Nat
  consumer : Nat
  middle : Nat
  /-- the packet being pushed: its length, the words so far, and whether it is being dropped for space -/
  push : Option (Nat × List Nat × Bool)
  /-- complete packets, oldest first, each its bytes -/
  packets : List (List Byte)
  /-- words of the head packet already popped (0: the consumer is not inside a packet) -/
  popPos : Nat
  /-- words of a packet cut by a flush that the consumer has still to read; they return 0 -/
  cutLeft : Nat
  ovf : Bool
  ecc : Bool
  abandon : Bool
  cut : Bool
  dropped : Nat
deriving DecidableEq, Repr

/-- The event limiter of one source of a rate-limited event (R29, R34, R135 and the chapters' own limits):
`code` the event's opcode, `key` its instance. -/
structure Limiter where
  code : Nat
  key : Nat
  last : Gtc
  suppressed : Nat
deriving DecidableEq, Repr

end Sys2Proof
end

