-- ==== Sys2Proof/Types/Radio.lean ====
section
/-!
DEFINITION. Sys2Proof/Types/Radio.lean: the plain data of chapter 8 (radio heads and PHY), which each member keeps for itself.
-/
namespace Sys2Proof

/-- The value of one subcarrier in one symbol: (re + im i) / sqrt norm (R313, R316). -/
structure Iq where
  re : Int
  im : Int
  norm : Nat
deriving DecidableEq, Repr

/-- A frame that a head sends (R302, R313 to R317, R323, R336), with the GTC of its unit boundary and its source number (R15). -/
structure TxFrame where
  head : Nat
  gtc : Gtc
  source : Nat
  /-- the number of the unit it starts in -/
  unit : Nat
  ftype : Nat
  dst : Nat
  /-- the counter it is protected under -/
  counter : Nat
  mcs : Nat
  /-- in 0.01 dBm -/
  eirp : Int
  /-- in 0.01 dB -/
  backoff : Int
  /-- in clear -/
  body : List Byte
  /-- Table 8-6: bit i of the number is header bit i -/
  header : Nat
  psdu : List Byte
  /-- how long before the boundary the first preamble sample leaves the port, in ps (R302) -/
  early : Nat
  /-- the values of the used subcarriers of every symbol, by their k -/
  symbols : List (List (Int × Iq))
deriving DecidableEq, Repr

/-- The settings of RH_HEAD_SET (Table 8-12). -/
structure HeadSet where
  enable : Bool
  rate2 : Bool
  trLow : Bool
  band : Nat
  n1 : Bool
  spiMode : Nat
  spiClock : Nat
  trLead : Nat
  trLag : Nat
  paLead : Nat
  paLag : Nat
  gainLead : Nat
  enScript : Nat
  irqScript : Nat
deriving DecidableEq, Repr

/-- One channel table entry: centre in kHz and script index. -/
structure RhChan where
  centre : Nat
  script : Nat
deriving DecidableEq, Repr

/-- A running RH_TEST. -/
structure RhTest where
  chan : Nat
  mcs : Nat
  backoff : Nat
  start : Gtc
  duration : Nat
  sent : Nat
deriving DecidableEq, Repr

/-- A script or transfer that waits for or runs on a head's SPI port (R310). -/
structure RhScript where
  /-- 0 enable, 1 channel, 2 IRQ, 3 RH_SPI_XFER -/
  kind : Nat
  index : Nat
  /-- channel to tune to at the end of a channel script -/
  chan : Nat
  /-- the RH_SPI_XFER that awaits the bytes read -/
  req : Option Req
deriving DecidableEq, Repr

/-- One radio head (R297 to R327). -/
structure Head where
  set : HeadSet
  chans : List RhChan
  /-- script memory: entry index and its 8 bytes; unlisted entries are END -/
  scripts : List (Nat × List Byte)
  /-- 0 DISABLED, 1 NO_RX_CLOCK, 2 READY, 3 FAULT -/
  port : Nat
  delays : List Nat
  /-- gain step learned per berth (R306, R307) -/
  learned : List (Nat × Nat)
  agc : Nat
  agcLo : Int
  agcHi : Int
  agcFixed : Option Int
  /-- input levels of JOIN frames: orbit, preamble peak less the gain in use, in 0.01 dB -/
  joinPeaks : List (Nat × Int)
  /-- channel index in use; none before the first tuning -/
  chan : Option Nat
  /-- channel index last asked for -/
  want : Option Nat
  test : Option RhTest
  sent : Nat
  delivered : Nat
  hdrFail : Nat
  fcsFail : Nat
  foreign : Nat
  dropped : Nat
  limited : Nat
  notMade : Nat
  trips : Nat
  seed : Nat
  tr : Bool
  paen : Bool
  paenSince : Gtc
  /-- the end of the last frame sent, at the antenna (R303) -/
  txEnd : Gtc
  /-- when the last channel script ended (R310) -/
  chanAt : Option Gtc
  gain : Nat
  irqLast : Gtc
  queue : List RhScript
  result : List Byte
  /-- a CALIB_WRITE gave the enabled head a block of another band (R324) -/
  calHold : Bool
deriving DecidableEq, Repr

end Sys2Proof
end

