-- ==== Sys2Proof/Types/Gnss.lean ====
section
/-!
DEFINITION. Sys2Proof/Types/Gnss.lean: the plain data of chapters 5 to 7 (GNSS signal path, station corrections, baseline engine)
that one member keeps for itself; what a pair replicates of them is in Types/Replica.lean.
-/
namespace Sys2Proof

/-- ECEF coordinates in 0.1 mm (R217). -/
structure Ecef where
  x : Int
  y : Int
  z : Int
deriving DecidableEq, Repr

/-- The configuration data that an initial lane alignment sequence carries (Table 5-1). -/
structure JesdCfg where
  lanes : Nat
  converters : Nat
  n : Nat
  nTotal : Nat
  samples : Nat
  octets : Nat
  frames : Nat
  cs : Nat
  cf : Nat
  hd : Nat
  scr : Nat
deriving DecidableEq, Repr

/-- One antenna port (R166 to R170, GN_PORT_SET). -/
structure GnPort where
  enable : Bool
  oneShot : Bool
  laneInv : Bool
  specInv : Nat
  lo : List Nat
  /-- 0 DOWN, 1 CGS, 2 ILAS, 3 DATA, 4 FAULT -/
  link : Nat
  codeErr : Nat
  /-- GTC at which the link left DATA, while the 200 ms of R170 run -/
  outage : Option Gtc
  /-- FE_REFx runs -/
  feRef : Bool
  syncN : Bool
  /-- GTC at which a restart drove SYNC_N low, while its 2 multiframes run (R169) -/
  syncLow : Option Gtc
  /-- the first change of link state after the latest epoch instant: its GTC and the state before it (R224) -/
  linkWas : Option (Gtc × Nat)
deriving DecidableEq, Repr

/-- One notch filter (R172, R173). -/
structure Notch where
  assigned : Bool
  freq : Int
  depth : Int
  fixedFreq : Option Int
  fixedDepth : Option Int
  freqLo : Int
  freqHi : Int
  depthLo : Int
  depthHi : Int
  weakSince : Option Gtc
  /-- the line that the notch follows, as last seen: frequency relative to the band's centre, excess over the floor in 0.01 dB -/
  line : Option (Int × Nat)
deriving DecidableEq, Repr

/-- One band stream (R171 to R180). -/
structure Band where
  notches : List Notch
  agc : Int
  agcLo : Int
  agcHi : Int
  agcFixed : Option Int
  jn : Nat
  /-- captured noise reference (COLD) -/
  pnHost : Option Nat
  /-- lowest 1 s mean power since DATA -/
  pnLow : Option Nat
  dataSince : Option Gtc
  capture : Option Gtc
  alarm : Nat
  hyst : Nat
  raised : Bool
  clip : Nat
  rms : Nat
  /-- since when samples clip, and since when the level is low (R180) -/
  clipSince : Option Gtc
  dimSince : Option Gtc
deriving DecidableEq, Repr

/-- The loop settings of one signal (Table 5-8). -/
structure LoopSet where
  coherent : Nat
  /-- the coherent integration on BeiDou GEO satellites -/
  geo : Nat
  dll : Nat
  pll : Nat
  fll : Nat
  spacing : Nat
  probes : List Int
deriving DecidableEq, Repr

/-- One tracking channel (R189 to R195). -/
structure Channel where
  /-- Table 5-9 -/
  state : Nat
  sat : Nat
  sig : Nat
  port : Nat
  k : Int
  /-- 0.01 dB-Hz -/
  cn0 : Nat
  lockSince : Gtc
  slip : Bool
  lowSince : Option Gtc
  multipath : Nat
  /-- as the last record gave them (Table 5-11) -/
  pseudorange : Nat
  phase : Int
  doppler : Int
  phaseLock : Nat
  /-- since when the PLL lock indicator is at 0.8 or above -/
  goodSince : Option Gtc
  /-- code phase as a delay in 0.1 ns -/
  code : Nat
  /-- carrier Doppler of the loops, mHz -/
  carrier : Int
  /-- the correlator taps from P: VE, E, P, L, VL and the four probes, 1/400 chip (R191) -/
  taps : List Int
  /-- coherent integration in use, ms (R192) -/
  integ : Nat
deriving DecidableEq, Repr

/-- One satellite (R182, R188, R201 to R208). -/
structure Sat where
  id : Nat
  /-- the ephemeris held: its fields in the order of the satellite's RTCM message (R188) -/
  eph : Option (List Int)
  /-- the almanac held: its fields as the system's interface document orders them (R188) -/
  alm : Option (List Int)
  healthy : Bool
  /-- ECEF position, range rate in mm/s, and the sum of the model corrections to a pseudorange in 0.1 mm, at the last epoch -/
  pos : Ecef
  rate : Int
  corr : Int
  /-- unit vector from the station in the site grid's axes, 2^-30 (R202) -/
  u : Int × Int × Int
  /-- the sine of the elevation at the station, 2^-30 -/
  up : Int
  /-- 0.01 degree -/
  az : Nat
  /-- 0.01 degree; none while no direction is known -/
  el : Option Int
  /-- Table 5-12 -/
  bearing : Nat
  /-- R_avg in 2^-16 cycle; none before the first R -/
  ravg : Option Nat
  /-- the whole cycles n[k] per port, none where n_valid is false -/
  n : List (Option Int)
  mpCount : Nat
  spCount : Nat
  clearCount : Nat
  /-- exclusion causes: bit 0 host, 1 reaction 0x07, 2 reaction 0x08 -/
  causes : Nat
  /-- the first change of the causes after the latest epoch instant: its GTC and the causes before it (R224) -/
  causesWas : Option (Gtc × Nat)
  /-- reactions performed in the present bearing state: bit 1 0x07, bit 2 0x08 (R206, R23) -/
  reacted : Nat
  /-- the causes that reactions set at the last epoch that had one, and that epoch in 50 ms of ST (R207) -/
  reactedNow : Nat
  reactedAt : Nat
deriving DecidableEq, Repr

/-- One entry of an observable record (Table 5-11). -/
structure ObsEntry where
  sat : Nat
  sig : Nat
  port : Nat
  pseudorange : Nat
  phase : Int
  doppler : Int
  cn0 : Nat
  lock : Nat
  k : Int
  flags : Nat
  multipath : Nat
deriving DecidableEq, Repr

/-- The GNSS path (R166 to R213). -/
structure Gnss where
  ports : List GnPort
  bands : List Band
  enables : Nat
  elMask : Nat
  alloc : List Nat
  allocPending : Option (List Nat)
  loops : List LoopSet
  chans : List Channel
  sats : List Sat
  bMask : Nat
  bSpoofHold : Nat
  bMultipath : Nat
  bSpoof : Nat
  bProbe : Nat
  bClear : Nat
  bArray : Nat
  arrayFlag : Bool
  spoofCount : Nat
  refPort : Nat
  obsQueue : Nat
  obsDecim : Nat
  obsPorts : Nat
  acqPort : Nat
  acqSums : Nat
  acqCold : Nat
  acqAided : Nat
  /-- passes that the running search has completed (R185) -/
  acqDone : Nat
  /-- the time that they took, ms -/
  acqTime : Nat
  epoch : Nat
  /-- ST in units of 50 ms of the last epoch handled -/
  lastEpoch : Option Nat
  /-- ST − GNSS time of the newest valid time solution, 0.1 ns (Table 5-10) -/
  clockBias : Int
  /-- GNSS time is known -/
  timeValid : Bool
deriving DecidableEq, Repr

/-- The survey (R227 to R230). -/
structure Survey where
  running : Bool
  elapsedSince : Gtc
  n : Nat
  sum : Ecef
  /-- sums of squares about the first solution -/
  sq : Ecef
  origin : Ecef
  mean : Ecef
  /-- the variance of the solutions summed over the axes, (0.1 mm)^2, as numerator over n (n - 1) -/
  spread : Nat
  limitReported : Bool
  /-- completed without adoption: the result is kept (R228) -/
  completed : Bool
deriving DecidableEq, Repr

/-- The ephemeris messages of a satellite: when the last one went to the host and to the air, none while a new issue of data
is still to be sent (R232, R239). -/
structure EphemSat where
  sat : Nat
  host : Option Gtc
  air : Option Gtc
deriving DecidableEq, Repr

/-- An RTCM message that the MAC holds for the air: number, satellite, frame, the epoch number it belongs to, and the heads on
which it has gone on air, bit x for head x (R239, R349). -/
structure AirMsg where
  number : Nat
  sat : Nat
  frame : List Byte
  epoch : Nat
  sent : Nat
deriving DecidableEq, Repr

/-- The whole cycles added to a cell's carrier phase so that it lies near its pseudorange (MSM7, R234). -/
structure CellAlign where
  sat : Nat
  sig : Nat
  cycles : Int
deriving DecidableEq, Repr

/-- Station corrections: what one member keeps for itself (R225 to R247). -/
structure Corr where
  port : Nat
  survey : Survey
  /-- the station mode requested of this member (R46) -/
  modeReq : Nat
  /-- the survey that a CORR_MODE_SET replaced since the latest epoch, and the position that a CORR_POSITION_SET set since then: a
  completion at the next epoch is evaluated first (R231) -/
  closing : Option Survey
  cmdPos : Option Ecef
  checkPos : Option Ecef
  /-- the last check position that was valid, from which the next solution starts -/
  lastPos : Option Ecef
  /-- the first change of the reference position after the latest epoch instant: its GTC and the position before it (R224) -/
  refWas : Option (Gtc × Option Ecef)
  aligns : List CellAlign
  timeValid : Bool
  timeSats : Nat
  scThreshold : Nat
  scHold : Nat
  scClear : Nat
  scMinSat : Nat
  scRatio : Nat
  /-- Table 6-6 -/
  scState : Nat
  /-- e[k] of the ports, 0.1 mm, none where not evaluated -/
  e : List (Option Nat)
  scFail : Nat
  scOk : Nat
  scLow : Nat
  word : Nat
  inMask : Nat
  inHold : Nat
  inClear : Nat
  inCount : Nat
  inZero : Nat
  lost : Bool
  withheld : Bool
  superseded : Nat
  withheldEpochs : Nat
  dropped : Nat
  /-- the last change of the reference position or of the corrections port -/
  changed : Option Gtc
  /-- the last change of the corrections port, from which lock times count anew (R223) -/
  portSince : Option Gtc
  stationDue : Bool
  queue : Nat
  /-- RTCM messages handed to the air (R239) -/
  air : List AirMsg
  ephem : List EphemSat
  /-- the satellite of the last ephemeris message to the host and to the air -/
  turnHost : Nat
  turnAir : Nat
deriving DecidableEq, Repr

/-- One cell of an OBS as the engine uses it (Tables 7-4, 7-6). -/
structure ObsCell where
  sat : Nat
  sig : Nat
  range : Option Int
  phase : Option Int
  cn0 : Nat
  half : Bool
  slip : Nat
deriving DecidableEq, Repr

/-- A double-difference ambiguity of a berth (Table 7-8): the cell, its value in 2^-16 cycle, the variance of the float value in 2^-16
cycle^2, whether it is fixed to an integer. -/
structure Amb where
  sat : Nat
  sig : Nat
  value : Int
  var : Nat
  fixed : Bool
deriving DecidableEq, Repr

/-- The pivot of a system and band (R277). -/
structure Pivot where
  sys : Nat
  band : Nat
  sat : Nat
deriving DecidableEq, Repr

/-- A double difference between machine and station that the filter takes, with its weights (R265, R270): the cell, its pivot, phase in
2^-16 cycle, code in 0.1 mm, sigma of the phase in 0.01 mm and of the code in mm. -/
structure DdRow where
  sat : Nat
  sig : Nat
  pivot : Nat
  phase : Option Int
  code : Option Int
  phaseSigma : Nat
  codeSigma : Nat
deriving DecidableEq, Repr

/-- The filter's models at an epoch (Tables 7-8 and 7-9): process noise q horizontal and vertical in 10^-4 m^2/s^3; initial sigmas of
position in mm and velocity in mm/s; wet delay, its initial sigma in um and random walk in um per root second; ionosphere likewise;
initial sigma of an ambiguity in cycles; the sigma in mm/s of a zero-velocity observation where one is applied (R269). -/
structure FilterModel where
  qH : Nat
  qV : Nat
  posSigma : Nat
  velSigma : Nat
  wetSigma : Nat
  wetWalk : Nat
  ionoSigma : Nat
  ionoWalk : Nat
  ambSigma : Nat
  zeroVel : Option Nat
deriving DecidableEq, Repr

/-- A berth's filter as the commands and the rules of chapter 7 see it. -/
structure Filter where
  /-- fix state: 0 NONE, 1 SINGLE, 2 FLOAT, 3 FIXED, 4 FIXED_HOLD -/
  state : Nat
  e : Int
  n : Int
  u : Int
  ve : Int
  vn : Int
  vu : Int
  flags : Nat
  sigH : Nat
  sigV : Nat
  sats : Nat
  nFloat : Nat
  nFixed : Nat
  ratio : Nat
  age : Nat
  tag : Nat
  lastEpoch : Option Nat
  lastArrival : Gtc
  version : Nat
  /-- last accepted slip counters: satellite, signal, counter -/
  slipCounts : List (Nat × Nat × Nat)
  holdCount : Nat
  failCount : Nat
  since : Gtc
  convergeSince : Gtc
  toFixed : Nat
  slips : Nat
  accepted : Nat
  divergences : Nat
  retainUntil : Option Gtc
  machine : Nat
  /-- the last NONE fix for silence (R275) -/
  silent : Gtc
  /-- corrections port of the last set used (R281) -/
  port : Nat
  /-- the berth has had a position (R258) -/
  located : Bool
  /-- held integers are kept (R273, R278) -/
  held : Bool
  /-- when station observables were last available (R278) -/
  lastAvail : Gtc
  /-- the ambiguities in ascending satellite and signal, and the pivots they refer to -/
  ambs : List Amb
  pivots : List Pivot
  /-- the measurements and the models of the last update -/
  rows : List DdRow
  model : Option FilterModel
deriving DecidableEq, Repr

/-- An OBS that waits for its station epoch's correction set (R263, R264). -/
structure WaitingObs where
  berth : Nat
  epoch : Nat
  tag : Nat
  offset : Int
  version : Nat
  hint : Option (Int × Int × Int)
  stationary : Bool
  cells : List ObsCell
  arrival : Gtc
deriving DecidableEq, Repr

/-- A station correction set that the engine keeps (R263). -/
structure CorrSet where
  /-- the station epoch, counted in units of 50 ms of ST -/
  epoch : Nat
  /-- the epoch number of Table 5-10 -/
  num : Nat
  gtc : Gtc
  valid : Bool
  word : Nat
  port : Nat
  bias : Int
  entries : List ObsEntry
deriving DecidableEq, Repr

/-- A fix the active member issued in the running commit cycle (R290). -/
structure FixSum where
  berth : Nat
  tag : Nat
  state : Nat
  e : Int
  n : Int
  u : Int
deriving DecidableEq, Repr

/-- The baseline engine: what one member keeps for itself (R263 to R296). -/
structure Baseline where
  filters : List (Nat × Filter)
  waiting : List WaitingObs
  sets : List CorrSet
  /-- 0 normal, 1 extrapolating, 2 unavailable (R266) -/
  gap : Nat
  /-- the newest station epoch that was judged for `gap` -/
  gapEpoch : Option Nat
  cAccepted : Nat
  cStale : Nat
  cFuture : Nat
  cExcess : Nat
  cSuperseded : Nat
  cMalformed : Nat
  cNotSolving : Nat
  cTiming : Nat
  cExtrapolated : Nat
  cUnavailable : Nat
  cShadow : Nat
  /-- issue GTC and latency in 10 us of the fixes of the last second -/
  recent : List (Gtc × Nat)
  supersededAt : List Gtc
  /-- utilisation over the last second, 0.1 % -/
  util : Nat
  /-- fix records counted per berth for the decimation (R285) -/
  decims : List (Nat × Nat)
  queue : Nat
  sources : Nat
  decim : Nat
  shadowOn : Bool
  shadowH : Nat
  shadowV : Nat
  fixSums : List FixSum
  /-- shadow fixes kept for comparison with FIXSUM (R290) -/
  shadow : List FixSum
deriving DecidableEq, Repr

end Sys2Proof
end

