-- ==== Sys2Proof/Types/Replica.lean ====
section
/-!
DEFINITION. Sys2Proof/Types/Replica.lean: the replicated control state of Table 13-5, which the members of a pair commit together:
arming, the station settings of chapter 6, the baseline settings, the MAC, the mirrored Eclipse and spot stops, the arbiter,
the dispatcher with its ledger, and the commit cycle's own settings.
-/
namespace Sys2Proof

/-- The message settings of one output (CORR_MSG_SET, R238). -/
structure MsgSet where
  msm : Nat
  rate : Nat
  flags : Nat
  stationInt : Nat
  descInt : Nat
  biasInt : Nat
  ephInt : Nat
  sigMask : Nat
deriving DecidableEq, Repr

/-- Station settings that R216 replicates. -/
structure CorrSet6 where
  /-- 0 SURVEY, 1 FIXED, 2 TIMING: the requested station mode -/
  mode : Nat
  adopt : Bool
  adoptLimit : Bool
  minDur : Nat
  maxDur : Nat
  target : Nat
  refPos : Option Ecef
  height : Nat
  result : Option Ecef
  originMode : Nat
  origin : Ecef
  msgs : List MsgSet
  elMask : Nat
  stationId : Nat
  itrf : Nat
  reduce : Bool
  setupId : Nat
  antenna : List Byte
  serial : List Byte
deriving DecidableEq, Repr

/-- The baseline settings of one berth (BL_BERTH_SET, R251 to R253). -/
structure BlBerth where
  mode : Nat
  rate : Nat
  dyn : Nat
  elMask : Nat
  cn0Mask : Nat
deriving DecidableEq, Repr

/-- The settings of BL_PARAM_SET. -/
structure BlParam where
  ratio : Nat
  setMin : Nat
  satMin : Nat
  hold : Nat
  rms : Nat
  silence : Nat
  extrap : Nat
  coast : Nat
  retention : Nat
  expo : Nat
deriving DecidableEq, Repr

/-- The settings of OR_CONFIG_SET. -/
structure OrConfig where
  l : Nat
  lease : Nat
  colour : Nat
  guard : Nat
  window : Nat
  flags : Nat
  adrift : Nat
  joinTimeout : Nat
  adriftLimit : Nat
  holdTime : Nat
  epochLen : Nat
  mapInterval : Nat
  countdown : Nat
  margin : Nat
deriving DecidableEq, Repr

/-- A unit map with the MCS values OR_SCHEDULE_SET gives beside it. -/
structure UnitMap where
  types : List Nat
  beaconMcs : Nat
  joinMcs : Nat
  bcastMcs : Nat
  uplink : Int
  version : Nat
deriving DecidableEq, Repr

/-- The MAC's committed schedule of one head. -/
structure MacHead where
  map : UnitMap
  /-- a map that applies from an orbit -/
  next : Option (UnitMap × Nat)
  chan : Nat
  /-- a channel that applies from an orbit, with the cause of RADIO_CHANNEL -/
  nextChan : Option (Nat × Nat × Nat)
  fenceLo : Nat
  fenceHi : Nat
  fixedIdx : Option Nat
deriving DecidableEq, Repr

/-- A link-adaptation fence of one berth (loop 3). -/
structure LinkFence where
  mcsLo : Int
  mcsHi : Int
  mcsFixed : Option Int
  pwrLo : Int
  pwrHi : Int
  pwrFixed : Option Int
deriving DecidableEq, Repr

/-- One series of slots (R363). -/
structure Series where
  first : Nat
  n : Nat
  m : Nat
  phase : Nat
deriving DecidableEq, Repr

/-- An allotment of a berth (R360 to R363). -/
structure Allotment where
  head : Nat
  series : List Series
  statusUnit : Nat
  period : Nat
  phase : Nat
  size : Nat
deriving DecidableEq, Repr

/-- A down frame that waits for its units (R350, R352). -/
structure DownFrame where
  /-- Table 9-3 -/
  ftype : Nat
  /-- CONTROL kind or 0 -/
  kind : Nat
  /-- control sequence or task ID -/
  seq : Nat
  body : List Byte
  ready : Gtc
  sends : Nat
  /-- decided in a cycle that has committed, or never held for commit (R351) -/
  released : Bool
  /-- the counters under which it has gone on air -/
  counters : List Nat
  /-- allotted slots of the berth that passed since its last transmission -/
  slots : Nat
  /-- to be sent, or sent again (R352) -/
  due : Bool
deriving DecidableEq, Repr

/-- The settings OR_BERTH_SET gives a berth. -/
structure BerthSet where
  cadence : Nat
  size : Nat
  period : Nat
  heads : Nat
  bound : Nat
  closed : Bool
deriving DecidableEq, Repr

/-- A berth as the MAC holds it (R357 to R367). -/
structure Berth where
  set : BerthSet
  /-- 0 FREE, 1 JOINING, 2 SERVED, 3 ADRIFT, 4 HELD, 5 CLOSED -/
  state : Nat
  /-- state left when JOINING was entered (R356) -/
  from_ : Nat
  machine : Nat
  session : Nat
  machineNonce : List Byte
  stationNonce : List Byte
  hasSession : Bool
  air : Nat
  obs : Nat
  head : Nat
  /-- next down counter (R339) -/
  down : Nat
  /-- highest accepted up counter and the 64-entry window, bit i for counter high - i (R340) -/
  up : Nat
  window : Nat
  allot : Option Allotment
  pending : Option (Allotment × Nat)
  mcs : Int
  eirp : Int
  snr : List Int
  timing : List Int
  timingSent : Bool
  awaiting : Option DownFrame
  queue : List DownFrame
  ctrlSeq : Nat
  missed : Nat
  accepted : Nat
  mic : Nat
  dup : Nat
  stale : Nat
  missedTotal : Nat
  resting : Bool
  leaving : Bool
  since : Gtc
  joinOrbit : Nat
  linkDelivered : Bool
  rejoinSent : Bool
  closeLeft : Nat
  lastUp : Gtc
  /-- an UP frame was accepted since the last link adaptation (R367) -/
  fresh : Bool
  /-- MCS and commanded machine EIRP of the newest LINK (R367) -/
  linkSent : Option (Int × Int)
  /-- the broadcast epoch whose key was queued last (R338) -/
  keyEpoch : Nat
deriving DecidableEq, Repr

/-- A sub-band entry (RADIO_SUBBAND_SET). -/
structure SubBand where
  lo : Nat
  hi : Nat
  duty : Nat
  window : Nat
  eirp : Int
  exempt : Bool
  reserve : Nat
deriving DecidableEq, Repr

/-- The meter of a sub-band entry: 60 buckets in us, newest first (R369, R370). -/
structure Meter where
  buckets : List Nat
  /-- number of the bucket in progress, counted on air time -/
  num : Nat
  refused : Nat
  exemptOver : Nat
deriving DecidableEq, Repr

/-- The MAC's replicated state (R374). -/
structure Mac where
  cfg : OrConfig
  heads : List MacHead
  berths : List (Nat × Berth)
  /-- broadcast epoch and broadcast counter (R338, R342) -/
  bepoch : Nat
  bcounter : Nat
  subs : List SubBand
  /-- entries whose meters outlive a WARM reset, until the next reload (R371, R375) -/
  oldSubs : List SubBand
  meters : List Meter
  fences : List (Nat × LinkFence)
deriving DecidableEq, Repr

/-- A spot stop of a berth (R396). -/
structure Spot where
  inForce : Bool
  cause : Nat
  /-- stop sequence -/
  seq : Nat
  /-- STOP frames of the series still to send, and whether they carry the release bit (R397, R398) -/
  left : Nat
  release : Bool
deriving DecidableEq, Repr

/-- The mirrored part of Eclipse (R379, R380, R402). -/
structure EclCore where
  /-- 0 CLEAR, 1 ECLIPSE, 2 RELEASING -/
  state : Nat
  seq : Nat
  cause : Nat
  spots : List (Nat × Spot)
deriving DecidableEq, Repr

/-- A waypoint or vertex in the site grid, mm (R406). -/
structure Pt where
  e : Int
  n : Int
deriving DecidableEq, Repr

/-- A transit (R405, R408). The end 2^64 - 1 stands for an open end (R409). -/
structure Transit where
  slot : Nat
  gen : Nat
  /-- berth, or none for a fixture -/
  owner : Option Nat
  machine : Nat
  source : Nat
  start : Nat
  stop : Nat
  tag : Nat
  half : Nat
  line : List Pt
deriving DecidableEq, Repr

/-- A keep-out zone (R425). -/
structure Zone where
  index : Nat
  start : Nat
  stop : Nat
  poly : List Pt
  master : Nat
deriving DecidableEq, Repr

/-- A pending claim (R414). -/
structure Claim where
  level : Nat
  owner : Nat
  start : Nat
  half : Nat
  line : List Pt
deriving DecidableEq, Repr

/-- The settings of TR_CONFIG_SET. -/
structure TrConfig where
  clearance : Nat
  guard : Nat
  margin : Nat
  uLimit : Nat
  unknown : Nat
  depCount : Nat
  ownerLimit : Nat
  maxDur : Nat
  horizon : Nat
deriving DecidableEq, Repr

/-- The arbiter's replicated state (R439). -/
structure Arbiter where
  transits : List Transit
  gens : List (Nat × Nat)
  zones : List Zone
  claims : List Claim
  cfg : TrConfig
  /-- conformance mode and reported uncertainty per berth (TR_BERTH_SET) -/
  berths : List (Nat × Nat × Nat)
deriving DecidableEq, Repr

/-- A task (R444 to R448). -/
structure Task where
  slot : Nat
  gen : Nat
  /-- Table 12-1 -/
  state : Nat
  level : Nat
  flags : Nat
  caps : Nat
  area : Nat
  half : Nat
  offset : Nat
  duration : Nat
  deadline : Nat
  energy : Nat
  tag : Nat
  line : List Pt
  payload : List Byte
  ready : Gtc
  readySource : Nat
  bypasses : Nat
  berth : Option Nat
  transit : Nat
  commitSt : Nat
  /-- its TASK frame has gone on air at least once (R463) -/
  onAir : Bool
  /-- a terminal change waits for its commit (R445) -/
  ending : Bool
deriving DecidableEq, Repr

/-- A level of the dispatcher (R455 to R459). -/
structure Level where
  bypass : Nat
  blocked : Bool
  claim : Bool
  claimBerth : Option Nat
  refusedZone : Bool
  /-- the task that was refused since it became head -/
  refusedHead : Option Nat
  /-- the space count at the last request for a claim (R459) -/
  askedAt : Nat
  /-- berth of the head's last refusal -/
  lastRefused : Option Nat
deriving DecidableEq, Repr

/-- A berth as the dispatcher holds it (R450, R467, R468, DP_BERTH_SET). -/
structure DpBerth where
  available : Bool
  autoBind : Bool
  caps : Nat
  areas : Nat
  idleSince : Option Gtc
  packId : Nat
  packEnergy : Nat
  heard : Bool
deriving DecidableEq, Repr

/-- A ledger entry (R466, R467). -/
structure Pack where
  index : Nat
  ident : Nat
  rated : Nat
  cycles : Nat
  life : Nat
  expired : Bool
  retired : Bool
  remaining : Option Nat
  berth : Option Nat
deriving DecidableEq, Repr

/-- The dispatcher's replicated state (R471). -/
structure Dispatch where
  tasks : List Task
  gens : List (Nat × Nat)
  levels : List Level
  berths : List (Nat × DpBerth)
  packs : List Pack
  bypassLimit : Nat
  reserve : Nat
  perPass : Nat
  spaceCount : Nat
  /-- tried(t, b): task slot, berth, space count -/
  tried : List (Nat × Nat × Nat)
  /-- transits of completed tasks that stay until the commit of the berth's next assignment: berth, transit ID (R462) -/
  waitRelease : List (Nat × Nat)
deriving DecidableEq, Repr

/-- The replicated control state of Table 13-5. -/
structure Repl where
  /-- the arming table, bit b for reaction ID b (R20) -/
  armed : Nat
  corr : CorrSet6
  bl : List (Nat × BlBerth)
  blParam : BlParam
  mac : Mac
  ecl : EclCore
  tr : Arbiter
  dp : Dispatch
  /-- commit cycle length in slot units (R484) -/
  cycleT : Nat
  /-- ack limit in 0.1 ms (R485) -/
  ackLimit : Nat
deriving DecidableEq, Repr

end Sys2Proof
end

