-- ==== Sys2Proof/Types/Time.lean ====
section
/-!
DEFINITION. Sys2Proof/Types/Time.lean: the plain data of chapter 4 (timebase, time pulses, captures, PTP).
-/
namespace Sys2Proof

/-- One set of servo parameters (Table 4-3), in the units the table encodes them in. -/
structure ServoSet where
  kp : Nat
  ki : Nat
  slewLo : Int
  slewHi : Int
  lockTh : Nat
  stepTh : Nat
deriving DecidableEq, Repr

/-- Qualification of one candidate source (Table 4-2). -/
structure SourceQ where
  qualified : Bool
  count : Nat
  since : Gtc
  lastValid : Gtc
  /-- its last offset sample, ns -/
  e : Int
deriving DecidableEq, Repr

/-- One time-pulse output: its program (TP_SET) and the record of its last pulse (R152 to R155). -/
structure Pulse where
  enable : Bool
  activeLow : Bool
  squelch : Bool
  event : Bool
  /-- ST of the start, in ns -/
  start : Nat
  period : Nat
  width : Nat
  count : Nat
  /-- index of the next instant -/
  next : Nat
  /-- ST in ns of the last instant emitted -/
  lastInstant : Option Nat
  /-- ST in ns of the trailing edge of the last pulse emitted -/
  fall : Option Nat
  /-- an instant fell while the output was not driven (R155) -/
  missed : Bool
  recSt : Nat
  recQuality : Nat
  recMissed : Bool
  recErr : Nat
  skipped : Nat
deriving DecidableEq, Repr

/-- One captured edge (R156): GTC, ST in ns, falling. -/
structure CaptureRec where
  gtc : Gtc
  st : Nat
  falling : Bool
deriving DecidableEq, Repr

/-- One time-capture input (R156, R157). -/
structure Capture where
  rising : Bool
  falling : Bool
  wake : Bool
  queue : List CaptureRec
  ovf : Bool
  last : Option Gtc
deriving DecidableEq, Repr

/-- An offset sample that waits for its OFFSET_SAMPLE: whether the solution is valid, its satellites, e in ns, and whether a Sync
sequence has a gap before it (Table 4-2). -/
structure Sample where
  valid : Bool
  sats : Nat
  e : Int
  gap : Bool
deriving DecidableEq, Repr

/-- A port identity of IEEE 1588: clock identity and port number. -/
structure PortId where
  clock : Nat
  port : Nat
deriving DecidableEq, Repr

/-- What an Announce says of its grandmaster (IEEE 1588-2019). -/
structure AnnounceData where
  priority1 : Nat
  cls : Nat
  accuracy : Nat
  variance : Nat
  priority2 : Nat
  gm : Nat
  steps : Nat
  timeSource : Nat
deriving DecidableEq, Repr

/-- A foreign master that a port has heard: its last Announce, when it came, and whether two came within four intervals. -/
structure Foreign where
  sender : PortId
  data : AnnounceData
  last : Gtc
  qualified : Bool
deriving DecidableEq, Repr

/-- A Sync that waits for its Follow_Up: sequence, its stamp t2 and correction in 2^-16 ns, and whether its sequence had a gap. -/
structure SyncWait where
  seq : Nat
  t2 : Int
  corr : Int
  gap : Bool
deriving DecidableEq, Repr

/-- A Pdelay exchange under way (2^-16 ns): sequence, t1, and t4, t2 and corrections once the response has come in two steps. -/
structure PdelayWait where
  seq : Nat
  t1 : Int
  resp : Option (Int × Int × Int)
deriving DecidableEq, Repr

/-- One PTP port: the settings of PTP_SET and its protocol state (R158 to R161). -/
structure PtpPort where
  profile : Nat
  flags : Nat
  domain : Nat
  logSync : Int
  logAnnounce : Int
  announceTimeout : Nat
  priority1 : Nat
  priority2 : Nat
  /-- IEEE 1588 portState -/
  state : Nat
  errors : Nat
  foreign : List Foreign
  /-- the master that a port in SLAVE follows -/
  parent : PortId
  /-- since when a port in LISTENING waits for an Announce -/
  listenSince : Gtc
  rxSeq : Option Nat
  /-- sequence numbers of the messages sent: Sync, Announce, Delay_Req, Pdelay_Req -/
  txSeq : List Nat
  sync : Option SyncWait
  /-- master time and stamp of the last Sync, 2^-16 ns -/
  lastSync : Option (Int × Int)
  /-- a Delay_Req under way: sequence and stamp t3, 2^-16 ns -/
  delayReq : Option (Nat × Int)
  pdelay : Option PdelayWait
  /-- mean delay of the path, 2^-16 ns -/
  pathDelay : Int
deriving DecidableEq, Repr

/-- One master's latch of the TBR_ time registers (R162). -/
structure TbrLatch where
  gtcHi : Nat
  stNs : Nat
  stSec : Nat
deriving DecidableEq, Repr

/-- The timebase (R136 to R165). ST is held as nanoseconds and the fraction below one, in 10^-12 ns (R138, R139). -/
structure Timebase where
  gtc : Gtc
  st : Nat
  stFrac : Nat
  /-- Table 4-1 -/
  state : Nat
  /-- 0 none, 1 GNSS, 2 PTP A, 3 PTP B -/
  source : Nat
  stepNeeded : Bool
  stepReport : Gtc
  ranking : List Nat
  sources : List SourceQ
  /-- offset samples that wait for their OFFSET_SAMPLE, by source -/
  samples : List (Option Sample)
  servoGnss : ServoSet
  servoPtp : ServoSet
  holdLimit : Nat
  sigmaY : Nat
  /-- frequency term, in 10^-18 ns/s -/
  integ : Int
  /-- applied rate, in 0.001 ns/s -/
  y : Int
  e : Int
  lastSample : Gtc
  inLockSince : Option Gtc
  /-- samples of LOCKED, newest first: GTC, |e|, frequency term -/
  lockHist : List (Gtc × Nat × Int)
  /-- when LOCKED was left last -/
  lockEnd : Gtc
  eLock : Nat
  iAvg : Int
  holdSince : Gtc
  rtcWritten : Nat
  utcHost : Option (Nat × Bool × Bool)
  utcNav : Option (Nat × Bool × Bool)
  pulses : List Pulse
  tpDriven : Bool
  captures : List Capture
  ptp : List PtpPort
  latches : List TbrLatch
deriving DecidableEq, Repr

end Sys2Proof
end

