-- ==== Sys2Proof/Types/Block.lean ====
section
/-!
DEFINITION. Sys2Proof/Types/Block.lean: the plain data of chapters 9 to 17 that one member keeps for itself: the MAC's own state,
the Eclipse inputs, conformance, dispatcher statistics, the pair link, the vault, CAN, the comet log, power and reset.
-/
namespace Sys2Proof

/-- A join in progress (R354 to R356). -/
structure Join where
  machine : Nat
  berth : Nat
  head : Nat
  machineNonce : List Byte
  stationNonce : List Byte
  air : Nat
  obs : Nat
  /-- the reply run that the CHALLENGE named: first unit and orbit -/
  unit : Nat
  orbit : Nat
  snr : Int
  /-- the CHALLENGE has gone on air -/
  sent : Bool
  /-- when the request arrived, and the orbit it arrived in -/
  ready : Gtc
  reqOrbit : Nat
  /-- the response was verified and waits for the commit -/
  verified : Bool
deriving DecidableEq, Repr

/-- What the MAC keeps per head for itself (R348, R368). -/
structure MacLocal where
  misses : Nat
  lastReport : Gtc
  suppressed : Nat
  reported : Bool
  lastChange : Gtc
  changed : Bool
  /-- remaining units of an Eclipse burst (R389), 40 until it has begun, and since when it is due (R388, R400) -/
  burst : Nat
  burstSince : Gtc
  /-- the unit number at which the frame in progress ends -/
  occupied : Nat
  /-- the type of the frame in progress -/
  ftype : Nat
  eclAir : Bool
  /-- the next beacon is the first since entry into SERVE (R345) -/
  first : Bool
  /-- the berth after the last resting one listed (R353) -/
  restTurn : Nat
  /-- RSSI in 0.25 dBm of the quiet units of each of the last 60 seconds, newest first (R368) -/
  quiet : List (List Int)
  /-- allotted slots of SERVED berths and those without a frame in the seconds before, newest first; the head is the second in progress
  (R368) -/
  slots : List (Nat × Nat)
deriving DecidableEq, Repr

/-- The MAC's own state. -/
structure MacOwn where
  /-- air offset in ns (R330) -/
  airOffset : Int
  lastUnit : Option Nat
  lastOrbit : Option Nat
  heads : List MacLocal
  joins : List Join
  /-- failed responses: machine ID and GTC (R356) -/
  fails : List (Nat × Gtc)
  lockouts : List (Nat × Gtc)
  joinsOk : Nat
  joinsFailed : Nat
  kind1 : Nat
  reservedEpoch : Nat
  /-- orbit of the last MAP item per head -/
  mapSent : List Nat
  tooLong : Nat
  requested : Nat
  /-- berths listed in the present orbit's beacons (R353) -/
  listed : List Nat
  /-- the orbit in which a berth's recurring STOP frame was last sent (R397) -/
  stopSent : List (Nat × Nat)
  /-- the bucket in which an entry's last refusal was reported (R370) -/
  dutyReport : List (Nat × Nat)
  security : List (Nat × Nat × Nat × Nat)
  /-- per berth the highest UP counter that the own heads of a STANDBY received and verified (R497) -/
  heardUp : List (Nat × Nat)
deriving DecidableEq, Repr

/-- A stop identifier of ECL_CONFIG_SET. -/
structure StopId where
  ctl : Nat
  enabled : Bool
  ext : Bool
  heartbeat : Nat
  ident : Nat
  /-- the newest frame shows 0x5A, and when it was validated; none while it demands stop for want of one (R561) -/
  good : Option Gtc
deriving DecidableEq, Repr

/-- Eclipse: the inputs and the member's own part (R379 to R404). -/
structure Eclipse where
  latched : Nat
  entry : Gtc
  /-- the Eclipse state before the last entry (R344, R388) -/
  before : Nat
  entries : Nat
  spotCount : Nat
  releaseAt : Gtc
  note : Nat
  /-- filtered levels: true is high -/
  stopA : Bool
  stopB : Bool
  discSince : Option Gtc
  fault : Bool
  /-- both channels have demanded stop together since the fault latched -/
  both : Bool
  tFilt : Nat
  discTime : Nat
  releaseDelay : Nat
  mcs : List Nat
  ids : List StopId
  /-- active conditions: code and source number -/
  active : List (Nat × Nat)
  burstHeads : Nat
  /-- triggers latched so far: the model's own count by which a waiting release sees a later latch (R393) -/
  triggers : Nat
deriving DecidableEq, Repr

/-- Conformance of one berth (R430 to R437). -/
structure Conform where
  departed : Bool
  /-- reaction 0x04 has been performed for the present departure (R23, R437) -/
  depStop : Bool
  outCount : Nat
  inCount : Nat
  unknown : Bool
  /-- reaction 0x05 has been performed for the present raise -/
  unkStop : Bool
  cause : Nat
  /-- arrival of the last known fix -/
  lastKnown : Option Gtc
  watchSince : Gtc
  watching : Bool
  /-- the transit that raised cause 4 (R436) -/
  watchId : Nat
  lastEpoch : Option Nat
  /-- the cause a timeout would have now: 1 NONE fixes, 2 uncertainty, 3 no fix -/
  lastBad : Nat
  /-- the last known fix (R431, R447) -/
  fix : Option Pt
deriving DecidableEq, Repr

/-- The arbiter's and monitor's own state. -/
structure TrOwn where
  berths : List (Nat × Conform)
  takeover : Gtc
  napExit : Gtc
  grants : Nat
  refTransit : Nat
  refZone : Nat
  refClaim : Nat
  /-- GTC and decision time in ns of the decisions of the last second -/
  recent : List (Gtc × Nat)
  maxTime : Nat
  /-- TR_REQUEST and TR_CHECK that wait for the arbiter, oldest first: opcode and request (R429) -/
  queue : List (Nat × Req × Gtc)
deriving DecidableEq, Repr

/-- Dispatcher counters of one berth (Table 12-4). -/
structure DpCount where
  depth : Nat
  hist : List Nat
  load : List Nat
  /-- busy seconds of the last hour, newest first -/
  busy : List Bool
  completed : Nat
  failed : Nat
deriving DecidableEq, Repr

/-- The dispatcher's own counters. -/
structure DpOwn where
  berths : List (Nat × DpCount)
  grants : Nat
  refusals : Nat
  passes : List Gtc
  requests : List Gtc
  /-- STATUS reports that named a task not held by their berth, or moved one backwards (R461) -/
  ignored : Nat
  /-- the depth of each level, once per second (R470) -/
  depths : List Nat
deriving DecidableEq, Repr

/-- A link message (Table 13-2): its flags have bit 0 priority and bit 1 more fragments. -/
structure LinkMsg where
  type : Nat
  flags : Nat
  cycle : Nat
  seq : Nat
  gtc : Gtc
  payload : List Byte
  crc : Nat
  tag : List Byte
deriving DecidableEq, Repr

/-- The kinds of decision that wait for a commit cycle's end (R13, R485). -/
inductive Decision where
  /-- a command whose effect and reply come at the commit -/
  | command (op : Nat) (r : Req)
  /-- a join whose response was verified (R355) -/
  | join (j : Join)
  /-- frames of the berth become free to go on air (R351) -/
  | release (b : Nat)
  /-- the dispatcher's assignment of a task to a berth (R454) -/
  | assign (slot : Nat) (gen : Nat) (b : Nat)
  /-- a task ends or changes state: slot, generation, state, cause -/
  | taskEnd (slot : Nat) (gen : Nat) (st : Nat) (cause : Nat)
  /-- a task change whose report is due at the commit -/
  | taskActive (slot : Nat) (gen : Nat)
  /-- a pack rebinding: berth, new index (R468) -/
  | rebind (b : Nat) (idx : Nat)
  /-- a channel change of a head: index and cause (R368) -/
  | channel (h : Nat) (idx : Nat) (cause : Nat)
  /-- DP_TASK_CANCEL of a task with the reply payload made at its arrival (R465) -/
  | cancel (r : Req) (task : Nat) (payload : List Byte)
  /-- a decision that was withdrawn; it keeps its place in a batch that may be under way (R463) -/
  | void
  /-- ECLIPSE_RELEASE with the count of triggers latched before it (R393) -/
  | eclRelease (r : Req) (triggers : Nat)
  /-- a change made at once whose reply follows the commit (R439): opcode, status, payload -/
  | answer (r : Req) (op : Nat) (st : Nat) (payload : List Byte)
  /-- SPOT_RELEASE with the berth's stop sequence at its arrival (R398) -/
  | spotRelease (r : Req) (seq : Nat)
deriving DecidableEq, Repr

/-- A decision with the GTC and the source number it was taken under (R17, R484). -/
structure Held where
  gtc : Gtc
  source : Nat
  what : Decision
deriving DecidableEq, Repr

/-- What LINK_HELLO shows of the partner (Table 13-3). -/
structure Partner where
  devId : Nat
  major : Nat
  minor : Nat
  role : Nat
  strapHigh : Bool
  qualified : Bool
  lastCommitted : Nat
deriving DecidableEq, Repr

/-- The pair (chapter 13): what the member keeps for itself. -/
structure Pair where
  mode : Nat
  airEvidence : Bool
  joinWait : Nat
  timeTh : Nat
  /-- 0 SOLO, 1 ACTIVE, 2 STANDBY -/
  role : Nat
  /-- 0 DOWN, 1 DEGRADED, 2 UP, 3 INCOMPATIBLE, 4 AUTH_FAILED -/
  link : Nat
  lanes : List Bool
  partner : Option Partner
  helloed : Bool
  qualified : Bool
  alone : Bool
  cycle : Nat
  lastCommitted : Nat
  decisions : List Held
  /-- the cycle whose ACK is awaited: number, its end, the decisions it holds -/
  ackWait : Option (Nat × Gtc × Nat)
  lastAck : Gtc
  lastEvidence : Gtc
  lastRenew : Gtc
  /-- the last renewal pulse a STANDBY saw, the last pulse of the partner an ACTIVE member saw -/
  lastPin : Option Gtc
  lastDelta : Gtc
  lastCycleEnd : Option Nat
  cyclesOk : Nat
  cyclesMissed : Nat
  mismatches : Nat
  tagDrops : Nat
  ackLatency : Nat
  /-- sizes of the deltas sent in the last second -/
  deltas : List (Gtc × Nat)
  stDiff : Int
  takeovers : Nat
  viewPrio : EclCore
  viewPin : Bool
  pinSince : Gtc
  viewCommitted : EclCore
  partnerTrigger : Bool
  pinIn : Bool
  /-- PAIR_ECL_OUT of a STANDBY held for a momentary trigger: since, Eclipse sequence at the latch -/
  hold : Option (Gtc × Nat)
  strapHigh : Bool
  switchover : Option (Nat × Req)
  gap : Bool
  seqOut : Nat
  /-- sequences of the last 64 messages received (R476) -/
  seqSeen : List Nat
  airHeard : Gtc
  airHead : Nat
  heardCounter : Nat
  /-- a STANDBY has asked for a full copy or is receiving one -/
  fullRunning : Bool
  fullDone : Bool
  /-- the next delta that a STANDBY expects; none right after a full copy -/
  deltaNext : Option Nat
  /-- the replicated state of the last committed cycle -/
  committed : Option Repl
  /-- the content of the delta whose ACK an ACTIVE member awaits -/
  proposed : Option Repl
  /-- SPOT_STOP requests that a STANDBY forwarded and that await the acknowledgement (R402) -/
  forwards : List Req
  /-- an ACTIVE member that has sent HANDOVER and is silent until the ACK or the ack limit (R504) -/
  handing : Bool
  /-- a STANDBY: the cycle at whose end HANDOVER passes service to it -/
  handover : Option Nat
  /-- no frame goes on air before this GTC (R504: the ACK plus 1 ms) -/
  quietUntil : Option Gtc
  /-- a DIGEST has been compared since the full copy (R481) -/
  digestSeen : Bool
  /-- the nonces of the LINK_HELLO exchange, the member's own and the partner's; none while unknown (R477) -/
  nonce : Option (List Byte)
  peerNonce : Option (List Byte)
  /-- the last RENEW: the partner's GTC at sending and the own GTC at arrival; the own GTC of the last ACK (R492) -/
  renewSent : Gtc
  renewAt : Gtc
  ackAt : Gtc
  /-- half the round trip of RENEW and ACK in ns, from the last cycle that had both (R492) -/
  halfTrip : Nat
deriving DecidableEq, Repr

/-- A vault node (Table 14-3); its material follows from the tree. -/
structure Node where
  handle : Nat
  parent : Nat
  label : List Byte
  usage : Nat
  depth : Nat
  /-- 0 VALID, 1 ORPHANED, 2 INVALID -/
  state : Nat
  issue : Nat
  flags : Nat
  /-- purge waits for running operations (R528) -/
  purge : Bool
deriving DecidableEq, Repr

/-- A vault operation that runs or waits (R526, R529). -/
structure VaultOp where
  node : Nat
  req : Req
  /-- the output it will deliver -/
  out : List Byte
  /-- an open whose tag failed -/
  failed : Bool
  started : Bool
deriving DecidableEq, Repr

/-- A firmware image slot as R530 and R531 see it. -/
structure Slot where
  bytes : List Byte
  written : Nat
  /-- version, security version and pair protocol of the header -/
  version : Nat
  security : Nat
  pairProto : Nat
  allowed : Nat
  devId : Nat
  sigOk : Bool
  bodyOk : Bool
deriving DecidableEq, Repr

/-- One tamper input (TAMPER_SET, R535). -/
structure TamperIn where
  mode : Nat
  responses : Nat
  period : Nat
  last : Bool
  active : Bool
  evented : Bool
deriving DecidableEq, Repr

/-- The vault, the life cycle, the images and the tamper logic (chapter 14). -/
structure Vault where
  /-- the life-cycle fuses, bits 2k and 2k + 1 for state k of Table 14-1, and the code of the state in force: 0xFE RAW, 0 BLANK,
  1 MISSION, 2 RETURN, 0xFF SCRAP (R507) -/
  lifeFuses : Nat
  life : Nat
  kill : Bool
  kcv : Option Nat
  site : Option Nat
  fused : Option (List Byte)
  bound : Bool
  complete : Bool
  /-- the fuse bits that an interrupted provisioning has blown: KCV, site number, fused value, binding (R515) -/
  blown : List Byte
  share : Option (List Byte)
  secCounter : Nat
  devId : Nat
  nodes : List Node
  gens : List (Nat × Nat)
  /-- issue records: parent, label, issue (R528) -/
  issues : List (Nat × List Byte × Nat)
  ops : List VaultOp
  /-- the key cache, least recently used first: the handle of each key held and the number of the draw of its share s0; the draws
  made; the number of the scrambling key (R523) -/
  cells : List (Nat × Nat)
  draws : Nat
  scramble : Nat
  locked : Bool
  openFails : Nat
  slots : List Slot
  running : Nat
  preferred : Nat
  trial : Option Nat
  trialCount : Nat
  recovery : Bool
  fw : Nat
  bootResult : Nat
  bootCheck : Nat
  tamper : List TamperIn
  tLocked : Bool
  latch : Bool
  inputs : Nat
  firstRtc : Nat
  events : Nat
  standard : Bool
  /-- masters whose next session is still owed FW_BOOT of a recovery (R531) -/
  bootOwed : List Nat
  /-- masters whose next session is still owed the TAMPER event at boot (R538) -/
  tamperOwed : List Nat
deriving DecidableEq, Repr

/-- Bit timing of a CAN controller (Table 15-1). -/
structure CanTiming where
  pre : Nat
  seg1 : Nat
  seg2 : Nat
  sjw : Nat
  dpre : Nat
  dseg1 : Nat
  dseg2 : Nat
  dsjw : Nat
deriving DecidableEq, Repr

/-- A CAN frame (Table 15-3 without its flags of the object). -/
structure CanFrame where
  gtc : Gtc
  /-- identifier word, as Table 15-3 offset 8 -/
  word : Nat
  dlc : Nat
  /-- bit 0 FDF, 1 BRS, 2 ESI -/
  flags : Nat
  data : List Byte
deriving DecidableEq, Repr

/-- A receive object that holds a frame (R551 to R554). -/
structure CanObj where
  ext : Bool
  index : Nat
  frame : CanFrame
  new : Bool
  lost : Bool
deriving DecidableEq, Repr

/-- An extended acceptance entry. -/
structure CanExt where
  index : Nat
  ident : Nat
  mask : Nat
  enable : Bool
deriving DecidableEq, Repr

/-- A pending transmit buffer (R557, R558); its frame's stamp is that of the CAN_TX until it is sent. -/
structure CanBuf where
  index : Nat
  frame : CanFrame
  single : Bool
  report : Bool
  abort : Bool
deriving DecidableEq, Repr

/-- A rate detection (R559). -/
structure CanDetect where
  table : List CanTiming
  entry : Nat
  normal : Bool
  dwell : Nat
  timeout : Nat
  start : Gtc
  entrySince : Gtc
  good : Nat
  brs : Bool
  seen : Nat
deriving DecidableEq, Repr

/-- One CAN FD controller. -/
structure CanCtl where
  mode : Nat
  flags : Nat
  tdc : Nat
  timing : CanTiming
  /-- Table 15-2 -/
  state : Nat
  /-- waits for 11 recessive bits (R548) -/
  sync : Bool
  txErr : Nat
  rxErr : Nat
  /-- standard identifiers that the bitmap rejects -/
  rejects : List Nat
  ext : List CanExt
  /-- extended entries that were in force until a GTC, oldest first: a frame in reception is matched against them (R555) -/
  extHist : List (Gtc × List CanExt)
  objs : List CanObj
  bufs : List CanBuf
  cReceived : Nat
  cSent : Nat
  cRejected : Nat
  cLost : Nat
  cStuff : Nat
  cForm : Nat
  cCrc : Nat
  cBit : Nat
  cAck : Nat
  cArb : Nat
  cBusOff : Nat
  cNoBrs : Nat
  delay : Nat
  detect : Option CanDetect
deriving DecidableEq, Repr

/-- The four controllers and their stream. -/
structure Can where
  ctls : List CanCtl
  queue : Nat
  streamMask : Nat
deriving DecidableEq, Repr

/-- A trigger's settings (R566, R567). -/
structure TrigSet where
  enabled : Bool
  selection : List Nat
deriving DecidableEq, Repr

/-- A trigger that waits for recording, with its snapshot (R565, R566). -/
structure Waiting16 where
  trig : Nat
  gtc : Gtc
  source : Nat
  /-- the event's payload from offset 8, or the host note (IDs 0xE0 to 0xE7) -/
  payload : List Byte
  /-- the catalogue IDs selected and their values, once they have been read; no value where the block is powered down -/
  values : Option (List (Nat × Option Nat))
deriving DecidableEq, Repr

/-- One master's window on the log (Table 16-5). -/
structure Clw where
  area : Nat
  freeze : Bool
  freezeAt : Gtc
  advance : Bool
  cursor : Nat
  ready : Bool
  gone : Bool
  loading : Bool
  buffer : List Byte
deriving DecidableEq, Repr

/-- A flush area (R571, R572). -/
structure FlushArea where
  valid : Bool
  count : Nat
  first : Nat
  records : List (List Byte)
  /-- the tag under the record-seal node; empty outside MISSION -/
  tag : List Byte
deriving DecidableEq, Repr

/-- The comet log (chapter 16). -/
structure Comet where
  trigs : List (Nat × TrigSet)
  waiting : List Waiting16
  /-- records of the tail, newest first, each with its sequence -/
  tail : List (Nat × List Byte)
  seq : Nat
  general : List (List Byte)
  pinned : List (List Byte)
  missed : Nat
  missedSince : Nat
  areas : List FlushArea
  validArea : Option Nat
  flushing : Option Nat
  lastFailed : Bool
  clw : List Clw
  frozenSince : Gtc
deriving DecidableEq, Repr

/-- A domain that a reset holds off (R587). -/
structure DomOff where
  dom : Nat
  since : Gtc
  /-- the master whose RESET asked for it -/
  master : Nat
  /-- port states of the four heads before the reset (R326) -/
  ports : List Nat
deriving DecidableEq, Repr

/-- A reset that is due 1 ms after its reply or its cause (R90, R510): class, cause, target, requesting master or 0xFF. -/
structure ResetDue where
  cls : Nat
  cause : Nat
  target : Nat
  master : Nat
  gtc : Gtc
deriving DecidableEq, Repr

/-- A flash write that runs: 0 CALIB_WRITE, 1 FW_WRITE, 2 nucleus record, 3 ledger entry, 4 provisioning record
(Table 17-4 bit 3, R599). -/
structure FlashJob where
  kind : Nat
  req : Option Req
deriving DecidableEq, Repr

/-- A fuse write that runs: 0 LC_ADVANCE, 1 VAULT_PROVISION (R538). -/
structure FuseJob where
  kind : Nat
  req : Req
  payload : List Byte
deriving DecidableEq, Repr

/-- Power, reset, calibration and monitors (chapter 17). -/
structure Power where
  /-- power state in force and requested: 0 RUN, 1 DOZE, 2 NAP, 3 SLEEP, 4 STANDBY (supplies absent) -/
  state : Nat
  requested : Nat
  wakeState : Nat
  wakeTime : Nat
  /-- SLEEP reply owed -/
  owed : Option Req
  causes : Nat
  lastWake : Nat
  since : Gtc
  hostUp : Option Gtc
  /-- the wake sources of Table 17-5 that have arrived in SLEEP as events: bit per code -/
  wakes : Nat
  retention : Bool
  powered : Nat
  off : List DomOff
  refLost : Bool
  perst : Bool
  rtc : Nat
  hours : Nat
  cycles : Nat
  portResets : Nat
  domainResets : Nat
  warmResets : Nat
  report : List Byte
  resets : List ResetDue
  renewals : List Gtc
  wdTimeout : Nat
  wdWindow : Nat
  bites : Nat
  lastBite : Option Gtc
  bootSince : Option Gtc
  renewed : Nat
  avsV : Int
  avsLo : Int
  avsHi : Int
  avsFixed : Option Int
  avsSlack : Int
  avsHighSince : Option Gtc
  avsNegSince : Option Gtc
  monitors : Nat
  thWarn : Int
  thLevel : Nat
  thTop : Int
  thSensor : Nat
  tripHeld : Bool
  eccSramC : Nat
  eccSramU : Nat
  eccMemC : Nat
  eccMemU : Nat
  /-- the eight calibration sections in code order (Table 17-11) -/
  calib : List (List Byte)
  calUser : Bool
  calCount : Nat
  /-- flash writes that run, oldest first, with the request that awaits the reply -/
  flash : List FlashJob
  /-- the fuse write that runs (R510, R515, R538) -/
  fuse : Option FuseJob
  /-- tamper inputs with an event whose responses wait for the fuse write (R538) -/
  tamperWait : Nat
deriving DecidableEq, Repr

/-- What the device drives on a head's port (R299, R303, R306, R325). -/
structure HeadPins where
  /-- RHx_TXCLK in MHz; 0 while it does not run -/
  txclk : Nat
  /-- TXFRM, TXD0 and TXD1 at the clock edges of the sample that repeats outside frames; empty while a frame is on the port -/
  idle : List (Bool × Bool × Bool)
  /-- the levels of RHx_TR and RHx_PAEN -/
  tr : Bool
  paen : Bool
  gain : Nat
deriving DecidableEq, Repr

/-- The pins of chapter 18 that this block samples or drives and no other structure holds. -/
structure Pins where
  bootSel : Nat
  testMode : Bool
  /-- whether the external DRAM fails to train even at 6400 MT/s (R619): a fact of the board, which no command changes -/
  dramFails : Bool
  hostWake : Bool
  faultN : Bool
  pfailN : Bool
  resetN : Bool
  eclOut : Bool
  pairEclOut : Bool
  /-- the levels of TP0 to TP3; `none`: high-impedance (R155) -/
  tp : List (Option Bool)
  /-- FE_SYSREF's periodic pulses: their period in LMFC periods and width in CK_GNSS cycles; `none` while they do not run (R167) -/
  sysref : Option (Nat × Nat)
  /-- the radio-head ports; `none`: undriven -/
  heads : List (Option HeadPins)
deriving DecidableEq, Repr

/-- The modes of Table 1-10 in force, and the dimension code that forces the radio mode and the time source (0: none). -/
structure Modes where
  radio : Nat
  radioForce : Nat
  time : Nat
  timeForce : Nat
deriving DecidableEq, Repr

/-- What the block puts out, in the order it does so: the model's own record of its outputs. -/
inductive Out where
  /-- a packet over Ethernet or the link: master, address, UDP checksum (R65; 0 on the link), bytes -/
  | packet (master : Nat) (addr : UdpAddr) (checksum : Nat) (bytes : List Byte)
  /-- a reply as the request's sender sees it: master, opcode, tag, status, payload -/
  | reply (master : Nat) (opcode : Nat) (tag : Nat) (status : Nat) (payload : List Byte)
  /-- an event as the device issues it, before each session's mask: opcode, source number, payload with its GTC -/
  | event (code : Nat) (source : Nat) (payload : List Byte)
  /-- the packet of a CQ slot written: index, bytes from offset 8 on (R62) -/
  | cqPacket (index : Nat) (bytes : List Byte)
  /-- the header of a CQ slot written, one transaction of 8 bytes: index, header (R62) -/
  | cqHeader (index : Nat) (header : List Byte)
  /-- MSI-X vector raised -/
  | msix (vector : Nat)
  /-- the value a register read returned -/
  | value (v : Nat)
  /-- bytes clocked out on SPI -/
  | spi (bytes : List Byte)
  /-- a frame on air -/
  | frame (f : TxFrame)
  /-- the frame in progress on a head is cut off -/
  | cutOff (head : Nat)
  /-- a line of a head changes: 0 RHx_TR, 1 RHx_PAEN, 2 RHx_GAIN, its level, the GTC of the change (R303, R306) -/
  | headLine (head : Nat) (line : Nat) (level : Nat) (gtc : Gtc)
  /-- the report of a received frame to the MAC (Table 8-8) -/
  | rxReport (bytes : List Byte)
  /-- a link message -/
  | link (m : LinkMsg)
  /-- a delta or full copy with its content (R485, R481) -/
  | delta (cycle : Nat) (full : Bool) (content : Repl)
  /-- a pulse on PAIR_LEASE_OUT, in us -/
  | lease (us : Nat)
  /-- a time pulse: output, ST in ns of its leading edge, quality, the active level, width in ns (R152) -/
  | pulse (n : Nat) (st : Nat) (quality : Nat) (level : Bool) (width : Nat)
  /-- a PTP message: port, whether over IEEE 802.3 rather than UDP, its bytes -/
  | ptp (port : Nat) (l2 : Bool) (bytes : List Byte)
  /-- a single pulse on FE_SYSREF, in CK_GNSS cycles (R167) -/
  | sysref (cycles : Nat)
  /-- an AVSBus write, mV -/
  | avs (mv : Int)
  /-- a CAN frame sent, with the secondary sample point of its data phase in CK_CAN cycles; 0 where it has none (R547) -/
  | can (ctl : Nat) (f : CanFrame) (ssp : Nat)
  /-- a controller acknowledges a frame (R551) -/
  | canAck (ctl : Nat)
  /-- a controller sends an error flag, active or passive (Table 15-2) -/
  | canErrorFlag (ctl : Nat) (active : Bool)
  /-- bytes on a head's SPI port -/
  | headSpi (head : Nat) (bytes : List Byte)
deriving DecidableEq, Repr

end Sys2Proof
end

