-- ==== Sys2Proof/Types/Event.lean ====
section
/-!
DEFINITION. Sys2Proof/Types/Event.lean: what the environment delivers with an event row: measurements, frames, link messages
(log entry 8: the analogue world and the estimators' numbers are operands of the rows that deliver them).
-/
namespace Sys2Proof

/-- A frame as a head's receiver demodulates it, with its measurements (R320, Table 8-8). -/
structure AirFrame where
  head : Nat
  /-- how long ago its preamble started at the port, in ns -/
  age : Nat
  /-- the 64 header bits: bit i of the number is header bit i (Table 8-6) -/
  header : Nat
  /-- the bits of the data field as decoded, not yet descrambled, in bytes, least significant bit first -/
  data : List Byte
  /-- preamble peak and level of the frame in 0.01 dBFS at the gain step in use -/
  peak : Int
  level : Int
  /-- 0.25 dB -/
  snr : Int
  /-- 0.01 ppm -/
  cfo : Int
deriving DecidableEq, Repr

/-- What one tracking channel's loops show at an update (R193 to R195). -/
structure ChanIn where
  /-- over 1 s, 0.01 dB-Hz -/
  cn0 : Nat
  fllSettled : Bool
  dllSettled : Bool
  /-- PLL lock indicator over 100 ms, 0.01 -/
  pll : Nat
  sync : Bool
  /-- the correlations of the four probes over the prompt one, 0.001 -/
  probes : List Int
  /-- code phase as a delay in 0.1 ns, carrier Doppler in mHz -/
  code : Nat
  carrier : Int
deriving DecidableEq, Repr

/-- A cell in which a pass found power (R187): satellite, signal, GLONASS channel, code phase as a delay in 0.1 ns, Doppler in Hz, the
non-coherent power of the cell and of the best one of the repeat dwell around it, the mean power of the satellite's cells. -/
structure AcqFind where
  sat : Nat
  sig : Nat
  k : Int
  code : Nat
  doppler : Int
  power : Nat
  again : Nat
  mean : Nat
deriving DecidableEq, Repr

/-- What a channel measures at an epoch, interpolated to it (R196): channel, code range in 0.1 mm, carrier phase in 2^-16 cycle, carrier
frequency in the complex stream in mHz, departure of the phase from the carrier-aided code prediction since the last epoch in 2^-16
cycle (R194). -/
structure MeasIn where
  idx : Nat
  range : Nat
  phase : Int
  freq : Int
  depart : Int
deriving DecidableEq, Repr

/-- What navigation data say of a satellite at an epoch (R188, R225): a new issue of ephemeris and of almanac data where one was decoded,
then, from the ephemeris held, its health, position, range rate in mm/s and the corrections to its pseudorange in 0.1 mm. -/
structure NavIn where
  sat : Nat
  issue : Option (List Int)
  almanac : Option (List Int)
  healthy : Bool
  pos : Ecef
  rate : Int
  corr : Int
deriving DecidableEq, Repr

/-- One self-check baseline as solved at an epoch (R241): port, ratio in 0.1, phase residual RMS in 0.01 cycle, b_fixed east, north and
up in 0.1 mm. -/
structure BaseIn where
  port : Nat
  ratio : Nat
  rms : Nat
  e : Int
  n : Int
  u : Int
deriving DecidableEq, Repr

/-- What the GNSS path measures and decodes at a station epoch (R196, R225, R241). -/
structure EpochIn where
  meas : List MeasIn
  nav : List NavIn
  /-- GLONASS channels whose orbital slot has been decoded: k and slot (R183) -/
  slots : List (Int × Nat)
  /-- GNSS time is known -/
  timeKnown : Bool
  bases : List BaseIn
  /-- TAI - UTC with its leap-second flags, where the epoch's navigation data brought them (R141) -/
  utc : Option (Nat × Bool × Bool)
deriving DecidableEq, Repr

/-- What the search unit finds for one set of ambiguities (R271): the best integers in the set's order, ratio in 0.1, exponent of the
bootstrapped success rate, RMS and largest post-fix residual in 0.01 cycle. -/
structure SearchIn where
  ints : List Int
  ratio : Nat
  expo : Nat
  rms : Nat
  largest : Nat
deriving DecidableEq, Repr

/-- What a cell shows against the filter's prediction (R276), and its float ambiguity after the update: satellite, signal, jump of the
geometry-free phase in mm, DD phase residual before the update in 2^-16 cycle, float value in 2^-16 cycle and its variance. -/
structure CellIn where
  sat : Nat
  sig : Nat
  jump : Nat
  residual : Int
  value : Int
  var : Nat
deriving DecidableEq, Repr

/-- The numbers that the filter and the search unit yield for one OBS in FP64 (R268 to R273, R284). -/
structure SolveIn where
  /-- PDOP in 0.1 and RMS residual in 0.1 m of the code-only solution -/
  pdop : Nat
  codeRms : Nat
  e : Int
  n : Int
  u : Int
  ve : Int
  vn : Int
  vu : Int
  velValid : Bool
  sigH : Nat
  sigV : Nat
  cells : List CellIn
  /-- the search of the full set, then of the sets that drop the largest float variance one at a time -/
  searches : List SearchIn
  /-- RMS and largest phase residual of the update, 0.01 cycle -/
  rms : Nat
  largest : Nat
  /-- 0.1 % -/
  util : Nat
deriving DecidableEq, Repr

end Sys2Proof
end

