-- ==== Sys2Proof/Syntax.lean ====
section
/-!
DEFINITION. Sys2Proof/Syntax.lean: the commands of the block, one constructor per row of spec/opcode_table.json. A host
command carries its request; an event row carries what the environment delivers with it.
-/
namespace Sys2Proof

/-- The rows of the opcode table. -/
inductive Instr where
  /-- EFBEX_PACKET_RX (R54) -/
  | efbexPacketRx (m : Nat) (addr : UdpAddr) (bytes : List Byte)
  /-- FRAGMENT_TIMEOUT (R57) -/
  | fragmentTimeout (m : Nat)
  /-- SESSION_IDLE_TIMEOUT (R75) -/
  | sessionIdleTimeout (m : Nat)
  /-- EVENTS_LOST (R87) -/
  | eventsLost (m : Nat)
  /-- RQ_TAIL_WRITE (R60) -/
  | rqTailWrite (tail : Nat) (slots : List (List Byte)) (err : Bool)
  /-- CQ_HEAD_WRITE (R63) -/
  | cqHeadWrite (head : Nat)
  /-- CQ_SLOT_WRITE (R62) -/
  | cqSlotWrite (err : Bool)
  /-- PCIE_FLR (R60) -/
  | pcieFlr
  /-- UDP_DATAGRAM_RX (R65) -/
  | udpDatagramRx (m : Nat) (src : UdpAddr) (dstPort : Nat) (fragment : Bool) (checksum : Nat) (bytes : List Byte)
  /-- SPI_STATUS (R67) -/
  | spiStatus
  /-- SPI_WRITE (R68) -/
  | spiWrite (bytes : List Byte) (cut : Bool)
  /-- SPI_READ (R69) -/
  | spiRead (clocked : Nat)
  /-- SPI_UNKNOWN_COMMAND (R69) -/
  | spiUnknownCommand (b : Nat)
  /-- REGISTER_WRITE (R10) -/
  | registerWrite (m : Nat) (bar2 : Bool) (offset : Nat) (size : Nat) (value : Nat) (again : Nat)
  /-- READ_CLEAR_REGISTER (R11) -/
  | readClearRegister (m : Nat) (bar2 : Bool) (offset : Nat) (size : Nat) (again : Bool)
  /-- MBX_POST (R100) -/
  | mbxPost (m : Nat) (n : Nat) (word : Nat)
  /-- MBX_LATCH (R102) -/
  | mbxLatch (m : Nat) (n : Nat)
  /-- MBX_READ_END (R102) -/
  | mbxReadEnd (m : Nat) (n : Nat)
  /-- MBX_INBOUND_PROCESS (R107) -/
  | mbxInboundProcess (m : Nat) (n : Nat)
  /-- DBL_IN_WAKE_SET (R113) -/
  | dblInWakeSet (m : Nat)
  /-- ECLIPSE_DOORBELL (R114) -/
  | eclipseDoorbell (m : Nat)
  /-- LCK_READ (R116) -/
  | lckRead (m : Nat) (k : Nat)
  /-- LCK_RELEASE_WRITE (R118) -/
  | lckReleaseWrite (m : Nat) (value : Nat)
  /-- SQ_PUSH_LEN_WRITE (R123) -/
  | sqPushLenWrite (m : Nat) (q : Nat) (len : Nat)
  /-- SQ_PUSH_WRITE (R123) -/
  | sqPushWrite (m : Nat) (q : Nat) (word : Nat)
  /-- SQ_POP_READ (R125) -/
  | sqPopRead (m : Nat) (q : Nat) (eccBad : Bool)
  /-- SQ_FLUSH_REQUEST (R126) -/
  | sqFlushRequest (m : Nat) (q : Nat)
  /-- SQ_FLUSH_TIMEOUT (R126) -/
  | sqFlushTimeout (q : Nat)
  /-- TBR_GTC_LO_READ (R162) -/
  | tbrGtcLoRead (m : Nat)
  /-- CLW_CURSOR_WRITE (R573) -/
  | clwCursorWrite (m : Nat) (value : Nat)
  /-- CLW_LOAD_COMPLETE (R573) -/
  | clwLoadComplete (m : Nat)
  /-- CLW_DATA_ADVANCE (R573) -/
  | clwDataAdvance (m : Nat)
  /-- CLW_FREEZE_SET (R574) -/
  | clwFreezeSet (m : Nat)
  /-- CLW_FREEZE_EXPIRY (R574) -/
  | clwFreezeExpiry (m : Nat)
  /-- HELLO_PHASE_1 (R70) -/
  | helloPhase1 (r : Req)
  /-- HELLO_PHASE_2 (R70) -/
  | helloPhase2 (r : Req)
  /-- GOODBYE (R75) -/
  | goodbye (r : Req)
  /-- GET_INFO (R89) -/
  | getInfo (r : Req)
  /-- RESET (R90) -/
  | reset (r : Req)
  /-- EVENT_SET (R87) -/
  | eventSet (r : Req)
  /-- NET_SET (R91) -/
  | netSet (r : Req)
  /-- ARM_SET (R21) -/
  | armSet (r : Req)
  /-- ARM_GET (R92) -/
  | armGet (r : Req)
  /-- PORT_UNFREEZE (R36) -/
  | portUnfreeze (r : Req)
  /-- WIN_READ (R131) -/
  | winRead (r : Req)
  /-- WIN_WRITE (R131) -/
  | winWrite (r : Req)
  /-- SQ_CONFIG (R133) -/
  | sqConfig (r : Req)
  /-- TB_GET (R164) -/
  | tbGet (r : Req)
  /-- TB_SOURCE_SET (R143) -/
  | tbSourceSet (r : Req)
  /-- TB_SERVO_SET (R145) -/
  | tbServoSet (r : Req)
  /-- TB_STEP (R165) -/
  | tbStep (r : Req)
  /-- TP_SET (R153) -/
  | tpSet (r : Req)
  /-- TC_SET (R156) -/
  | tcSet (r : Req)
  /-- PTP_SET (R165) -/
  | ptpSet (r : Req)
  /-- UTC_SET (R141) -/
  | utcSet (r : Req)
  /-- OFFSET_SAMPLE (R145) -/
  | offsetSample (src : Nat)
  /-- SOURCE_LOST (R144) -/
  | sourceLost (src : Nat)
  /-- SOURCE_SWITCH_TIMER (R143) -/
  | sourceSwitchTimer (src : Nat)
  /-- HOLDOVER_LIMIT (R147) -/
  | holdoverLimit
  /-- TB_STEP_NEEDED_REPEAT (R149) -/
  | tbStepNeededRepeat
  /-- RTC_SECOND_UPDATE (R140) -/
  | rtcSecondUpdate
  /-- TP_PULSE_INSTANT (R152) -/
  | tpPulseInstant (n : Nat)
  /-- TC_EDGE (R156) -/
  | tcEdge (n : Nat) (falling : Bool)
  /-- PTP_MESSAGE_RX (R158) -/
  | ptpMessageRx (port : Nat) (rate : Nat) (l2 : Bool) (bytes : List Byte)
  /-- PTP_ANNOUNCE_TIMEOUT (R161) -/
  | ptpAnnounceTimeout (port : Nat)
  /-- PTP_INTERVAL_TX (R160) -/
  | ptpIntervalTx (port : Nat) (rate : Nat) (kind : Nat)
  /-- GN_PORT_SET (R166) -/
  | gnPortSet (r : Req)
  /-- GN_STATUS (R212) -/
  | gnStatus (r : Req)
  /-- GN_SIGNAL_SET (R181) -/
  | gnSignalSet (r : Req)
  /-- GN_CHAN_ALLOC (R189) -/
  | gnChanAlloc (r : Req)
  /-- GN_LOOP_SET (R192) -/
  | gnLoopSet (r : Req)
  /-- GN_FENCE_SET (R175) -/
  | gnFenceSet (r : Req)
  /-- GN_JN_SET (R178) -/
  | gnJnSet (r : Req)
  /-- GN_BEARING_SET (R204) -/
  | gnBearingSet (r : Req)
  /-- GN_SAT_EXCLUDE (R207) -/
  | gnSatExclude (r : Req)
  /-- GN_SAT_GET (R212) -/
  | gnSatGet (r : Req)
  /-- GN_OBS_STREAM (R200) -/
  | gnObsStream (r : Req)
  /-- GN_ACQ_SET (R185) -/
  | gnAcqSet (r : Req)
  /-- JESD_CGS_DONE (R166) -/
  | jesdCgsDone (p : Nat)
  /-- JESD_ILAS_END (R168) -/
  | jesdIlasEnd (p : Nat) (cfg : JesdCfg)
  /-- JESD_LINK_ERROR (R169) -/
  | jesdLinkError (p : Nat) (errors : Nat) (misaligned : Nat)
  /-- LINK_OUTAGE_TIMEOUT (R170) -/
  | linkOutageTimeout (p : Nat)
  /-- NOTCH_UPDATE (R173) -/
  | notchUpdate (band : Nat) (lines : List (Int × Nat))
  /-- AGC_UPDATE (R174) -/
  | agcUpdate (band : Nat) (best : Int)
  /-- JN_UPDATE (R176) -/
  | jnUpdate (band : Nat) (power : Nat) (low : Nat) (clip : Nat) (rms : Nat)
  /-- NOISE_CAPTURE_END (R178) -/
  | noiseCaptureEnd (band : Nat) (power : Nat)
  /-- ACQ_PASS_COMPLETE (R187) -/
  | acqPassComplete (found : List AcqFind)
  /-- CHANNEL_UPDATE (R193) -/
  | channelUpdate (idx : Nat) (c : ChanIn)
  /-- CHANNEL_LOSS (R193) -/
  | channelLoss (idx : Nat)
  /-- OBS_RECORD_COMPLETE (R196) -/
  | obsRecordComplete (x : EpochIn)
  /-- CORR_MODE_SET (R214) -/
  | corrModeSet (r : Req)
  /-- CORR_POSITION_SET (R218) -/
  | corrPositionSet (r : Req)
  /-- CORR_ORIGIN_SET (R220) -/
  | corrOriginSet (r : Req)
  /-- CORR_MSG_SET (R238) -/
  | corrMsgSet (r : Req)
  /-- CORR_STATION_SET (R237) -/
  | corrStationSet (r : Req)
  /-- CORR_STREAM (R238) -/
  | corrStream (r : Req)
  /-- CORR_SELFCHECK_SET (R242) -/
  | corrSelfcheckSet (r : Req)
  /-- CORR_INTEGRITY_SET (R246) -/
  | corrIntegritySet (r : Req)
  /-- CORR_GET (R249) -/
  | corrGet (r : Req)
  /-- BL_BERTH_SET (R252) -/
  | blBerthSet (r : Req)
  /-- BL_PARAM_SET (R272) -/
  | blParamSet (r : Req)
  /-- BL_STREAM (R285) -/
  | blStream (r : Req)
  /-- BL_RESET_BERTH (R274) -/
  | blResetBerth (r : Req)
  /-- BL_STATUS (R294) -/
  | blStatus (r : Req)
  /-- BL_BERTH_GET (R294) -/
  | blBerthGet (r : Req)
  /-- BL_SHADOW_SET (R290) -/
  | blShadowSet (r : Req)
  /-- BL_OBS_ARRIVAL (R263) -/
  | blObsArrival (b : Nat) (content : List Byte)
  /-- BL_OBS_SOLVE (R288) -/
  | blObsSolve (b : Nat) (x : SolveIn)
  /-- BL_SILENCE_TIMEOUT (R275) -/
  | blSilenceTimeout (b : Nat)
  /-- BL_RETENTION_EXPIRY (R280) -/
  | blRetentionExpiry (b : Nat)
  /-- RH_HEAD_SET (R324) -/
  | rhHeadSet (r : Req)
  /-- RH_CHAN_SET (R321) -/
  | rhChanSet (r : Req)
  /-- RH_SCRIPT_LOAD (R308) -/
  | rhScriptLoad (r : Req)
  /-- RH_SPI_XFER (R310) -/
  | rhSpiXfer (r : Req)
  /-- RH_PORT_TRAIN (R300) -/
  | rhPortTrain (r : Req) (sweeps : List Nat)
  /-- RH_FENCE_SET (R307) -/
  | rhFenceSet (r : Req)
  /-- RH_STATUS (R328) -/
  | rhStatus (r : Req)
  /-- RH_TEST (R328) -/
  | rhTest (r : Req)
  /-- RH_TEST_DURATION_END (R328) -/
  | rhTestDurationEnd (h : Nat)
  /-- RH_RXCLK_PRESENT (R301) -/
  | rhRxclkPresent (h : Nat)
  /-- RH_RXCLK_LOST (R301) -/
  | rhRxclkLost (h : Nat)
  /-- RH_BURST_LIMIT (R305) -/
  | rhBurstLimit (h : Nat)
  /-- RH_IRQ_EDGE (R311) -/
  | rhIrqEdge (h : Nat)
  /-- RH_IRQ_REPEAT (R311) -/
  | rhIrqRepeat (h : Nat)
  /-- RH_SCRIPT_COMPLETE (R310) -/
  | rhScriptComplete (h : Nat) (read : List Byte)
  /-- RH_FRAME_RX (R320) -/
  | rhFrameRx (f : AirFrame)
  /-- RADIO_MODE_SET (R378) -/
  | radioModeSet (r : Req)
  /-- RADIO_SUBBAND_SET (R371) -/
  | radioSubbandSet (r : Req)
  /-- RADIO_LINK_FENCE_SET (R366) -/
  | radioLinkFenceSet (r : Req)
  /-- RADIO_CHAN_FENCE_SET (R368) -/
  | radioChanFenceSet (r : Req)
  /-- RADIO_DUTY_GET (R370) -/
  | radioDutyGet (r : Req)
  /-- OR_CONFIG_SET (R332) -/
  | orConfigSet (r : Req)
  /-- OR_SCHEDULE_SET (R335) -/
  | orScheduleSet (r : Req)
  /-- OR_BERTH_SET (R362) -/
  | orBerthSet (r : Req)
  /-- OR_BERTH_GET (R377) -/
  | orBerthGet (r : Req)
  /-- OR_STATUS (R377) -/
  | orStatus (r : Req)
  /-- UNIT_BOUNDARY (R331) -/
  | unitBoundary
  /-- ORBIT_START (R344) -/
  | orbitStart
  /-- CHANNEL_SELECTION (R368) -/
  | channelSelection (h : Nat) (quiet : List Int)
  /-- DUTY_BUCKET_END (R370) -/
  | dutyBucketEnd (i : Nat)
  /-- UP_FRAME_RX (R340) -/
  | upFrameRx (f : AirFrame)
  /-- JOIN_REQ_RX (R354) -/
  | joinReqRx (f : AirFrame)
  /-- JOIN_AUTH_RX (R355) -/
  | joinAuthRx (f : AirFrame)
  /-- DELIVERY_RESEND (R352) -/
  | deliveryResend (b : Nat)
  /-- JOIN_TIMEOUT (R356) -/
  | joinTimeout (b : Nat)
  /-- JOIN_LOCKOUT_EXPIRY (R356) -/
  | joinLockoutExpiry (machine : Nat)
  /-- ADRIFT_ENTRY (R357) -/
  | adriftEntry (b : Nat)
  /-- ADRIFT_LIMIT (R357) -/
  | adriftLimit (b : Nat)
  /-- HOLD_TIME_EXPIRY (R357) -/
  | holdTimeExpiry (b : Nat)
  /-- ECLIPSE_TRIGGER (R387) -/
  | eclipseTrigger (r : Req)
  /-- ECLIPSE_RELEASE (R393) -/
  | eclipseRelease (r : Req)
  /-- SPOT_STOP (R396) -/
  | spotStop (r : Req)
  /-- SPOT_RELEASE (R398) -/
  | spotRelease (r : Req)
  /-- ECL_GET (R403) -/
  | eclGet (r : Req)
  /-- ECL_CONFIG_SET (R386) -/
  | eclConfigSet (r : Req)
  /-- STOP_PIN_CHANGE (R383) -/
  | stopPinChange (a : Bool) (b : Bool)
  /-- DISCREPANCY_TIMEOUT (R384) -/
  | discrepancyTimeout
  /-- RELEASE_DELAY_END (R394) -/
  | releaseDelayEnd
  /-- TR_REQUEST (R411) -/
  | trRequest (r : Req)
  /-- TR_RELEASE (R422) -/
  | trRelease (r : Req)
  /-- TR_CHECK (R414) -/
  | trCheck (r : Req)
  /-- TR_GET (R442) -/
  | trGet (r : Req)
  /-- TR_LIST (R442) -/
  | trList (r : Req)
  /-- TR_ZONE_SET (R426) -/
  | trZoneSet (r : Req)
  /-- TR_ZONE_REMOVE (R427) -/
  | trZoneRemove (r : Req)
  /-- TR_CONFIG_SET (R428) -/
  | trConfigSet (r : Req)
  /-- TR_BERTH_SET (R433) -/
  | trBerthSet (r : Req)
  /-- TR_STATUS (R442) -/
  | trStatus (r : Req)
  /-- ARBITER_DECISION (R416) -/
  | arbiterDecision (time : Nat)
  /-- TRANSIT_REMOVAL (R421) -/
  | transitRemoval (id : Nat)
  /-- ZONE_REMOVAL (R421) -/
  | zoneRemoval (z : Nat)
  /-- CONFORMANCE_UNKNOWN_TIMEOUT (R435) -/
  | conformanceUnknownTimeout (b : Nat)
  /-- DP_TASK_ADD (R447) -/
  | dpTaskAdd (r : Req)
  /-- DP_TASK_READY (R448) -/
  | dpTaskReady (r : Req)
  /-- DP_TASK_CANCEL (R465) -/
  | dpTaskCancel (r : Req)
  /-- DP_TASK_GET (R473) -/
  | dpTaskGet (r : Req)
  /-- DP_CONFIG_SET (R456) -/
  | dpConfigSet (r : Req)
  /-- DP_BERTH_SET (R450) -/
  | dpBerthSet (r : Req)
  /-- DP_BERTH_GET (R473) -/
  | dpBerthGet (r : Req)
  /-- DP_LEVEL_GET (R473) -/
  | dpLevelGet (r : Req)
  /-- DP_PACK_SET (R469) -/
  | dpPackSet (r : Req)
  /-- DP_PACK_BIND (R467) -/
  | dpPackBind (r : Req)
  /-- DP_PACK_GET (R473) -/
  | dpPackGet (r : Req)
  /-- DP_STATUS (R473) -/
  | dpStatus (r : Req)
  /-- TASK_DEADLINE (R449) -/
  | taskDeadline (id : Nat)
  /-- DP_COUNTERS_UPDATE (R470) -/
  | dpCountersUpdate
  /-- PAIR_CONFIG_SET (R479) -/
  | pairConfigSet (r : Req)
  /-- PAIR_GET (R505) -/
  | pairGet (r : Req)
  /-- PAIR_SWITCHOVER (R504) -/
  | pairSwitchover (r : Req)
  /-- PAIR_RESYNC (R482) -/
  | pairResync (r : Req)
  /-- COMMIT_CYCLE_END (R485) -/
  | commitCycleEnd
  /-- PAIR_DELTA_RX (R485) -/
  | pairDeltaRx (m : LinkMsg) (size : Nat) (content : Repl)
  /-- PAIR_ACK_RX (R485) -/
  | pairAckRx (m : LinkMsg)
  /-- PAIR_ACK_LIMIT (R485) -/
  | pairAckLimit
  /-- PAIR_ALONE_TIMEOUT (R487) -/
  | pairAloneTimeout
  /-- PAIR_DELTA_TIMEOUT (R482) -/
  | pairDeltaTimeout
  /-- PAIR_RENEW_RX (R492) -/
  | pairRenewRx (m : LinkMsg)
  /-- PAIR_LEASE_PULSE_RX (R496) -/
  | pairLeasePulseRx (us : Nat)
  /-- PAIR_TAKEOVER_DETECT (R496) -/
  | pairTakeoverDetect
  /-- PAIR_LANE_CHANGE (R476) -/
  | pairLaneChange (lane : Nat) (up : Bool)
  /-- LINK_HELLO_RX (R480) -/
  | linkHelloRx (m : LinkMsg)
  /-- PAIR_JOIN_WAIT (R480) -/
  | pairJoinWait
  /-- PAIR_FULL_RX (R481) -/
  | pairFullRx (m : LinkMsg) (content : Repl)
  /-- PAIR_DIGEST_RX (R490) -/
  | pairDigestRx (m : LinkMsg)
  /-- PAIR_FIXSUM_RX (R491) -/
  | pairFixsumRx (m : LinkMsg)
  /-- PAIR_ECLIPSE_MSG_RX (R495) -/
  | pairEclipseMsgRx (m : LinkMsg)
  /-- PAIR_TRIGGER_MSG_RX (R494) -/
  | pairTriggerMsgRx (m : LinkMsg)
  /-- PAIR_ECL_IN_CHANGE (R494) -/
  | pairEclInChange (high : Bool)
  /-- PAIR_EFBEX_RX (R477) -/
  | pairEfbexRx (m : LinkMsg)
  /-- PAIR_LEAVE_RX (R505) -/
  | pairLeaveRx (m : LinkMsg)
  /-- PAIR_HANDOVER_RX (R504) -/
  | pairHandoverRx (m : LinkMsg)
  /-- VAULT_INFO (R513) -/
  | vaultInfo (r : Req)
  /-- VAULT_PROVISION (R515) -/
  | vaultProvision (r : Req)
  /-- LC_ADVANCE (R510) -/
  | lcAdvance (r : Req)
  /-- NODE_CREATE (R528) -/
  | nodeCreate (r : Req)
  /-- NODE_INVALIDATE (R525) -/
  | nodeInvalidate (r : Req)
  /-- NODE_GET (R544) -/
  | nodeGet (r : Req)
  /-- VAULT_CRYPTO (R529) -/
  | vaultCrypto (r : Req)
  /-- VAULT_OPERATION_COMPLETE (R526) -/
  | vaultOperationComplete (i : Nat)
  /-- VAULT_EXPORT (R532) -/
  | vaultExport (r : Req)
  /-- VAULT_KDF_TEST (R520) -/
  | vaultKdfTest (r : Req)
  /-- FW_WRITE (R533) -/
  | fwWrite (r : Req)
  /-- FW_ACTIVATE (R533) -/
  | fwActivate (r : Req)
  /-- TAMPER_SET (R541) -/
  | tamperSet (r : Req)
  /-- TAMPER_CLEAR (R540) -/
  | tamperClear (r : Req)
  /-- TAMPER_SAMPLE (R535) -/
  | tamperSample (n : Nat) (high : Bool)
  /-- CAN_CONFIG_SET (R548) -/
  | canConfigSet (r : Req)
  /-- CAN_FILTER_SET (R555) -/
  | canFilterSet (r : Req)
  /-- CAN_RX_READ (R554) -/
  | canRxRead (r : Req)
  /-- CAN_TX (R558) -/
  | canTx (r : Req)
  /-- CAN_TX_ABORT (R558) -/
  | canTxAbort (r : Req)
  /-- CAN_RATE_DETECT (R559) -/
  | canRateDetect (r : Req)
  /-- CAN_RECOVER (R549) -/
  | canRecover (r : Req)
  /-- CAN_STATUS (R563) -/
  | canStatus (r : Req)
  /-- CAN_STREAM (R555) -/
  | canStream (r : Req)
  /-- CAN_FRAME_VALID (R552) -/
  | canFrameValid (c : Nat) (f : CanFrame)
  /-- CAN_HEARTBEAT_TIMEOUT (R560) -/
  | canHeartbeatTimeout (i : Nat)
  /-- CAN_TX_COMPLETE (R557) -/
  | canTxComplete (c : Nat) (b : Nat) (ok : Bool) (start : Gtc) (delay : Nat)
  /-- CAN_BUS_ERROR (R549) -/
  | canBusError (c : Nat) (kind : Nat) (tx : Bool) (extra : Nat) (exempt : Bool)
  /-- CAN_BUS_IDLE_SYNC (R548) -/
  | canBusIdleSync (c : Nat)
  /-- CAN_RECOVERY_COMPLETE (R549) -/
  | canRecoveryComplete (c : Nat)
  /-- CAN_RATE_DWELL (R559) -/
  | canRateDwell (c : Nat)
  /-- CAN_RATE_TIMEOUT (R559) -/
  | canRateTimeout (c : Nat)
  /-- CL_TRIGGER_SET (R567) -/
  | clTriggerSet (r : Req)
  /-- CL_TRIGGER_GET (R576) -/
  | clTriggerGet (r : Req)
  /-- CL_STATUS (R576) -/
  | clStatus (r : Req)
  /-- CL_READ (R576) -/
  | clRead (r : Req)
  /-- CL_MARK (R566) -/
  | clMark (r : Req)
  /-- CL_ATTEST (R569) -/
  | clAttest (r : Req)
  /-- COMET_RECORD (R565) -/
  | cometRecord
  /-- NUCLEUS_WRITE_COMPLETE (R570) -/
  | nucleusWriteComplete
  /-- PFAIL_N_FALL (R571) -/
  | pfailNFall
  /-- PWR_STATE_SET (R580) -/
  | pwrStateSet (r : Req)
  /-- PWR_STATUS (R602) -/
  | pwrStatus (r : Req)
  /-- AVS_FENCE_SET (R593) -/
  | avsFenceSet (r : Req)
  /-- WD_SET (R591) -/
  | wdSet (r : Req)
  /-- THERMAL_SET (R596) -/
  | thermalSet (r : Req)
  /-- CALIB_READ (R602) -/
  | calibRead (r : Req)
  /-- CALIB_WRITE (R599) -/
  | calibWrite (r : Req)
  /-- SLEEP_ENTRY (R581) -/
  | sleepEntry
  /-- WAKE_SOURCE (R584) -/
  | wakeSource (code : Nat) (retained : Bool)
  /-- HOST_UP_START (R583) -/
  | hostUpStart (spi : Bool)
  /-- HOST_UP_TIMEOUT (R583) -/
  | hostUpTimeout
  /-- PCIE_PERST_LOW (R583) -/
  | pciePerstLow
  /-- REF_IN_LOST (R578) -/
  | refInLost
  /-- REF_IN_RESTORED (R578) -/
  | refInRestored
  /-- PORT_RESET (R586) -/
  | portReset (m : Nat) (cause : Nat)
  /-- DOMAIN_RESET (R587) -/
  | domainReset (d : Nat)
  /-- DOMAIN_RETURN (R587) -/
  | domainReturn (d : Nat) (ok : Bool)
  /-- WARM_RESET (R586) -/
  | warmReset (cause : Nat)
  /-- COLD_RESET (R586) -/
  | coldReset (cause : Nat) (bootSel : Nat) (strapHigh : Bool)
  /-- VBAT_RESET (R586) -/
  | vbatReset (bootSel : Nat) (strapHigh : Bool)
  /-- RESET_N_LOW (R621) -/
  | resetNLow (bootSel : Nat) (strapHigh : Bool)
  /-- WATCHDOG_HALF_TIMEOUT (R591) -/
  | watchdogHalfTimeout (core : Nat)
  /-- WATCHDOG_BITE (R592) -/
  | watchdogBite (core : Nat)
  /-- WATCHDOG_BOOT_TIMEOUT (R592) -/
  | watchdogBootTimeout
  /-- AVS_TICK (R593) -/
  | avsTick (slack : Int)
  /-- MONITOR_FAULT (R595) -/
  | monitorFault (code : Nat) (value : Int)
  /-- MONITOR_CLEAR (R595) -/
  | monitorClear (code : Nat) (value : Int)
  /-- THERMAL_CHANGE (R596) -/
  | thermalChange (sensor : Nat) (temp : Int)
  /-- MEM_ECC_ERROR (R597) -/
  | memEccError (mem : Nat) (uncorrectable : Bool) (source : Nat) (address : Nat) (object : Nat)
  /-- STANDBY_STOP_LEVEL_HOLD_END (R493) -/
  | standbyStopLevelHoldEnd
  /-- WATCHING_START (R436) -/
  | watchingStart (id : Nat)
  /-- FLASH_WRITE_COMPLETE (R599) -/
  | flashWriteComplete (ok : Bool)
  /-- FUSE_WRITE_COMPLETE (R538) -/
  | fuseWriteComplete
  /-- FLUSH_COMPLETE (R571) -/
  | flushComplete
  /-- WATCHDOG_RENEWAL (R591) -/
  | watchdogRenewal (core : Nat)
  /-- MAIN_SUPPLY_LOSS (R579) -/
  | mainSupplyLoss
deriving DecidableEq, Repr

end Sys2Proof
end

