-- ==== Sys2Proof/Config.lean ====
section
/-!
DEFINITION. Sys2Proof/Config.lean: what one device fixes and what the spec leaves open. The opaque constants have no body:
nothing can be proved about their values (log entries 4, 10 and 13).
-/
namespace Sys2Proof.Config

/-- The free values (log entry 4): the `n`-th value that the spec leaves open. -/
opaque freeValue : Nat → Nat

/-- The 64-bit device ID that Carwicon fused (03 Table 3-2; log entry 13). -/
opaque deviceId : Nat

/-- The FACTORY root of the key tree (R507; log entry 13). -/
opaque factoryRoot : List Byte

/-- The RETURN root of the key tree (R507, R511; log entry 13). -/
opaque returnRoot : List Byte

/-- The material of an identity node from the FACTORY root and its handle (R513 gives no label; log entry 13). -/
opaque identity : List Byte → Nat → List Byte

/-- The SHA-384 of the signing key that Carwicon fused in RAW (R530; log entry 13). -/
opaque signerHash : List Byte

/-- The encodings of the entries of a replicated group, in ascending index, by the group's place in Table 13-5 (R489: the encodings are
not given; log entry 10). -/
opaque entryCodes : Nat → Repl → List (List Byte)

/-- The share s0 of a draw: random bytes, 64 of them (R523; log entry 4). -/
opaque cellMask : Nat → List Byte

/-- How many bytes the replicated changes from one state to another take in a delta (R486; log entry 10). -/
opaque deltaSize : Repl → Repl → Nat

/-- offsetScaledLogVariance and the clock identity that the PTP ports advertise (R160: not given; log entry 4). -/
opaque ptpVariance : Nat

/-- The clock identity of the PTP ports (log entry 4). -/
opaque ptpIdentity : Nat

end Sys2Proof.Config
end

