-- ==== Sys2Proof/Machine/Crypto.lean ====
section
/-!
DEFINITION. Sys2Proof/Machine/Crypto.lean: the checksums and the hashes of the spec, computed: CRC-32C (R51), SHA-256 and SHA-384 (FIPS
180-4; Table 14-9), HMAC (R52, R569), the KDF of R520, CRC-24Q of RTCM messages. The other algorithms are in Cipher.lean (log entry 9).
-/
namespace Sys2Proof.Machine
open Sys2Proof

/-- One bit of a reflected CRC with polynomial `poly`. -/
def crcBit (poly c : Nat) : Nat := if c % 2 = 1 then Nat.xor (c / 2) poly else c / 2

/-- One byte of a reflected CRC. -/
def crcByte (poly c : Nat) (b : Byte) : Nat :=
  let x := Nat.xor c b.toNat
  crcBit poly (crcBit poly (crcBit poly (crcBit poly (crcBit poly (crcBit poly (crcBit poly (crcBit poly x)))))))

/-- CRC-32C of R51. -/
def crc32c (bs : List Byte) : Nat := Nat.xor (bs.foldl (crcByte 0x82F63B78) 0xFFFFFFFF) 0xFFFFFFFF

/-- One bit of the CRC-24Q register (R232: RTCM 10403.3 transport). -/
def crc24Bit (c : Nat) : Nat := if c / 0x800000 % 2 = 1 then Nat.xor (c * 2 % 0x1000000) 0x864CFB else c * 2 % 0x1000000

/-- One byte of CRC-24Q. -/
def crc24Byte (c : Nat) (b : Byte) : Nat :=
  let x := Nat.xor c (b.toNat * 0x10000)
  crc24Bit (crc24Bit (crc24Bit (crc24Bit (crc24Bit (crc24Bit (crc24Bit (crc24Bit x)))))))

/-- CRC-24Q of a message. -/
def crc24q (bs : List Byte) : Nat := bs.foldl crc24Byte 0

/-! ### SHA-2 (FIPS 180-4)

The two hashes of the spec are one construction at two widths; its constants are not tabulated but taken from their definition, the roots
of the first primes. -/

/-- The greatest number below `2 ^ n` whose `k`-th power is at most `x`, built on `r` from bit `n - 1` down. -/
def rootBits (k x : Nat) (n r : Nat) : Nat :=
  match n with
  | 0 => r
  | m + 1 => rootBits k x m (if (r + 2 ^ m) ^ k ≤ x then r + 2 ^ m else r)

/-- The first `w` bits of the fraction of the `k`-th root of `p`, for `p` below 2^9. -/
def rootFraction (k w p : Nat) : Nat := rootBits k (p * 2 ^ (k * w)) (w + 5) 0 % 2 ^ w

/-- The primes below `n`, for `n` below 529. -/
def primesBelow (n : Nat) : List Nat :=
  (List.range n).filter (fun p => decide (2 ≤ p) && [2, 3, 5, 7, 11, 13, 17, 19].all (fun d => p == d || p % d != 0))

/-- A hash of the family: the width of its words, its rounds, and the turns of its four mixing functions; the last turn of the two of the
schedule drops what it turns out. -/
structure Sha2 where
  width : Nat
  rounds : Nat
  turnA : List Nat
  turnE : List Nat
  turnOld : List Nat
  turnNew : List Nat
deriving DecidableEq, Repr

/-- A word turned right by `n`. -/
def turn (w n x : Nat) : Nat := x / 2 ^ n + x % 2 ^ n * 2 ^ (w - n)

/-- The turns of a word added without carry. -/
def turns (w : Nat) (l : List Nat) (x : Nat) : Nat := l.foldl (fun v n => Nat.xor v (turn w n x)) 0

/-- The turns of a schedule word, the last of them a shift. -/
def turnsShift (w : Nat) (l : List Nat) (x : Nat) : Nat :=
  Nat.xor (turns w l.dropLast x) (x / 2 ^ (l.getLastD 0))

/-- One step of the schedule: the sixteen newest words, oldest first, move on by one. -/
def schedNext (h : Sha2) (l : List Nat) : List Nat :=
  l.tail ++ [(turnsShift h.width h.turnNew (nth l 14 0) + nth l 9 0 + turnsShift h.width h.turnOld (nth l 1 0) + nth l 0 0) % 2 ^ h.width]

/-- One round with its constant: the eight working words move on. -/
def roundNext (h : Sha2) (c m : Nat) (v : List Nat) : List Nat :=
  match v with
  | [a, b, c0, d, e, f, g, k] =>
    let pick := Nat.xor g (Nat.land e (Nat.xor f g))
    let most := Nat.xor (Nat.land a (Nat.xor b c0)) (Nat.land b c0)
    let t := k + turns h.width h.turnE e + pick + c + m
    [(t + turns h.width h.turnA a + most) % 2 ^ h.width, a, b, c0, (d + t) % 2 ^ h.width, e, f, g]
  | _ => v

/-- All rounds of a block. -/
def allRounds (h : Sha2) (cs : List Nat) (w v : List Nat) : List Nat :=
  match cs with
  | [] => v
  | c :: r => allRounds h r (schedNext h w) (roundNext h c (nth w 0 0) v)

/-- The words of a list of bytes, most significant byte first. -/
def beWords (size : Nat) (n : Nat) (bs : List Byte) : List Nat :=
  match n with
  | 0 => []
  | k + 1 => beNat (bs.take size) :: beWords size k (bs.drop size)

/-- The hash value after `n` blocks. -/
def digestBlocks (h : Sha2) (cs : List Nat) (n : Nat) (v : List Nat) (bs : List Byte) : List Nat :=
  match n with
  | 0 => v
  | k + 1 =>
    let size := h.width / 8
    digestBlocks h cs k
      (List.zipWith (fun x y => (x + y) % 2 ^ h.width) v (allRounds h cs (beWords size 16 bs) v)) (bs.drop (16 * size))

/-- A message with its end mark and its length in bits, filled up to whole blocks of sixteen words. -/
def padded (h : Sha2) (bs : List Byte) : List Byte :=
  let size := h.width / 8
  let used := (bs.length + 1 + 2 * size) % (16 * size)
  bs ++ [0x80] ++ zeros ((16 * size - used) % (16 * size)) ++ beBytes (2 * size) (8 * bs.length)

/-- The hash of a message from an initial value. -/
def sha2 (h : Sha2) (init : List Nat) (bs : List Byte) : List Byte :=
  let m := padded h bs
  let cs := ((primesBelow 410).take h.rounds).map (rootFraction 3 h.width)
  (digestBlocks h cs (m.length / (2 * h.width)) init m).flatMap (beBytes (h.width / 8))

/-- SHA-256: its initial value comes from the square roots of the first eight primes. -/
def sha256 (bs : List Byte) : List Byte :=
  sha2 ⟨32, 64, [2, 13, 22], [6, 11, 25], [7, 18, 3], [17, 19, 10]⟩ ([2, 3, 5, 7, 11, 13, 17, 19].map (rootFraction 2 32)) bs

/-- SHA-384: SHA-512 cut to six words, its initial value from the square roots of the ninth to the sixteenth prime. -/
@[irreducible] def sha384 (bs : List Byte) : List Byte :=
  (sha2 ⟨64, 80, [28, 34, 39], [14, 18, 41], [1, 8, 7], [19, 61, 6]⟩
    ([23, 29, 31, 37, 41, 43, 47, 53].map (rootFraction 2 64)) bs).take 48
/-- Each byte of a key block XORed with a pad byte. -/
def xorPad (v : Byte) (bs : List Byte) : List Byte := bs.map (fun b => b ^^^ v)

/-- HMAC-SHA-256 (RFC 2104). -/
def hmac (key msg : List Byte) : List Byte :=
  let k := if key.length > 64 then sha256 key else key
  let k64 := k ++ zeros (64 - k.length)
  sha256 (xorPad 0x5C k64 ++ sha256 (xorPad 0x36 k64 ++ msg))

/-- The first sixteen bytes of HMAC-SHA-256: the tag of R52. -/
def tag16 (key msg : List Byte) : List Byte := (hmac key msg).take 16

/-- The bytes of an ASCII string. -/
def ascii (s : String) : List Byte := s.toList.map (fun c => BitVec.ofNat 8 c.toNat)

/-- Blocks `i`, `i + 1`, ... of the KDF, `n` of them (R520). -/
def kdfBlocks (n i : Nat) (key body : List Byte) : List Byte :=
  match n with
  | 0 => []
  | k + 1 => hmac key (leBytes 4 i ++ body) ++ kdfBlocks k (i + 1) key body

/-- The SP 800-108 counter-mode KDF of R520: `bytes` bytes under `key` for label and context. -/
def kdf (key label context : List Byte) (bytes : Nat) : List Byte :=
  (kdfBlocks ((bytes + 31) / 32) 1 key (label ++ [0] ++ context ++ leBytes 4 (8 * bytes))).take bytes

end Sys2Proof.Machine
end

