-- ==== Sys2Proof/Machine/Cipher.lean ====
section
/-!
DEFINITION. Sys2Proof/Machine/Cipher.lean: the algorithms that chapters 2, 9, 14 and 16 use from other standards, computed: AES with
GCM and CCM* (FIPS 197; Table 14-9, R337), X25519 (RFC 7748), ECDSA on P-256 and P-384 (FIPS 186-5). Log entry 9.
-/
namespace Sys2Proof.Machine
open Sys2Proof

/-! ### AES (FIPS 197) -/

/-- The S-box, a row of sixteen bytes as one number, the first byte the most significant. -/
def sboxRows : List Nat :=
  [0x637c777bf26b6fc53001672bfed7ab76, 0xca82c97dfa5947f0add4a2af9ca472c0,
   0xb7fd9326363ff7cc34a5e5f171d83115, 0x04c723c31896059a071280e2eb27b275,
   0x09832c1a1b6e5aa0523bd6b329e32f84, 0x53d100ed20fcb15b6acbbe394a4c58cf,
   0xd0efaafb434d338545f9027f503c9fa8, 0x51a3408f929d38f5bcb6da2110fff3d2,
   0xcd0c13ec5f974417c4a77e3d645d1973, 0x60814fdc222a908846eeb814de5e0bdb,
   0xe0323a0a4906245cc2d3ac629195e479, 0xe7c8376d8dd54ea96c56f4ea657aae08,
   0xba78252e1ca6b4c6e8dd741f4bbd8b8a, 0x703eb5664803f60e613557b986c11d9e,
   0xe1f8981169d98e949b1e87e9ce5528df, 0x8ca1890dbfe6426841992d0fb054bb16]

/-- A byte through the S-box. -/
def sbox (b : Byte) : Byte := BitVec.ofNat 8 (nth sboxRows (b.toNat / 16) 0 / 256 ^ (15 - b.toNat % 16))

/-- A byte times x in the field of AES. -/
def xtime (b : Byte) : Byte := (b <<< 1) ^^^ (if b.getLsbD 7 then 0x1B else 0)

/-- XOR of two lists of bytes, as long as the shorter one. -/
def xorBytes (a b : List Byte) : List Byte := (a.zip b).map (fun x => x.1 ^^^ x.2)

/-- MixColumns of one column. -/
def mixColumn (a b c d : Byte) : List Byte :=
  let t := a ^^^ b ^^^ c ^^^ d
  [a ^^^ t ^^^ xtime (a ^^^ b), b ^^^ t ^^^ xtime (b ^^^ c), c ^^^ t ^^^ xtime (c ^^^ d), d ^^^ t ^^^ xtime (d ^^^ a)]

/-- MixColumns of a block, column by column. -/
def mixColumns (s : List Byte) : List Byte :=
  match s with
  | a :: b :: c :: d :: r => mixColumn a b c d ++ mixColumns r
  | _ => []

/-- SubBytes and ShiftRows. -/
def subShift (s : List Byte) : List Byte :=
  [0, 5, 10, 15, 4, 9, 14, 3, 8, 13, 2, 7, 12, 1, 6, 11].map (fun i => sbox (nth s i 0))

/-- The word that the key schedule adds at word `i`, from the newest word. -/
def keyTemp (nk i : Nat) (w : List Byte) : List Byte :=
  if i % nk = 0 then xorBytes ((w.drop 1 ++ w.take 1).map sbox) [nth [1, 2, 4, 8, 0x10, 0x20, 0x40, 0x80, 0x1B, 0x36] (i / nk - 1) 0, 0, 0, 0]
  else if nk = 8 ∧ i % nk = 4 then w.map sbox else w

/-- The key schedule, newest word first: `n` more words from word `i`. -/
def keySched (n nk i : Nat) (w : List (List Byte)) : List (List Byte) :=
  match n with
  | 0 => w
  | k + 1 => keySched k nk (i + 1) (xorBytes (nth w (nk - 1) []) (keyTemp nk i (nth w 0 [])) :: w)

/-- A list cut into `n` pieces of `m`. -/
def blocksOf {α : Type} (n m : Nat) (l : List α) : List (List α) :=
  match n with
  | 0 => []
  | k + 1 => l.take m :: blocksOf k m (l.drop m)

/-- The round keys of a key of 16 or 32 bytes. -/
def roundKeys (key : List Byte) : List (List Byte) :=
  let nk := key.length / 4
  blocksOf (nk + 7) 16 ((keySched (4 * (nk + 7) - nk) nk nk (blocksOf nk 4 key).reverse).reverse.flatten)

/-- The rounds of a block after the first key. -/
def aesRounds (ks : List (List Byte)) (s : List Byte) : List Byte :=
  match ks with
  | [] => s
  | [k] => xorBytes (subShift s) k
  | k :: r => aesRounds r (xorBytes (mixColumns (subShift s)) k)

/-- A block of 16 bytes enciphered under round keys. -/
def aesWith (ks : List (List Byte)) (s : List Byte) : List Byte := aesRounds ks.tail (xorBytes s (nth ks 0 []))

/-- AES: a block under a key of 16 or 32 bytes. -/
def aes (key block : List Byte) : List Byte := aesWith (roundKeys key) block

/-! ### GCM (SP 800-38D) -/

/-- Zero bytes up to a whole number of blocks. -/
def padBlock (l : List Byte) : List Byte := l ++ zeros ((16 - l.length % 16) % 16)

/-- One step of the product in GF(2^128): bits of `x` from the most significant, `n` of them left; `v` and the sum so far. -/
def ghashMul (n x v z : Nat) : Nat :=
  match n with
  | 0 => z
  | k + 1 => ghashMul k x (if v % 2 = 1 then Nat.xor (v / 2) (0xE1 * 2 ^ 120) else v / 2) (if x.testBit k then Nat.xor z v else z)

/-- GHASH over `n` blocks. -/
def ghash (n h y : Nat) (l : List Byte) : Nat :=
  match n with
  | 0 => y
  | k + 1 => ghash k h (ghashMul 128 (Nat.xor y (beNat (l.take 16))) h 0) (l.drop 16)

/-- Key stream of `n` blocks from counter `c`, the counter `w` bytes wide after a head. -/
def ctrStream (n w c : Nat) (ks : List (List Byte)) (head : List Byte) : List Byte :=
  match n with
  | 0 => []
  | k + 1 => aesWith ks (head ++ beBytes w c) ++ ctrStream k w (c + 1) ks head

/-- The GCM tag of a ciphertext. -/
def gcmTag (ks : List (List Byte)) (nonce aad ct : List Byte) : List Byte :=
  let l := padBlock aad ++ padBlock ct ++ beBytes 8 (8 * aad.length) ++ beBytes 8 (8 * ct.length)
  xorBytes (beBytes 16 (ghash (l.length / 16) (beNat (aesWith ks (zeros 16))) 0 l)) (aesWith ks (nonce ++ [0, 0, 0, 1]))

/-- The data under the GCM key stream. -/
def gcmCrypt (ks : List (List Byte)) (nonce d : List Byte) : List Byte := xorBytes d (ctrStream ((d.length + 15) / 16) 4 2 ks nonce)

/-- AES-GCM seal with a 12-byte nonce: ciphertext and 16-byte tag (Table 14-9). -/
@[irreducible] def gcmSeal (key nonce aad plain : List Byte) : List Byte :=
  let ks := roundKeys key
  let ct := gcmCrypt ks nonce plain
  ct ++ gcmTag ks nonce aad ct

/-- AES-GCM open: none when the tag fails. -/
@[irreducible] def gcmOpen (key nonce aad data : List Byte) : Option (List Byte) :=
  let ks := roundKeys key
  let ct := data.take (data.length - 16)
  if 16 ≤ data.length ∧ gcmTag ks nonce aad ct = data.drop (data.length - 16) then some (gcmCrypt ks nonce ct) else none

/-! ### CCM* (SP 800-38C with the 13-byte nonce and 2-byte length field of R337) -/

/-- CBC-MAC over `n` blocks. -/
def cbcMac (n : Nat) (ks : List (List Byte)) (y l : List Byte) : List Byte :=
  match n with
  | 0 => y
  | k + 1 => cbcMac k ks (aesWith ks (xorBytes y (l.take 16))) (l.drop 16)

/-- The tag of `m` bytes over additional data and plaintext. -/
def ccmTag (m : Nat) (ks : List (List Byte)) (nonce aad plain : List Byte) : List Byte :=
  let first := [BitVec.ofNat 8 ((if aad = [] then 0 else 64) + 8 * ((m - 2) / 2) + 1)] ++ nonce ++ beBytes 2 plain.length
  let a := if aad = [] then [] else padBlock (beBytes 2 aad.length ++ aad)
  let l := first ++ a ++ padBlock plain
  xorBytes ((cbcMac (l.length / 16) ks (zeros 16) l).take m) (aesWith ks ([1] ++ nonce ++ [0, 0]))

/-- The data under the CCM* key stream. -/
def ccmCrypt (ks : List (List Byte)) (nonce d : List Byte) : List Byte := xorBytes d (ctrStream ((d.length + 15) / 16) 2 1 ks ([1] ++ nonce))

/-- AES-CCM* seal with a tag of `m` bytes: ciphertext and tag (Table 14-9, R337). -/
@[irreducible] def ccmSeal (m : Nat) (key nonce aad plain : List Byte) : List Byte :=
  let ks := roundKeys key
  ccmCrypt ks nonce plain ++ ccmTag m ks nonce aad plain

/-- AES-CCM* open: none when the tag fails. -/
@[irreducible] def ccmOpen (m : Nat) (key nonce aad data : List Byte) : Option (List Byte) :=
  let ks := roundKeys key
  let plain := ccmCrypt ks nonce (data.take (data.length - m))
  if m ≤ data.length ∧ ccmTag m ks nonce aad plain = data.drop (data.length - m) then some plain else none

/-! ### Arithmetic modulo a prime -/

/-- The power `b ^ e` modulo `m`, `n` bits of the exponent, times `acc`. -/
def powMod (n m b e acc : Nat) : Nat :=
  match n with
  | 0 => acc
  | k + 1 => powMod k m (b * b % m) (e / 2) (if e % 2 = 1 then acc * b % m else acc)

/-- The inverse modulo a prime below 2^384. -/
def invMod (p a : Nat) : Nat := powMod 384 p (a % p) (p - 2) 1

/-- The difference modulo `p` of two numbers, the second below `p`. -/
def subMod (p a b : Nat) : Nat := (a + (p - b)) % p

/-! ### X25519 (RFC 7748) -/

/-- The field of curve25519. -/
def p25519 : Nat := 2 ^ 255 - 19

/-- The Montgomery ladder over the `n` low bits of a scalar: the affine x of the point, and two projective points that differ by it. -/
def ladder (n k x xa za xb zb : Nat) : Nat × Nat :=
  match n with
  | 0 => (xa, za)
  | i + 1 =>
    let p := p25519
    let swap := k.testBit i
    let x2 := if swap then xb else xa
    let z2 := if swap then zb else za
    let x3 := if swap then xa else xb
    let z3 := if swap then za else zb
    let a := (x2 + z2) % p
    let b := subMod p x2 z2
    let aa := a * a % p
    let bb := b * b % p
    let e := subMod p aa bb
    let da := subMod p x3 z3 * a % p
    let cb := (x3 + z3) * b % p
    let d := subMod p da cb
    let u2 := aa * bb % p
    let w2 := e * (aa + 121665 * e) % p
    let u3 := (da + cb) * (da + cb) % p
    let w3 := x * (d * d % p) % p
    if swap then ladder i k x u3 w3 u2 w2 else ladder i k x u2 w2 u3 w3

/-- The scalar of 32 bytes, clamped. -/
def clampScalar (s : List Byte) : Nat :=
  let v := leNat (s.take 32) % 2 ^ 254
  v - v % 8 + 2 ^ 254

/-- X25519 of a scalar and the x of a point, each 32 bytes, little-endian (R70, R514, Table 14-4). -/
@[irreducible] def x25519 (scalar point : List Byte) : List Byte :=
  let x := leNat (point.take 32) % 2 ^ 255
  let r := ladder 255 (clampScalar scalar) (x % p25519) 1 0 (x % p25519) 1
  leBytes 32 (r.1 * invMod p25519 r.2 % p25519)

/-- The X25519 public key of a scalar. -/
def x25519Public (scalar : List Byte) : List Byte := x25519 scalar (leBytes 32 9)

/-! ### ECDSA (FIPS 186-5) -/

/-- A curve y^2 = x^3 - 3 x + b over a prime field: its size in bytes, field, b, order and base point. -/
structure Curve where
  size : Nat
  p : Nat
  b : Nat
  n : Nat
  x : Nat
  y : Nat
deriving DecidableEq, Repr

/-- P-256. -/
def curve256 : Curve :=
  { size := 32
    p := 2 ^ 256 - 2 ^ 224 + 2 ^ 192 + 2 ^ 96 - 1
    b := 0x5ac635d8aa3a93e7b3ebbd55769886bc651d06b0cc53b0f63bce3c3e27d2604b
    n := 0xffffffff00000000ffffffffffffffffbce6faada7179e84f3b9cac2fc632551
    x := 0x6b17d1f2e12c4247f8bce6e563a440f277037d812deb33a0f4a13945d898c296
    y := 0x4fe342e2fe1a7f9b8ee7eb4a7c0f9e162bce33576b315ececbb6406837bf51f5 }

/-- P-384. -/
def curve384 : Curve :=
  { size := 48
    p := 2 ^ 384 - 2 ^ 128 - 2 ^ 96 + 2 ^ 32 - 1
    b := 0xb3312fa7e23ee7e4988e056be3f82d19181d9c6efe8141120314088f5013875ac656398d8a2ed19d2a85c8edd3ec2aef
    n := 0xffffffffffffffffffffffffffffffffffffffffffffffffc7634d81f4372ddf581a0db248b0a77aecec196accc52973
    x := 0xaa87ca22be8b05378eb1c71ef320ad746e1d3b628ba79b9859f741e082542a385502f25dbf55296c3a545e3872760ab7
    y := 0x3617de4a96262c6f5d9e98bf9292dc29f8f41dbd289a147ce9da3113b5f0b8c00a60b1ce1d7e819d7a431d7c90ea0e5f }

/-- A point in Jacobian coordinates; z = 0 is the point at infinity. -/
structure JPoint where
  x : Nat
  y : Nat
  z : Nat
deriving DecidableEq, Repr

/-- The double of a point. -/
def jDouble (p : Nat) (a : JPoint) : JPoint :=
  let yy := a.y * a.y % p
  let zz := a.z * a.z % p
  let s := 4 * a.x * yy % p
  let m := 3 * (subMod p a.x zz) * (a.x + zz) % p
  let x := subMod p (m * m) (2 * s % p)
  ⟨x, subMod p (m * subMod p s x) (8 * yy * yy % p), 2 * a.y * a.z % p⟩

/-- The sum of two points. -/
def jAdd (p : Nat) (a b : JPoint) : JPoint :=
  if a.z = 0 then b
  else if b.z = 0 then a
  else
    let za := a.z * a.z % p
    let zb := b.z * b.z % p
    let u := a.x * zb % p
    let s := a.y * zb * b.z % p
    let h := subMod p (b.x * za) u
    let r := subMod p (b.y * za * a.z) s
    if h = 0 then (if r = 0 then jDouble p a else ⟨1, 1, 0⟩)
    else
      let hh := h * h % p
      let hhh := h * hh % p
      let v := u * hh % p
      let x := subMod p (subMod p (r * r) hhh) (2 * v % p)
      ⟨x, subMod p (r * subMod p v x) (s * hhh % p), a.z * b.z * h % p⟩

/-- The multiple of a point by the `n` low bits of a number, from the most significant, added to the doubled sum so far. -/
def jMul (n p k : Nat) (a acc : JPoint) : JPoint :=
  match n with
  | 0 => acc
  | i + 1 =>
    let d := jDouble p acc
    jMul i p k a (if k.testBit i then jAdd p d a else d)

/-- The affine coordinates of a point that is not at infinity. -/
def jAffine (p : Nat) (a : JPoint) : Nat × Nat :=
  let i := invMod p a.z
  let ii := i * i % p
  (a.x * ii % p, a.y * (ii * i % p) % p)

/-- The multiple of an affine point. -/
def curveMul (c : Curve) (k x y : Nat) : JPoint := jMul (8 * c.size) c.p k ⟨x, y, 1⟩ ⟨1, 1, 0⟩

/-- The curve of a size in bits. -/
def curveOf (bits : Nat) : Curve := if bits = 256 then curve256 else curve384

/-- The private key that material gives (Table 14-4). -/
def ecdsaKey (c : Curve) (material : List Byte) : Nat := leNat material % (c.n - 1) + 1

/-- The public key: x and y, little-endian (R7; log entry 9). -/
@[irreducible] def ecdsaPublic (bits : Nat) (material : List Byte) : List Byte :=
  let c := curveOf bits
  let q := jAffine c.p (curveMul c (ecdsaKey c material) c.x c.y)
  leBytes c.size q.1 ++ leBytes c.size q.2

/-- The number of a digest: its leftmost bits, as many as the order has, big-endian. -/
def digestNumber (c : Curve) (digest : List Byte) : Nat := beNat (digest.take c.size)

/-- An ECDSA signature r and s, little-endian, by the free value numbered `free` (log entries 4 and 9). -/
@[irreducible] def ecdsaSign (bits free : Nat) (material digest : List Byte) : List Byte :=
  let c := curveOf bits
  let k := Config.freeValue free % (c.n - 1) + 1
  let r := (jAffine c.p (curveMul c k c.x c.y)).1 % c.n
  let s := invMod c.n k * (digestNumber c digest + r * ecdsaKey c material) % c.n
  leBytes c.size r ++ leBytes c.size s

/-- Whether a signature holds for a digest under a public key, whose length tells the curve (Table 14-9). -/
@[irreducible] def ecdsaVerify (pub digest sig : List Byte) : Bool :=
  let c := curveOf (4 * pub.length)
  let x := leNat (pub.take c.size)
  let y := leNat (pub.drop c.size)
  let r := leNat (sig.take c.size)
  let s := leNat (sig.drop c.size)
  let w := invMod c.n s
  let t := jAdd c.p (curveMul c (digestNumber c digest * w % c.n) c.x c.y) (curveMul c (r * w % c.n) x y)
  pub.length == 2 * c.size && sig.length == 2 * c.size && decide (x < c.p) && decide (y < c.p) &&
    y * y % c.p == subMod c.p (x * x * x + c.b) (3 * x % c.p) && decide (0 < r) && decide (r < c.n) && decide (0 < s) && decide (s < c.n) &&
    t.z != 0 && (jAffine c.p t).1 % c.n == r

end Sys2Proof.Machine
end

