-- ==== Sys2Proof/Machine/State.lean ====
section
/-!
DEFINITION. Sys2Proof/Machine/State.lean: the state of the block as plain data, the fault and refusal reasons, and the state
right after a power-on reset. Every value at reset is the spec's, or is named in log entries 1, 2, 4 and 13.
-/
namespace Sys2Proof.Machine
open Sys2Proof

/-- Why a command stops the block with a fault. No rule of the spec stops the block, and no meaning raises one. -/
inductive Fault where
  /-- Raised by no meaning; safe. It keeps the type inhabited for the interface. -/
  | none
deriving DecidableEq, Repr

/-- Why a command has no meaning. -/
inductive Refusal where
  /-- Raised by the dispatcher for a row that has no meaning yet; safe. -/
  | notModelled (mnemonic : String)
deriving DecidableEq, Repr

end Sys2Proof.Machine

namespace Sys2Proof.Machine
open Sys2Proof

/-- The state of the block: everything the spec gives it, the queue of waiting commands, and the model's own record of what it
puts out (log entries 2, 4 and 7 name the model's own fields: `outs`, `free`, `clockStep`). -/
structure State where
  /-- commands that wait, first in, first out -/
  pending : List Instr
  outs : List Out
  free : Nat
  clockStep : Nat
  sessions : List (Option Session)
  hellos : List (Option HelloWait)
  /-- packets outside any session that wait for the transport: HELLO and ECLIPSE_TRIGGER replies (R72) -/
  txq : List (List Waiting)
  viols : List Viol
  net : List NetPort
  rings : Rings
  spi : Spi
  limiters : List Limiter
  banks : List Bank
  locks : List Nat
  lckForced : Nat
  sqs : List SpillQ
  repl : Repl
  tb : Timebase
  gnss : Gnss
  corr : Corr
  bl : Baseline
  rh : List Head
  mac : MacOwn
  ecl : Eclipse
  trown : TrOwn
  dpown : DpOwn
  pair : Pair
  vault : Vault
  can : Can
  comet : Comet
  pwr : Power
  modes : Modes
  pins : Pins
deriving DecidableEq, Repr

/-- Violation counts of a master at reset (Table 3-9). -/
def Viol.zero : Viol := ⟨0, 0, [], 0, [], 0, 0⟩

/-- The ring registers at reset (Table 2-4). -/
def Rings.zero : Rings := ⟨0, 16, 0, 0, 0, 16, 0, 0, false, false, false, false, 0, true, []⟩

/-- Sixteen words of zero. -/
def words16 : List Nat := List.replicate 16 0

/-- An empty inbound mailbox (Table 3-4). -/
def MbxIn.zero : MbxIn := ⟨words16, words16, false, false⟩

/-- An empty outbound mailbox (Table 3-4). -/
def MbxOut.zero : MbxOut := ⟨words16, false, false, words16, false, false⟩

/-- A bank at reset (Tables 3-4, 3-5). -/
def Bank.zero : Bank :=
  ⟨List.replicate 16 MbxIn.zero, List.replicate 16 MbxOut.zero, 0, 0, 0, false, false, 0, 0, 0⟩

/-- A spill queue at reset (Table 3-8). -/
def SpillQ.zero : SpillQ :=
  ⟨false, none, 0, 0, 0, 0, 4, none, [], 0, 0, false, false, false, false, 0⟩

/-- The Ethernet settings without a stored record (R91). -/
def NetPort.factory (x : Nat) : NetPort := ⟨16, 61360, 0xA9FE0800 + x, 0⟩

/-- Servo parameters for GNSS (Table 4-3). -/
def ServoSet.gnss : ServoSet := ⟨50000, 625000, -1000, 1000, 100, 10000000⟩

/-- Servo parameters for PTP (Table 4-3). -/
def ServoSet.ptp : ServoSet := ⟨20000, 100000, -1000, 1000, 100, 10000000⟩

/-- A pulse output without a program. -/
def Pulse.zero : Pulse := ⟨false, false, false, false, 0, 1000, 10, 0, 0, none, none, false, 0, 0, false, 0, 0⟩

/-- A capture input at reset. -/
def Capture.zero : Capture := ⟨false, false, false, [], false, none⟩

/-- A PTP port at reset: profile off, the defaults of Table 4-5 (priorities: log entry 1). -/
def PtpPort.zero : PtpPort :=
  { profile := 0, flags := 0, domain := 0, logSync := 0, logAnnounce := 1, announceTimeout := 3, priority1 := 128, priority2 := 128,
    state := 3, errors := 0, foreign := [], parent := ⟨0, 0⟩, listenSince := 0, rxSeq := none, txSeq := [0, 0, 0, 0], sync := none,
    lastSync := none, delayReq := none, pdelay := none, pathDelay := 0 }

/-- The timebase after a COLD reset (R136, R140, R148): the RTC's seconds and the calibrated offset of REF_IN. -/
def Timebase.cold (rtc : Nat) (offset : Int) : Timebase :=
  { gtc := 0, st := rtc * 1000000000, stFrac := 0, state := 0, source := 0, stepNeeded := false, stepReport := 0,
    ranking := [1, 2, 3], sources := List.replicate 3 ⟨false, 0, 0, 0, 0⟩,
    samples := List.replicate 3 none, servoGnss := ServoSet.gnss, servoPtp := ServoSet.ptp,
    holdLimit := 14400, sigmaY := 10000, integ := 0, y := -offset, e := 0, lastSample := 0, inLockSince := none,
    lockHist := [], lockEnd := 0, eLock := 1000000000, iAvg := offset * 1000000000000000, holdSince := 0, rtcWritten := 0,
    utcHost := none, utcNav := none, pulses := List.replicate 4 Pulse.zero, tpDriven := true,
    captures := List.replicate 4 Capture.zero, ptp := List.replicate 2 PtpPort.zero,
    latches := List.replicate 5 ⟨0, 0, rtc⟩ }

/-- An antenna port at reset. -/
def GnPort.zero : GnPort := ⟨false, false, false, 0, [0, 0, 0, 0], 0, 0, none, false, false, none, none⟩

/-- The band edges of Table 5-3 relative to the band's centre, in Hz: the default fence of the notch frequency (Table 5-4). -/
def bandEdges (b : Nat) : Int × Int :=
  match b % 4 with
  | 0 => (-23500000, 23500000)
  | 1 => (-19500000, 19500000)
  | 2 => (-27500000, 27500000)
  | _ => (-15500000, 15500000)

/-- A free notch of band stream `b`. -/
def Notch.free (b : Nat) : Notch :=
  ⟨false, 0, 0, none, none, (bandEdges b).1, (bandEdges b).2, 0, 4000, none, none⟩

/-- A band stream at reset. -/
def Band.zero (b : Nat) : Band :=
  ⟨List.replicate 8 (Notch.free b), 0, -2400, 2400, none, 255, none, none, none, none, 80, 12, false, 0, 0, none, none⟩

/-- The loop defaults of Table 5-8 with the coherent integration of Table 5-6 for signal bit `i`. -/
def LoopSet.default (i : Nat) : LoopSet :=
  ⟨if i = 4 ∨ i = 5 then 10 else if i = 18 then 2 else 20, if i = 10 ∨ i = 13 then 2 else 20, 25, 150, 50, 10, [4, 8, 12, 16]⟩

/-- The GNSS path after a COLD reset. -/
def Gnss.zero : Gnss :=
  { ports := List.replicate 4 GnPort.zero, bands := (List.range 16).map Band.zero, enables := 0x7FFFF, elMask := 5,
    alloc := [8, 8, 8, 8], allocPending := none, loops := (List.range 19).map LoopSet.default, chans := [], sats := [],
    bMask := 10, bSpoofHold := 20, bMultipath := 50, bSpoof := 150, bProbe := 80, bClear := 200, bArray := 4,
    arrayFlag := false, spoofCount := 0, refPort := 0, obsQueue := 255, obsDecim := 1, obsPorts := 15, acqPort := 0,
    acqSums := 0, acqCold := 10000, acqAided := 500, acqDone := 0, acqTime := 0, epoch := 0, lastEpoch := none, clockBias := 0,
    timeValid := false }

/-- A survey that has not begun. -/
def Survey.zero : Survey := ⟨false, 0, 0, ⟨0, 0, 0⟩, ⟨0, 0, 0⟩, ⟨0, 0, 0⟩, ⟨0, 0, 0⟩, 0, false, false⟩

/-- Station corrections after a reset of class WARM or stronger (R248). -/
def Corr.zero : Corr :=
  { port := 0, survey := Survey.zero, modeReq := 0, closing := none, cmdPos := none, checkPos := none, lastPos := none, refWas := none,
    aligns := [], timeValid := false, timeSats := 0, scThreshold := 15, scHold := 20,
    scClear := 100, scMinSat := 6, scRatio := 30, scState := 0, e := [none, none, none, none], scFail := 0, scOk := 0,
    scLow := 0, word := 2, inMask := 0x11, inHold := 20, inClear := 100, inCount := 0, inZero := 0, lost := false,
    withheld := false, superseded := 0, withheldEpochs := 0, dropped := 0, changed := none, portSince := none,
    stationDue := false, queue := 255, air := [], ephem := [], turnHost := 0, turnAir := 0 }

/-- The message settings at reset (log entry 1: the spec gives no defaults). -/
def MsgSet.zero : MsgSet := ⟨0, 0, 0, 1, 0, 0, 10, 0⟩

/-- Station settings of a device never configured (log entries 1 and 13). -/
def CorrSet6.zero : CorrSet6 :=
  { mode := 0, adopt := true, adoptLimit := false, minDur := 600, maxDur := 86400, target := 1000, refPos := none,
    height := 0, result := none, originMode := 0, origin := ⟨0, 0, 0⟩, msgs := [MsgSet.zero, MsgSet.zero], elMask := 10,
    stationId := 0, itrf := 0, reduce := true, setupId := 0, antenna := zeros 32, serial := zeros 32 }

/-- The baseline settings of a berth (Table 7-1, R262; the dynamics class: log entry 1). -/
def BlBerth.default : BlBerth := ⟨0, 0, 1, 10, 30⟩

/-- The defaults of BL_PARAM_SET (Tables 7-10 and 7-11, R266, R278, R280). -/
def BlParam.default : BlParam := ⟨30, 8, 5, 20, 10, 1000, 100, 5000, 60, 3⟩

/-- The baseline engine's own state at reset. -/
def Baseline.zero : Baseline :=
  { filters := [], waiting := [], sets := [], gap := 0, gapEpoch := none, cAccepted := 0, cStale := 0, cFuture := 0, cExcess := 0,
    cSuperseded := 0, cMalformed := 0, cNotSolving := 0, cTiming := 0, cExtrapolated := 0, cUnavailable := 0, cShadow := 0,
    recent := [], supersededAt := [], util := 0, decims := [], queue := 255, sources := 0, decim := 1, shadowOn := true, shadowH := 30, shadowV := 60,
    fixSums := [], shadow := [] }

/-- The defaults of OR_CONFIG_SET (Table 9-15; COLOUR: log entry 1). -/
def OrConfig.default : OrConfig := ⟨400, 3, 0, 100, 8, 0x3D, 5, 20, 30, 600, 36000, 10, 5, 12⟩

/-- The default map of R332: a beacon run of `b` units, IDLE elsewhere. -/
def defaultMap (l b : Nat) : List Nat := List.replicate b 1 ++ List.replicate (l - b) 0

/-- The MAC's schedule of a head at reset: the default map at N5 (beacon MCS 3: one unit). -/
def MacHead.default : MacHead :=
  ⟨⟨defaultMap 400 1, 3, 2, 3, 0, 0⟩, none, 0, none, 0, 15, none⟩

/-- The settings of a berth that no OR_BERTH_SET has configured (R360, R361). -/
def BerthSet.default : BerthSet := ⟨1, 3, 10, 15, 0, false⟩

/-- A FREE berth without a history. -/
def Berth.free : Berth :=
  { set := BerthSet.default, state := 0, from_ := 0, machine := 0, session := 0, machineNonce := [], stationNonce := [],
    hasSession := false, air := 0, obs := 0, head := 0, down := 1, up := 0, window := 0, allot := none, pending := none,
    mcs := 0, eirp := 0, snr := [], timing := [], timingSent := false, awaiting := none, queue := [], ctrlSeq := 0,
    missed := 0, accepted := 0, mic := 0, dup := 0, stale := 0, missedTotal := 0, resting := false, leaving := false,
    since := 0, joinOrbit := 0, linkDelivered := false, rejoinSent := false, closeLeft := 0, lastUp := 0,
    fresh := false, linkSent := none, keyEpoch := 0 }

/-- The default fences of link adaptation (Table 9-9). -/
def LinkFence.default : LinkFence := ⟨0, 7, none, -1000, 3600, none⟩

/-- The MAC's replicated state at reset, from a broadcast epoch (R338). -/
def Mac.zero (epoch : Nat) : Mac :=
  ⟨OrConfig.default, List.replicate 4 MacHead.default, [], epoch, 1, [], [], [], []⟩

/-- The arbiter's settings (Table 11-8). -/
def TrConfig.default : TrConfig := ⟨500, 2000, 300, 500, 1500, 2, 16, 1800, 3600⟩

/-- An arbiter that holds nothing. -/
def Arbiter.zero : Arbiter := ⟨[], [], [], [], TrConfig.default, []⟩

/-- A level at reset. -/
def Level.zero : Level := ⟨0, false, false, none, false, none, 0, none⟩

/-- A berth's dispatch settings at reset (Table 12-7). -/
def DpBerth.zero : DpBerth := ⟨false, false, 0, 0, none, 0, 0, false⟩

/-- A dispatcher that holds nothing. -/
def Dispatch.zero : Dispatch := ⟨[], [], List.replicate 64 Level.zero, [], [], 8, 15, 4, 0, [], []⟩

/-- Eclipse after a COLD reset (R401): ECLIPSE with entry cause 10 and sequence 1. -/
def EclCore.cold : EclCore := ⟨1, 1, 10, []⟩

/-- An Eclipse view that shows CLEAR. -/
def EclCore.clear : EclCore := ⟨0, 0, 0, []⟩

/-- The replicated control state after a COLD reset of a device never configured. -/
def Repl.cold : Repl :=
  { armed := 0x0802, corr := CorrSet6.zero, bl := [], blParam := BlParam.default, mac := Mac.zero 0, ecl := EclCore.cold,
    tr := Arbiter.zero, dp := Dispatch.zero, cycleT := 40, ackLimit := 20 }

/-- Head settings at reset: disabled, the leads and lags of Table 8-12 (band and SPI: log entry 1). -/
def HeadSet.zero : HeadSet := ⟨false, false, false, 0, false, 0, 1, 12, 4, 8, 2, 4, 0xFFFF, 0xFFFF⟩

/-- A head at reset. -/
def Head.zero : Head :=
  { set := HeadSet.zero, chans := [], scripts := [], port := 0, delays := [0, 0, 0], learned := [],
    agc := 7, agcLo := -2400, agcHi := 2400, agcFixed := none, joinPeaks := [], chan := none, want := none, test := none, sent := 0,
    delivered := 0, hdrFail := 0, fcsFail := 0, foreign := 0, dropped := 0, limited := 0, notMade := 0, trips := 0,
    seed := 1, tr := false, paen := false, paenSince := 0, txEnd := 0, chanAt := none, gain := 0, irqLast := 0, queue := [],
    result := [], calHold := false }

/-- A head's MAC-side state at reset. -/
def MacLocal.zero : MacLocal := ⟨0, 0, 0, false, 0, false, 0, 0, 0, 0, false, true, 0, [], [(0, 0)]⟩

/-- The MAC's own state after a COLD reset. -/
def MacOwn.zero : MacOwn :=
  { airOffset := 0, lastUnit := none, lastOrbit := none, heads := List.replicate 4 MacLocal.zero,
    joins := [], fails := [], lockouts := [], joinsOk := 0, joinsFailed := 0, kind1 := 0, reservedEpoch := 0,
    mapSent := [0, 0, 0, 0], tooLong := 0, requested := 0, listed := [], stopSent := [],
    dutyReport := [], security := [], heardUp := [] }

/-- A stop identifier that is not in use. -/
def StopId.off : StopId := ⟨0, false, false, 0, 0, none⟩

/-- Eclipse's own state after a COLD reset (R401). The STOP pins stand at the levels of the board's resistors with the cable
open (R615), so both channels demand stop (log entry 1). -/
def Eclipse.cold : Eclipse :=
  { latched := 0x406, entry := 0, before := 0, entries := 1, spotCount := 0, releaseAt := 0, note := 0, stopA := false, stopB := true,
    discSince := none, fault := false, both := false, tFilt := 100, discTime := 50, releaseDelay := 20, mcs := [2, 2, 2, 2],
    ids := List.replicate 4 StopId.off, active := [(1, 8), (2, 9)], burstHeads := 0, triggers := 0 }

/-- A berth's conformance at reset. -/
def Conform.zero : Conform := ⟨false, false, 0, 0, false, false, 0, none, 0, false, 0, none, 3, none⟩

/-- The monitor's own state at reset. -/
def TrOwn.zero : TrOwn := ⟨[], 0, 0, 0, 0, 0, 0, [], 0, []⟩

/-- A berth's dispatcher counters at reset. -/
def DpCount.zero : DpCount := ⟨0, List.replicate 16 0, [0, 0, 0], [], 0, 0⟩

/-- The dispatcher's own state at reset. -/
def DpOwn.zero : DpOwn := ⟨[], 0, 0, [], [], 0, List.replicate 64 0⟩

/-- The pair's own state after a reset of class WARM or stronger, from the stored settings (R503). -/
def Pair.fresh (mode : Nat) (air : Bool) (wait th : Nat) (strap : Bool) (took : Nat) : Pair :=
  { mode := mode, airEvidence := air, joinWait := wait, timeTh := th, role := 0, link := 0, lanes := [false, false],
    partner := none, helloed := false, qualified := false, alone := false, cycle := 0, lastCommitted := 0, decisions := [],
    ackWait := none, lastAck := 0, lastEvidence := 0, lastRenew := 0, lastPin := none, lastDelta := 0, lastCycleEnd := none,
    cyclesOk := 0, cyclesMissed := 0, mismatches := 0, tagDrops := 0, ackLatency := 0, deltas := [], stDiff := 0,
    takeovers := took, viewPrio := EclCore.clear, viewPin := false, pinSince := 0, viewCommitted := EclCore.clear,
    partnerTrigger := false, pinIn := false, hold := none, strapHigh := strap, switchover := none,
    gap := false, seqOut := 0, seqSeen := [], airHeard := 0, airHead := 255, heardCounter := 0, fullRunning := false,
    fullDone := false, deltaNext := none, committed := none, proposed := none, forwards := [], handing := false, handover := none, quietUntil := none,
    digestSeen := false, nonce := none, peerNonce := none, renewSent := 0, renewAt := 0, ackAt := 0, halfTrip := 0 }

/-- A tamper input at a VBAT reset (R535). -/
def TamperIn.zero : TamperIn := ⟨0, 0, 2, false, false, false⟩

/-- An image slot that holds nothing. -/
def Slot.empty : Slot := ⟨[], 0, 0, 0, 0, 0, 0, false, false⟩

/-- The image of firmware 4.2 that the device ships with (00 Table 0-1; log entry 13). -/
def Slot.shipped : Slot := ⟨[], 0, 0x04020000, 0, 0x0402, 7, 0, true, true⟩

/-- The vault of a device in BLANK as it ships (R5, R507; log entry 13). -/
def Vault.shipped : Vault :=
  { lifeFuses := 0xF, life := 0, kill := false, kcv := none, site := none, fused := none, bound := false, complete := false, blown := zeros 41,
    share := none, secCounter := 0, devId := Config.deviceId % 2 ^ 64, nodes := [], gens := [], issues := [], ops := [], cells := [], draws := 0,
    scramble := 0, locked := false,
    openFails := 0, slots := [Slot.shipped, Slot.empty], running := 0, preferred := 0, trial := none,
    trialCount := 0, recovery := false, fw := 0x04020000, bootResult := 0, bootCheck := 0,
    tamper := List.replicate 4 TamperIn.zero, tLocked := false, latch := false, inputs := 0, firstRtc := 0, events := 0,
    standard := false, bootOwed := [], tamperOwed := [] }

/-- The lowest timing of Table 15-1 (log entry 1). -/
def CanTiming.low : CanTiming := ⟨1, 2, 2, 1, 1, 1, 1, 1⟩

/-- A CAN controller at reset. -/
def CanCtl.zero : CanCtl :=
  { mode := 0, flags := 0, tdc := 0, timing := CanTiming.low, state := 0, sync := false, txErr := 0, rxErr := 0, rejects := [],
    ext := [], extHist := [], objs := [], bufs := [], cReceived := 0, cSent := 0, cRejected := 0, cLost := 0, cStuff := 0, cForm := 0,
    cCrc := 0, cBit := 0, cAck := 0, cArb := 0, cBusOff := 0, cNoBrs := 0, delay := 0, detect := none }

/-- The CAN controllers at reset. -/
def Can.zero : Can := ⟨List.replicate 4 CanCtl.zero, 255, 15⟩

/-- One master's window on the log at reset. -/
def Clw.zero : Clw := ⟨0, false, 0, false, 0, false, false, false, zeros 256⟩

/-- The comet log of a device that has recorded nothing; the chain heads follow from Comet.lean at use. -/
def Comet.zero : Comet :=
  { trigs := [], waiting := [], tail := [], seq := 0, general := [], pinned := [], missed := 0, missedSince := 0,
    areas := [⟨false, 0, 0, [], []⟩, ⟨false, 0, 0, [], []⟩],
    validArea := none, flushing := none, lastFailed := false, clw := List.replicate 4 Clw.zero, frozenSince := 0 }

/-- The calibration record of a device never calibrated: every section zero (log entry 13; the lengths of Table 17-11). -/
def calibZero : List (List Byte) := [64, 64, 96, 48, 672, 8, 16, 64].map zeros

/-- The RESET_REPORT payload of a power-on after VBAT loss (Table 17-9): class 5, cause 64, power-cycle count 1, every group
cleared, ECLIPSE, BLANK, verified boot. -/
def reportPowerOn : List Byte :=
  leBytes 8 0 ++ [5, 64, 0xFF, 0xFF] ++ leBytes 4 1 ++ leBytes 4 0 ++ leBytes 4 0x04020000 ++ leBytes 8 (2 ^ 45 - 1)
    ++ [1, 0, 0, 0] ++ leBytes 4 0

/-- Power, reset and calibration after a power-on. -/
def Power.cold : Power :=
  { state := 0, requested := 0, wakeState := 0, wakeTime := 0, owed := none, causes := 0, lastWake := 0, since := 0,
    hostUp := none, wakes := 0, retention := false, powered := 0x3FFF, off := [], refLost := false, perst := false, rtc := 0, hours := 0,
    cycles := 1, portResets := 0, domainResets := 0, warmResets := 0, report := reportPowerOn, resets := [],
    renewals := List.replicate 8 0, wdTimeout := 1000, wdWindow := 60, bites := 0, lastBite := none, bootSince := none,
    renewed := 0, avsV := 750, avsLo := 650, avsHi := 850, avsFixed := none, avsSlack := 0, avsHighSince := none,
    avsNegSince := none, monitors := 0, thWarn := 14000, thLevel := 0, thTop := 2500, thSensor := 0, tripHeld := false,
    eccSramC := 0, eccSramU := 0, eccMemC := 0, eccMemU := 0, calib := calibZero, calUser := false, calCount := 0,
    flash := [], fuse := none, tamperWait := 0 }

/-- The block right after the power-on that follows a VBAT loss (class VBAT, Table 17-8), as it ships (R5). -/
def State.reset : State :=
  { pending := [], outs := [], free := 0, clockStep := 1,
    sessions := List.replicate 5 none, hellos := List.replicate 5 none, txq := List.replicate 5 [],
    viols := List.replicate 5 Viol.zero, net := [NetPort.factory 257, NetPort.factory 258], rings := Rings.zero,
    spi := ⟨[], false⟩, limiters := [], banks := List.replicate 4 Bank.zero, locks := List.replicate 64 0, lckForced := 0,
    sqs := List.replicate 64 SpillQ.zero, repl := Repl.cold, tb := Timebase.cold 0 0, gnss := Gnss.zero, corr := Corr.zero,
    bl := Baseline.zero, rh := List.replicate 4 Head.zero, mac := MacOwn.zero, ecl := Eclipse.cold, trown := TrOwn.zero,
    dpown := DpOwn.zero, pair := Pair.fresh 0 true 50 1000 true 0, vault := Vault.shipped, can := Can.zero,
    comet := Comet.zero, pwr := Power.cold, modes := ⟨0, 0, 3, 0⟩,
    pins := ⟨0, false, false, false, true, true, true, false, true, List.replicate 4 (some false), none,
      List.replicate 4 (some ⟨0, (List.range 12).map (fun e => (decide (e < 6), false, false)), false, false, 0⟩)⟩ }

end Sys2Proof.Machine
end

