-- ==== Sys2Proof/Machine/Keys.lean ====
section
/-!
DEFINITION. Sys2Proof/Machine/Keys.lean: the key tree as the other chapters read it: nodes, their material and the standard nodes (R513 to
R520), the key cache (R523), and the key of the pair link (R477).
-/
namespace Sys2Proof.Machine
open Sys2Proof

/-- Whether the MISSION root can be used: complete, its fuses not cut off by the kill fuse, and its VBAT share held when it is
battery-bound (R511, R515, R516). -/
def rootHeld (s : State) : Bool := s.vault.complete && !s.vault.kill && (!s.vault.bound || s.vault.share.isSome)

/-- Lookup in a table of numbered entries. -/
def look {α : Type} (l : List (Nat × α)) (k : Nat) : Option α := (l.find? (fun e => e.1 == k)).map (fun e => e.2)

/-- Changes the vault. -/
def modVault (f : Vault → Vault) (s : State) : State := { s with vault := f s.vault }

/-! ### The key tree (R513 to R520) -/

/-- The handle of ATTEST (R513). -/
def attestHandle : Nat := 0xFFFFF001

/-- The handle of PROV (R513). -/
def provHandle : Nat := 0xFFFFF002

/-- The identity nodes as NODE_GET shows them (R513; label and depth: log entry 13). -/
def identityNode (h : Nat) : Node := ⟨h, 0, [], if h = attestHandle then 5 else 6, 1, 0, 0, 16, false⟩

/-- The node that holds a handle. -/
def nodeOf (s : State) (h : Nat) : Option Node :=
  if h = attestHandle ∨ h = provHandle then some (identityNode h) else s.vault.nodes.find? (fun n => n.handle == h)

/-- The bytes of material of a usage (Table 14-4). -/
def usageBytes (u : Nat) : Nat := if u = 4 then 40 else if u = 5 then 56 else 32

/-- The MISSION root: fused whole, or the XOR of its two shares (R515). -/
def missionRoot (s : State) : List Byte :=
  let f := s.vault.fused.getD []
  match s.vault.share with
  | none => f
  | some x => if s.vault.bound then (f.zip x).map (fun p => p.1 ^^^ p.2) else f

/-- Material of a node by derivation down its chain (R520). -/
def materialAt (fuel : Nat) (s : State) (h : Nat) : List Byte :=
  match fuel with
  | 0 => []
  | k + 1 =>
    if h = attestHandle ∨ h = provHandle then Config.identity Config.factoryRoot h
    else match nodeOf s h with
      | none => []
      | some n =>
        if n.depth = 0 then missionRoot s
        else kdf (materialAt k s n.parent) n.label (leBytes 1 n.usage ++ leBytes 1 n.depth ++ leBytes 1 n.issue) (usageBytes n.usage)

/-- Material of a node. -/
def material (s : State) (h : Nat) : List Byte := materialAt 7 s h

/-- The child of a node with a label: the VALID one where there is one, else the last one made. -/
def childOf (s : State) (parent : Nat) (label : List Byte) : Option Node :=
  match s.vault.nodes.find? (fun n => n.depth != 0 && n.parent == parent && n.label == label && n.state == 0) with
  | some n => some n
  | none => s.vault.nodes.reverse.find? (fun n => n.depth != 0 && n.parent == parent && n.label == label)

/-- The MISSION root's node. -/
def rootNode (s : State) : Option Node := s.vault.nodes.find? (fun n => n.depth == 0)

/-- The site node (Table 14-5). -/
def siteNode (s : State) : Option Node :=
  (rootNode s).bind (fun r => childOf s r.handle (ascii "SITE" ++ leBytes 4 (s.vault.site.getD 0)))

/-- A standard node below the site node, by label. -/
def siteChild (s : State) (label : List Byte) : Option Node := (siteNode s).bind (fun n => childOf s n.handle label)

/-- The pair node. -/
def pairNode (s : State) : Option Node := siteChild s (ascii "PAIR")

/-- The host-port node of a port. -/
def portNode (s : State) (p : Nat) : Option Node := siteChild s (ascii "HOSTPORT" ++ leBytes 1 p)

/-- The broadcast node. -/
def bcastNode (s : State) : Option Node := siteChild s (ascii "BCAST")

/-- The node of a broadcast epoch. -/
def epochNode (s : State) (e : Nat) : Option Node := (bcastNode s).bind (fun n => childOf s n.handle (leBytes 4 e))

/-- The record-seal node. -/
def sealNode (s : State) : Option Node := siteChild s (ascii "SEAL")

/-- Whether a node may be used: VALID, and reachable (R526, R537). -/
def nodeUsable (s : State) (n : Option Node) : Bool :=
  match n with
  | none => false
  | some n => n.state == 0 && rootHeld s

/-! ### The key cache (R523, R524) -/

/-- How many cells the key of a node takes. -/
def cellsOf (s : State) (h : Nat) : Nat := match nodeOf s h with
  | none => 1
  | some n => if usageBytes n.usage = 32 then 1 else 2

/-- Drops the least recently used keys until the rest fits into `n` cells. -/
def fitCells (s : State) (n : Nat) (l : List (Nat × Nat)) : List (Nat × Nat) :=
  match l with
  | [] => []
  | c :: r => if ((c :: r).map (fun x => cellsOf s x.1)).sum ≤ n then c :: r else fitCells s n r

/-- A use of a key: its material lies in a cell, under a new share s0 (R523); the key used least recently is evicted (DESIGN CHOICE, log
entry 19). -/
def useKey (h : Nat) (s : State) : State :=
  modVault (fun v => { v with
    cells := fitCells s 256 (v.cells.filter (fun c => c.1 != h) ++ [(h, v.draws)])
    draws := v.draws + 1 }) s

/-- A use of the key of a node that is there. -/
def useNode (n : Option Node) (s : State) : State :=
  match n with
  | none => s
  | some n => useKey n.handle s

/-- The two masked shares of a key in a cell: s0 random, s1 the material XOR s0 (R523). -/
def cellShares (s : State) (h : Nat) : Option (List Byte × List Byte) :=
  (look s.vault.cells h).map (fun d =>
    let s0 := (Config.cellMask d).take (material s h).length
    (s0, xorBytes (material s h) s0))

/-- Wipes the cells of a key (R524). -/
def wipeKey (h : Nat) (s : State) : State := modVault (fun v => { v with cells := v.cells.filter (fun c => c.1 != h) }) s

/-! ### The link key (R477, Table 14-6) -/

/-- The link key of two nonces in the order of the device IDs, lower first; none where the pair node cannot be used. -/
def linkKey (s : State) (nonces : List Byte) : Option (List Byte) :=
  if nodeUsable s (pairNode s) then
    some (kdf (material s (((pairNode s).map (fun n => n.handle)).getD 0)) (ascii "PAIRLINK" ++ nonces) [] 32)
  else none

/-- The nonces of two members, lower device ID first. -/
def noncePair (ownId peerId : Nat) (own peer : List Byte) : List Byte := if ownId < peerId then own ++ peer else peer ++ own

/-- The link key of the nonces known now. DESIGN CHOICE (log entry 10): before the partner's nonce is known, zeros stand in its place and
first. -/
def linkKeyNow (s : State) : Option (List Byte) :=
  let own := s.pair.nonce.getD (zeros 16)
  match s.pair.peerNonce with
  | none => linkKey s (zeros 16 ++ own)
  | some n => linkKey s (noncePair s.vault.devId ((s.pair.partner.map (fun p => p.devId)).getD 0) own n)

/-- Bytes 0 to 19 + n of a link message (Table 13-2). -/
def linkBody (m : LinkMsg) : List Byte :=
  leBytes 1 m.type ++ leBytes 1 m.flags ++ leBytes 2 m.payload.length ++ leBytes 4 m.cycle ++ leBytes 4 m.seq ++ leBytes 8 m.gtc.toNat
    ++ m.payload

/-- The tag of a link message: over everything before it, the CRC included. -/
def linkTag (key : List Byte) (m : LinkMsg) : List Byte := tag16 key (linkBody m ++ leBytes 4 m.crc)

/-- A link message with its CRC and its tag. -/
def sealLink (key : List Byte) (m : LinkMsg) : LinkMsg :=
  let c := { m with crc := crc32c (linkBody m) }
  { c with tag := linkTag key c }

end Sys2Proof.Machine
end

