-- ==== Sys2Proof/Machine/Ops.lean ====
section
/-!
DEFINITION. Sys2Proof/Machine/Ops.lean: the operations that every chapter shares: time stamps, free values, the record of outputs,
packets on their way to a master, events with their limits, replies, holding a decision for commit, and the modes and pins
that follow from the rest of the state.
-/
namespace Sys2Proof.Machine
open Sys2Proof

/-- What a meaning answers. -/
abbrev Result := Host.Outcome State Fault Refusal

/-- The GTC of the moment, as the 8 bytes that begin every event payload (R15, R94). DESIGN CHOICE: every block reads one counter; the skew of
up to 2 ns that R137 allows its replicas is 0 (log entry 2). -/
def gtcBytes (s : State) : List Byte := leBytes 8 s.tb.gtc.toNat

/-- Nanoseconds since a stamp (R136). -/
def sinceNs (s : State) (t : Gtc) : Nat := elapsed s.tb.gtc t

/-- A free value of the spec, with the counter advanced (log entry 4). -/
def fresh (s : State) : Nat × State := (Config.freeValue s.free, { s with free := s.free + 1 })

/-- `n` free bytes with the counter advanced. -/
def freshBytes (n : Nat) (s : State) : List Byte × State :=
  (leBytes n (Config.freeValue s.free), { s with free := s.free + 1 })

/-- The block puts something out (log entry 7). -/
def put (o : Out) (s : State) : State := { s with outs := s.outs ++ [o] }

/-- Saturating increment of an unsigned counter of `bits` bits. -/
def satAdd (bits c n : Nat) : Nat := min (c + n) (2 ^ bits - 1)

/-- The session of a master. -/
def sessOf (s : State) (m : Nat) : Option Session := nth s.sessions m none

/-- Changes the session of a master. -/
def modSess (m : Nat) (f : Session → Session) (s : State) : State :=
  { s with sessions := modNth s.sessions m (fun o => o.map f) }

/-- The violation record of a master. -/
def violOf (s : State) (m : Nat) : Viol := nth s.viols m Viol.zero

/-- Changes the violation record of a master. -/
def modViol (m : Nat) (f : Viol → Viol) (s : State) : State := { s with viols := modNth s.viols m f }

/-- Whether a master is frozen (R36). -/
def frozen (s : State) (m : Nat) : Bool := (violOf s m).cause != 0

/-- The bank of a master 0 to 3. -/
def bankOf (s : State) (m : Nat) : Bank := nth s.banks m Bank.zero

/-- Changes the bank of a master. -/
def modBank (m : Nat) (f : Bank → Bank) (s : State) : State := { s with banks := modNth s.banks m f }

/-- An item joins those that wait: an urgent one comes before the first that it overtakes (R81). -/
def enqueueUrgent {α : Type} (urgent : Bool) (overtaken : α → Bool) (x : α) (l : List α) : List α :=
  if urgent then l.takeWhile (fun y => !overtaken y) ++ x :: l.dropWhile (fun y => !overtaken y) else l ++ [x]

/-- Whether an urgent request of `r`'s session overtakes a request that has not started (R81). -/
def overtakes (r q : Req) : Bool := !q.urgent && q.master == r.master && q.sess == r.sess

/-- Inserts or replaces a numbered entry, keeping the numbers rising. -/
def upsert {α : Type} (l : List (Nat × α)) (k : Nat) (v : α) : List (Nat × α) :=
  match l with
  | [] => [(k, v)]
  | e :: r => if k < e.1 then (k, v) :: e :: r else if k = e.1 then (k, v) :: r else e :: upsert r k v

/-- Removes a numbered entry. -/
def erase {α : Type} (l : List (Nat × α)) (k : Nat) : List (Nat × α) := l.filter (fun e => e.1 != k)

/-! ### Life cycle, roles and shown Eclipse state -/

/-- The Eclipse state that a member shows: a STANDBY takes the strongest of its three views (R495). -/
def eclShown (s : State) : Nat :=
  if s.pair.role = 2 then
    if s.pair.viewPin ∨ s.pair.viewPrio.state = 1 ∨ s.pair.viewCommitted.state = 1 then 1
    else if s.pair.viewPrio.state = 2 ∨ s.pair.viewCommitted.state = 2 then 2 else 0
  else s.repl.ecl.state

/-- Whether a domain is powered: not switched off and not held by a reset (R577, R587). -/
def domOn (s : State) (d : Nat) : Bool := bit s.pwr.powered d && !(s.pwr.off.any (fun o => o.dom == d))

/-- A reset becomes due (R90, R510, R596). -/
def askReset (cls cause target master : Nat) (s : State) : State :=
  { s with pwr := { s.pwr with resets := s.pwr.resets ++ [⟨cls, cause, target, master, s.tb.gtc⟩] } }

/-- A wake source of Table 17-5 that is an event arrives in SLEEP (R582). -/
def askWake (code : Nat) (s : State) : State :=
  if s.pwr.state = 3 then { s with pwr := { s.pwr with wakes := putBit s.pwr.wakes code true } } else s

/-- Whether a reaction is armed (R19). -/
def armed (s : State) (id : Nat) : Bool := bit s.repl.armed id

/-! ### Modes (R44 to R49) -/

/-- The radio mode in force and the dimension that forces it (Table 1-11). -/
def radioInForce (s : State) : Nat × Nat :=
  if s.pwr.state = 3 then (0, 4)
  else if domOn s 9 = false ∨ s.vault.recovery = true ∨ s.vault.life = 0xFF then (0, 0)
  else if s.mac.requested = 2 ∧ s.vault.life ≠ 1 then (1, 1)
  else if s.mac.requested = 2 ∧ rootHeld s = false then (1, 0)
  else if s.mac.requested = 2 ∧ s.pair.role = 2 then (1, 2)
  else (s.mac.requested, 0)

/-- The time source in force: 0 GNSS, 1 PTP, 2 HOLDOVER, 3 FREE, and what forces it (Tables 1-10, 4-1). -/
def timeInForce (s : State) : Nat × Nat :=
  if s.pwr.state = 3 then (2, 4)
  else if s.tb.state = 0 then (3, 0)
  else if s.tb.state = 3 ∨ s.tb.state = 4 then (2, 0)
  else if s.tb.source = 1 then (0, 0) else (1, 0)

/-- The modes as the rest of the state gives them. -/
def modesOf (s : State) : Modes :=
  ⟨(radioInForce s).1, (radioInForce s).2, (timeInForce s).1, (timeInForce s).2⟩

/-! ### Pins that follow from the state -/

/-- HOST_WAKE (R104). -/
def hostWake (s : State) : Bool :=
  s.banks.any (fun b => Nat.land b.dblOut b.dblWakeEn != 0 ||
    (List.range 16).any (fun n => (nth b.outb n MbxOut.zero).full && bit b.mbxWakeEn n))

/-- Whether the time-pulse outputs are driven (R155). -/
def tpDrivenOf (s : State) : Bool := s.pair.role != 2 && s.pwr.state != 3 && !s.pair.gap

/-- The level of a time-pulse output: active from a pulse's leading edge to its trailing one (R152); high-impedance while not
driven (R155). -/
def tpLevel (s : State) (p : Pulse) : Option Bool :=
  if tpDrivenOf s then some (p.fall.any (fun f => decide (s.tb.st < f)) != p.activeLow) else none

/-- The width of a pulse on FE_SYSREF in CK_GNSS cycles (R167). -/
def sysrefWidth : Nat := 8

/-- The period of FE_SYSREF's periodic pulses in LMFC periods (R167). -/
def sysrefPeriod : Nat := 64

/-- FE_SYSREF's periodic pulses: they run while a port without SYSREF one-shot is enabled (R167). -/
def sysrefOf (s : State) : Option (Nat × Nat) :=
  if domOn s 4 && s.gnss.ports.any (fun x => x.enable && !x.oneShot) then some (sysrefPeriod, sysrefWidth) else none

/-- One sample on the port: FRM, D0 and D1 at each of its twelve clock edges, rising edge first, most significant bit first
(R298, Table 8-2). -/
def sampleEdges (i q : Int) : List (Bool × Bool × Bool) :=
  (List.range 12).map (fun e => (decide (e < 6), bit (i % 4096).toNat (11 - e), bit (q % 4096).toNat (11 - e)))

/-- What the device drives on the port of head `h`: RHx_TXCLK runs while the head is enabled, with zero samples outside frames (R299);
RHx_PAEN is high only in SERVE or under RH_TEST (R325); nothing is driven where its domain is off (R325). -/
def headPinsOf (s : State) (h : Nat) : Option HeadPins :=
  let x := nth s.rh h Head.zero
  if s.pwr.state = 3 ∨ domOn s (if h < 2 then 7 else 8) = false then none
  else
    let on := x.paen && (s.modes.radio == 2 || x.test.isSome)
    some { txclk := if x.set.enable then (if x.set.rate2 then 12 else 48) else 0, idle := if on then [] else sampleEdges 0 0
           tr := (x.tr && on) != x.set.trLow, paen := on, gain := x.gain }

/-- The pins as the rest of the state gives them: HOST_WAKE (R104), FAULT_N (R531), ECL_OUT (R388, R402),
PAIR_ECL_OUT (R493) and the head ports. -/
def pinsOf (s : State) : Pins :=
  { s.pins with
    hostWake := hostWake s
    faultN := !s.vault.recovery && s.pins.bootSel != 3 && (!s.pwr.tripHeld || s.pwr.state == 3 || bit s.pwr.powered 10)
    eclOut := eclShown s == 0
    tp := s.tb.pulses.map (tpLevel s)
    sysref := sysrefOf s
    heads := (List.range 4).map (headPinsOf s)
    pairEclOut := if s.pair.role = 2 then !s.ecl.active.isEmpty || s.pair.hold.isSome else s.repl.ecl.state != 0 }

/-! ### Outbound items and doorbells -/

/-- Sets bit `b` of DBL_OUT of a host port's bank and raises MSI-X vector 2 where enabled (R113, R115). -/
def dblOutSet (m b : Nat) (s : State) : State :=
  let s1 := modBank m (fun k => { k with dblOut := putBit k.dblOut b true }) s
  if m = 0 ∧ bit (bankOf s 0).dblIrqEn b then put (.msix 2) s1 else s1

/-- The version byte of a session. -/
def versionByte (v : Session) : Nat := v.major * 16 + v.minor

/-- The bytes of a packet without its authentication tag (R50, R51). -/
def packetBytes (p : Packet) : List Byte :=
  let h := leBytes 1 0xEF ++ leBytes 1 p.version ++ leBytes 2 p.opcode ++ leBytes 2 p.tag ++ leBytes 2 p.flags
    ++ leBytes 4 p.seq ++ leBytes 2 p.payload.length ++ leBytes 2 p.status ++ leBytes 4 p.session ++ p.payload
  h ++ leBytes 4 (crc32c h)

/-- The bytes of a packet under a session's key where the session is authenticated (R52, R74). -/
def sealPacket (p : Packet) (key : Option (List Byte)) : List Byte :=
  match key with
  | none => packetBytes p
  | some k => let b := packetBytes { p with flags := putBit p.flags 1 true }; b ++ tag16 k b

/-- The packet of an item with its device sequence. -/
def packetOf (v : Session) (w : Waiting) (seq : Nat) : List Byte :=
  sealPacket ⟨versionByte v, w.opcode, w.tag, w.flags, seq, w.status, v.id, w.payload⟩
    (if v.authenticated && !w.bare then some v.keyOut else none)

/-- The packet of an item that has no session: HELLO and ECLIPSE_TRIGGER replies (R72). -/
def barePacket (w : Waiting) : List Byte := packetBytes ⟨0x23, w.opcode, w.tag, w.flags, 0, w.status, 0, w.payload⟩

/-- Whether an item is an event. -/
def isEvent (w : Waiting) : Bool := bit w.flags 4

/-- The message that is under way once an item has been sent: a fragment with MORE leaves its message open, the last one closes it,
events and urgent replies leave it as it is (R58). -/
def midAfter (v : Session) (w : Waiting) : Option Nat :=
  if isEvent w || (w.urgent && v.mid.isSome && v.mid != some w.tag) then v.mid else if bit w.flags 2 then some w.tag else none

/-- The bytes an item takes as the next packet of a master's session, and the session afterwards: the device sequence
rises, and a packet that carries the last sequence ends the session (R75, R78). -/
def takeSeq (v : Session) (w : Waiting) : List Byte × Session :=
  if w.hello then (packetOf v w 0, v)
  else (packetOf v w v.dev,
    { v with
      dev := v.dev + 1
      mid := midAfter v w
      ending := if v.dev = 0xFFFFFFFF then some ⟨4, none, true⟩ else v.ending })

/-- Whether a session sends nothing more: its last device sequence has been used (R75). -/
def spent (v : Session) : Bool := match v.ending with
  | none => false
  | some e => e.now

/-- The sum of the 16-bit words that bytes spell, the first byte the more significant; an odd last byte is padded with zero. -/
def sum16 (bs : List Byte) : Nat :=
  match bs with
  | [] => 0
  | [a] => 256 * a.toNat
  | a :: b :: r => 256 * a.toNat + b.toNat + sum16 r

/-- A sum folded to 16 bits with its carries added back (one's complement addition). -/
def fold16 (n : Nat) : Nat := let a := n % 65536 + n / 65536; a % 65536 + a / 65536

/-- The one's complement sum of an IPv4 UDP datagram: pseudo-header, header with checksum `c`, data (RFC 768). -/
def udpSum (src dst : UdpAddr) (c : Nat) (data : List Byte) : Nat :=
  fold16 (sum16 (beBytes 4 src.ip ++ beBytes 4 dst.ip) + 17 + 2 * (8 + data.length) + src.port + dst.port + c + sum16 data)

/-- The checksum that the device fills in (R65): never 0, which stands for none. -/
def udpChecksum (src dst : UdpAddr) (data : List Byte) : Nat :=
  let c := 0xFFFF - udpSum src dst 0 data
  if c = 0 then 0xFFFF else c

/-- Whether a received datagram's checksum holds: 0 is not checked (R65). -/
def udpHolds (src dst : UdpAddr) (c : Nat) (data : List Byte) : Bool := c == 0 || udpSum src dst c data == 0xFFFF

/-- The address and UDP port of an Ethernet master's own port (R64, R91). -/
def ownAddr (m : Nat) (s : State) : UdpAddr :=
  ⟨(nth s.net (m - 1) (NetPort.factory 0)).ip, (nth s.net (m - 1) (NetPort.factory 0)).udp⟩

/-- Whether the link carries messages (R476). -/
def linkUp (s : State) : Bool := s.pair.link == 1 || s.pair.link == 2

/-- The next message sequence of the direction. -/
def nextLinkSeq (s : State) : State := { s with pair := { s.pair with seqOut := (s.pair.seqOut + 1) % 2 ^ 32 } }

/-- Sends a link message, on both lanes, while the link carries messages (R476 to R478): LINK_HELLO while a lane is up, every other message
once the exchange has given the key. -/
def sendLink (type : Nat) (prio : Bool) (payload : List Byte) (s : State) : State :=
  match linkKeyNow s with
  | none => s
  | some k =>
    if (type = 1 ∧ s.pair.link ≠ 0) ∨ (linkUp s = true ∧ s.pair.helloed = true) then
      put (.link (sealLink k ⟨type, flag prio, s.pair.cycle, s.pair.seqOut, s.tb.gtc, payload, 0, []⟩)) (nextLinkSeq s)
    else s

/-- A packet leaves over Ethernet with its checksum, or in an EFBEX message of the link (R477). -/
def putPacket (m : Nat) (addr : UdpAddr) (bs : List Byte) (s : State) : State :=
  if m = 4 then sendLink 9 false bs s else put (.packet m addr (udpChecksum (ownAddr m s) addr bs) bs) s

/-- The doorbell bits of an item that becomes waiting: REPLY, the group of an event, RESET_REPORT (R115). -/
def itemBells (m op : Nat) (s : State) : State :=
  if 4 ≤ m then s
  else dblOutSet m (if op < 0xC000 then 0 else op / 256 - 0xC0) (if op = 0xD001 then dblOutSet m 18 s else s)

/-- How many events at the end of a queue carry the GTC of an event and a higher source number; RESET_REPORT lets none pass it
(R17, R77, R589). -/
def laterEvents (w : Waiting) (q : List Waiting) : Nat :=
  (q.reverse.takeWhile (fun x => isEvent x && x.opcode != 0xD001 && x.gtc == w.gtc && decide (w.src < x.src))).length

/-- An item joins the packets that wait: a reply last, an event in the order of GTC and source number (R17, R18). -/
def enqueue (w : Waiting) (q : List Waiting) : List Waiting :=
  let n := q.length - (if isEvent w then laterEvents w q else 0)
  q.take n ++ w :: q.drop n

/-- An item becomes waiting in its session (R82, R115). -/
def sendItem (m : Nat) (w : Waiting) (s : State) : State :=
  match sessOf s m with
  | none => s
  | some v => if spent v then s else itemBells m w.opcode (modSess m (fun v => { v with queue := enqueue w v.queue }) s)

/-- Sends an item that has no session (R72). -/
def sendBare (m : Nat) (w : Waiting) (s : State) : State :=
  if m = 0 ∨ m = 3 then dblOutSet m 0 { s with txq := modNth s.txq m (fun q => q ++ [w]) }
  else putPacket m w.addr (barePacket w) s

/-! ### Mailboxes of a bank -/

/-- The words of a mailbox message (Table 3-3): kind, body length, body padded with zeros. -/
def messageWords (kind : Nat) (body : List Byte) : List Nat :=
  let bs := leBytes 1 kind ++ leBytes 1 body.length ++ zeros 2 ++ body ++ zeros (60 - body.length)
  (List.range 16).map (fun i => leNat ((bs.drop (4 * i)).take 4))

/-- A post to an outbound mailbox (R101 to R103): an unread message is overwritten and collides. -/
def postWords (o : MbxOut) (ws : List Nat) : MbxOut :=
  { o with data := ws, full := true, coll := o.coll || o.full, postedSince := o.postedSince || o.latched }

/-- Whether an event goes to a session: its group bit, group 0x09 and RESET_REPORT always (R87); under major 1 groups
0x10 and 0x11 are masked (R76). -/
def wants (v : Session) (code : Nat) : Bool :=
  let g := code / 256 - 0xC0
  g == 9 || code == 0xD001 || (bit v.mask g && (v.major != 1 || g < 16))

/-- The event item of an event packet (R86). -/
def eventItem (code src : Nat) (payload : List Byte) (addr : UdpAddr) (t : Gtc) : Waiting :=
  { opcode := code, tag := 0, flags := 16, status := 0, via := .transport, addr := addr, payload := payload, bare := false,
    sessionless := false, hello := false, gtc := t, src := src, urgent := false }

/-- Drops the oldest waiting event of a group other than 0x09 (R87). -/
def dropOldest (q : List Waiting) : List Waiting :=
  match q with
  | [] => []
  | w :: r => if isEvent w && w.opcode / 256 != 0xC9 then r else w :: dropOldest r

/-- The events that wait in a session's queue. -/
def eventsWaiting (v : Session) : Nat := (v.queue.filter isEvent).length

/-- One more event of a session is lost; `t` is the GTC of the event (R87). -/
def countLost (t : Gtc) (v : Session) : Session :=
  { v with
    lost := satAdd 32 v.lost 1
    lostTotal := satAdd 32 v.lostTotal 1
    lostSince := if v.lost = 0 then t else v.lostSince }

/-- Makes room for one more event in a session's queue of 256 (R87): the oldest event of a group other than 0x09 goes. -/
def makeRoom (v : Session) : Session :=
  if eventsWaiting v < 256 then v
  else match v.queue.find? (fun w => isEvent w && w.opcode / 256 != 0xC9) with
    | none => v
    | some w => countLost w.gtc { v with queue := dropOldest v.queue }

/-- A notice in outbound mailbox 15 of a bank (R110). -/
def noticeWords (reason tag : Nat) : List Nat := messageWords 2 (leBytes 1 reason ++ zeros 1 ++ leBytes 2 tag)

/-- The notice that something waits on the transport: RESET_REPORT (2) or events (3). It is posted while mailbox 15 of a host port whose
host fetches its packets, PCIe or SPI, is not full (log entry 30: the spec does not say when). -/
def waitNotice (m reason : Nat) (s : State) : State :=
  if (m = 0 ∨ m = 3) ∧ (nth (bankOf s m).outb 15 MbxOut.zero).full = false then
    let s1 := modBank m (fun b => { b with outb := modNth b.outb 15 (fun o => postWords o (noticeWords reason 0)) }) s
    if m = 0 ∧ bit (bankOf s 0).mbxIrqEn 15 then put (.msix 1) s1 else s1
  else s

/-- Delivers an event to the session of one master where it wants it (R87). Where all 256 events that wait are of group 0x09, none of them
is dropped: the new event is lost (log entry 30). -/
def deliver (t : Gtc) (code src : Nat) (payload : List Byte) (m : Nat) (s : State) : State :=
  match sessOf s m with
  | none => s
  | some v =>
    if wants v code = false then s
    else if eventsWaiting (makeRoom v) < 256 then
      waitNotice m (if code = 0xD001 then 2 else 3) (sendItem m (eventItem code src payload v.addr t) (modSess m makeRoom s))
    else modSess m (countLost t) s

/-! ### The comet log's triggers (Table 16-2) -/

/-- The trigger that an event fires. -/
def triggerOf (code : Nat) : Option Nat :=
  look [(0xC102, 14), (0xC103, 14), (0xC105, 13), (0xC110, 24), (0xC111, 23), (0xC112, 15), (0xC203, 53), (0xC301, 25),
    (0xC302, 26), (0xC303, 27), (0xC401, 28), (0xC402, 29), (0xC403, 30), (0xC404, 31), (0xC502, 32), (0xC503, 33),
    (0xC504, 34), (0xC506, 35), (0xC601, 36), (0xC602, 37), (0xC603, 38), (0xC605, 39), (0xC701, 44), (0xC704, 45),
    (0xC801, 40), (0xC802, 41), (0xC803, 42), (0xC804, 51), (0xC805, 43), (0xC901, 8), (0xC902, 9), (0xC903, 10),
    (0xC904, 11), (0xC905, 12), (0xCA01, 46), (0xCA02, 47), (0xCB01, 48), (0xCB02, 49), (0xCB03, 50), (0xCC01, 16),
    (0xCC02, 17), (0xCC03, 18), (0xCC04, 19), (0xCC05, 20), (0xCC06, 21), (0xCC07, 22), (0xCD01, 3), (0xCD03, 6),
    (0xCD04, 5), (0xCD05, 7), (0xCE01, 52), (0xD001, 1), (0xD002, 54), (0xD003, 55), (0xD004, 56), (0xD005, 57),
    (0xD006, 58), (0xD007, 59), (0xD101, 4)] code

/-- The default selection of a trigger (R567). -/
def defaultSelection : List Nat := [0xE0, 0xE1, 0xE2, 0xE3, 0xE4, 0xE5, 0xE6, 0xE7, 0x06, 0x10, 0x11, 0x20]

/-- The settings of a trigger: those of CL_TRIGGER_SET, else the default of Table 16-2. -/
def trigSet (s : State) (id : Nat) : TrigSet :=
  (look s.comet.trigs id).getD ⟨id != 36 && id != 40 && id != 48, defaultSelection⟩

/-- A trigger fires: it waits for recording among at most 16, in the order of GTC and source number (R17), or is missed (R566). -/
def cometOffer (id src : Nat) (payload : List Byte) (s : State) : State :=
  if (trigSet s id).enabled = false then s
  else if s.comet.waiting.length < 16 then
    let n := s.comet.waiting.length - (s.comet.waiting.reverse.takeWhile (fun x => x.gtc == s.tb.gtc && decide (src < x.source))).length
    { s with comet := { s.comet with waiting := s.comet.waiting.take n ++ ⟨id, s.tb.gtc, src, payload, none⟩ :: s.comet.waiting.drop n } }
  else
    { s with comet := { s.comet with missed := satAdd 32 s.comet.missed 1, missedSince := satAdd 16 s.comet.missedSince 1 } }

/-! ### Events -/

/-- Issues an event under a GTC: to every session that wants it (R87), and to the comet log (R566). `src` is its source
number (Table 1-3), `p` the payload after the GTC. -/
def emitAt (t : Gtc) (code src : Nat) (p : List Byte) (s : State) : State :=
  let s1 := [0, 1, 2, 3, 4].foldl (fun a m => deliver t code src (leBytes 8 t.toNat ++ p) m a)
    (put (.event code src (leBytes 8 t.toNat ++ p)) s)
  match triggerOf code with
  | none => s1
  | some id => cometOffer id src p s1

/-- Issues an event under the GTC of the moment (R15). -/
def emit (code src : Nat) (p : List Byte) (s : State) : State := emitAt s.tb.gtc code src p s

/-- Issues an event to every session but one (R75, R94). -/
def emitExcept (m0 code src : Nat) (p : List Byte) (s : State) : State :=
  let s1 := ([0, 1, 2, 3, 4].filter (fun m => m != m0)).foldl (fun t m => deliver s.tb.gtc code src (gtcBytes s ++ p) m t)
    (put (.event code src (gtcBytes s ++ p)) s)
  match triggerOf code with
  | none => s1
  | some id => cometOffer id src p s1

/-- Changes the limiter of one event and instance. -/
def modLim (code key : Nat) (f : Limiter → Limiter) (l : List Limiter) : List Limiter :=
  l.map (fun x => if x.code == code && x.key == key then f x else x)

/-- Issues an event at most once per `period` ns for each instance `key`; `f` is given the count suppressed since the last
report (R29, R34, R135). -/
def limited (code key period : Nat) (f : Nat → State → State) (s : State) : State :=
  match s.limiters.find? (fun l => l.code == code && l.key == key) with
  | none => f 0 { s with limiters := s.limiters ++ [⟨code, key, s.tb.gtc, 0⟩] }
  | some l =>
    if sinceNs s l.last < period then
      { s with limiters := modLim code key (fun x => { x with suppressed := satAdd 16 x.suppressed 1 }) s.limiters }
    else
      f l.suppressed { s with limiters := modLim code key (fun x => { x with last := s.tb.gtc, suppressed := 0 }) s.limiters }

/-- Nanoseconds of one second. -/
def sec : Nat := 1000000000

/-- Nanoseconds of an orbit (R331). -/
def orbitNs (s : State) : Nat := s.repl.mac.cfg.l * 250000

/-- POLICY_LIMIT (R29, R32): source, loop, instance, fence side, quantity, fence value and the value wanted. -/
def policyLimit (src loop inst side qty : Nat) (fence want : Int) (s : State) : State :=
  limited 0xC110 (loop * 65536 + inst) sec (fun n t =>
    emit 0xC110 src (leBytes 1 src ++ leBytes 1 loop ++ leBytes 2 inst ++ leBytes 1 side ++ leBytes 1 qty ++ leBytes 2 n
      ++ leInt 4 fence ++ leInt 4 want) t) s

/-- DISAGREE (R33 to R35): kind, unit, the management view and the data-path view. -/
def disagree (src kind unit mview dview : Nat) (s : State) : State :=
  limited 0xC111 (kind * 65536 + unit) (if s.modes.radio = 0 then 100000000 else orbitNs s) (fun n t =>
    emit 0xC111 src (leBytes 1 kind ++ zeros 1 ++ leBytes 2 unit ++ leBytes 8 mview ++ leBytes 8 dview ++ leBytes 2 n
      ++ zeros 2) t) s

/-- MODE_CHANGE (R48): dimension, old, new, forcing dimension. -/
def modeChange (src dim old new forcing : Nat) (s : State) : State :=
  emit 0xC112 src (leBytes 1 dim ++ leBytes 1 old ++ leBytes 1 new ++ leBytes 1 forcing) s

/-- A post to an outbound mailbox with the wake of its receiver (R103). -/
def postOut (m n : Nat) (ws : List Nat) (s : State) : State :=
  let s1 := modBank m (fun b => { b with outb := modNth b.outb n (fun o => postWords o ws) }) s
  let s2 := if m = 0 ∧ bit (bankOf s 0).mbxIrqEn n then put (.msix 1) s1 else s1
  if 1 ≤ m ∧ m ≤ 3 then
    deliver s.tb.gtc 0xC201 m (gtcBytes s ++ leBytes 1 n ++ leBytes 1 (nth ws 0 0 % 256) ++ zeros 2) m s2
  else s2

/-! ### Sending what waits -/

/-- Whether an item of a mailbox may be posted now: no message of the session is between its fragments, or the reply is urgent (R58). -/
def mailReady (v : Session) (w : Waiting) : Bool :=
  (match w.via with
   | .transport => false
   | .mailbox _ => true) && (v.mid.isNone || w.urgent)

/-- An item leaves: into its mailbox, or as a packet over Ethernet or the link. -/
def sendNow (m : Nat) (s : State) (w : Waiting) : State :=
  match sessOf s m with
  | none => s
  | some v =>
    if spent v then s
    else
      let t := modSess m (fun _ => (takeSeq v w).2) s
      match w.via with
      | .transport => putPacket m w.addr (takeSeq v w).1 t
      | .mailbox i => postOut m i (messageWords 1 (takeSeq v w).1) t

/-- The replies that wait for a mailbox of a bank are posted (R58, R109). -/
def postMail (m : Nat) (s : State) : State :=
  match sessOf s m with
  | none => s
  | some v =>
    (v.queue.filter (mailReady v)).foldl (sendNow m)
      (modSess m (fun v => { v with queue := v.queue.filter (fun w => !mailReady v w) }) s)

/-- What waits leaves at once over a transport that never blocks: UDP and the link. Rings and SPI fetch theirs (R62, R69). -/
def drain (m : Nat) (s : State) : State :=
  if m = 0 ∨ m = 3 then s
  else match sessOf s m with
    | none => s
    | some v => v.queue.foldl (sendNow m) (modSess m (fun v => { v with queue := [] }) s)

/-- Everything of a master's session that can leave now does. -/
def sendOf (m : Nat) (s : State) : State := drain m (postMail m s)

/-! ### Ends of sessions, freezing -/

/-- A session ends, once what can leave has left, and is reported to every other session (R75). -/
def endSession (m reason : Nat) (s0 : State) : State :=
  let s := sendOf m s0
  match sessOf s m with
  | none => s
  | some v =>
    emitExcept m 0xC101 m (leBytes 1 m ++ leBytes 1 reason ++ zeros 2 ++ leBytes 4 v.id)
      { s with sessions := s.sessions.set m none }

/-- A master is frozen with a cause of Table 2-7; a master that is frozen already keeps its cause (R83, R85). -/
def freeze (m cause : Nat) (s : State) : State :=
  if frozen s m then s
  else emit 0xC102 m (leBytes 1 m ++ leBytes 1 cause ++ zeros 2) (modViol m (fun v => { v with cause := cause }) s)

/-- A bad window access (R97): counted, and the master is frozen. -/
def badAccess (m : Nat) (s : State) : State :=
  freeze m 1 (modViol m (fun v => { v with badAccess := satAdd 8 v.badAccess 1 }) s)

/-- A framing error of a master's port (R53). -/
def framingError (m : Nat) (s : State) : State := modViol m (fun v => { v with framing := satAdd 32 v.framing 1 }) s

/-- Something dropped because the master is frozen (R37). -/
def countDrop (m : Nat) (s : State) : State := modViol m (fun v => { v with dropped := satAdd 32 v.dropped 1 }) s

/-! ### Replies -/

/-- The largest payload of a packet on a master's transport (R59; the link: Table 13-2). -/
def maxPayload (m : Nat) (auth : Bool) : Nat :=
  (if m = 0 ∨ m = 3 then 4064 else if m = 4 then 8168 else 1448) - (if auth then 16 else 0)

/-- Cuts a payload into fragments of at most `k` bytes; at least one (R55). -/
def chunks (fuel k : Nat) (p : List Byte) : List (List Byte) :=
  match fuel with
  | 0 => [p]
  | n + 1 => if p.length ≤ k then [p] else p.take k :: chunks n k (p.drop k)

/-- The items of a reply (R55, R74, R86): one per fragment, MORE on every fragment but the last. -/
def replyItems (r : Req) (op st : Nat) (p : List Byte) (auth : Bool) (t : Gtc) : List Waiting :=
  let cs := chunks 65 (maxPayload r.master auth) p
  (List.range cs.length).map (fun i =>
    { opcode := op, tag := r.tag, flags := 1 + (if i + 1 < cs.length then 4 else 0), status := st, via := r.via, addr := r.addr,
      payload := nth cs i [], bare := false, sessionless := false, hello := false, gtc := t, src := 0,
      urgent := r.urgent || op / 256 == 9 })

/-- Whether a reply's packet fits a mailbox body (R109). -/
def fitsMailbox (v : Session) (w : Waiting) : Bool := decide (24 + w.payload.length + (if v.authenticated then 16 else 0) ≤ 60)

/-- Sends the reply to a mailbox packet: towards the matching mailbox when its packet has at most 60 bytes, else over the transport with
a notice in mailbox 15 (R109, R110). -/
def mailboxReply (m i : Nat) (ws : List Waiting) (s : State) : State :=
  match sessOf s m, ws with
  | some v, [w] =>
    if spent v then s
    else if fitsMailbox v w then sendItem m { w with via := .mailbox i } s
    else postOut m 15 (noticeWords 1 w.tag) (sendItem m { w with via := .transport } s)
  | _, w :: _ => postOut m 15 (noticeWords 1 w.tag) (ws.foldl (fun t x => sendItem m { x with via := .transport } t) s)
  | _, [] => s

/-- Sends a reply that has no session back the way its request came (R72, R109). -/
def bareReply (m : Nat) (w : Waiting) (s : State) : State :=
  match w.via with
  | .transport => sendBare m w s
  | .mailbox i =>
    if 24 + w.payload.length ≤ 60 then postOut m i (messageWords 1 (barePacket w)) s
    else postOut m 15 (noticeWords 1 w.tag) (sendBare m w s)

/-- Sends a reply's items back the way the request came (R66, R109). -/
def sendReply (m : Nat) (via : Via) (ws : List Waiting) (s : State) : State :=
  match via with
  | .transport => ws.foldl (fun t x => sendItem m { x with via := .transport } t) s
  | .mailbox i => mailboxReply m i ws s

/-- The reply to a request: recorded, and for a request of a session taken off the outstanding requests, cached among the
last 16 and sent (R66, R72, R79, R80). A request without a session ID of its own is a row's direct command (log entry 5). -/
def reply (r : Req) (op st : Nat) (p : List Byte) (s : State) : State :=
  match r.sess with
  | none => put (.reply r.master op r.tag st p) s
  | some 0 =>
    bareReply r.master ⟨op, r.tag, 1, st, r.via, r.addr, p, true, true, false, s.tb.gtc, 0, r.urgent⟩
      (put (.reply r.master op r.tag st p) s)
  | some sid =>
    match sessOf s r.master with
    | none => s
    | some v =>
      if v.id = sid then
        let ws := replyItems r op st p v.authenticated s.tb.gtc
        sendReply r.master r.via ws (modSess r.master (fun v => { v with
          outstanding := v.outstanding.filter (fun o => !(o.tag == r.tag && o.seq == r.seq)),
          cache := ((r.seq, ws) :: v.cache).take 16 }) (put (.reply r.master op r.tag st p) s))
      else s

/-! ### Requests -/

/-- What a command's own checks and effect answer: a reply now, or later (held for commit, a flash or fuse write, a
script). -/
inductive Ans where
  /-- status and payload of the reply -/
  | reply (st : Nat) (p : List Byte) (s : State)
  /-- the reply comes with a later row -/
  | later (s : State)

/-- Whether the master is refused for its freeze: all but ECLIPSE_TRIGGER and SPOT_STOP (R37, R38). -/
def frozenOut (op : Nat) (r : Req) (s : State) : Bool := frozen s r.master && op != 0x0901 && op != 0x0903

/-- Whether authentication is missing: for a command marked "always" in every state, for the others in MISSION but for
HELLO phase 1, GOODBYE, GET_INFO and ECLIPSE_TRIGGER (R73). -/
def authMissing (op : Nat) (always : Bool) (r : Req) (s : State) : Bool :=
  !r.auth && (always || (s.vault.life == 1 && op != 0x0101 && op != 0x0102 && op != 0x0103 && op != 0x0901))

/-- Whether the boot ROM serves the request while no image runs: HELLO, GET_INFO, RESET, FW_WRITE and FW_ACTIVATE alone, on the
PCIe and SPI ports (R531). -/
def recoveryOut (op : Nat) (r : Req) (s : State) : Bool :=
  s.vault.recovery && !((r.master == 0 || r.master == 3) && [0x0101, 0x0103, 0x0104, 0x0D0A, 0x0D0B].contains op)

/-- The session a request belongs to. -/
def reqSess (r : Req) (s : State) : Option Session :=
  match r.sess with
  | none => none
  | some sid => if sid = 0 then none else (sessOf s r.master).filter (fun v => v.id == sid)

/-- Steps 9 to 11 of R54: the status that refuses the request, in their order. -/
def refusal (op : Nat) (always : Bool) (r : Req) (s : State) : Option Nat :=
  if recoveryOut op r s then some 0x1004
  else if frozenOut op r s then some (0x7F00 + (violOf s r.master).cause)
  else if authMissing op always r s then some 0x6001
  else match reqSess r s with
    | none => none
    | some v =>
      if v.outstanding.length ≥ 32 then some 0x3001
      else if v.outstanding.any (fun o => o.tag == r.tag) then some 0x1009 else none

/-- The request becomes outstanding in its session (R80). -/
def accept (op : Nat) (r : Req) (s : State) : State :=
  match reqSess r s with
  | none => s
  | some _ => modSess r.master (fun v => { v with outstanding := v.outstanding ++ [⟨r.tag, op, r.seq⟩] }) s

/-- An answer becomes a state: the reply is sent, or awaited. -/
def finish (r : Req) (op : Nat) (a : Ans) : State :=
  match a with
  | .reply st p t => reply r op st p t
  | .later t => t

/-- Whether Efbex is carried: in RUN, DOZE and NAP while PD_CTRL runs, and never in SCRAP (R512, R579, R587). -/
def efbexRuns (s : State) : Bool := decide (s.pwr.state ≤ 2) && domOn s 10 && s.vault.life != 0xFF

/-- A command: steps 9 to 11 of R54, then its own checks and effect. Nothing happens while Efbex is not carried. -/
def runCommand (op : Nat) (always : Bool) (r : Req) (body : State → Ans) (s : State) : State :=
  if efbexRuns s = false then s
  else match refusal op always r s with
    | some st => reply r op st [] s
    | none => finish r op (body (accept op r s))

/-! ### Decisions that wait for the commit (R13, R22, R484) -/

/-- A decision enters the running commit cycle. -/
def hold (src : Nat) (what : Decision) (s : State) : State :=
  { s with pair := { s.pair with decisions := s.pair.decisions ++ [⟨s.tb.gtc, src, what⟩] } }

/-! ### After every command -/

/-- Entry of the radio mode into SERVE: but for takeover and switchover the broadcast epoch advances (R338) and the first
beacon carries no go-lease (R345, R498); and a full Eclipse burst goes out while the state is not CLEAR (R400). -/
def serveEntry (bump : Bool) (s : State) : State :=
  let repl := if bump then
      { s.repl with mac := { s.repl.mac with bepoch := (s.repl.mac.bepoch + 1) % 2 ^ 32, bcounter := 1 } } else s.repl
  let burst := if eclShown s = 0 then 0 else 40
  let e := if bump then (s.repl.mac.bepoch + 1) % 2 ^ 32 else s.repl.mac.bepoch
  { s with
    repl := repl
    mac := { s.mac with
      reservedEpoch := if e < s.mac.reservedEpoch then s.mac.reservedEpoch else max s.mac.reservedEpoch e + 64
      heads := s.mac.heads.map (fun h => { h with
        burst := burst
        burstSince := s.tb.gtc
        first := bump
        eclAir := if burst = 0 then h.eclAir else false }) } }

/-- Leaving LISTEN ends a running RH_TEST with cause 3 (R328). -/
def endTests (s : State) : State :=
  (List.range 4).foldl (fun t h =>
    match (nth t.rh h Head.zero).test with
    | none => t
    | some x => emit 0xC703 (20 + h) (leBytes 1 h ++ leBytes 1 3 ++ zeros 2 ++ leBytes 4 x.sent)
        { t with rh := modNth t.rh h (fun y => { y with test := none }) }) s

/-- The number of an entry's bucket at an air time in ns (R370). -/
def bucketNum (e : SubBand) (air : Nat) : Nat := air * 60 / (max e.window 1 * 1000000000)

/-- A meter whose bucket `num` becomes `n`: the buckets between are empty (R370). -/
def rollMeter (n : Nat) (m : Meter) : Meter :=
  if n ≤ m.num then m
  else { m with
    buckets := (List.replicate (min (n - m.num) 60) 0 ++ m.buckets).take 60
    num := n }

/-- The entries that the meters belong to: after a WARM reset those of before, until the next reload (R371, R375). -/
def meterSubs (m : Mac) : List SubBand := if m.subs.isEmpty then m.oldSubs else m.subs

/-- Air time jumps from one value to another: the bucket in progress ends at the jump (R370). -/
def jumpMeters (old new : Nat) (s : State) : State :=
  let meters := (List.range s.repl.mac.meters.length).map (fun i =>
    let e := nth (meterSubs s.repl.mac) i ⟨0, 0, 0, 60, 0, false, 0⟩
    let m := rollMeter (bucketNum e old) (nth s.repl.mac.meters i ⟨[], 0, 0, 0⟩)
    { m with
      buckets := (0 :: m.buckets).take 60
      num := bucketNum e new })
  { s with repl := { s.repl with mac := { s.repl.mac with meters := meters } } }

/-- The radio mode in force follows its sources (R44 to R48, R330). `bump`: an entry into SERVE advances the broadcast
epoch; `quiet`: a command asked for the change, so no MODE_CHANGE is due. -/
def radioStep (bump quiet : Bool) (s : State) : State :=
  let n := radioInForce s
  if n.1 = s.modes.radio then { s with modes := { s.modes with radioForce := n.2 } }
  else
    let s1 := { s with modes := { s.modes with radio := n.1, radioForce := n.2 } }
    let s2 :=
      if s.modes.radio = 0 then
        let s0 := if s1.mac.airOffset = 0 then s1
          else jumpMeters (((s1.tb.st : Int) - s1.mac.airOffset).toNat) s1.tb.st s1
        { s0 with mac := { s0.mac with airOffset := 0, lastUnit := none, lastOrbit := none } }
      else s1
    let s3 := if n.1 = 2 then serveEntry bump s2 else s2
    let s4 := if s.modes.radio = 1 then endTests s3 else s3
    if quiet then s4 else modeChange 33 5 s.modes.radio n.1 n.2 s4

/-- The time source in force follows the timebase and the power state (R44, R48). -/
def timeStep (s : State) : State :=
  let n := timeInForce s
  let s1 := { s with modes := { s.modes with time := n.1, timeForce := n.2 } }
  if n.1 = s.modes.time then s1 else modeChange 31 6 s.modes.time n.1 n.2 s1

/-- Everything that can leave now does. -/
def sendStep (s : State) : State := [0, 1, 2, 3, 4].foldl (fun t m => sendOf m t) s

/-- The reply of a GOODBYE goes out once it is the oldest request outstanding (R75, Table 2-11). -/
def goodbyeStep (m : Nat) (s : State) : State :=
  match (sessOf s m).bind (fun v => v.ending.bind (fun e => e.req.map (fun r => (r, v.outstanding)))) with
  | none => s
  | some (r, o :: _) =>
    if o.tag = r.tag ∧ o.seq = r.seq then
      reply r 0x0102 0 [] (modSess m (fun v => { v with ending := v.ending.map (fun e => { e with req := none }) }) s)
    else s
  | some (_, []) => s

/-- Whether a session that is bound to end ends now (R75): its last device sequence is used; or its GOODBYE, or every request,
has its reply sent. -/
def endsNow (v : Session) (e : Ending) : Bool :=
  e.now || (e.req.isNone && (e.reason == 1 || v.outstanding.isEmpty) && (v.queue.filter (fun w => !isEvent w)).isEmpty)

/-- The session of one master ends if it was bound to and the time has come (R75). -/
def endingOf (m : Nat) (s : State) : State :=
  let s1 := sendOf m (goodbyeStep m s)
  match sessOf s1 m with
  | none => s1
  | some v =>
    match v.ending with
    | none => s1
    | some e => if endsNow v e then endSession m e.reason s1 else s1

/-- Sessions that were bound to end once every earlier reply had gone end now (R75). -/
def endingStep (s : State) : State := [0, 1, 2, 3, 4].foldl (fun t m => endingOf m t) s

/-- The pins and modes take the values that the rest of the state gives them. -/
def agreeStep (s : State) : State :=
  let s1 := { s with tb := { s.tb with tpDriven := tpDrivenOf s } }
  let s2 := { s1 with modes := modesOf s1 }
  { s2 with pins := pinsOf s2 }

/-- Whether a berth is idle (R450); a task whose assignment waits for its commit is held already (log entry 17). -/
def isIdle (s : State) (b : Nat) (d : DpBerth) : Bool :=
  (match look s.repl.mac.berths b with
   | none => false
   | some x => x.state == 2 && !x.resting) &&
  d.available && !(s.repl.dp.tasks.any (fun t => t.berth == some b)) &&
  !(match look s.repl.ecl.spots b with
    | none => false
    | some x => x.inForce)

/-- The idle time of every berth follows its state (R450). -/
def idleStep (s : State) : State :=
  { s with repl := { s.repl with dp := { s.repl.dp with berths := s.repl.dp.berths.map (fun e =>
    (e.1, { e.2 with idleSince := if isIdle s e.1 e.2 then
      (if e.2.idleSince.isSome then e.2.idleSince else some s.tb.gtc) else none })) } } }

/-- What follows every command (log entry 14): idle times follow, the modes in force follow their sources with their reports,
sessions that were bound to end leave, what can be sent is sent, the pins follow. -/
def settle (s : State) : State := agreeStep (sendStep (endingStep (timeStep (radioStep true false (idleStep s)))))

/-- A command's answer: the next state, settled. -/
def done (s : State) : Result := .next (settle s)

end Sys2Proof.Machine
end

