-- ==== Sys2Proof/Machine/Operands.lean ====
section
/-!
DEFINITION. Sys2Proof/Machine/Operands.lean: the fields of a request payload (R7, R8), and the checks of R54 step 12 in their
order.
-/
namespace Sys2Proof.Machine
open Sys2Proof

/-- The unsigned field of `n` bytes at offset `o` (R7); bytes beyond the end read 0. -/
def uN (n : Nat) (p : List Byte) (o : Nat) : Nat := leNat ((p.drop o).take n)

/-- One byte. -/
def u8 (p : List Byte) (o : Nat) : Nat := uN 1 p o
/-- Two bytes. -/
def u16 (p : List Byte) (o : Nat) : Nat := uN 2 p o
/-- Four bytes. -/
def u32 (p : List Byte) (o : Nat) : Nat := uN 4 p o
/-- Eight bytes. -/
def u64 (p : List Byte) (o : Nat) : Nat := uN 8 p o

/-- The signed field of `n` bytes at offset `o`. -/
def iN (n : Nat) (p : List Byte) (o : Nat) : Int := toSigned n (uN n p o)

/-- The bytes from offset `o`, `n` of them. -/
def sub (p : List Byte) (o n : Nat) : List Byte := (p.drop o).take n

/-- Whether the `n` bytes at offset `o` are all 0 (a reserved field, R9). -/
def zeroAt (p : List Byte) (o n : Nat) : Bool := (sub p o n).all (fun b => b == 0)

/-- Whether bits `k` and above of a value are 0 (reserved bits, R9). -/
def bitsBelow (v k : Nat) : Bool := v < 2 ^ k

/-- Whether a value lies in a range. -/
def within (v lo hi : Nat) : Bool := lo ≤ v && v ≤ hi

/-- Whether a signed value lies in a range. -/
def withinI (v lo hi : Int) : Bool := lo ≤ v && v ≤ hi

/-- Whether no element occurs twice. -/
def noRepeat (l : List Nat) : Bool :=
  match l with
  | [] => true
  | a :: r => !r.contains a && noRepeat r

/-- A check against the state of the device: the status it gives when it fails. -/
def failIf (b : Bool) (st : Nat) : List Nat := if b then [st] else []

/-- The checks of R54 step 12: length, reserved fields, ranges, an item named twice; then the checks against the state of
the device, of which the device picks one where several fail (a free value, log entry 4). -/
def checked (size reserved range unique : Bool) (states : List Nat) (s : State) (k : State → Ans) : Ans :=
  if size = false then .reply 0x4004 [] s
  else if reserved = false then .reply 0x4001 [] s
  else if range = false then .reply 0x4002 [] s
  else if unique = false then .reply 0x4005 [] s
  else match states with
    | [] => k s
    | [st] => .reply st [] s
    | st :: _ => .reply (nth states ((fresh s).1 % states.length) st) [] (fresh s).2

/-- The reply to a setting command: 0x0102 when nothing differs, 0x0000 otherwise (R88). -/
def changed (same : Bool) : Nat := if same then 0x0102 else 0

/-- The words of a list of bytes, four bytes each. -/
def words (n : Nat) (p : List Byte) : List Nat := (List.range n).map (fun i => u32 p (4 * i))

/-- The integer square root of `v` when it lies below 2^`n`; `acc` is what was found so far. -/
def isqrt (n v acc : Nat) : Nat :=
  match n with
  | 0 => acc
  | k + 1 => if (acc + 2 ^ k) * (acc + 2 ^ k) ≤ v then isqrt k v (acc + 2 ^ k) else isqrt k v acc

end Sys2Proof.Machine
end

