-- ==== Sys2Proof/Machine/Geo.lean ====
section
/-!
DEFINITION. Sys2Proof/Machine/Geo.lean: the geometry that chapters 5 to 7 share: the site-grid rotation of R222, directions, and the least-squares
solutions of R225, in whole numbers. Lengths are in 0.1 mm, sines and cosines in 2^-60, unit vectors in 2^-30.
-/
namespace Sys2Proof.Machine
open Sys2Proof

/-- A vector of three whole numbers. -/
abbrev V3 := Int × Int × Int

/-- The inner product. -/
def dot3 (a b : V3) : Int := a.1 * b.1 + a.2.1 * b.2.1 + a.2.2 * b.2.2

/-- The sum of two vectors. -/
def add3 (a b : V3) : V3 := (a.1 + b.1, a.2.1 + b.2.1, a.2.2 + b.2.2)

/-- The difference of two vectors. -/
def sub3 (a b : V3) : V3 := (a.1 - b.1, a.2.1 - b.2.1, a.2.2 - b.2.2)

/-- The length of a vector, rounded down. -/
def len3 (a : V3) : Nat := isqrt 128 (dot3 a a).toNat 0

/-- A vector with each component divided and rounded. -/
def div3 (a : V3) (d : Nat) : V3 := (roundDiv a.1 d, roundDiv a.2.1 d, roundDiv a.2.2 d)

/-- A vector times a number. -/
def scale3 (k : Int) (a : V3) : V3 := (k * a.1, k * a.2.1, k * a.2.2)

/-- The components of a point. -/
def ecefV (p : Ecef) : V3 := (p.x, p.y, p.z)

/-- The point of three components. -/
def vEcef (v : V3) : Ecef := ⟨v.1, v.2.1, v.2.2⟩

/-! ### The WGS 84 ellipsoid (R222) -/

/-- The semi-major axis of WGS 84 in 0.1 mm. -/
def wgsA : Nat := 63781370000

/-- The numerator of the squared eccentricity f (2 - f), with 1/f = 298.257223563. -/
def wgsE2num : Nat := (2 * 298257223563 - 1000000000) * 1000000000

/-- Its denominator. -/
def wgsE2den : Nat := 298257223563 * 298257223563

/-- Sine and cosine of the geodetic latitude and longitude. -/
structure Geodetic where
  sinLat : Int
  cosLat : Int
  sinLon : Int
  cosLon : Int
deriving DecidableEq, Repr

/-- One step towards the latitude: from its sine to the sine and cosine of the next, for a distance from the axis and a height over the
equator in 0.1 mm x 2^-20. -/
def latStep (p z : Int) (sc : Int × Int) : Int × Int :=
  let one : Nat := 2 ^ 120
  let n2 := (wgsA * wgsA * 2 ^ 40) * (wgsE2den * one) / (wgsE2den * one - wgsE2num * (sc.1 * sc.1).toNat)
  let n := isqrt 80 n2 0
  let t := z + (n : Int) * sc.1 * (wgsE2num : Int) / ((wgsE2den * 2 ^ 60 : Nat) : Int)
  let h := isqrt 80 (p * p + t * t).toNat 0
  if h = 0 then sc else (roundDiv (t * 2 ^ 60) h, roundDiv (p * 2 ^ 60) h)

/-- Geodetic latitude and longitude of a point on WGS 84, by twelve steps that each gain two digits (R222). -/
def geodetic (o : Ecef) : Geodetic :=
  let p0 := isqrt 80 ((o.x * o.x + o.y * o.y).toNat * 2 ^ 40) 0
  let z := o.z * 2 ^ 20
  let sc := (List.range 12).foldl (fun a _ => latStep (p0 : Int) z a) ((0 : Int), (2 ^ 60 : Int))
  if p0 = 0 then ⟨sc.1, sc.2, 0, 2 ^ 60⟩
  else ⟨sc.1, sc.2, roundDiv (o.y * 2 ^ 80) p0, roundDiv (o.x * 2 ^ 80) p0⟩

/-- The rotation of an ECEF vector into east, north and up at a latitude and longitude, in the vector's unit x 2^-60 (R222). -/
def enuOf (g : Geodetic) (d : V3) : V3 :=
  let r := (-g.sinLon * d.1 + g.cosLon * d.2.1)
  let a := g.cosLon * d.1 + g.sinLon * d.2.1
  (r, roundDiv (-g.sinLat * a) (2 ^ 60) + g.cosLat * d.2.2, roundDiv (g.cosLat * a) (2 ^ 60) + g.sinLat * d.2.2)

/-- The rotation back: a vector in east, north and up as ECEF, in the vector's unit. -/
def ecefOf (g : Geodetic) (v : V3) : V3 :=
  let h := roundDiv (-g.sinLat * v.2.1 + g.cosLat * v.2.2) (2 ^ 60)
  (roundDiv (-g.sinLon * v.1 + g.cosLon * h) (2 ^ 60), roundDiv (g.cosLon * v.1 + g.sinLon * h) (2 ^ 60),
    roundDiv (g.cosLat * v.2.1 + g.sinLat * v.2.2) (2 ^ 60))

/-- The site grid: east, north and up of a point from the origin, in mm (R222). -/
def siteGrid (origin pt : Ecef) : V3 :=
  div3 (enuOf (geodetic origin) (sub3 (ecefV pt) (ecefV origin))) (10 * 2 ^ 60)

/-- The unit vector from a station to a point, east, north and up in axes `g`, in 2^-30 (R202). -/
def direction (g : Geodetic) (station pt : Ecef) : V3 :=
  let d := enuOf g (sub3 (ecefV pt) (ecefV station))
  div3 (scale3 (2 ^ 30) d) (max (len3 d) 1)

/-! ### Angles -/

/-- The angles of tangent 2^-i, i = 0, 1, ..., in 2^-48 of a turn. -/
def cordicAngles : List Int :=
  [35184372088832, 20770547670515, 10974586953444, 5570871696862, 2796246208089, 1399486241028, 699913886760, 349978300884,
   174991820497, 87496244017, 43748163730, 21874087080, 10937044192, 5468522177, 2734261099, 1367130551, 683565276, 341782638,
   170891319, 85445659, 42722830, 21361415, 10680707, 5340354, 2670177, 1335088, 667544, 333772, 166886, 83443, 41722, 20861]

/-- One turn towards the axis: x, y, the angle so far and the divisor 2^i. -/
def cordicStep (a : Int × Int × Int × Int) (t : Int) : Int × Int × Int × Int :=
  if 0 ≤ a.2.1 then (a.1 + a.2.1 / a.2.2.2, a.2.1 - a.1 / a.2.2.2, a.2.2.1 + t, 2 * a.2.2.2)
  else (a.1 - a.2.1 / a.2.2.2, a.2.1 + a.1 / a.2.2.2, a.2.2.1 - t, 2 * a.2.2.2)

/-- The angle of (x, y) against the first axis in 0.01 degree, from -18000 to 18000. -/
def angleOf (x y : Int) : Int :=
  let flip := x < 0
  let k : Int := 2 ^ 40
  let r := cordicAngles.foldl cordicStep ((if flip then -x else x) * k, (if flip then -y else y) * k, 0, 1)
  let a := roundDiv (r.2.2.1 * 36000) (2 ^ 48)
  if flip then (if 0 ≤ y then a + 18000 else a - 18000) else a

/-- Azimuth of a direction in 0.01 degree, 0 to 35,999, from north through east. -/
def azimuthOf (u : V3) : Nat := (angleOf u.2.1 u.1 % 36000).toNat

/-- Elevation of a direction in 0.01 degree. -/
def elevationOf (u : V3) : Int := angleOf (isqrt 64 (u.1 * u.1 + u.2.1 * u.2.1).toNat 0) u.2.2

/-! ### Least squares (R225) -/

/-- A measurement: satellite, range with every model correction made, position of the satellite, 0.1 mm. -/
structure RangeMeas where
  sat : Nat
  range : Int
  pos : Ecef
deriving DecidableEq, Repr

/-- The geometric range from a point. -/
def rangeFrom (x : Ecef) (m : RangeMeas) : Int := (len3 (sub3 (ecefV m.pos) (ecefV x)) : Int)

/-- The clock term at a point: the mean of the measurements less their geometric ranges. -/
def clockAt (x : Ecef) (ms : List RangeMeas) : Int := roundDiv ((ms.map (fun m => m.range - rangeFrom x m)).sum) (max ms.length 1)

/-- The residual of a measurement at a point and clock. -/
def rangeResidual (x : Ecef) (b : Int) (m : RangeMeas) : Int := m.range - rangeFrom x m - b

/-- The determinant of three rows of three. -/
def det3 (a b c : V3) : Int :=
  a.1 * (b.2.1 * c.2.2 - b.2.2 * c.2.1) - a.2.1 * (b.1 * c.2.2 - b.2.2 * c.1) + a.2.2 * (b.1 * c.2.1 - b.2.1 * c.1)

/-- One Gauss-Newton step of position and clock: the clock is eliminated by taking each row against the mean of all. `none` where the
geometry fixes no position. -/
def positionStep (x : Ecef) (ms : List RangeMeas) : Option Ecef :=
  let n : Int := ms.length
  let rows := ms.map (fun m =>
    let d := sub3 (ecefV x) (ecefV m.pos)
    (div3 (scale3 (2 ^ 30) d) (max (len3 d) 1), m.range - rangeFrom x m))
  let su := rows.foldl (fun a r => add3 a r.1) (0, 0, 0)
  let sr := (rows.map (fun r => r.2)).sum
  let cs := rows.map (fun r => (sub3 (scale3 n r.1) su, n * r.2 - sr))
  let acc (f : V3 → Int) : V3 := cs.foldl (fun a c => add3 a (scale3 (f c.1) c.1)) (0, 0, 0)
  let a1 := acc (fun v => v.1)
  let a2 := acc (fun v => v.2.1)
  let a3 := acc (fun v => v.2.2)
  let rhs := cs.foldl (fun a c => add3 a (scale3 c.2 c.1)) (0, 0, 0)
  let d := det3 a1 a2 a3
  if d ≤ 0 then none
  else
    let col (i : Nat) : Int :=
      let put (r : V3) (v : Int) : V3 := if i = 0 then (v, r.2.1, r.2.2) else if i = 1 then (r.1, v, r.2.2) else (r.1, r.2.1, v)
      det3 (put a1 rhs.1) (put a2 rhs.2.1) (put a3 rhs.2.2)
    let step := div3 (scale3 (2 ^ 30) (col 0, col 1, col 2)) d.toNat
    some (vEcef (add3 (ecefV x) step))

/-- The position that measurements give, by twelve steps from a start. -/
def solvePosition (start : Ecef) (ms : List RangeMeas) : Option Ecef :=
  (List.range 12).foldl (fun o _ => o.bind (fun x => positionStep x ms)) (some start)

/-- The measurement with the largest residual, and its size. -/
def worstMeas (x : Ecef) (b : Int) (ms : List RangeMeas) : Nat × Nat :=
  ms.foldl (fun a m => let r := (rangeResidual x b m).natAbs; if a.2 < r then (m.sat, r) else a) (0, 0)

/-- Whether a solution holds: at least 4 satellites, RMS residual at most 10 m (R225). -/
def solutionHolds (x : Ecef) (b : Int) (ms : List RangeMeas) : Bool :=
  decide (4 ≤ ms.length) &&
    decide ((ms.map (fun m => (rangeResidual x b m) * (rangeResidual x b m))).sum ≤ 100000 * 100000 * (ms.length : Int))

/-- What a solution gives: position, clock, satellites used. -/
structure Solution where
  pos : Ecef
  clock : Int
  sats : Nat
deriving DecidableEq, Repr

/-- A solution with the removal of R225: the satellite with the largest residual goes once when that exceeds 30 m. -/
def solveOnce (fit : List RangeMeas → Option Ecef) (ms : List RangeMeas) : Option Solution :=
  match fit ms with
  | none => none
  | some x =>
    let w := worstMeas x (clockAt x ms) ms
    let kept := if 300000 < w.2 then ms.filter (fun m => m.sat != w.1) else ms
    match (if 300000 < w.2 then fit kept else some x) with
    | none => none
    | some y =>
      let b := clockAt y kept
      if solutionHolds y b kept then some ⟨y, b, kept.length⟩ else none

end Sys2Proof.Machine
end

