-- ==== Sys2Proof/Machine/Fleet.lean ====
section
/-!
DEFINITION. Sys2Proof/Machine/Fleet.lean: what chapters 9 to 13 share: air time, berths and their frames, transits and tasks as
other chapters end them, spot stops, link messages, and the latching of Eclipse triggers.
-/
namespace Sys2Proof.Machine
open Sys2Proof

/-! ### Time on air and station time in ms -/

/-- Air time in ns: ST minus the air offset (R330). -/
def airTime (s : State) : Nat := ((s.tb.st : Int) - s.mac.airOffset).toNat

/-- Number of the slot unit that air time lies in (R331). -/
def unitNow (s : State) : Nat := airTime s / 250000

/-- The orbit number (R331). -/
def orbitNow (s : State) : Nat := unitNow s / s.repl.mac.cfg.l % 2 ^ 32

/-- ST as a window time in ms (R409). -/
def stMs (s : State) : Nat := s.tb.st / 1000000

/-- The window time that stands for an open end (R409). -/
def openEnd : Nat := 2 ^ 64 - 1

/-! ### The state of the pair link (R476) -/

/-- Changes what the member keeps of the pair. -/
def modPair (f : Pair → Pair) (s : State) : State := { s with pair := f s.pair }

/-- The lanes that are up, as bits. -/
def laneBits (s : State) : Nat := bitsOf s.pair.lanes

/-- PAIR_LINK. -/
def pairLink (old new cause : Nat) (s : State) : State :=
  emit 0xCC01 4 (leBytes 1 old ++ leBytes 1 new ++ leBytes 1 (laneBits s) ++ leBytes 1 cause) s

/-- The link state in DEGRADED and UP, by the code of Table 13-9: the number of lanes up. -/
def setLinkState (new cause : Nat) (s : State) : State :=
  if s.pair.link = new then s else pairLink s.pair.link new cause (modPair (fun p => { p with link := new }) s)

/-- Every lock of a master is released and counted (R119). -/
def releaseLocks (m : Nat) (s : State) : State :=
  { s with
    locks := s.locks.map (fun o => if o = m + 1 then 0 else o)
    lckForced := satAdd 16 s.lckForced (s.locks.filter (fun o => o == m + 1)).length }

/-- The requests that a STANDBY forwarded are refused (R402). -/
def refuseForwards (s : State) : State :=
  s.pair.forwards.foldl (fun t r => reply r 0x0903 0x2004 [] t) (modPair (fun p => { p with forwards := [] }) s)

/-- The link has gone down: the exchange is void, the locks of master 4 are released (R119), forwarded requests are refused. -/
def linkDown (s : State) : State :=
  refuseForwards (releaseLocks 4 (modPair (fun p => { p with
    helloed := false
    fullRunning := false
    seqSeen := []
    nonce := none
    peerNonce := none }) s))

/-- The pair protocol version of the member (R483): major, minor. -/
def ownProto (s : State) : Nat × Nat := (s.vault.fw / 2 ^ 24 % 256, s.vault.fw / 2 ^ 16 % 256)

/-- The member's nonce of the exchange: drawn once, and kept until the link goes down (DESIGN CHOICE, log entry 10). -/
def withNonce (s : State) : State :=
  match s.pair.nonce with
  | some _ => s
  | none => modPair (fun p => { p with nonce := some (freshBytes 16 s).1 }) (freshBytes 16 s).2

/-- LINK_HELLO: version, device ID, role, strap, qualification, last committed cycle and the nonce. -/
def sendHello (s0 : State) : State :=
  let s := withNonce s0
  sendLink 1 false (leBytes 1 (ownProto s).1 ++ leBytes 1 (ownProto s).2 ++ leBytes 8 s.vault.devId ++ leBytes 1 s.pair.role
    ++ leBytes 1 (flag s.pair.strapHigh) ++ leBytes 1 (flag s.pair.qualified) ++ zeros 1 ++ leBytes 4 s.pair.lastCommitted
    ++ s.pair.nonce.getD (zeros 16)) s

/-- The exchange fails: AUTH_FAILED while lanes are up (R476). -/
def authFailed (s : State) : State :=
  if s.pair.link = 0 ∨ s.pair.link = 4 then s else linkDown (setLinkState 4 4 s)

/-! ### Berths -/

/-- A berth; one that nothing has been said of is FREE with the default settings (R360). -/
def berthOf (s : State) (b : Nat) : Berth := (look s.repl.mac.berths b).getD Berth.free

/-- Changes a berth. -/
def modBerth (b : Nat) (f : Berth → Berth) (s : State) : State :=
  { s with repl := { s.repl with mac := { s.repl.mac with berths := upsert s.repl.mac.berths b (f (berthOf s b)) } } }

/-- The settings of BL_BERTH_SET of a berth (R252). -/
def blBerthOf (s : State) (b : Nat) : BlBerth := (look s.repl.bl b).getD BlBerth.default

/-- Appends a down frame to a berth's queue (R350). -/
def queueFrame (b : Nat) (f : DownFrame) (s : State) : State := modBerth b (fun x => { x with queue := x.queue ++ [f] }) s

/-- A CONTROL message with the berth's next control sequence (R363); `free`: it is not held for commit (R351). -/
def queueControl (b kind : Nat) (fields : List Byte) (released : Bool) (s : State) : State :=
  let q := (berthOf s b).ctrlSeq
  queueFrame b ⟨6, kind, q, leBytes 1 kind ++ leBytes 1 q ++ fields, s.tb.gtc, 0, released, [], 0, true⟩
    (modBerth b (fun x => { x with ctrlSeq := (x.ctrlSeq + 1) % 256 }) s)

/-! ### Transits -/

/-- The ID of a transit (R408). -/
def transitId (t : Transit) : Nat := t.gen * 4096 + t.slot

/-- The transit that holds an ID. -/
def transitOf (s : State) (id : Nat) : Option Transit := s.repl.tr.transits.find? (fun t => transitId t == id)

/-- Changes the arbiter's replicated state. -/
def modArb (f : Arbiter → Arbiter) (s : State) : State := { s with repl := { s.repl with tr := f s.repl.tr } }

/-- Changes the dispatcher's replicated state. -/
def modDp (f : Dispatch → Dispatch) (s : State) : State := { s with repl := { s.repl with dp := f s.repl.dp } }

/-- The space count rises: a refusal may now turn into a grant (12, Selection). -/
def spaceBump (s : State) : State := modDp (fun d => { d with spaceCount := d.spaceCount + 1 }) s

/-- TR_CHANGE (Table 11-10). -/
def trChange (t : Transit) (change source : Nat) (s : State) : State :=
  emit 0xCA03 29 (leBytes 4 (transitId t) ++ leBytes 1 change ++ leBytes 1 source ++ leBytes 2 (t.owner.getD 0xFFFF)
    ++ leBytes 8 t.start ++ leBytes 8 t.stop) s

/-- The conformance record of a berth. -/
def conformOf (s : State) (b : Nat) : Conform := (look s.trown.berths b).getD Conform.zero

/-- Changes the conformance record of a berth. -/
def modConform (b : Nat) (f : Conform → Conform) (s : State) : State :=
  { s with trown := { s.trown with berths := upsert s.trown.berths b (f (conformOf s b)) } }

/-- CONFORMANCE_UNKNOWN (Table 11-10): raised or cleared, cause, watching transit, whether the spot stop was performed; a STANDBY
raises no event (R439). -/
def unknownEvent (b raised cause id stop : Nat) (s : State) : State :=
  if s.pair.role = 2 then s
  else
  let age := match (conformOf s b).lastKnown with
    | none => 0xFFFFFFFF
    | some t => min (sinceNs s t / 1000000) 0xFFFFFFFF
  emit 0xCA02 29 (leBytes 1 b ++ leBytes 1 raised ++ leBytes 1 cause ++ leBytes 1 (berthOf s b).state ++ leBytes 4 age
    ++ leBytes 4 id ++ leBytes 1 stop ++ zeros 3) s

/-- CONFORMANCE_UNKNOWN of cause 4 clears when the transit that raised it stops watching (R436). -/
def watchEnds (id b : Nat) (s : State) : State :=
  let c := conformOf s b
  if c.unknown = true ∧ c.cause = 4 ∧ c.watchId = id then
    unknownEvent b 0 4 id 0 (modConform b (fun c => { c with unknown := false, unkStop := false, watchId := 0 }) s)
  else s

/-- Takes a transit out of the arbiter and reports it (R421, R422, R436). -/
def dropTransit (t : Transit) (change source : Nat) (s : State) : State :=
  let s1 := trChange t change source
    (spaceBump (modArb (fun a => { a with transits := a.transits.filter (fun x => transitId x != transitId t) }) s))
  match t.owner with
  | none => s1
  | some b => watchEnds (transitId t) b s1

/-- Inserts a number into a rising list. -/
def insertRising (a : Nat) (l : List Nat) : List Nat :=
  match l with
  | [] => [a]
  | b :: r => if a ≤ b then a :: b :: r else b :: insertRising a r

/-- The middle one of a list of times (p50), 0 for none. -/
def median (l : List Nat) : Nat := nth (l.foldr insertRising []) ((l.length - 1) / 2) 0

/-- Pushes a time stamped entry and keeps those of the last second. -/
def lastSecond {α : Type} (now : Gtc) (l : List (Gtc × α)) : List (Gtc × α) := l.filter (fun x => elapsed now x.1 ≤ 1000000000)

/-! ### Tasks -/

/-- The ID of a task (R444). -/
def taskId (t : Task) : Nat := t.gen * 8192 + t.slot

/-- The task that holds an ID. -/
def taskOf (s : State) (id : Nat) : Option Task := s.repl.dp.tasks.find? (fun t => taskId t == id)

/-- Changes the task that holds an ID. -/
def modTask (id : Nat) (f : Task → Task) (s : State) : State :=
  modDp (fun d => { d with tasks := d.tasks.map (fun t => if taskId t == id then f t else t) }) s

/-- DP_TASK (Table 12-8): old and new state and the cause. -/
def dpTask (t : Task) (old new cause : Nat) (s : State) : State :=
  emit 0xCB01 30 (leBytes 4 (taskId t) ++ leBytes 1 old ++ leBytes 1 new ++ leBytes 1 cause ++ leBytes 1 t.level
    ++ leBytes 2 (t.berth.getD 0xFFFF) ++ zeros 2 ++ leBytes 4 t.transit ++ leBytes 4 t.tag) s

/-- Whether a berth holds a task in ASSIGNED or ACTIVE. -/
def busyTask (s : State) (b : Nat) : Option Task :=
  s.repl.dp.tasks.find? (fun t => t.berth == some b && (t.state == 3 || t.state == 4))

/-- Whether an assignment to a berth waits for its commit. -/
def assignPending (s : State) (b : Nat) : Bool :=
  s.pair.decisions.any (fun h => match h.what with
    | .assign _ _ x => x == b
    | _ => false)

/-- Whether a decision is the assignment of a task. -/
def isAssignOf (id : Nat) (d : Decision) : Bool :=
  match d with
  | .assign slot gen _ => gen * 8192 + slot == id
  | _ => false

/-- The assignment of a task that has not gone on air is withdrawn: its transit leaves the arbiter at once with TR_CHANGE change
2 and source 30, its frame and its decision are gone, and the task is READY in its old place (R463). -/
def withdraw (id : Nat) (s : State) : State :=
  match taskOf s id with
  | none => s
  | some t =>
    let s1 := match transitOf s t.transit with
      | none => s
      | some x => dropTransit x 2 30 s
    let s2 := { s1 with pair := { s1.pair with decisions := s1.pair.decisions.map (fun h =>
      if isAssignOf id h.what then { h with what := .void } else h) } }
    let s3 := match t.berth with
      | none => s2
      | some b => modBerth b (fun x => { x with
          queue := x.queue.filter (fun f => !(f.ftype == 5 && f.seq == id))
          awaiting := x.awaiting.filter (fun f => !(f.ftype == 5 && f.seq == id)) }) s2
    let s4 := modTask id (fun t => { t with state := 2, berth := none, transit := 0, onAir := false, commitSt := 0 }) s3
    if t.state = 3 then dpTask t 3 2 4 s4 else s4

/-- The tasks whose assignment has not gone on air: committed, or waiting for the commit. -/
def unsentTasks (s : State) : List Nat :=
  (s.repl.dp.tasks.filter (fun t => t.onAir == false && t.ending == false &&
    (t.state == 3 || (t.state == 2 && t.berth.isSome)))).map taskId

/-- Withdraws every assignment that has not gone on air (R463: entry into ECLIPSE). -/
def withdrawAll (s : State) : State := (unsentTasks s).foldl (fun t id => withdraw id t) s

/-- Withdraws the assignments to one berth that have not gone on air (R463). -/
def withdrawBerth (b : Nat) (s : State) : State :=
  (unsentTasks s).foldl (fun t id => if ((taskOf t id).bind (fun x => x.berth)) = some b then withdraw id t else t) s

/-- A task in ASSIGNED or ACTIVE ends in a terminal state; the change waits for its commit (R445, R464). -/
def endTask (id st cause : Nat) (s : State) : State :=
  match taskOf s id with
  | none => s
  | some t =>
    if t.ending then s
    else hold 30 (.taskEnd t.slot t.gen st cause) (modTask id (fun t => { t with ending := true }) s)

/-- A transit leaves the arbiter; a task that still runs in it ends FAILED with cause 2 (R464). -/
def removeTransit (t : Transit) (change source : Nat) (s : State) : State :=
  let s1 := dropTransit t change source s
  match s.repl.dp.tasks.find? (fun x => x.transit == transitId t && (x.state == 3 || x.state == 4)) with
  | none => s1
  | some x => endTask (taskId x) 6 2 s1

/-- TR_ZONE (Table 11-10). -/
def trZone (z change master src : Nat) (s : State) : State :=
  emit 0xCA05 src (leBytes 1 z ++ leBytes 1 change ++ leBytes 1 master ++ zeros 1) s

/-- The zone of an index. -/
def zoneOf (s : State) (z : Nat) : Option Zone := s.repl.tr.zones.find? (fun x => x.index == z)

/-- Takes a zone out. -/
def dropZone (z : Nat) (s : State) : State :=
  spaceBump (modArb (fun a => { a with zones := a.zones.filter (fun x => x.index != z) }) s)

/-- What a forward step of ST takes out at once: every transit and zone whose end and guard it passes (R421, R424). -/
def removeEnded (s : State) : State :=
  if s.pair.role = 2 then s
  else
    let g := s.repl.tr.cfg.guard
    let s1 := (s.repl.tr.transits.filter (fun t => decide (t.stop + g ≤ stMs s))).foldl (fun u t => removeTransit t 3 29 u) s
    (s.repl.tr.zones.filter (fun z => z.stop != openEnd && decide (z.stop + g ≤ stMs s))).foldl
      (fun u z => trZone z.index 3 0xFF 29 (dropZone z.index u)) s1

/-! ### Spot stops -/

/-- The spot stop of a berth (R396). -/
def spotOf (s : State) (b : Nat) : Spot := (look s.repl.ecl.spots b).getD ⟨false, 0, 0, 0, false⟩

/-- Changes the mirrored Eclipse state. -/
def modEcl (f : EclCore → EclCore) (s : State) : State := { s with repl := { s.repl with ecl := f s.repl.ecl } }

/-- Sets the spot stop of a berth. -/
def setSpot (b : Nat) (v : Spot) (s : State) : State := modEcl (fun e => { e with spots := upsert e.spots b v }) s

/-- The bitmap of the spot stops in force, 32 bytes (Table 10-8). -/
def spotBitmap (s : State) : List Byte :=
  leBytes 32 ((s.repl.ecl.spots.filter (fun e => e.2.inForce)).map (fun e => 2 ^ e.1)).sum

/-- The ECLIPSE message that mirrors the state to the standby at once (R402, Table 13-3; its layout: log entry 10). -/
def mirror (s : State) : State :=
  if s.pair.role = 1 then
    sendLink 7 true (leBytes 1 s.repl.ecl.state ++ leBytes 2 s.repl.ecl.seq ++ leBytes 1 s.repl.ecl.cause ++ spotBitmap s
      ++ s.repl.ecl.spots.flatMap (fun e => leBytes 1 e.1 ++ leBytes 2 e.2.seq)) s
  else s

/-- ECL_SPOT (Table 10-10). -/
def eclSpot (b stop cause master seq src : Nat) (s : State) : State :=
  emit 0xC904 src (leBytes 1 b ++ leBytes 1 stop ++ leBytes 1 cause ++ leBytes 1 master ++ leBytes 2 seq ++ zeros 2) s

/-- A spot stop is put in force for a berth that is not FREE: a new stop sequence and a series of 8 frames (R396, R397);
assignments to the berth that have not gone on air are withdrawn (R463). -/
def spotStopBerth (b cause master src : Nat) (s : State) : State :=
  if (berthOf s b).state = 0 then s
  else
    let q := ((spotOf s b).seq + 1) % 65536
    let s1 := setSpot b ⟨true, cause, q, 8, false⟩ s
    let s2 := { s1 with ecl := { s1.ecl with
      spotCount := satAdd 32 s1.ecl.spotCount 1 } }
    mirror (eclSpot b 1 cause master q src (withdrawBerth b s2))

/-- A spot stop ends because its berth became FREE: no STOP frame is sent (R396). -/
def spotEndFree (b : Nat) (s : State) : State :=
  let x := spotOf s b
  if x.inForce then
    let q := (x.seq + 1) % 65536
    mirror (eclSpot b 0 4 0xFF q 33 (setSpot b ⟨false, x.cause, q, 0, false⟩ s))
  else s

/-! ### Changes of berth state -/

/-- OR_BERTH_STATE (R357, Table 9-16). -/
def berthReport (b old new cause : Nat) (s : State) : State :=
  let x := berthOf s b
  emit 0xC801 (20 + x.head) (leBytes 1 b ++ leBytes 1 old ++ leBytes 1 new ++ leBytes 1 cause ++ leBytes 8 x.machine
    ++ leBytes 1 x.head ++ leBytes 1 x.air ++ leBytes 1 x.obs ++ zeros 1) s

/-- Sets the filter of a berth. -/
def setFilter (b : Nat) (f : Filter) (s : State) : State :=
  { s with bl := { s.bl with filters := upsert s.bl.filters b f } }

/-- The engine's filter when a berth leaves or returns to SERVED (R280). -/
def retainFilter (b old new : Nat) (s : State) : State :=
  match look s.bl.filters b with
  | none => s
  | some f =>
    if old = 2 ∧ new ≠ 2 then
      setFilter b { f with retainUntil := some (s.tb.gtc + BitVec.ofNat 64 (s.repl.blParam.retention * sec)) } s
    else if new = 2 then
      if f.machine = (berthOf s b).machine then setFilter b { f with retainUntil := none } s
      else { s with bl := { s.bl with filters := erase s.bl.filters b } }
    else s

/-- A berth changes its state: the report of R357, its tasks (R463, R464), its spot stop (R396), its filter (R280). -/
def setBerthState (b new cause : Nat) (s : State) : State :=
  let old := (berthOf s b).state
  let s1 := modBerth b (fun x => { x with state := new, since := s.tb.gtc }) s
  let s2 := berthReport b old new cause s1
  let s3 := if old = 2 ∧ new ≠ 2 then withdrawBerth b s2 else s2
  let s4 := if new = 0 ∨ new = 4 ∨ new = 5 then
      match busyTask s3 b with
      | none => s3
      | some t => endTask (taskId t) 9 6 s3
    else s3
  let s5 := if new = 0 then spotEndFree b s4 else s4
  retainFilter b old new s5

/-! ### Eclipse triggers -/

/-- ECL_TRIGGER (Table 10-10). -/
def eclTrigger (code active src latched : Nat) (s : State) : State :=
  emit 0xC902 src (leBytes 1 code ++ leBytes 1 active ++ leBytes 1 src ++ leBytes 1 latched) s

/-- ECL_STATE, and MODE_CHANGE for every change but an entry by ECLIPSE_TRIGGER and a release by command (R381). -/
def eclStateReport (old new cause src master note : Nat) (s : State) : State :=
  let s1 := emit 0xC901 src (leBytes 1 old ++ leBytes 1 new ++ leBytes 1 cause ++ leBytes 1 src ++ leBytes 2 s.repl.ecl.seq
    ++ leBytes 1 master ++ zeros 1 ++ leBytes 4 note) s
  if (new = 1 ∧ cause ≠ 5) ∨ new = 0 then modeChange src 3 old new 0 s1 else s1

/-- The next Eclipse sequence (R380). -/
def nextEclSeq (q : Nat) : Nat := if q = 0xFFFF then 1 else q + 1

/-- Entry into ECLIPSE with a cause (R380, R389, R463): sequence, entry cause, the burst on every head, withdrawal of unsent
assignments, mirroring. -/
def enterEclipse (code src master note : Nat) (s : State) : State :=
  let old := s.repl.ecl.state
  let s1 := modEcl (fun e => { e with state := 1, seq := nextEclSeq e.seq, cause := code }) s
  let s2 := { s1 with
    ecl := { s1.ecl with
      latched := 2 ^ code
      entry := s.tb.gtc
      before := old
      entries := satAdd 32 s1.ecl.entries 1
      burstHeads := 0
      note := note }
    mac := { s1.mac with heads := s1.mac.heads.map (fun h =>
      { h with
        burst := if s.modes.radio = 2 then 40 else 0
        burstSince := s.tb.gtc
        eclAir := false }) } }
  mirror (withdrawAll (eclStateReport old 1 code src master note s2))

/-- A STANDBY latches its own trigger: it passes triggers 5 and 6 and every lasting one to the active member and shows its demand
on PAIR_ECL_OUT (R402, R493, R494). -/
def standbyTrigger (code src : Nat) (s : State) : State :=
  let momentary := code == 5 || code == 6
  let s1 := { s with
    ecl := { s.ecl with latched := putBit s.ecl.latched code true }
    pair := { s.pair with hold := if momentary then some (s.tb.gtc, s.pair.viewPrio.seq) else s.pair.hold } }
  sendLink 8 true (leBytes 1 code ++ leBytes 1 1 ++ leBytes 1 src) (eclTrigger code 1 src 1 s1)

/-- A trigger of Table 10-2 is latched (R379, R380). -/
def latchTrigger (code src master note : Nat) (s : State) : State :=
  let s1 := { s with ecl := { s.ecl with triggers := s.ecl.triggers + 1 } }
  if s.pair.role = 2 then standbyTrigger code src s1
  else if s.repl.ecl.state = 1 then
    eclTrigger code 1 src 1 { s1 with ecl := { s1.ecl with latched := putBit s1.ecl.latched code true } }
  else enterEclipse code src master note s1

/-- The arming entry of a lasting trigger (Table 10-2). -/
def armOf (code : Nat) : Nat :=
  match code with
  | 1 => 1
  | 2 => 1
  | 3 => 1
  | 4 => 2
  | 7 => 3
  | 8 => 6
  | _ => 10

/-- One evaluation of the condition of a lasting trigger from a source (R19, R23, R382): reported at its start and end, latched
while armed. -/
def evalLasting (code src : Nat) (cond : Bool) (s : State) : State :=
  let was := s.ecl.active.contains (code, src)
  if cond then
    let s1 := if was then s else { s with ecl := { s.ecl with active := s.ecl.active ++ [(code, src)] } }
    if armed s (armOf code) then
      if was = true ∧ bit s.ecl.latched code = true ∧ eclShown s ≠ 0 then s1 else latchTrigger code src 0xFF 0 s1
    else if was then s1 else eclTrigger code 1 src 0 s1
  else if was then
    let s1 := { s with ecl := { s.ecl with active := s.ecl.active.filter (fun x => x != (code, src)) } }
    let s2 := eclTrigger code 0 src 0 s1
    if s.pair.role = 2 then sendLink 8 true (leBytes 1 code ++ leBytes 1 0 ++ leBytes 1 src) s2 else s2
  else s

/-- Bits of the lasting triggers active (Table 10-8). -/
def lastingBits (s : State) : Nat := s.ecl.active.foldl (fun v x => putBit v x.1 true) 0

/-- Whether an armed lasting trigger is active (R393). -/
def armedLasting (s : State) : Bool := s.ecl.active.any (fun x => armed s (armOf x.1))

end Sys2Proof.Machine
end

