-- ==== Sys2Proof/Machine/Eclipse.lean ====
section
/-!
DEFINITION. Sys2Proof/Machine/Eclipse.lean: chapter 10: the STOP pins, the stop identifiers, release, and the commands of group 0x09.
-/
namespace Sys2Proof.Machine
open Sys2Proof

/-! ### STOP pins (R383 to R385) -/

/-- STOP_A demands stop (R383). -/
def aDemands (s : State) : Bool := !s.ecl.stopA

/-- STOP_B demands stop (R383). -/
def bDemands (s : State) : Bool := s.ecl.stopB

/-- Whether the STOP channels are healthy (R385). -/
def stopHealthy (s : State) : Bool := !aDemands s && !bDemands s && !s.ecl.fault

/-- The pin bits of ECL_GET offset 8. -/
def pinBits (s : State) : Nat :=
  bitsOf [s.ecl.stopA, s.ecl.stopB, aDemands s, bDemands s, aDemands s != bDemands s, s.ecl.fault]

/-- ECL_STOP_FAULT (R384). -/
def stopFault (latched us : Nat) (s : State) : State :=
  emit 0xC903 8 (leBytes 1 latched ++ leBytes 1 (pinBits s) ++ zeros 2 ++ leBytes 4 us) s

/-- The discrepancy fault clears after both channels demanded stop together and both returned (R384). -/
def faultStep (s : State) : State :=
  let both := s.ecl.both || (aDemands s && bDemands s)
  if s.ecl.fault = false then s
  else if both = true ∧ aDemands s = false ∧ bDemands s = false then
    let s1 := { s with ecl := { s.ecl with fault := false, both := false } }
    let f := fresh s1
    evalLasting 3 8 false (stopFault 0 (f.1 % 2 ^ 32) f.2)
  else { s with ecl := { s.ecl with both := both } }

/-- The filtered levels of the STOP pins change (R383 to R385). -/
def stopPins (a b : Bool) (s : State) : State :=
  let s1 := { s with ecl := { s.ecl with stopA := a, stopB := b } }
  let differ := aDemands s1 != bDemands s1
  let s2 := { s1 with ecl := { s1.ecl with
    discSince := if differ then (if s.ecl.discSince.isSome then s.ecl.discSince else some s.tb.gtc) else none } }
  faultStep (evalLasting 2 9 (bDemands s2) (evalLasting 1 8 (aDemands s2) s2))

/-- STOP_PIN_CHANGE (R383): sampled in every power state but STANDBY (R385). -/
def execStopPinChange (a b : Bool) (s : State) : Result := done (if s.pwr.state = 4 then s else stopPins a b s)

/-- DISCREPANCY_TIMEOUT (R384). -/
def execDiscrepancyTimeout (s : State) : Result :=
  done (match s.ecl.discSince with
    | none => s
    | some t =>
      if s.ecl.fault = false ∧ s.ecl.discTime * 1000000 < sinceNs s t then
        let s1 := { s with ecl := { s.ecl with fault := true, both := false } }
        evalLasting 3 8 true (stopFault 1 (min (sinceNs s t / 1000) 0xFFFFFFFF) s1)
      else s)

/-! ### Stop identifiers (R386, R560, R561) -/

/-- Whether a stop identifier demands stop. -/
def idDemands (s : State) (x : StopId) : Bool :=
  x.enabled && (match x.good with
    | none => true
    | some t => (x.heartbeat != 0 && decide (x.heartbeat * 10000000 ≤ sinceNs s t)) ||
        !within (nth s.can.ctls x.ctl CanCtl.zero).state 3 4)

/-- Trigger 4 of one controller is evaluated from all its stop identifiers. -/
def evalStopIds (c : Nat) (s : State) : State :=
  evalLasting 4 (16 + c) (s.ecl.ids.any (fun x => x.ctl == c && idDemands s x)) s

/-- Trigger 4 of every controller is evaluated. -/
def evalAllStopIds (s : State) : State := [0, 1, 2, 3].foldl (fun t c => evalStopIds c t) s

/-- The stop identifiers of a controller hold no newest frame any more (R561). -/
def dropStopFrames (c : Nat) (s : State) : State :=
  evalStopIds c { s with ecl := { s.ecl with ids := s.ecl.ids.map (fun x => if x.ctl = c then { x with good := none } else x) } }

/-! ### Release (R393, R394) -/

/-- The Eclipse core that the member shows: a STANDBY takes the strongest of its views (R495). -/
def eclCoreShown (s : State) : EclCore :=
  if s.pair.role = 2 then
    if s.pair.viewPrio.state = 1 then s.pair.viewPrio
    else if s.pair.viewCommitted.state = 1 then s.pair.viewCommitted
    else if s.pair.viewPin then { s.pair.viewPrio with state := 1, cause := 7 }
    else if s.pair.viewPrio.state = 2 then s.pair.viewPrio
    else if s.pair.viewCommitted.state = 2 then s.pair.viewCommitted
    else s.pair.viewPrio
  else s.repl.ecl

/-- The release delay in ms. -/
def releaseMs (s : State) : Nat := s.ecl.releaseDelay * 100

/-- The reply payload of ECLIPSE_RELEASE; the lasting triggers stand in refusals only. -/
def releasePayload (refused : Bool) (s : State) : List Byte :=
  leBytes 2 s.repl.ecl.seq ++ leBytes 2 (if refused then lastingBits s else 0) ++ leBytes 4 (releaseMs s)

/-- The statuses that refuse a release by the state of the device (R393, Table 10-9). -/
def releaseStates (s : State) : List Nat :=
  failIf (s.repl.ecl.state == 0) 0x8903 ++ failIf (armedLasting s) 0x8901 ++ failIf (!stopHealthy s) 0x8902

/-- RELEASING begins with the commit (R379, R394). -/
def beginRelease (s : State) : State :=
  let s1 := modEcl (fun e => { e with state := 2 }) { s with ecl := { s.ecl with releaseAt := s.tb.gtc } }
  mirror (eclStateReport 1 2 s.repl.ecl.cause 33 0xFF 0 s1)

/-- The commit of a release: the conditions of R393 are checked again. -/
def commitRelease (r : Req) (triggers : Nat) (s : State) : State :=
  if s.repl.ecl.state = 2 then reply r 0x0902 0x0102 (releasePayload false s) s
  else match releaseStates s ++ failIf (s.ecl.triggers != triggers) 0x8901 with
    | [] => let s1 := beginRelease s; reply r 0x0902 0 (releasePayload false s1) s1
    | st :: l =>
      let f := fresh s
      if l = [] then reply r 0x0902 st (releasePayload true s) s
      else reply r 0x0902 (nth (st :: l) (f.1 % (l.length + 1)) st) (releasePayload true s) f.2

/-- ECLIPSE_RELEASE (R393). -/
def execEclipseRelease (r : Req) (s : State) : Result :=
  done (runCommand 0x0902 true r (fun s =>
    if r.payload.length ≠ 0 then .reply 0x4004 [] s
    else if s.pair.role = 2 then .reply 0x2004 [] s
    else if s.repl.ecl.state = 2 then .reply 0x0102 (releasePayload false s) s
    else match releaseStates s with
      | [] => .later (hold r.master (.eclRelease r s.ecl.triggers) s)
      | st :: l =>
        let f := fresh s
        if l = [] then .reply st (releasePayload true s) s
        else .reply (nth (st :: l) (f.1 % (l.length + 1)) st) (releasePayload true s) f.2) s)

/-- RELEASE_DELAY_END (R394): RELEASING ends in CLEAR. -/
def execReleaseDelayEnd (s : State) : Result :=
  done (if s.repl.ecl.state = 2 ∧ s.pair.role ≠ 2 ∧ releaseMs s * 1000000 ≤ sinceNs s s.ecl.releaseAt then
      mirror (eclStateReport 2 0 s.repl.ecl.cause 33 0xFF 0 (modEcl (fun e => { e with state := 0 }) s))
    else s)

/-! ### Commands of group 0x09 -/

/-- The reply payload of ECLIPSE_TRIGGER. -/
def triggerPayload (s : State) : List Byte := leBytes 1 (eclShown s) ++ zeros 1 ++ leBytes 2 (eclCoreShown s).seq

/-- ECLIPSE_TRIGGER (R387): latches trigger 5, also when the state is ECLIPSE already (Table 10-7). -/
def execEclipseTrigger (r : Req) (s : State) : Result :=
  done (runCommand 0x0901 false r (fun s =>
    checked (r.payload.length == 4) true true true [] s (fun s =>
      let s1 := latchTrigger 5 r.master r.master (u32 r.payload 0) s
      .reply (changed (eclShown s == 1)) (triggerPayload s1) s1)) s)

/-- The reply payload of SPOT_STOP and SPOT_RELEASE. -/
def spotPayload (b : Nat) (s : State) : List Byte :=
  leBytes 1 b ++ leBytes 1 (berthOf s b).state ++ leBytes 2 (spotOf s b).seq

/-- SPOT_STOP (R396): a STANDBY forwards it to the active member (R402). -/
def execSpotStop (r : Req) (s : State) : Result :=
  let b := u8 r.payload 0
  done (runCommand 0x0903 false r (fun s =>
    checked (r.payload.length == 4) (zeroAt r.payload 1 3) true true
      (if s.pair.role = 2 then failIf (!linkUp s) 0x2004 else failIf ((berthOf s b).state == 0) 0x8904) s (fun s =>
      if s.pair.role = 2 then
        .later (sendLink 9 false (packetBytes ⟨0x23, 0x0903, r.tag, 0, 0, 0, 0, r.payload⟩)
          { s with pair := { s.pair with forwards := s.pair.forwards ++ [r] } })
      else
        let s1 := spotStopBerth b 1 r.master r.master s
        .reply (changed (spotOf s b).inForce) (spotPayload b s1) s1)) s)

/-- The commit of a release of a spot stop (R398): superseded by a spot stop put in force since the release arrived. -/
def commitSpotRelease (r : Req) (seq : Nat) (s : State) : State :=
  let b := u8 r.payload 0
  let x := spotOf s b
  if x.inForce = false then reply r 0x0904 0x8905 (spotPayload b s) s
  else if x.seq ≠ seq then reply r 0x0904 0x8906 (spotPayload b s) s
  else
    let q := (x.seq + 1) % 65536
    let s1 := mirror (eclSpot b 0 0 r.master q r.master (setSpot b ⟨false, x.cause, q, 3, true⟩ s))
    reply r 0x0904 0 (spotPayload b s1) s1

/-- SPOT_RELEASE (R398). -/
def execSpotRelease (r : Req) (s : State) : Result :=
  let b := u8 r.payload 0
  done (runCommand 0x0904 true r (fun s =>
    checked (r.payload.length == 4) (zeroAt r.payload 1 3) true true
      (if s.pair.role = 2 then [0x2004] else failIf (!(spotOf s b).inForce) 0x8905) s (fun s =>
      .later (hold r.master (.spotRelease r (spotOf s b).seq) s))) s)

/-- Milliseconds until the end of the release delay, rounded up. -/
def releaseLeft (s : State) : Nat :=
  if eclShown s = 2 then (releaseMs s * 1000000 - sinceNs s s.ecl.releaseAt + 999999) / 1000000 else 0

/-- The reply payload of ECL_GET (Table 10-8). -/
def eclGetPayload (s : State) : List Byte :=
  leBytes 1 (eclShown s) ++ leBytes 1 (eclCoreShown s).cause ++ leBytes 2 (eclCoreShown s).seq ++ leBytes 2 (lastingBits s)
    ++ leBytes 2 s.ecl.latched ++ leBytes 1 (pinBits s) ++ leBytes 1 s.ecl.burstHeads ++ zeros 2 ++ leBytes 4 (releaseLeft s)
    ++ leBytes 8 s.ecl.entry.toNat ++ spotBitmap s ++ leBytes 4 s.ecl.entries ++ leBytes 4 s.ecl.spotCount

/-- ECL_GET (R403). -/
def execEclGet (r : Req) (s : State) : Result :=
  done (runCommand 0x0905 false r (fun s =>
    checked (r.payload.length == 0) true true true [] s (fun s => .reply 0 (eclGetPayload s) s)) s)

/-- A stop identifier as ECL_CONFIG_SET carries it. -/
def stopIdOf (p : List Byte) (i : Nat) : StopId :=
  let o := 12 + 8 * i
  ⟨u8 p o, bit (u8 p (o + 1)) 0, bit (u8 p (o + 1)) 1, u16 p (o + 2), u32 p (o + 4), none⟩

/-- A stop identifier as ECL_CONFIG_SET carries it, in bytes. -/
def stopIdBytes (x : StopId) : List Byte :=
  leBytes 1 x.ctl ++ leBytes 1 (flag x.enabled + 2 * flag x.ext) ++ leBytes 2 x.heartbeat ++ leBytes 4 x.ident

/-- The settings of ECL_CONFIG_SET in force. -/
def eclConfigPayload (s : State) : List Byte :=
  leBytes 2 s.ecl.tFilt ++ leBytes 2 s.ecl.discTime ++ leBytes 2 s.ecl.releaseDelay ++ s.ecl.mcs.flatMap (leBytes 1) ++ zeros 2
    ++ s.ecl.ids.flatMap stopIdBytes

/-- The settings that ECL_CONFIG_SET puts in force; an identifier that is set anew holds no newest frame (R561). -/
def applyEclConfig (p : List Byte) (s : State) : State :=
  evalAllStopIds { s with ecl := { s.ecl with
    tFilt := u16 p 0
    discTime := u16 p 2
    releaseDelay := u16 p 4
    mcs := (List.range 4).map (fun h => u8 p (6 + h))
    ids := (List.range 4).map (fun i =>
      let old := nth s.ecl.ids i StopId.off
      let new := stopIdOf p i
      if old.enabled = new.enabled ∧ old.ctl = new.ctl ∧ old.ext = new.ext ∧ old.ident = new.ident
      then { new with good := old.good } else new) } }

/-- ECL_CONFIG_SET (R386, R403). -/
def execEclConfigSet (r : Req) (s : State) : Result :=
  let p := r.payload
  let idx := List.range 4
  done (runCommand 0x0906 true r (fun s =>
    checked (p.length == 44) (zeroAt p 10 2 && idx.all (fun i => bitsBelow (u8 p (13 + 8 * i)) 2))
      (within (u16 p 0) 20 200 && within (u16 p 2) 10 500 && within (u16 p 4) 5 600 && idx.all (fun h => u8 p (6 + h) ≤ 7)
        && idx.all (fun i => u8 p (12 + 8 * i) ≤ 3 && u16 p (14 + 8 * i) ≤ 1000 &&
            bitsBelow (u32 p (16 + 8 * i)) (if bit (u8 p (13 + 8 * i)) 1 then 29 else 11)))
      true [] s (fun s =>
      let s1 := applyEclConfig p s
      .reply (changed (eclConfigPayload s == p)) (eclConfigPayload s1) s1)) s)

end Sys2Proof.Machine
end

