-- ==== Sys2Proof/Machine/Phy.lean ====
section
/-!
DEFINITION. Sys2Proof/Machine/Phy.lean: the OFDM layer of chapter 8 as functions of a frame: header, scrambling, coding, mapping and the
symbols it makes (R312 to R317). Where the rules name a component by its polynomial alone, the form that IEEE 802.11 gives it is
taken (log entry 34).
-/
namespace Sys2Proof.Machine
open Sys2Proof

/-! ### Numerologies and rates (Tables 8-5, 8-7) -/

/-- The highest used subcarrier. -/
def topCarrier (n1 : Bool) : Nat := if n1 then 18 else 72

/-- The used subcarriers in ascending frequency. -/
def usedCarriers (n1 : Bool) : List Int :=
  let k := topCarrier n1
  (List.range k).map (fun (i : Nat) => (i : Int) - (k : Int)) ++ (List.range k).map (fun (i : Nat) => (i : Int) + 1)

/-- Pilots lie at +-(4 + 9 j) (R312). -/
def isPilot (k : Int) : Bool := k.natAbs % 9 == 4

/-- The number of data subcarriers. -/
def dataCarriers (n1 : Bool) : Nat := if n1 then 32 else 128

/-- Bits per data subcarrier of an MCS. -/
def carrierBits (mcs : Nat) : Nat := nth [1, 1, 2, 2, 4, 4, 6, 6] mcs 1

/-- The code rate of an MCS: data bits and coded bits. -/
def codeRate (mcs : Nat) : Nat × Nat := nth [(1, 2), (1, 2), (1, 2), (3, 4), (1, 2), (3, 4), (2, 3), (3, 4)] mcs (1, 2)

/-- Coded bits in a symbol: half the subcarriers carry bits of their own under repetition 2 (R317). -/
def symbolBits (n1 : Bool) (mcs : Nat) : Nat := dataCarriers n1 * carrierBits mcs / (if mcs = 0 then 2 else 1)

/-- N_DBPS (Table 8-7). -/
def ndbps (n1 : Bool) (mcs : Nat) : Nat := symbolBits n1 mcs * (codeRate mcs).1 / (codeRate mcs).2

/-- Preamble and header symbols. -/
def leadSymbols (n1 : Bool) : Nat := if n1 then 10 else 3

/-- The duration of a frame of `len` bytes in us (R319). -/
def frameUs (n1 : Bool) (mcs len : Nat) : Nat := 36 * (leadSymbols n1 + (8 * len + 6 + ndbps n1 mcs - 1) / ndbps n1 mcs)

/-! ### Bits -/

/-- The `n` low bits of a number, least significant first. -/
def lowBits (n v : Nat) : List Bool := (List.range n).map (fun i => bit v i)

/-- The bits of bytes: byte 0 first, least significant bit first (R316). -/
def bitsOfBytes (l : List Byte) : List Bool := l.flatMap (fun b => lowBits 8 b.toNat)

/-- Bits as a number, least significant first. -/
def ofBits (l : List Bool) : Nat := l.foldr (fun b v => 2 * v + flag b) 0

/-- Bits as bytes. -/
def bytesOfBits (n : Nat) (l : List Bool) : List Byte :=
  match n with
  | 0 => []
  | k + 1 => BitVec.ofNat 8 (ofBits (l.take 8)) :: bytesOfBits k (l.drop 8)

/-- XOR of two sequences, as long as the shorter one. -/
def xorBits (a b : List Bool) : List Bool := (a.zip b).map (fun x => x.1 != x.2)

/-- The sequence of x^a + x^b + 1: `n` bits from a register whose stage i holds bit i - 1 of `r`; each feedback bit is put out and
enters stage 1. -/
def sequenceOf (a b n r : Nat) : List Bool :=
  match n with
  | 0 => []
  | k + 1 =>
    let f := bit r (a - 1) != bit r (b - 1)
    f :: sequenceOf a b k ((2 * r + flag f) % 2 ^ a)

/-- Bits under the scrambler of x^7 + x^4 + 1 started from SEED (R316 step 1); the same function descrambles. -/
def scramble (seed : Nat) (l : List Bool) : List Bool := xorBits l (sequenceOf 7 4 l.length seed)

/-! ### The header (R314) -/

/-- One bit through the CRC-8 register of x^8 + x^2 + x + 1. -/
def headerCrcBit (crc : Nat) (b : Bool) : Nat :=
  if b != bit crc 7 then Nat.xor (2 * crc % 256) 0x07 else 2 * crc % 256

/-- The register after bits in transmit order, from 0xFF. -/
def headerCrc (l : List Bool) : Nat := l.foldl headerCrcBit 0xFF

/-- The 64 header bits (Table 8-6): register bit 7 of the CRC goes to header bit 50. -/
def phyHeader (mcs len seed colour dir txpwr : Nat) : Nat :=
  let f := mcs % 16 + 2 ^ 4 * (len % 4096) + 2 ^ 16 * (seed % 128) + 2 ^ 23 * (colour % 64) + 2 ^ 29 * (dir % 2) + 2 ^ 32 * (txpwr % 64)
  f + 2 ^ 50 * ofBits (lowBits 8 (headerCrc (lowBits 50 f))).reverse

/-- Whether a received header is intact: the register ends with 0 after bits 0 to 57. -/
def headerIntact (h : Nat) : Bool := headerCrc (lowBits 58 h) == 0

/-- TXPWR of an EIRP in 0.01 dBm: to the nearest dBm, halves up, plus 10, saturating (R323). -/
def txpwrOf (eirp : Int) : Nat := (clampInt 0 63 ((eirp + 50) / 100 + 10)).toNat

/-! ### The data field (R316) -/

/-- The parity of the taps of a generator. -/
def tapParity (g r : Nat) : Bool := ((List.range 7).filter (fun i => bit g i && bit r i)).length % 2 == 1

/-- The rate-1/2 code with generators 133 and 171 (octal): A and B of every bit; `r` holds the last six bits, the newest highest. -/
def convolve (r : Nat) (l : List Bool) : List (Bool × Bool) :=
  match l with
  | [] => []
  | b :: t =>
    let w := 64 * flag b + r
    (tapParity 0o133 w, tapParity 0o171 w) :: convolve (w / 2) t

/-- Puncturing: all of A and B at 1/2, A1 B1 A2 at 2/3, A1 B1 A2 B3 at 3/4. -/
def puncture (rate : Nat × Nat) (l : List (Bool × Bool)) : List Bool :=
  if rate = (2, 3) then
    (l.zipIdx).flatMap (fun x => if x.2 % 2 = 0 then [x.1.1, x.1.2] else [x.1.1])
  else if rate = (3, 4) then
    (l.zipIdx).flatMap (fun x => if x.2 % 3 = 0 then [x.1.1, x.1.2] else if x.2 % 3 = 1 then [x.1.1] else [x.1.2])
  else l.flatMap (fun x => [x.1, x.2])

/-- Within a symbol of `n` coded bits, bit i moves to position (n / 16) (i mod 16) + i / 16. -/
def interleave (n : Nat) (l : List Bool) : List Bool :=
  (List.range n).map (fun j => nth l (16 * (j % (n / 16)) + j / (n / 16)) false)

/-- The level that Gray-coded bits of one axis give: one, two or three of them. -/
def grayLevel (l : List Bool) : Int :=
  match l with
  | [false] => -1
  | [true] => 1
  | [false, false] => -3
  | [false, true] => -1
  | [true, true] => 1
  | [true, false] => 3
  | [false, false, false] => -7
  | [false, false, true] => -5
  | [false, true, true] => -3
  | [false, true, false] => -1
  | [true, true, false] => 1
  | [true, true, true] => 3
  | [true, false, true] => 5
  | [true, false, false] => 7
  | _ => 0

/-- The constellation point of the bits of one subcarrier, with unit mean power: BPSK, QPSK, 16-QAM, 64-QAM. -/
def constellation (l : List Bool) : Iq :=
  let m := l.length
  if m = 1 then ⟨grayLevel l, 0, 1⟩
  else ⟨grayLevel (l.take (m / 2)), grayLevel (l.drop (m / 2)), if m = 2 then 2 else if m = 4 then 10 else 42⟩

/-- A list cut into `n` pieces of `m`. -/
def piecesOf {α : Type} (n m : Nat) (l : List α) : List (List α) :=
  match n with
  | 0 => []
  | k + 1 => l.take m :: piecesOf k m (l.drop m)

/-! ### Symbols (R313, R317) -/

/-- The values of the data subcarriers of one symbol; under repetition 2 the first half comes again with odd positions inverted
(R317). -/
def symbolValues (n1 : Bool) (mcs : Nat) (bits : List Bool) : List Iq :=
  let vs := (piecesOf (symbolBits n1 mcs / carrierBits mcs) (carrierBits mcs) (interleave (symbolBits n1 mcs) bits)).map constellation
  if mcs = 0 then vs ++ (vs.zipIdx).map (fun x => if x.2 % 2 = 1 then { x.1 with
      re := -x.1.re
      im := -x.1.im } else x.1)
  else vs

/-- Places data values and pilots on the used subcarriers; pilot p carries `sign` (-1)^p (R312, R317). -/
def placeValues (sign : Int) (p : Nat) (ks : List Int) (vs : List Iq) : List (Int × Iq) :=
  match ks with
  | [] => []
  | k :: r =>
    if isPilot k then (k, ⟨if p % 2 = 0 then sign else -sign, 0, 1⟩) :: placeValues sign (p + 1) r vs
    else (k, vs.headD ⟨0, 0, 1⟩) :: placeValues sign p r vs.tail

/-- The symbols of coded bits at an MCS, with the signs of their pilots. -/
def codedSymbols (n1 : Bool) (mcs : Nat) (signs : List Bool) (bits : List Bool) : List (List (Int × Iq)) :=
  ((piecesOf signs.length (symbolBits n1 mcs) bits).zip signs).map (fun x =>
    placeValues (if x.2 then -1 else 1) 0 (usedCarriers n1) (symbolValues n1 mcs x.1))

/-- The preamble symbol: 1 - 2 b at amplitude sqrt 2 on the even used subcarriers, b from x^9 + x^5 + 1 seeded with all ones
(R313). -/
def preambleSymbol (n1 : Bool) : List (Int × Iq) :=
  let ks := (usedCarriers n1).filter (fun k => k % 2 == 0)
  (ks.zip (sequenceOf 9 5 ks.length 511)).map (fun x => (x.1, ⟨if x.2 then -2 else 2, 0, 2⟩))

/-- The data field before mapping: scrambled PSDU, six tail bits, pad bits to whole symbols, coded and punctured (R316). -/
def dataField (n1 : Bool) (mcs seed : Nat) (psdu : List Byte) : List Bool :=
  let n := (8 * psdu.length + 6 + ndbps n1 mcs - 1) / ndbps n1 mcs * ndbps n1 mcs
  let body := scramble seed (bitsOfBytes psdu)
  puncture (codeRate mcs) (convolve 0 (body ++ List.replicate (n - body.length) false))

/-- The symbols of a frame: preamble, header at MCS 0 without scrambling, data; s(n) counts from the first header symbol
(R313, R314, R317). -/
def frameSymbols (n1 : Bool) (header mcs seed : Nat) (psdu : List Byte) : List (List (Int × Iq)) :=
  let h := if n1 then 8 else 2
  let d := (8 * psdu.length + 6 + ndbps n1 mcs - 1) / ndbps n1 mcs
  let signs := sequenceOf 7 4 (h + d) 127
  List.replicate (if n1 then 2 else 1) (preambleSymbol n1)
    ++ codedSymbols n1 0 (signs.take h) (puncture (1, 2) (convolve 0 (lowBits 64 header)))
    ++ codedSymbols n1 mcs (signs.drop h) (dataField n1 mcs seed psdu)

/-! ### The FCS -/

/-- A PSDU with its FCS: CRC-32C over the bytes before it, little-endian (R315). -/
def withFcs (l : List Byte) : List Byte := l ++ leBytes 4 (crc32c l)

/-- Whether the last four bytes of a PSDU are its FCS. -/
def fcsMatches (psdu : List Byte) : Bool :=
  psdu.drop (psdu.length - 4) == leBytes 4 (crc32c (psdu.take (psdu.length - 4)))

end Sys2Proof.Machine
end

