-- ==== Sys2Proof/Machine/Radio.lean ====
section
/-!
DEFINITION. Sys2Proof/Machine/Radio.lean: chapter 8: the radio-head ports, scripts, channels, transmit power and receive gain, and the
commands of group 0x07 that belong to the PHY.
-/
namespace Sys2Proof.Machine
open Sys2Proof

/-- A radio head. -/
def headOfRh (s : State) (h : Nat) : Head := nth s.rh h Head.zero

/-- Changes a radio head. -/
def modHead (h : Nat) (f : Head → Head) (s : State) : State := { s with rh := modNth s.rh h f }

/-! ### Calibration (Table 8-10) -/

/-- The calibration block of a head. -/
def calBlock (s : State) (h : Nat) : List Byte := sub (nth s.pwr.calib 4 []) (168 * h) 168

/-- The band code of a head's calibration block; 0 is uncalibrated. -/
def calBand (s : State) (h : Nat) : Nat := u8 (calBlock s h) 0

/-- RX gain of a step in 0.01 dB. -/
def rxGain (s : State) (h step : Nat) : Int := iN 2 (calBlock s h) (12 + 2 * step)

/-- min_backoff of an MCS in 0.01 dB. -/
def minBackoff (s : State) (h mcs : Nat) : Int := (u8 (calBlock s h) (30 + mcs) : Int) * 25

/-- The calibration points of a head: frequency in kHz and EIRP at 0 dB backoff in 0.01 dBm. -/
def calPoints (s : State) (h : Nat) : List (Nat × Int) :=
  (List.range (u8 (calBlock s h) 1)).map (fun i => (u32 (calBlock s h) (40 + 8 * i), iN 2 (calBlock s h) (44 + 8 * i)))

/-- Linear interpolation over rising points, constant beyond the first and the last (R323). -/
def interpolate (l : List (Nat × Int)) (f : Nat) : Int :=
  match l with
  | [] => 0
  | [a] => a.2
  | a :: b :: r =>
    if f ≤ a.1 then a.2
    else if f ≤ b.1 then a.2 + roundDiv ((b.2 - a.2) * ((f - a.1 : Nat) : Int)) (b.1 - a.1)
    else interpolate (b :: r) f

/-- The backoff of a frame in 0.01 dB: from its min_backoff to 30 dB, rounded up to 0.25 dB (R323). -/
def backoffOf (least want : Int) : Int := (clampInt least 3000 want + 24) / 25 * 25

/-- The EIRP that results for a frame in 0.01 dBm, its backoff, and whether cap limited it (R323). -/
def frameEirp (s : State) (h centre mcs : Nat) (subMax requested : Int) : Int × Int × Bool :=
  let full := interpolate (calPoints s h) centre
  let lim := min subMax (full - minBackoff s h mcs)
  let b := backoffOf (minBackoff s h mcs) (full - min requested lim)
  (full - b, b, decide (lim < requested))

/-- The TX latency of a head in ps (Table 8-10). -/
def txLatency (s : State) (h : Nat) : Nat := u32 (calBlock s h) 4

/-- The RX latency of a head in ns, to the nearest (Table 8-10). -/
def rxLatency (s : State) (h : Nat) : Nat := (u32 (calBlock s h) 8 + 500) / 1000

/-- The RSSI at the antenna in 0.25 dBm of a level in 0.01 dBFS (Table 8-10). -/
def rssiOf (s : State) (h : Nat) (level : Int) : Int :=
  roundDiv (level - rxGain s h (headOfRh s h).gain + iN 2 (calBlock s h) 28) 25

/-! ### Channels (R321, R322) -/

/-- The edges of a band in kHz (Table 8-9). -/
def bandKhz (band : Nat) : Nat × Nat :=
  match band with
  | 1 => (863000, 870000)
  | 2 => (902000, 928000)
  | 3 => (2400000, 2483500)
  | 4 => (5725000, 5875000)
  | _ => (0, 0)

/-- The occupied bandwidth in kHz (Table 8-5). -/
def occupied (n1 : Bool) : Nat := if n1 then 1125 else 4500

/-- Whether a span of `occ` kHz about a centre lies inside [lo, hi] kHz. -/
def spanInside (centre occ lo hi : Nat) : Bool := decide (2 * lo + occ ≤ 2 * centre) && decide (2 * centre + occ ≤ 2 * hi)

/-- The channel of an index of a head. -/
def chanOf (x : Head) (i : Nat) : Option RhChan := x.chans[i]?

/-- The sub-band entries whose span contains a channel of a head (R322). -/
def subbandsOf (s : State) (h : Nat) (c : RhChan) : List Nat :=
  (List.range s.repl.mac.subs.length).filter (fun i =>
    let e := nth s.repl.mac.subs i ⟨0, 0, 0, 0, 0, false, 0⟩
    spanInside c.centre (occupied (headOfRh s h).set.n1) e.lo e.hi)

/-- Whether the spans of two heads' channels overlap. -/
def spansOverlap (a : Head) (ca : RhChan) (b : Head) (cb : RhChan) : Bool :=
  decide (2 * (max ca.centre cb.centre - min ca.centre cb.centre) < occupied a.set.n1 + occupied b.set.n1)

/-- Whether another head is tuned to a channel that overlaps (R322). -/
def overlapsOther (s : State) (h : Nat) (c : RhChan) : Bool :=
  (List.range 4).any (fun k => k != h &&
    (match (headOfRh s k).chan.bind (fun i => chanOf (headOfRh s k) i) with
     | none => false
     | some d => spansOverlap (headOfRh s h) c (headOfRh s k) d))

/-- Queues a script of a head; scripts and transfers run one at a time (R310). -/
def queueScript (h : Nat) (x : RhScript) (s : State) : State := modHead h (fun y => { y with queue := y.queue ++ [x] }) s

/-- Queues a transfer of a head behind the script or transfer that runs; an urgent one overtakes the transfers of its session that have
not started (R81, R310). -/
def queueTransfer (h : Nat) (r : Req) (s : State) : State :=
  modHead h (fun y => { y with
    queue := y.queue.take 1 ++ enqueueUrgent r.urgent (fun q => q.req.any (overtakes r)) ⟨3, 0, 0, some r⟩ (y.queue.drop 1) }) s

/-- A head is told to use a channel: not made where it would overlap another head's, else its script runs (R310, R322). -/
def tune (h i : Nat) (s : State) : State :=
  let s1 := modHead h (fun x => { x with want := some i }) s
  match chanOf (headOfRh s h) i with
  | none => modHead h (fun x => { x with chan := none }) s1
  | some c =>
    if (headOfRh s h).chan = some i then s1
    else if overlapsOther s h c then modHead h (fun x => { x with notMade := satAdd 16 x.notMade 1 }) s1
    else if c.script = 0xFFFF then modHead h (fun x => { x with chan := some i }) s1
    else queueScript h ⟨1, c.script, i, none⟩ s1

/-! ### Scripts (R308 to R311) -/

/-- An entry of a head's script memory; unlisted entries are END. -/
def scriptEntry (x : Head) (i : Nat) : List Byte := (look x.scripts i).getD (zeros 8)

/-- The entries of a script: from its start to the first END, at most 64 (R308). -/
def scriptFrom (fuel i : Nat) (x : Head) : List (List Byte) :=
  match fuel with
  | 0 => []
  | n + 1 => if i ≥ 256 ∨ u8 (scriptEntry x i) 0 = 0 then [] else scriptEntry x i :: scriptFrom n (i + 1) x

/-- The bytes that a script writes. -/
def scriptWrites (l : List (List Byte)) : List Byte := l.flatMap (fun e => if u8 e 0 = 1 then sub e 4 (u8 e 1) else [])

/-- The number of bytes that a script reads. -/
def scriptReads (l : List (List Byte)) : Nat := (l.map (fun e => if u8 e 0 = 2 then u8 e 1 else 0)).sum

/-- The run time of a script in ns at the head's SPI clock: eight clocks a byte, the waits, and 100 ns with RHx_CS_N high after
each transfer that does not keep it low (R308, R310; log entry 18). -/
def scriptNs (mhz : Nat) (l : List (List Byte)) : Nat :=
  (l.map (fun e =>
    if u8 e 0 = 3 then u8 e 1 * 1000
    else (u8 e 1 * 8000 + mhz - 1) / max mhz 1 + (if bit (u8 e 3) 0 then 0 else 100))).sum

/-- RH_IRQ (R309, R311). -/
def rhIrq (h n : Nat) (buf : List Byte) (s : State) : State :=
  emit 0xC702 (20 + h) (leBytes 1 h ++ leBytes 1 n ++ zeros 2 ++ buf.take 16 ++ zeros (16 - min buf.length 16)) s

/-- The IRQ script becomes due; without one the interrupt is reported with an empty buffer (R311). -/
def irqScript (h : Nat) (s : State) : State :=
  let x := headOfRh s h
  let s1 := modHead h (fun x => { x with irqLast := s.tb.gtc }) s
  if x.set.irqScript = 0xFFFF then rhIrq h 0 [] s1 else queueScript h ⟨2, x.set.irqScript, 0, none⟩ s1

/-- RH_IRQ_EDGE (R311). -/
def execRhIrqEdge (h : Nat) (s : State) : Result := done (if (headOfRh s h).port = 0 then s else irqScript h s)

/-- RH_IRQ_REPEAT (R311): RHx_IRQ_N is still low; at most once per 100 ms. -/
def execRhIrqRepeat (h : Nat) (s : State) : Result :=
  done (if (headOfRh s h).port = 0 ∨ sinceNs s (headOfRh s h).irqLast < 100000000 then s else irqScript h s)

/-- The head of a head's script queue has run; `read` are the bytes that the head returned (R309, R310). -/
def scriptDone (h : Nat) (read : List Byte) (s : State) : State :=
  match (headOfRh s h).queue with
  | [] => s
  | q :: rest =>
    let x := headOfRh s h
    let s1 := modHead h (fun x => { x with queue := rest }) s
    if q.kind = 3 then
      match q.req with
      | none => s1
      | some r =>
        let n := u8 r.payload 2
        reply r 0x0704 0 (read.take n ++ zeros (n - min read.length n)) (put (.headSpi h (sub r.payload 4 (u8 r.payload 1))) s1)
    else
      let es := scriptFrom 64 q.index x
      let n := min (scriptReads es) 16
      let buf := (read.take n ++ zeros (n - min read.length n))
      let s2 := put (.headSpi h (scriptWrites es)) (modHead h (fun x => { x with result := buf }) s1)
      if q.kind = 1 then modHead h (fun x => { x with
          chan := some q.chan
          chanAt := some s.tb.gtc }) s2
      else if q.kind = 2 then rhIrq h n buf s2
      else s2

/-- RH_SCRIPT_COMPLETE (R310). -/
def execRhScriptComplete (h : Nat) (read : List Byte) (s : State) : Result := done (scriptDone h read s)

/-! ### The lines of a head (R303, R305, R325) -/

/-- A GTC `us` microseconds after another, or before it. -/
def gtcPlus (t : Gtc) (us : Int) : Gtc := t + BitVec.ofInt 64 (us * 1000)

/-- The level of RHx_TR (R297: polarity settable). -/
def trLevel (x : Head) (transmit : Bool) : Nat := flag (transmit != x.set.trLow)

/-- Whether a line asserted for the last frame is released before one more is asserted: release `lag` after the end of the last
frame, assertion `lead` before now (R303). -/
def lineReleased (x : Head) (now : Gtc) (lag lead : Nat) : Bool :=
  decide (0 < (gtcPlus now (-(lead : Int)) - gtcPlus x.txEnd lag).toInt)

/-- The releases of a head's lines after its last frame: PAEN after PA lag, TR after T/R lag (R303). -/
def lineReleases (h : Nat) (x : Head) (pa tr : Bool) : List Out :=
  (if x.paen && pa then [Out.headLine h 1 0 (gtcPlus x.txEnd x.set.paLag)] else []) ++
  (if x.tr && tr then [Out.headLine h 0 (trLevel x false) (gtcPlus x.txEnd x.set.trLag)] else [])

/-- The block puts several things out. -/
def putAll (l : List Out) (s : State) : State := { s with outs := s.outs ++ l }

/-- Transmission on a head is over: its lines are released (R303). -/
def releaseHead (h : Nat) (s : State) : State :=
  modHead h (fun x => { x with
    tr := false
    paen := false }) (putAll (lineReleases h (headOfRh s h) true true) s)

/-- The lines of a head fall at once, RHx_PAEN before RHx_TR (R303, R305, R326). -/
def dropLines (h : Nat) (s : State) : State :=
  let x := headOfRh s h
  modHead h (fun x => { x with
    tr := false
    paen := false })
    (putAll ((if x.paen then [Out.headLine h 1 0 s.tb.gtc] else []) ++ (if x.tr then [Out.headLine h 0 (trLevel x false) s.tb.gtc] else [])) s)

/-- The lines rise for a frame that starts now and lasts `us`: TR at T/R lead, PAEN at PA lead before the boundary; a line whose
release would meet the assertion stays asserted (R303). -/
def raiseLines (h us : Nat) (s : State) : State :=
  let x := headOfRh s h
  let now := s.tb.gtc
  let pa := !x.paen || lineReleased x now x.set.paLag x.set.paLead
  let tr := !x.tr || lineReleased x now x.set.trLag x.set.trLead
  modHead h (fun x => { x with
    tr := true
    paen := true
    paenSince := if pa then gtcPlus now (-(x.set.paLead : Int)) else x.paenSince
    txEnd := gtcPlus now us })
    (putAll (lineReleases h x pa tr ++ (if tr then [Out.headLine h 0 (trLevel x true) (gtcPlus now (-(x.set.trLead : Int)))] else []) ++
      (if pa then [Out.headLine h 1 1 (gtcPlus now (-(x.set.paLead : Int)))] else [])) s)

/-! ### Port states (R301, R305) -/

/-- RH_PORT (Table 8-13). -/
def rhPort (h old new cause : Nat) (s : State) : State :=
  emit 0xC701 (20 + h) (leBytes 1 h ++ leBytes 1 old ++ leBytes 1 new ++ leBytes 1 cause) s

/-- A change of a head's port state, reported (R301). -/
def setPort (h new cause : Nat) (s : State) : State :=
  let old := (headOfRh s h).port
  if old = new then s
  else rhPort h old new cause (modHead h (fun x => { x with port := new }) (if new = 2 then s else dropLines h s))

/-- RH_RXCLK_PRESENT (R301): RXCLK has run for 1 ms. -/
def execRhRxclkPresent (h : Nat) (s : State) : Result := done (if (headOfRh s h).port = 1 then setPort h 2 2 s else s)

/-- RH_RXCLK_LOST (R301): no edge for 1 us. -/
def execRhRxclkLost (h : Nat) (s : State) : Result := done (if (headOfRh s h).port = 2 then setPort h 1 1 s else s)

/-- RH_BURST_LIMIT (R305): RHx_PAEN has been high for 4.25 ms without a break. -/
def execRhBurstLimit (h : Nat) (s : State) : Result :=
  let x := headOfRh s h
  done (if x.paen = true ∧ 4250000 ≤ sinceNs s x.paenSince then
      setPort h 3 3 (modHead h (fun x => { x with trips := satAdd 16 x.trips 1 }) (dropLines h s))
    else s)

/-! ### Receive gain (R306, R307) -/

/-- The fence of a head's gain, in 0.01 dB: a fixed value closes it to a point. -/
def gainFence (x : Head) : Int × Int :=
  match x.agcFixed with
  | none => (x.agcLo, x.agcHi)
  | some v => (v, v)

/-- The step whose calibrated gain lies nearest to a gain, the lowest of several (R307). -/
def nearestStep (s : State) (h : Nat) (g : Int) : Nat :=
  (List.range 8).foldl (fun best i => if (rxGain s h i - g).natAbs < (rxGain s h best - g).natAbs then i else best) 0

/-- The gain inside the fence, as a step (R307). -/
def fencedStep (s : State) (h : Nat) (g : Int) : Nat :=
  nearestStep s h (clampInt (gainFence (headOfRh s h)).1 (gainFence (headOfRh s h)).2 g)

/-- A berth's step is learned from a received frame: the gain that puts its preamble peak nearest to -12 dBFS (R307). -/
def learnStep (h b : Nat) (peak : Int) (s : State) : State :=
  let g := rxGain s h (headOfRh s h).gain + (-1200 - peak)
  modHead h (fun x => { x with learned := upsert x.learned b (fencedStep s h g) }) s

/-- The median of signed levels, the lower middle one. -/
def medianInt (l : List Int) : Int :=
  let sorted := l.foldl (fun a v => (a.filter (fun x => decide (x ≤ v))) ++ [v] ++ a.filter (fun x => decide (v < x))) []
  nth sorted ((l.length - 1) / 2) 0

/-- The head AGC loop (loop 2, instances 16 to 19), once per orbit (R307). -/
def headAgc (h : Nat) (s : State) : State :=
  let x := headOfRh s h
  let peaks := x.joinPeaks.filter (fun p => decide (orbitNow s - p.1 < 10))
  let s1 := modHead h (fun x => { x with joinPeaks := peaks }) s
  let want := if peaks = [] then rxGain s h 7 else -1200 - medianInt (peaks.map (fun p => p.2))
  let s2 := modHead h (fun x => { x with agc := fencedStep s h want }) s1
  if x.agcFixed.isSome then s2
  else if want < x.agcLo then policyLimit (20 + h) 2 (16 + h) 0 0 x.agcLo want s2
  else if x.agcHi < want then policyLimit (20 + h) 2 (16 + h) 1 0 x.agcHi want s2
  else s2

/-- The gain step for a receive window that opens `w` before the present boundary: the berth's learned step, else the AGC output. It
changes at the gain lead before the window opens, but never inside a frame of the head (R306, R364). -/
def windowGain (h : Nat) (berth : Option Nat) (s : State) : State :=
  let x := headOfRh s h
  let g := match berth.bind (fun b => look x.learned b) with
    | none => x.agc
    | some k => fencedStep s h (rxGain s h k)
  let t := gtcPlus s.tb.gtc (-((s.repl.mac.cfg.window + x.set.gainLead : Nat) : Int))
  if g = x.gain ∨ (t - x.txEnd).toInt < 0 then s
  else put (.headLine h 2 g t) (modHead h (fun x => { x with gain := g }) s)

/-- Whether a head receives: its port is READY, REF_IN is present and the radio mode in force is not OFF
(R301, R578, R628). -/
def headListens (s : State) (h : Nat) : Bool := (headOfRh s h).port == 2 && s.modes.radio != 0 && !s.pwr.refLost

/-- A field of a received header: `n` bits from bit `lo` (Table 8-6). -/
def rxField (f : AirFrame) (lo n : Nat) : Nat := f.header / 2 ^ lo % 2 ^ n

/-- MCS, LENGTH, COLOUR, DIR and TXPWR of a received header (Table 8-6). -/
def rxMcs (f : AirFrame) : Nat := rxField f 0 4
/-- LENGTH. -/
def rxLength (f : AirFrame) : Nat := rxField f 4 12
/-- COLOUR. -/
def rxColour (f : AirFrame) : Nat := rxField f 23 6
/-- DIR. -/
def rxDir (f : AirFrame) : Nat := rxField f 29 1
/-- TXPWR. -/
def rxTxpwr (f : AirFrame) : Nat := rxField f 32 6

/-- The PSDU of a received frame: its data bits descrambled with the header's SEED (R316). -/
def rxPsdu (f : AirFrame) : List Byte := bytesOfBits f.data.length (scramble (rxField f 16 7) (bitsOfBytes f.data))

/-- Whether the FCS of a frame passes (R315); a header with reserved values or another version has no data field that could pass
(log entry 34). -/
def rxFcsOk (f : AirFrame) : Bool :=
  (rxMcs f) ≤ 7 && rxField f 30 2 == 0 && decide (5 ≤ (rxLength f)) && f.data.length == (rxLength f) && fcsMatches (rxPsdu f)

/-- The age of a frame's preamble start at the antenna, in ns (R302). -/
def antennaAge (f : AirFrame) (s : State) : Nat := f.age + rxLatency s f.head

/-- A frame's timing offset from the nearest unit boundary, in ns (R302, R364). -/
def timingNs (f : AirFrame) (s : State) : Int :=
  let m := ((s.tb.st : Int) - s.mac.airOffset - antennaAge f s) % 250000
  if m < 125000 then m else m - 250000

/-- A frame's timing offset in 10 ns (Table 8-8). -/
def timingOf (f : AirFrame) (s : State) : Int := roundDiv (timingNs f s) 10

/-- Whether a head could hear a frame: RHx_TR was not at transmit, and its receive window on the channel was open, which is not so
before a channel script has ended plus T/R lead (R303, R310). -/
def headOpen (f : AirFrame) (s : State) : Bool :=
  let x := headOfRh s f.head
  let start := s.tb.gtc - BitVec.ofNat 64 (antennaAge f s)
  !(x.tr && decide ((start - gtcPlus x.txEnd x.set.trLag).toInt < 0)) && !(x.queue.any (fun q => q.kind == 1)) &&
    (match x.chanAt with
     | none => true
     | some t => decide (0 ≤ (start - gtcPlus t x.set.trLead).toInt))

/-- Whether the receiver acquires a frame: the head listens, its carrier lies within 25 ppm, its preamble starts within the receive
window (R320, R364). -/
def acquired (f : AirFrame) (s : State) : Bool :=
  headListens s f.head && headOpen f s && decide (f.cfo.natAbs ≤ 2500) &&
    decide ((timingNs f s).natAbs ≤ s.repl.mac.cfg.window * 1000)

/-- Whether a frame passes to the MAC (R320). -/
def frameDelivered (f : AirFrame) (s : State) : Bool :=
  headerIntact f.header && (rxDir f) == 1 && (rxColour f) == s.repl.mac.cfg.colour && (rxFcsOk f)

/-- The report of a received frame (Table 8-8). -/
def rxReport (f : AirFrame) (s : State) : List Byte :=
  let x := headOfRh s f.head
  leBytes 8 (s.tb.gtc - BitVec.ofNat 64 (antennaAge f s)).toNat ++ leBytes 1 f.head ++ leBytes 1 (x.chan.getD 0) ++ leBytes 1 (rxMcs f)
    ++ leBytes 1 (bitsOf [headerIntact f.header, (rxFcsOk f), (rxColour f) == s.repl.mac.cfg.colour, (rxDir f) == 1]) ++ leBytes 2 (rxLength f)
    ++ leInt 2 (rssiOf s f.head f.level) ++ leInt 2 f.snr ++ leInt 2 f.cfo ++ leInt 2 (timingOf f s) ++ leBytes 1 (rxTxpwr f)
    ++ leBytes 1 x.gain

/-- The frame type of a received PSDU, and its source address (Table 9-2). -/
def rxType (f : AirFrame) : Nat := u8 (rxPsdu f) 0 % 16
/-- The source address. -/
def rxSrc (f : AirFrame) : Nat := u16 (rxPsdu f) 4

/-- What a delivered frame teaches of the gain: JOIN frames (types 8 and 9) feed the AGC loop, frames of a berth its learned step
(R307). -/
def learnGain (f : AirFrame) (s : State) : State :=
  if (rxType f) = 8 ∨ (rxType f) = 9 then
    modHead f.head (fun x => { x with joinPeaks := x.joinPeaks ++ [(orbitNow s, f.peak - rxGain s f.head x.gain)] }) s
  else if within (rxSrc f) 0x0100 0x01FF then learnStep f.head ((rxSrc f) % 256) f.peak s
  else s

/-- The PHY's part of a received frame: the counters and the report of R320, the gain steps of R307. -/
def phyReceive (f : AirFrame) (s : State) : State :=
  if acquired f s = false then s
  else if headerIntact f.header = false then modHead f.head (fun x => { x with hdrFail := satAdd 32 x.hdrFail 1 }) s
  else
    let foreign := (rxDir f) != 1 || (rxColour f) != s.repl.mac.cfg.colour
    let s1 := put (.rxReport (rxReport f s)) (modHead f.head (fun x => { x with
      foreign := if foreign then satAdd 32 x.foreign 1 else x.foreign
      fcsFail := if (rxFcsOk f) then x.fcsFail else satAdd 32 x.fcsFail 1 }) s)
    if frameDelivered f s then learnGain f (modHead f.head (fun x => { x with delivered := satAdd 32 x.delivered 1 }) s1)
    else s1

/-! ### Commands (Tables 8-11, 8-12) -/

/-- The settings that RH_HEAD_SET carries. -/
def headSetOf (p : List Byte) : HeadSet :=
  let fl := u8 p 1
  ⟨bit fl 0, bit fl 1, bit fl 2, u8 p 2, u8 p 3 == 1, u8 p 4, u8 p 5, u8 p 6, u8 p 7, u8 p 8, u8 p 9, u8 p 10, u16 p 12, u16 p 14⟩

/-- The settings of a head as RH_HEAD_SET carries them. -/
def headSetBytes (h : Nat) (x : HeadSet) : List Byte :=
  leBytes 1 h ++ leBytes 1 (bitsOf [x.enable, x.rate2, x.trLow]) ++ leBytes 1 x.band ++ leBytes 1 (flag x.n1) ++ leBytes 1 x.spiMode
    ++ leBytes 1 x.spiClock ++ leBytes 1 x.trLead ++ leBytes 1 x.trLag ++ leBytes 1 x.paLead ++ leBytes 1 x.paLag
    ++ leBytes 1 x.gainLead ++ zeros 1 ++ leBytes 2 x.enScript ++ leBytes 2 x.irqScript

/-- The transfers that wait on a head that is being disabled are refused (R329). -/
def refuseTransfers (h : Nat) (s : State) : State :=
  (headOfRh s h).queue.foldl (fun t q => match q.req with
    | none => t
    | some r => reply r 0x0704 0x8706 [] t) (modHead h (fun x => { x with queue := [] }) s)

/-- RH_HEAD_SET puts its settings in force (R301, R321). -/
def applyHeadSet (h : Nat) (n : HeadSet) (s : State) : State :=
  let old := (headOfRh s h).set
  let s1 := modHead h (fun x => { x with
    set := n
    chans := if old.band = n.band ∧ old.n1 = n.n1 then x.chans else []
    chan := if old.band = n.band ∧ old.n1 = n.n1 then x.chan else none }) s
  if n.enable = true ∧ old.enable = false then
    let s2 := setPort h 1 0 s1
    let s3 := if n.enScript = 0xFFFF then s2 else queueScript h ⟨0, n.enScript, 0, none⟩ s2
    tune h (nth s.repl.mac.heads h MacHead.default).chan (modHead h (fun x => { x with
      chan := none
      calHold := false }) s3)
  else if n.enable = false ∧ old.enable = true then
    setPort h 0 0 (refuseTransfers h (modHead h (fun x => { x with
      chan := none
      want := none }) s1))
  else s1

/-- RH_HEAD_SET (R301, R321, R324). -/
def execRhHeadSet (r : Req) (s : State) : Result :=
  let p := r.payload
  let h := u8 p 0
  let n := headSetOf p
  done (runCommand 0x0701 true r (fun s =>
    let old := (headOfRh s h).set
    checked (p.length == 16) (bitsBelow (u8 p 1) 3 && zeroAt p 11 1)
      (h ≤ 3 && within n.band 1 4 && u8 p 3 ≤ 1 && (n.spiMode == 0 || n.spiMode == 3) && within n.spiClock 1 25
        && within n.trLead 4 16 && within n.trLag 1 12 && within n.paLead 1 16 && n.paLag ≤ 12 && within n.gainLead 1 20
        && (n.enScript ≤ 255 || n.enScript == 0xFFFF) && (n.irqScript ≤ 255 || n.irqScript == 0xFFFF)
        && (n.n1 || !n.rate2) && decide (n.trLead + n.trLag ≤ 16) && decide (n.paLead ≤ n.trLead) && decide (n.paLag ≤ n.trLag))
      true
      (failIf (old.enable && (old.band != n.band || old.n1 != n.n1 || old.rate2 != n.rate2)) 0x8702 ++
        failIf (n.enable && (calBand s h == 0 || calBand s h != n.band)) 0x8705) s (fun s =>
      let s1 := applyHeadSet h n s
      .reply (changed (old == n)) (headSetBytes h n ++ leBytes 1 (headOfRh s1 h).port ++ zeros 3) s1)) s)

/-- The channels that RH_CHAN_SET carries. -/
def chansOf (p : List Byte) : List RhChan := (List.range (u8 p 1)).map (fun i => ⟨u32 p (4 + 8 * i), u16 p (8 + 8 * i)⟩)

/-- RH_CHAN_SET (R310, R321, R322). -/
def execRhChanSet (r : Req) (s : State) : Result :=
  let p := r.payload
  let h := u8 p 0
  let cs := chansOf p
  done (runCommand 0x0702 true r (fun s =>
    let x := headOfRh s h
    let b := bandKhz x.set.band
    checked (p.length == 4 + 8 * u8 p 1) (zeroAt p 2 2 && (List.range (u8 p 1)).all (fun i => zeroAt p (10 + 8 * i) 2))
      (h ≤ 3 && within (u8 p 1) 1 16 && cs.all (fun c => c.script ≤ 255 || c.script == 0xFFFF)) (noRepeat (cs.map (fun c => c.centre)))
      (failIf (cs.any (fun c => c.centre % 125 != 0 || !spanInside c.centre (occupied x.set.n1) b.1 b.2)) 0x8701 ++
        failIf (s.modes.radio == 2 && (match x.chan with
          | none => false
          | some i => cs[i]? != x.chans[i]?)) 0x8703 ++
        failIf (cs.any (fun c => c.script != 0xFFFF && decide (200000 < scriptNs x.set.spiClock (scriptFrom 64 c.script x)))) 0x8704) s
      (fun s =>
      let s1 := modHead h (fun x => { x with
        chans := cs
        chan := if (x.chan.bind (fun i => cs[i]?)).isSome then x.chan else none }) s
      let s2 := if x.set.enable = true ∧ (headOfRh s1 h).chan = none then
          tune h (nth s.repl.mac.heads h MacHead.default).chan s1 else s1
      .reply (changed (x.chans == cs)) p s2)) s)

/-- RH_SCRIPT_LOAD (R308). -/
def execRhScriptLoad (r : Req) (s : State) : Result :=
  let p := r.payload
  let h := u8 p 0
  let es := (List.range (u8 p 1)).map (fun i => sub p (4 + 8 * i) 8)
  done (runCommand 0x0703 true r (fun s =>
    checked (p.length == 4 + 8 * u8 p 1) (es.all (fun e => zeroAt e 2 1 && bitsBelow (u8 e 3) 1))
      (h ≤ 3 && within (u8 p 1) 1 64 && decide (u16 p 2 + u8 p 1 ≤ 256) && es.all (fun e =>
        u8 e 0 ≤ 3 && (u8 e 0 == 0 || (if u8 e 0 = 3 then 1 ≤ u8 e 1 else within (u8 e 1) 1 4))))
      true (failIf (!(headOfRh s h).queue.isEmpty) 0x2003) s (fun s =>
      .reply 0 p (modHead h (fun x => { x with
        scripts := (List.range (u8 p 1)).foldl (fun l i => upsert l (u16 p 2 + i) (sub p (4 + 8 * i) 8)) x.scripts }) s))) s)

/-- RH_SPI_XFER (R310): the reply comes when the transfer has run. -/
def execRhSpiXfer (r : Req) (s : State) : Result :=
  let p := r.payload
  let h := u8 p 0
  done (runCommand 0x0704 true r (fun s =>
    checked (p.length == 4 + u8 p 1) (zeroAt p 3 1) (h ≤ 3 && u8 p 1 ≤ 60 && u8 p 2 ≤ 60) true
      (failIf ((headOfRh s h).port == 0) 0x8706) s (fun s => .later (queueTransfer h r s))) s)

/-- The number of error-free steps in a row from step `i`, at most `n`. -/
def windowFrom (n m i : Nat) : Nat :=
  match n with
  | 0 => 0
  | k + 1 => if bit m i then windowFrom k m (i + 1) + 1 else 0

/-- The widest error-free window of a sweep of 32 steps, the first of several: its first step and its width (R300). -/
def widestWindow (m : Nat) : Nat × Nat :=
  (List.range 32).foldl (fun b i => if b.2 < windowFrom (32 - i) m i then (i, windowFrom (32 - i) m i) else b) (0, 0)

/-- The centre of the widest error-free window, the lower of two middle steps (R300). -/
def windowCentre (m : Nat) : Nat := (widestWindow m).1 + ((widestWindow m).2 - 1) / 2

/-- RH_PORT_TRAIN (R300): `sweeps` says for RXD0, RXD1 and RXFRM at which of the 32 steps the training pattern came without error. -/
def execRhPortTrain (r : Req) (sweeps : List Nat) (s : State) : Result :=
  let p := r.payload
  let h := u8 p 0
  done (runCommand 0x0705 true r (fun s =>
    let ds := (List.range 3).map (fun i => windowCentre (nth sweeps i 0))
    let least := ((List.range 3).map (fun i => (widestWindow (nth sweeps i 0)).2)).foldl min 32
    checked (p.length == 4) (zeroAt p 1 3) (h ≤ 3) true
      (failIf (headOfRh s h).paen 0x2003 ++ failIf ((headOfRh s h).port != 2) 0x8706) s (fun s =>
      if least < 4 then .reply 0x8707 [] s
      else .reply 0 (ds.flatMap (fun d => leBytes 1 d) ++ leBytes 1 least) (modHead h (fun x => { x with delays := ds }) s))) s)

/-- RH_FENCE_SET (R307). -/
def execRhFenceSet (r : Req) (s : State) : Result :=
  let p := r.payload
  let h := u8 p 0
  let fixed := if u8 p 1 = 1 then some (iN 4 p 12) else none
  done (runCommand 0x0706 true r (fun s =>
    let x := headOfRh s h
    checked (p.length == 16) (zeroAt p 2 2)
      (h ≤ 3 && u8 p 1 ≤ 1 && withinI (iN 4 p 4) (-2400) 2400 && withinI (iN 4 p 8) (-2400) 2400 &&
        (u8 p 1 == 0 || withinI (iN 4 p 12) (-2400) 2400)) true
      (failIf (decide (iN 4 p 8 < iN 4 p 4)) 0x4003) s (fun s =>
      let s1 := modHead h (fun x => { x with
        agcLo := iN 4 p 4
        agcHi := iN 4 p 8
        agcFixed := fixed }) s
      let s2 := modHead h (fun x => { x with
        agc := fencedStep s1 h (rxGain s h x.agc)
        learned := x.learned.map (fun e => (e.1, fencedStep s1 h (rxGain s h e.2))) }) s1
      .reply (changed (x.agcLo == iN 4 p 4 && x.agcHi == iN 4 p 8 && x.agcFixed == fixed)) p s2)) s)

/-- One head's part of the RH_STATUS reply. -/
def headStatus (x : Head) : List Byte :=
  leBytes 1 x.port ++ leBytes 1 (x.chan.getD 0xFF) ++ leBytes 1 x.agc ++ leBytes 1 (flag x.test.isSome) ++ leBytes 4 x.sent
    ++ leBytes 4 x.delivered ++ leBytes 4 x.hdrFail ++ leBytes 4 x.fcsFail ++ leBytes 4 x.foreign ++ leBytes 2 x.dropped
    ++ leBytes 2 x.limited ++ leBytes 2 x.notMade ++ leBytes 2 x.trips

/-- RH_STATUS (R328). -/
def execRhStatus (r : Req) (s : State) : Result :=
  done (runCommand 0x0707 false r (fun s =>
    checked (r.payload.length == 0) true true true [] s (fun s => .reply 0 (s.rh.flatMap headStatus) s)) s)

/-- A test ends and is reported; the head returns to its scheduled channel (R328). -/
def endTest (h cause : Nat) (s : State) : State :=
  match (headOfRh s h).test with
  | none => s
  | some x =>
    emit 0xC703 (20 + h) (leBytes 1 h ++ leBytes 1 cause ++ zeros 2 ++ leBytes 4 x.sent)
      (modHead h (fun y => { y with
        test := none
        want := none }) s)

/-- RH_TEST (R328): the frames go out at the unit boundaries. -/
def execRhTest (r : Req) (s : State) : Result :=
  let p := r.payload
  let h := u8 p 0
  done (runCommand 0x0708 true r (fun s =>
    let c := chanOf (headOfRh s h) (u8 p 2)
    checked (p.length == 12) (zeroAt p 6 2)
      (h ≤ 3 && u8 p 1 ≤ 1 && u8 p 2 ≤ 15 && u8 p 3 ≤ 7 && u16 p 4 ≤ 120 && (u8 p 1 == 0 || within (u32 p 8) 1 60000)) true
      (failIf (s.modes.radio != 1) 0x2002 ++ failIf (s.pair.role == 2) 0x2004 ++ failIf ((headOfRh s h).port != 2) 0x8706 ++
        failIf (u8 p 1 == 1 && (match c with
          | none => true
          | some c => (subbandsOf s h c).isEmpty)) 0x8708) s (fun s =>
      if u8 p 1 = 0 then .reply 0 [] (endTest h 1 s)
      else .reply 0 [] (tune h (u8 p 2) (modHead h (fun x => { x with
        test := some ⟨u8 p 2, u8 p 3, u16 p 4, s.tb.gtc, u32 p 8, 0⟩ }) s)))) s)

/-- RH_TEST_DURATION_END (R328). -/
def execRhTestDurationEnd (h : Nat) (s : State) : Result :=
  done (match (headOfRh s h).test with
    | none => s
    | some x => if x.duration * 1000000 ≤ sinceNs s x.start then endTest h 0 s else s)

end Sys2Proof.Machine
end

