-- ==== Sys2Proof/Machine/Vault.lean ====
section
/-!
DEFINITION. Sys2Proof/Machine/Vault.lean: chapter 14: the key tree, the life cycle, provisioning, crypto services, firmware images
and tamper, with the commands of group 0x0D.
-/
namespace Sys2Proof.Machine
open Sys2Proof

/-- The life-cycle code of a byte (Table 1-10). -/
def lifeCode (s : State) : Nat := s.vault.life

/-! ### Nodes (R517 to R520) -/

/-- Changes the node that holds a handle. -/
def modNode (h : Nat) (f : Node → Node) (s : State) : State :=
  modVault (fun v => { v with nodes := v.nodes.map (fun n => if n.handle == h then f n else n) }) s

/-- Whether a node lies in the subtree of another, itself included. -/
def inSubtree (fuel : Nat) (s : State) (top h : Nat) : Bool :=
  match fuel with
  | 0 => false
  | k + 1 => h == top || (match s.vault.nodes.find? (fun n => n.handle == h) with
    | none => false
    | some n => n.depth != 0 && inSubtree k s top n.parent)

/-- The nodes of a subtree, the top included. -/
def subtree (s : State) (top : Nat) : List Node := s.vault.nodes.filter (fun n => inSubtree 7 s top n.handle)

/-- Whether a node is persistent: depth 1 to 3 and no epoch node (R519). -/
def persistentAt (s : State) (parent depth : Nat) : Bool :=
  within depth 1 3 && !((bcastNode s).map (fun n => n.handle) == some parent)

/-- Entries of the provisioning record in use (R519). -/
def persistentUsed (s : State) : Nat := (s.vault.nodes.filter (fun n => bit n.flags 0)).length + s.vault.issues.length

/-- The next generation of a slot (R517). -/
def nextNodeGen (g : Nat) : Nat := if g ≥ 0xFFFFE then 1 else g + 1

/-- The lowest free slot of the node table. -/
def freeNode (s : State) : Option Nat :=
  (List.range 4096).find? (fun i => !(s.vault.nodes.any (fun n => n.handle % 4096 == i)))

/-- The issue of a node about to be made: 0, or the one after the highest recorded or still held for its parent and label (R528). -/
def nextIssue (s : State) (parent : Nat) (label : List Byte) : Nat :=
  let old := (s.vault.issues.filter (fun x => x.1 == parent && x.2.1 == label)).map (fun x => x.2.2 + 1) ++
    (s.vault.nodes.filter (fun n => n.depth != 0 && n.parent == parent && n.label == label)).map (fun n => n.issue + 1)
  old.foldl max 0

/-- Puts a node into the lowest free slot; `flags` without the persistent bit. The handle is none where the table is full. -/
def addNode (parent : Nat) (label : List Byte) (usage depth flags : Nat) (s : State) : Option Nat × State :=
  match freeNode s with
  | none => (none, s)
  | some i =>
    let g := nextNodeGen ((look s.vault.gens i).getD 0)
    let h := g * 4096 + i
    let state := match nodeOf s parent with
      | none => 0
      | some p => if depth = 0 ∨ p.state = 0 then 0 else 1
    let n : Node := ⟨h, parent, label, usage, depth, state, nextIssue s parent label,
      flags + flag (depth != 0 && persistentAt s parent depth), false⟩
    (some h, modVault (fun v => { v with nodes := v.nodes ++ [n], gens := upsert v.gens i g }) s)

/-- Adds a standard node below another. -/
def addStandard (parent : Option Node) (label : List Byte) (usage depth : Nat) (s : State) : State :=
  match parent with
  | none => s
  | some p => (addNode p.handle label usage depth 16 s).2

/-- The first boot in MISSION creates the standard nodes of Table 14-5 (R510; their order: log entry 19). -/
def firstBoot (s : State) : State :=
  if s.vault.life ≠ 1 ∨ s.vault.standard = true then s
  else
    let s1 := (addNode 0 [] 3 0 16 s).2
    let s2 := addStandard (rootNode s1) (ascii "SITE" ++ leBytes 4 (s.vault.site.getD 0)) 3 1 s1
    let n := siteNode s2
    let s3 := addStandard n (ascii "FLEET" ++ [0]) 3 2 s2
    let s4 := addStandard n (ascii "PAIR") 3 2 s3
    let s5 := [0, 1, 2, 3].foldl (fun t p => addStandard n (ascii "HOSTPORT" ++ leBytes 1 p) 3 2 t) s4
    let s6 := addStandard n (ascii "SEAL") 2 2 (addStandard n (ascii "BCAST") 3 2 s5)
    modVault (fun v => { v with standard := true }) s6

/-- The current and the next epoch node exist, and no other (Table 14-5, R338). -/
def epochNodes (s : State) : State :=
  match bcastNode s with
  | none => s
  | some b =>
    let e := s.repl.mac.bepoch
    let keep := [leBytes 4 e, leBytes 4 (e + 1)]
    let s1 := modVault (fun v => { v with
      nodes := v.nodes.filter (fun n => !(n.parent == b.handle && n.depth == 3 && !keep.contains n.label)) }) s
    keep.foldl (fun t l => if (childOf t b.handle l).isSome then t else (addNode b.handle l 1 3 16 t).2) s1

/-! ### Keys for other chapters (R521, R522) -/

/-- The key of a host port, or of the pair for master 4, or the status that refuses its use (R508, R537, Tables 14-1, 14-6). -/
def portKey (s : State) (m : Nat) : Nat × List Byte :=
  if s.vault.life = 1 then
    if rootHeld s = false then (0x8D09, [])
    else match (if m = 4 then pairNode s else portNode s m) with
      | none => (0x6003, [])
      | some n => if n.state = 0 then (0, material s n.handle) else (0x6003, [])
  else if s.vault.life = 2 then
    (0, kdf Config.returnRoot (ascii "HOSTPORT" ++ leBytes 1 m) [3, 1, 0] 32)
  else (0, sha256 (ascii "CWA9256-BLANK" ++ leBytes 8 s.vault.devId))

/-- Whether the broadcast epoch's key can be used (R527). -/
def broadcastKeyOk (s : State) : Bool := nodeUsable s (epochNode s s.repl.mac.bepoch)

/-- The VALID fleet nodes in ascending fleet number (R522). -/
def fleetNodes (s : State) : List Node :=
  (List.range 16).filterMap (fun f => (siteChild s (ascii "FLEET" ++ leBytes 1 f)).filter (fun n => n.state == 0))

/-- Whether a node is a machine node: a MAC node below a fleet node (Table 14-5). -/
def isMachine (s : State) (n : Node) : Bool :=
  n.usage == 2 && n.depth == 3 && (List.range 16).any (fun f =>
    (siteChild s (ascii "FLEET" ++ leBytes 1 f)).map (fun x => x.handle) == some n.parent)

/-- Whether a node is a session node: an AEAD node below a machine node (Table 14-5). -/
def isSession (s : State) (n : Node) : Bool :=
  n.usage == 1 && n.depth == 4 && (match nodeOf s n.parent with
    | none => false
    | some p => isMachine s p)

/-- Whether a locked vault refuses operations on a node (R536). -/
def lockedNode (s : State) (n : Node) : Bool :=
  s.vault.locked && (isMachine s n || isSession s n || (sealNode s).map (fun x => x.handle) == some n.handle)

/-- NODE_STATE (Table 14-15). -/
def nodeState (h old new cause depth count : Nat) (s : State) : State :=
  emit 0xCD02 32 (leBytes 4 h ++ leBytes 1 old ++ leBytes 1 new ++ leBytes 1 cause ++ leBytes 1 depth ++ leBytes 2 count
    ++ zeros 2) s

/-- The VALID machine node of a machine ID below the fleet nodes, in ascending fleet number. -/
def machineNode (s : State) (id : Nat) : Option Node :=
  (fleetNodes s).findSome? (fun f => (childOf s f.handle (leBytes 8 id)).filter (fun n => n.state == 0 && n.usage == 2))

/-- A machine node for a JOIN_REQ: found, or made implicitly below fleet 0; none where the join fails with cause 4 (R522). -/
def machineFor (id : Nat) (s : State) : Option Node × State :=
  if rootHeld s = false ∨ s.vault.locked = true then (none, s)
  else match machineNode s id with
    | some n => (some n, s)
    | none =>
      match siteChild s (ascii "FLEET" ++ [0]) with
      | none => (none, s)
      | some f =>
        if f.state ≠ 0 ∨ bit f.flags 3 = true ∨ nextIssue s f.handle (leBytes 8 id) > 255 ∨ persistentUsed s ≥ 1024 then (none, s)
        else match addNode f.handle (leBytes 8 id) 2 3 20 s with
          | (none, t) => (none, t)
          | (some h, t) => (nodeOf t h, nodeState h 0 0 3 3 1 t)

/-- The session node of a berth: the AEAD node whose label is the two nonces of its join (Table 14-5). -/
def sessionNode (s : State) (b : Nat) : Option Node :=
  let x := berthOf s b
  s.vault.nodes.find? (fun n => n.depth == 4 && n.usage == 1 && n.label == x.machineNonce ++ x.stationNonce)

/-- Whether frames of a berth can be protected and opened (R527, R536). -/
def sessionKeyOk (s : State) (b : Nat) : Bool := nodeUsable s (sessionNode s b) && !s.vault.locked

/-- Frees the session node of a berth whose session ends. -/
def dropSession (b : Nat) (s : State) : State :=
  match sessionNode s b with
  | none => s
  | some n => modVault (fun v => { v with nodes := v.nodes.filter (fun x => x.handle != n.handle) }) s

/-- The session node of a verified join (Table 14-5). -/
def addSession (machine : Nat) (label : List Byte) (s : State) : State :=
  match machineNode s machine with
  | none => s
  | some m => (addNode m.handle label 1 4 16 s).2

/-- A STANDBY, or a vault after a DOMAIN reset, derives again the session node of a berth that holds a session (R542, R543). -/
def deriveSession (b : Nat) (s : State) : State :=
  let x := berthOf s b
  if x.hasSession = true ∧ (sessionNode s b).isNone then
    addSession x.machine (x.machineNonce ++ x.stationNonce) (machineFor x.machine s).2
  else s

/-- Every berth's session node is derived again (R543). -/
def deriveSessions (s : State) : State := s.repl.mac.berths.foldl (fun t e => deriveSession e.1 t) s

/-! ### The pair key comes and goes (R526, R537) -/

/-- The pair link shows AUTH_FAILED while the pair key cannot be used (R526, R537). -/
def keyGone (s : State) : State := if linkUp s = true ∧ nodeUsable s (pairNode s) = false then authFailed s else s

/-- The pair key can be used again: the exchange is tried again (R537). -/
def keyBack (s : State) : State := if s.pair.link = 4 ∧ nodeUsable s (pairNode s) = true then sendHello s else s

/-! ### Authentication failures (R83, Table 2-7) -/

/-- An authentication failure of a master: 8 in 10 s freeze it. -/
def authFailure (m : Nat) (s : State) : State :=
  let l := (s.tb.gtc :: (violOf s m).tagFails).filter (fun t => sinceNs s t < 10 * sec)
  let s1 := modViol m (fun v => { v with tagFails := l }) s
  if l.length ≥ 8 then freeze m 2 s1 else s1

/-! ### Operations (R526, R529, R538) -/

/-- The indices of the operations that run: those that have started. -/
def runningOps (s : State) : List Nat := (List.range s.vault.ops.length).filter (fun i => (s.vault.ops[i]?).any (fun o => o.started))

/-- Operations start in the order in which they wait: one at a time per node, at most eight at once (R529). `n` run already, on the
nodes `busy`. -/
def beginOps (n : Nat) (busy : List Nat) (l : List VaultOp) : List VaultOp :=
  match l with
  | [] => []
  | o :: r =>
    if o.started then o :: beginOps n busy r
    else if n < 8 ∧ (o.node = 0 ∨ busy.contains o.node = false) then { o with started := true } :: beginOps (n + 1) (o.node :: busy) r
    else o :: beginOps n (o.node :: busy) r

/-- Every operation that may start does. -/
def startOps (s : State) : State :=
  modVault (fun v =>
    let run := v.ops.filter (fun o => o.started)
    { v with ops := beginOps run.length (run.map (fun o => o.node)) v.ops }) s

/-- The number of operations that run on a node or its subtree. -/
def opsOn (s : State) (h : Nat) : Nat :=
  ((runningOps s).filter (fun i => match s.vault.ops[i]? with
    | none => false
    | some o => o.node == h || inSubtree 7 s h o.node)).length

/-- Frees the slots of purged nodes on which no operation runs; a persistent one leaves its issue record (R528). -/
def purgeStep (s : State) : State :=
  let gone := s.vault.nodes.filter (fun n => n.purge && !(s.vault.ops.any (fun o => o.node == n.handle)))
  modVault (fun v => { v with
    nodes := v.nodes.filter (fun n => !(gone.any (fun g => g.handle == n.handle)))
    issues := v.issues ++ (gone.filter (fun n => bit n.flags 0)).map (fun n => (n.parent, n.label, n.issue)) }) s

/-- The reply to a VAULT_CRYPTO operation. -/
def cryptoReply (o : VaultOp) (s : State) : State :=
  reply o.req 0x0D07 0 (leBytes 2 o.out.length ++ zeros 2 ++ o.out)
    (if o.failed then modVault (fun v => { v with openFails := satAdd 32 v.openFails 1 }) s else s)

/-- VAULT_OPERATION_COMPLETE (R526): a running operation delivers its result, and its node is purged or wiped. -/
def execVaultOperationComplete (i : Nat) (s : State) : Result :=
  done (if (runningOps s).contains i then
      match s.vault.ops[i]? with
      | none => s
      | some o =>
        let s1 := cryptoReply o s
        let s2 := modVault (fun v => { v with ops := v.ops.eraseIdx i }) s1
        startOps (purgeStep (match nodeOf s2 o.node with
          | none => s2
          | some n => if n.state = 0 then s2 else wipeKey n.handle s2))
    else s)

/-- A wipe: every cell is wiped, running and waiting operations are aborted with 0x8D09 (R535, R538). -/
def wipe (s : State) : State :=
  let s1 := s.vault.ops.foldl (fun t o => reply o.req 0x0D07 0x8D09 [] t) s
  purgeStep (modVault (fun v => { v with ops := [], locked := true, cells := [] }) s1)

/-- VAULT_LOCK (Table 14-15). -/
def vaultLock (locked cause : Nat) (s : State) : State := emit 0xCD05 32 (leBytes 1 locked ++ leBytes 1 cause ++ zeros 2) s

/-- The output of an operation of Table 14-9, or none for an open whose tag fails. -/
def cryptoOut (s : State) (h op size tagLen : Nat) (nonce aad data : List Byte) : Option (List Byte) :=
  let key := (material s h).take (if size = 0 then 16 else 32)
  match op with
  | 1 => some (gcmSeal key (nonce.take 12) aad data)
  | 2 => gcmOpen key (nonce.take 12) aad data
  | 3 => some (ccmSeal tagLen key (nonce.take 13) aad data)
  | 4 => ccmOpen tagLen key (nonce.take 13) aad data
  | 5 => some (hmac (material s h) data)
  | 6 => some (sha256 data)
  | 7 => some (sha384 data)
  | 8 => some (ecdsaSign (if usageBytes ((nodeOf s h).getD (identityNode h)).usage = 40 then 256 else 384) s.free (material s h) data)
  | 9 =>
    let n := if aad.length = 64 then 32 else 48
    some (leBytes 1 (flag (ecdsaVerify aad (data.take n) (data.drop n))))
  | _ => some (x25519 (material s h) data)

/-- The usages that an operation of Table 14-9 allows. -/
def opUsages (op : Nat) : List Nat :=
  match op with
  | 5 => [2]
  | 8 => [4, 5]
  | 10 => [6]
  | _ => [1]

/-- Whether an operation of Table 14-9 takes no node. -/
def opNodeless (op : Nat) : Bool := op == 6 || op == 7 || op == 9

/-- The lengths of data and AAD that an operation accepts (Table 14-9). -/
def opLengths (op tagLen d a : Nat) : Bool :=
  match op with
  | 1 => tagLen == 16
  | 2 => tagLen == 16 && 16 ≤ d
  | 4 => tagLen ≤ d
  | 8 => d == 32 || d == 48
  | 9 => (a == 64 && d == 96) || (a == 96 && d == 144)
  | 10 => d == 32
  | _ => true

/-- The statuses by which a node refuses an operation of Table 14-9. -/
def cryptoStates (s : State) (h op : Nat) : List Nat :=
  if opNodeless op then []
  else match nodeOf s h with
    | none => [0x8D06]
    | some n =>
      failIf (n.state != 0) 0x6003 ++
      failIf (!(opUsages op).contains n.usage || (bit n.flags 4 && !(h == attestHandle && op == 8))) 0x8D07 ++
      failIf (lockedNode s n || (n.handle != attestHandle && n.handle != provHandle && !rootHeld s)) 0x8D09

/-- VAULT_CRYPTO (R529): the reply comes with VAULT_OPERATION_COMPLETE. -/
def execVaultCrypto (r : Req) (s : State) : Result :=
  let p := r.payload
  let h := u32 p 0
  let op := u8 p 4
  let d := u16 p 6
  let a := u16 p 8
  done (runCommand 0x0D07 true r (fun s =>
    checked (32 ≤ p.length && p.length == 32 + a + d) (zeroAt p 11 1 && zeroAt p 28 4)
      (within op 1 10 && u8 p 5 ≤ 1 && d ≤ 16384 && a ≤ 1024 && (u8 p 10 == 8 || u8 p 10 == 16) && opLengths op (u8 p 10) d a
        && (!opNodeless op || h == 0)) true (cryptoStates s h op) s (fun s =>
      let out := cryptoOut s h op (u8 p 5) (u8 p 10) (sub p 12 16) (sub p 32 a) (sub p (32 + a) d)
      let s1 := if op = 8 then (fresh s).2 else s
      .later (startOps (modVault (fun v => { v with
          ops := enqueueUrgent r.urgent (fun o => !o.started && overtakes r o.req) ⟨h, r, out.getD [], out.isNone, false⟩ v.ops })
        (if opNodeless op then s1 else useKey h s1))))) s)

/-- VAULT_KDF_TEST (R520). -/
def execVaultKdfTest (r : Req) (s : State) : Result :=
  let p := r.payload
  let ll := u8 p 34
  let cl := u16 p 36
  done (runCommand 0x0D09 false r (fun s =>
    checked (40 ≤ p.length && p.length == 40 + ll + cl) (zeroAt p 35 1 && zeroAt p 38 2)
      (within (u16 p 32) 8 1024 && u16 p 32 % 8 == 0 && ll ≤ 64 && cl ≤ 256) true [] s (fun s =>
      .reply 0 (kdf (sub p 0 32) (sub p 40 ll) (sub p (40 + ll) cl) (u16 p 32 / 8)) s)) s)

/-! ### Node commands (R525, R528, R532, R544) -/

/-- A node entry (Table 14-3). -/
def nodeBytes (n : Node) : List Byte :=
  leBytes 4 n.handle ++ leBytes 4 n.parent ++ leBytes 1 n.label.length ++ leBytes 1 n.usage ++ leBytes 1 n.depth ++ leBytes 1 n.state
    ++ leBytes 1 n.issue ++ leBytes 1 n.flags ++ zeros 2 ++ n.label ++ zeros (32 - n.label.length)

/-- NODE_GET (R544). -/
def execNodeGet (r : Req) (s : State) : Result :=
  let h := u32 r.payload 0
  done (runCommand 0x0D06 false r (fun s =>
    checked (r.payload.length == 4) true true true (failIf (nodeOf s h).isNone 0x8D06) s (fun s =>
      match nodeOf s h with
      | none => .reply 0x8D06 [] s
      | some n => .reply 0 (nodeBytes n ++ leBytes 4 (opsOn s h)) s)) s)

/-- The statuses by which the tree refuses a new node. -/
def createStates (s : State) (parent : Nat) (label : List Byte) : List Nat :=
  match nodeOf s parent with
  | none => [0x8D06]
  | some q =>
    failIf (q.state != 0) 0x6003 ++
    failIf ((q.usage != 2 && q.usage != 3) || q.depth ≥ 5 || nextIssue s parent label > 255) 0x8D07 ++
    failIf ((freeNode s).isNone || (persistentAt s parent (q.depth + 1) && persistentUsed s ≥ 1024)) 0x8D05

/-- NODE_CREATE (R517 to R519, R528). -/
def execNodeCreate (r : Req) (s : State) : Result :=
  let p := r.payload
  let par := u32 p 0
  let n := u8 p 6
  let label := sub p 8 n
  let flags := (if bit (u8 p 5) 0 then 2 else 0) + (if bit (u8 p 5) 1 then 8 else 0)
  done (runCommand 0x0D04 true r (fun s =>
    let old := (childOf s par label).filter (fun x => x.state == 0)
    checked (p.length == 40) (bitsBelow (u8 p 5) 2 && zeroAt p 7 1 && zeroAt p (8 + n) (32 - n)) (within (u8 p 4) 1 6 && within n 1 32)
      true (failIf (s.vault.life != 1) 0x2001 ++ (if old.isSome then [] else createStates s par label)) s (fun s =>
      match old with
      | some x => .reply 0x0102 (leBytes 4 x.handle ++ leBytes 1 x.depth ++ leBytes 1 x.issue ++ zeros 2) s
      | none =>
        let depth := ((nodeOf s par).map (fun q => q.depth + 1)).getD 1
        let issue := nextIssue s par label
        match addNode par label (u8 p 4) depth flags s with
        | (none, t) => .reply 0x8D05 [] t
        | (some h, t) => .reply 0 (leBytes 4 h ++ leBytes 1 depth ++ leBytes 1 issue ++ zeros 2) t)) s)

/-- Whether a subtree holds the current or next epoch node, the pair node or a host-port node (R528). -/
def inService (s : State) (h : Nat) : Bool :=
  ([pairNode s, epochNode s s.repl.mac.bepoch, epochNode s (s.repl.mac.bepoch + 1)] ++ (List.range 4).map (fun p => portNode s p)).any
    (fun n => match n with
      | none => false
      | some n => n.state == 0 && inSubtree 7 s h n.handle)

/-- Operations that have not started on nodes that are no longer VALID are refused (R526). -/
def refuseWaiting (s : State) : State :=
  let run := runningOps s
  let drop := (List.range s.vault.ops.length).filter (fun i => !run.contains i && (match s.vault.ops[i]? with
    | none => false
    | some o => match nodeOf s o.node with
      | none => false
      | some n => n.state != 0))
  let s1 := drop.foldl (fun t i => match s.vault.ops[i]? with
    | none => t
    | some o => reply o.req 0x0D07 0x6003 [] t) s
  modVault (fun v => { v with ops := ((List.range s.vault.ops.length).filter (fun i => !drop.contains i)).filterMap (fun i => s.vault.ops[i]?) }) s1

/-- The cells of nodes that are no longer VALID and on which no operation runs are wiped (R524, R526). -/
def wipeIdle (s : State) : State :=
  modVault (fun v => { v with cells := v.cells.filter (fun c =>
    (nodeOf s c.1).any (fun n => n.state == 0) || v.ops.any (fun o => o.node == c.1)) }) s

/-- A node becomes INVALID and its subtree ORPHANED, with the reports of R525; with purge their slots are freed (R528). -/
def invalidate (n : Node) (purge : Bool) (s : State) : State :=
  let below := ((subtree s n.handle).filter (fun x => x.handle != n.handle && x.state == 0)).map (fun x => x.handle)
  let s1 := modVault (fun v => { v with nodes := v.nodes.map (fun x =>
    if x.handle = n.handle then { x with state := 2 } else if below.contains x.handle then { x with state := 1 } else x) }) s
  let s2 := if n.state = 2 then s1 else nodeState n.handle n.state 2 0 n.depth 1 s1
  let s3 := if below = [] then s2 else nodeState n.handle 0 1 1 n.depth below.length s2
  let s4 := keyGone (startOps (wipeIdle (refuseWaiting s3)))
  if purge then
    let all := (subtree s n.handle).map (fun x => x.handle)
    purgeStep (nodeState n.handle 2 2 2 n.depth all.length
      (modVault (fun v => { v with nodes := v.nodes.map (fun x => if all.contains x.handle then { x with purge := true } else x) }) s4))
  else s4

/-- NODE_INVALIDATE (R525, R528). -/
def execNodeInvalidate (r : Req) (s : State) : Result :=
  let p := r.payload
  let h := u32 p 0
  let force := bit (u8 p 4) 0
  let purge := bit (u8 p 4) 1
  done (runCommand 0x0D05 true r (fun s =>
    let n := s.vault.nodes.find? (fun x => x.handle == h)
    checked (p.length == 8) (bitsBelow (u8 p 4) 2 && zeroAt p 5 3) true true
      (failIf (s.vault.life != 1) 0x2001 ++ failIf n.isNone 0x8D06 ++ failIf (n.isSome && inService s h && !force) 0x8D04) s (fun s =>
      match n with
      | none => .reply 0x8D06 [] s
      | some x =>
        let count := ((subtree s h).filter (fun y => y.handle != h && y.state == 0)).length
        let run := opsOn s h
        .reply (changed (x.state == 2 && !(purge && !x.purge))) (leBytes 2 count ++ leBytes 2 run) (invalidate x purge s))) s)

/-- VAULT_EXPORT (R532): the material of an exportable MAC or AEAD node, wrapped for the host's public key. -/
def execVaultExport (r : Req) (s : State) : Result :=
  let h := u32 r.payload 0
  let pub := sub r.payload 4 32
  done (runCommand 0x0D08 true r (fun s =>
    let n := nodeOf s h
    checked (r.payload.length == 36) true true true
      (failIf (s.vault.life != 1) 0x2001 ++ (match n with
        | none => [0x8D06]
        | some x => failIf (x.state != 0) 0x6003 ++ failIf (!(bit x.flags 1 && (x.usage == 1 || x.usage == 2))) 0x8D08) ++
        failIf (s.vault.locked || !rootHeld s) 0x8D09) s (fun s =>
      let e := freshBytes 32 s
      let mine := x25519Public e.1
      let key := kdf (x25519 e.1 pub) (ascii "ICGAL-WRAP") (mine ++ pub) 32
      .reply 0 (mine ++ gcmSeal key (zeros 12) (leBytes 4 h ++ leBytes 8 s.vault.devId) (material s h)) (useKey h e.2))) s)

/-- VAULT_INFO (R513). -/
def execVaultInfo (r : Req) (s : State) : Result :=
  done (runCommand 0x0D01 false r (fun s =>
    checked (r.payload.length == 16) true true true [] s (fun s =>
      let v := s.vault
      let b := leBytes 1 (lifeCode s) ++ leBytes 1 (bitsOf [v.complete, v.bound, v.share.isSome, v.locked, v.latch, v.tLocked]) ++ zeros 2
        ++ leBytes 4 (v.kcv.getD 0) ++ leBytes 4 (v.site.getD 0) ++ leBytes 2 v.nodes.length ++ leBytes 2 (persistentUsed s)
        ++ leBytes 1 v.secCounter ++ leBytes 1 v.running ++ leBytes 1 (v.trial.getD 0xFF) ++ leBytes 1 v.trialCount
        ++ x25519Public (material s provHandle) ++ ecdsaPublic 384 (material s attestHandle)
      .reply 0 (b ++ ecdsaSign 384 s.free (material s attestHandle) (sha384 (b ++ r.payload)))
        (useKey attestHandle (useKey provHandle (fresh s).2)))) s)

/-! ### Provisioning (R514 to R516) -/

/-- The key check value of a root (R514). -/
def kcvOf (root : List Byte) : Nat := leNat ((hmac root (ascii "ICGAL-KCV")).take 4)

/-- The payload of VAULT_PROVISION unwrapped under the provisioning key, none where its tag fails (R514). -/
def unwrapRoot (s : State) (p : List Byte) : Option (List Byte) :=
  let pub := sub p 4 32
  let prov := material s provHandle
  let key := kdf (x25519 prov pub) (ascii "ICGAL-PROV") (pub ++ x25519Public prov) 32
  gcmOpen key (zeros 12) (leBytes 8 s.vault.devId ++ leBytes 1 (u8 p 0)) (sub p 36 64)

/-- The value that the root fuses get for a root under the share held (R515). -/
def fuseValue (s : State) (root : List Byte) (bound : Bool) : List Byte :=
  if bound then xorBytes root (s.vault.share.getD (zeros 32)) else root

/-- The fuses that a root, its site number and its binding get: KCV, site number, fused value, binding (R515). -/
def fuseBytes (s : State) (w : List Byte) : List Byte :=
  leBytes 4 (kcvOf (sub w 0 32)) ++ sub w 32 4 ++ fuseValue s (sub w 0 32) (bit (u8 w 36) 0) ++ leBytes 1 (u8 w 36 % 2)

/-- Whether an unwrapped payload agrees with every fuse bit already blown (R515); once everything is complete, with every fuse. -/
def fusesAgree (s : State) (w : List Byte) : Bool :=
  let f := fuseBytes s w
  if s.vault.complete then f == s.vault.blown
  else (s.vault.blown.zip f).all (fun x => x.1 &&& x.2 == x.1)

/-- The reply payload of VAULT_PROVISION. -/
def provisionPayload (s : State) : List Byte := leBytes 4 (s.vault.kcv.getD 0) ++ leBytes 4 (s.vault.site.getD 0)

/-- The VBAT share of a battery-bound root is drawn, unless one is held (R515 step 1). -/
def drawShare (bound : Bool) (s : State) : State :=
  if bound = true ∧ s.vault.share.isNone then
    modVault (fun v => { v with share := some (freshBytes 32 s).1 }) (freshBytes 32 s).2
  else s

/-- VAULT_PROVISION in mode 0: shares and fuses in the order of R515; the fuses are written by FUSE_WRITE_COMPLETE. -/
def provision (r : Req) (s : State) : Ans :=
  match unwrapRoot s r.payload with
  | none => .reply 0x8D02 [] (authFailure r.master s)
  | some w =>
    let s1 := drawShare (bit (u8 w 36) 0) s
    if zeroAt w 37 11 = false ∨ bitsBelow (u8 w 36) 1 = false then .reply 0x4001 [] s
    else if fusesAgree s1 w = false then .reply 0x8D03 [] s
    else if s.vault.complete then .reply 0 (provisionPayload s) s
    else .later { s1 with pwr := { s1.pwr with fuse := some ⟨1, r, w⟩ } }

/-- VAULT_PROVISION in mode 1 (R516). -/
def restoreShare (r : Req) (s : State) : Ans :=
  match unwrapRoot s r.payload with
  | none => .reply 0x8D02 [] (authFailure r.master s)
  | some w =>
    let root := sub w 0 32
    if zeroAt w 37 11 = false ∨ bitsBelow (u8 w 36) 1 = false then .reply 0x4001 [] s
    else if s.vault.kcv = some (kcvOf root) then
      .reply 0 (provisionPayload s)
        (keyBack (vaultLock 0 3 (modVault (fun v => { v with share := some (xorBytes root (s.vault.fused.getD [])) }) s)))
    else .reply 0x8D02 [] s

/-- VAULT_PROVISION (R514 to R516): a restore needs no authenticated session. -/
def execVaultProvision (r : Req) (s : State) : Result :=
  let p := r.payload
  let mode := u8 p 0
  done (runCommand 0x0D02 true (if mode = 1 then { r with auth := true } else r) (fun s =>
    checked (p.length == 100) (zeroAt p 1 3 && decide (mode ≤ 1)) true true
      ((if mode = 0 then failIf (s.vault.life != 0) 0x2001
        else failIf (!(s.vault.life == 1 && s.vault.bound && s.vault.complete && s.vault.share.isNone)) 0x2001) ++
        failIf s.vault.locked 0x8D09 ++ failIf s.pwr.fuse.isSome 0x2003) s (fun s =>
      if mode = 0 then provision r (useKey provHandle s) else restoreShare r (useKey provHandle s))) s)

/-- The fuses of a provisioning are blown, the completion fuse last (R515). -/
def fuseRoot (w : List Byte) (s : State) : State :=
  let root := sub w 0 32
  let bound := bit (u8 w 36) 0
  modVault (fun v => { v with
    kcv := some (kcvOf root)
    site := some (u32 w 32)
    bound := bound
    fused := some (fuseValue s root bound)
    blown := fuseBytes s w
    complete := true }) s

/-- A provisioning is complete, and its reply goes (R515). -/
def blowRoot (r : Req) (w : List Byte) (s : State) : State := reply r 0x0D02 0 (provisionPayload (fuseRoot w s)) (fuseRoot w s)

/-! ### Life cycle (R507 to R512) -/

/-- Whether Table 14-2 allows a transition. -/
def lifeStep (s : State) (target : Nat) : Bool :=
  let solo := s.pair.role == 0
  let off := s.modes.radio == 0
  match s.vault.life, target with
  | 0, 1 => s.vault.complete && solo
  | 0, 2 => true
  | 1, 2 => solo && off
  | 0, 0xFF => off
  | 1, 0xFF => off
  | 2, 0xFF => off
  | _, _ => false

/-- LC_ADVANCE (R510): the reply goes first, then the fuses are blown. -/
def execLcAdvance (r : Req) (s : State) : Result :=
  let p := r.payload
  done (runCommand 0x0D03 true r (fun s =>
    checked (p.length == 16) (zeroAt p 1 7 && [1, 2, 0xFF].contains (u8 p 0)) true true
      (failIf (!lifeStep s (u8 p 0) || u64 p 8 != s.vault.devId) 0x8D01 ++ failIf s.pwr.fuse.isSome 0x2003) s (fun s =>
      .reply 0 (leBytes 1 (lifeCode s) ++ leBytes 1 (u8 p 0) ++ zeros 2)
        { s with pwr := { s.pwr with fuse := some ⟨0, r, [BitVec.ofNat 8 (u8 p 0)]⟩ } })) s)

/-- On entry to MISSION reaction 0x01 is armed, whatever its value (R26); the conditions it arms are evaluated at once (R23). -/
def missionArm (s : State) : State :=
  if armed s 1 then s
  else
    let s1 := { s with repl := { s.repl with armed := putBit s.repl.armed 1 true } }
    let s2 := emit 0xC105 32 (leBytes 2 s1.repl.armed ++ leBytes 1 1 ++ leBytes 1 0xFF) s1
    let again (code src : Nat) (t : State) : State := evalLasting code src (t.ecl.active.contains (code, src)) t
    again 3 8 (again 2 9 (again 1 8 s2))

/-- The states of Table 14-1 in its order, by their life-cycle codes. -/
def lifeStates : List Nat := [0xFE, 0, 1, 2, 0xFF]

/-- The state in force: the highest one with a bit blown, two bits for each (R507). -/
def lifeOf (fuses : Nat) : Nat :=
  (List.range 5).foldl (fun c i => if bit fuses (2 * i) || bit fuses (2 * i + 1) then nth lifeStates i c else c) 0xFE

/-- Blows fuse bit `k` (0 or 1) of a life-cycle state. -/
def blowBit (target k : Nat) (s : State) : State :=
  modVault (fun v =>
    let f := putBit v.lifeFuses (2 * lifeStates.idxOf target + k) true
    { v with
      lifeFuses := f
      life := lifeOf f }) s

/-- On the way to RETURN the kill fuse is blown and every persistent node is erased (R511). -/
def killRoot (target : Nat) (s : State) : State :=
  if target = 2 then modVault (fun v => { v with
      kill := true
      nodes := []
      issues := [] }) s
  else s

/-- The fuses of a life-cycle transition are blown: on the way to RETURN the kill fuse first, with every persistent node erased
(R511). The WARM reset follows 1 ms later (R510). -/
def blowLife (r : Req) (target : Nat) (s : State) : State :=
  let old := s.vault.life
  let s2 := blowBit target 1 (blowBit target 0 (killRoot target s))
  emit 0xCD01 32 (leBytes 1 old ++ leBytes 1 target ++ leBytes 1 r.master ++ zeros 1)
    (askReset 3 34 0xFF r.master (if target = 1 then missionArm s2 else s2))

/-! ### Firmware images (R530 to R534) -/

/-- The bytes of a slot from an offset; erased flash reads 0xFF (PRESUMED; log entry 19). -/
def slotWrite (x : Slot) (off : Nat) (d : List Byte) : List Byte :=
  let base := x.bytes.take off
  base ++ List.replicate (off - base.length) 0xFF ++ d ++ x.bytes.drop (off + d.length)

/-- The facts of an image header and body (R530, Table 14-10). -/
def slotFacts (b : List Byte) (written : Nat) : Slot :=
  let pub := sub b 80 96
  let len := u32 b 12
  ⟨b, written, u32 b 4, u32 b 8, u16 b 20, u32 b 16, u64 b 24,
    u32 b 0 == 0x57465743 && sha384 pub == Config.signerHash && ecdsaVerify pub (sha384 (b.take 176)) (sub b 176 96),
    within len 1 16776704 && 512 + len ≤ b.length && sha384 (sub b 512 len) == sub b 32 48⟩

/-- The first check of R531 that an image fails; 0 where it passes. -/
def imageCheck (s : State) (i : Nat) : Nat :=
  let x := nth s.vault.slots i Slot.empty
  if x.sigOk = false then 1
  else if x.security < s.vault.secCounter then 2
  else if bit x.allowed s.vault.life = false ∨ (x.devId ≠ 0 ∧ x.devId ≠ s.vault.devId) then 3
  else if x.bodyOk = false then 4 else 0

/-- A flash write joins those that wait behind the one that runs, the oldest but for nucleus records (R81). -/
def enqueueFlash (r : Req) (j : FlashJob) (l : List FlashJob) : List FlashJob :=
  let n := (l.takeWhile (fun x => x.kind == 2)).length + 1
  l.take n ++ enqueueUrgent r.urgent (fun x => x.req.any (overtakes r)) j (l.drop n)

/-- FW_WRITE (R533, R534): the write runs, and the reply comes with FLASH_WRITE_COMPLETE. -/
def execFwWrite (r : Req) (s : State) : Result :=
  let p := r.payload
  let n := p.length - 8
  done (runCommand 0x0D0A true r (fun s =>
    checked (within p.length 9 4104) (zeroAt p 1 3)
      (u8 p 0 ≤ 1 && u32 p 4 % 256 == 0 && u32 p 4 ≤ 16776960 && u32 p 4 + n ≤ 16777216) true
      (failIf (!s.vault.recovery && u8 p 0 == s.vault.running) 0x8D0B) s (fun s =>
      .later { s with pwr := { s.pwr with flash := enqueueFlash r ⟨1, some r⟩ s.pwr.flash } })) s)

/-- The codes of a reply that reports a failure (Table 2-8, 14-13). -/
def failureCodes : List Nat :=
  [0x1002, 0x1003, 0x1004, 0x1005, 0x1007, 0x1008, 0x1009, 0x2001, 0x2002, 0x2003, 0x2004, 0x2005, 0x3001, 0x3002, 0x4001, 0x4002, 0x4003,
    0x4004, 0x4005, 0x6001, 0x6002, 0x6003, 0x6004, 0x6005, 0x7F01, 0x7F02, 0x7F03] ++ (List.range 12).map (fun n => 0x8D01 + n)

/-- The effect of a FW_WRITE on the flash: a write at offset 0 erases the slot and cancels a trial set on it (R533). -/
def applyFwWrite (r : Req) (ok : Bool) (s : State) : State :=
  let p := r.payload
  let i := u8 p 0
  let d := p.drop 8
  let off := u32 p 4
  if ok then
    let x := nth s.vault.slots i Slot.empty
    let y := if off = 0 then slotFacts d d.length else slotFacts (slotWrite x off d) (x.written + d.length)
    let s1 := modVault (fun v => { v with
      slots := v.slots.set i y
      trial := if off = 0 ∧ v.trial = some i then none else v.trial
      trialCount := if off = 0 ∧ v.trial = some i then 0 else v.trialCount }) s
    reply r 0x0D0A 0 (leBytes 4 y.written) s1
  else reply r 0x0D0A (nth failureCodes ((fresh s).1 % 39) 0x2003) [] (fresh s).2

/-- The reply payload of FW_ACTIVATE. -/
def fwPayload (s : State) : List Byte :=
  leBytes 1 s.vault.preferred ++ leBytes 1 (s.vault.trial.getD 0xFF) ++ leBytes 1 s.vault.secCounter ++ zeros 1

/-- FW_ACTIVATE (R533, R534). -/
def execFwActivate (r : Req) (s : State) : Result :=
  let p := r.payload
  let i := u8 p 0
  let mode := u8 p 1
  done (runCommand 0x0D0B true r (fun s =>
    checked (p.length == 4) (zeroAt p 2 2) (i ≤ 1 && mode ≤ 2) true
      (failIf (s.pwr.flash.any (fun j => j.kind == 1 && (j.req.map (fun q => u8 q.payload 0)) == some i)) 0x2003 ++
        failIf (mode == 0 && imageCheck s i != 0) 0x8D0A ++
        failIf (mode == 1 && !(!s.vault.recovery && s.vault.trial == some i && s.vault.running == i)) 0x2005) s (fun s =>
      let s1 := modVault (fun v =>
        if mode = 0 then { v with
          trial := some i
          trialCount := 0 }
        else if mode = 1 then { v with
          preferred := i
          trial := none
          trialCount := 0
          secCounter := max v.secCounter (nth v.slots i Slot.empty).security }
        else { v with
          trial := none
          trialCount := 0 }) s
      let s1 := if mode = 1 then cometOffer 5 r.master [] s1 else s1
      .reply (changed (mode != 1 && s.vault.trial == s1.vault.trial && s.vault.trialCount == s1.vault.trialCount)) (fwPayload s1) s1)) s)

/-- FW_BOOT (Table 14-15). -/
def fwBootPayload (s : State) : List Byte :=
  let x := nth s.vault.slots s.vault.running Slot.empty
  leBytes 1 (if s.vault.recovery then 0xFF else s.vault.running) ++ leBytes 1 s.vault.bootResult ++ leBytes 1 s.vault.bootCheck
    ++ leBytes 1 (if s.vault.recovery then 0 else x.security) ++ leBytes 4 (if s.vault.recovery then 0 else x.version)

/-- The boot ROM starts a slot, or enters recovery (R531). -/
def startSlot (i : Option Nat) (result check : Nat) (s : State) : State :=
  match i with
  | none => modVault (fun v => { v with
      recovery := true
      bootResult := 3
      bootCheck := check
      fw := 0
      bootOwed := [0, 3] }) s
  | some i => modVault (fun v => { v with
      recovery := false
      running := i
      bootResult := result
      bootCheck := check
      fw := (nth v.slots i Slot.empty).version
      bootOwed := [] }) s

/-- The boot at a reset of class WARM or stronger (R531, R533, R534); SCRAP starts nothing (R512), and neither does a device whose DRAM
cannot be trained (R619). -/
def bootImage (s : State) : State :=
  if s.vault.life = 0xFF ∨ s.pins.bootSel = 2 ∨ s.pins.dramFails = true then startSlot none 3 0 s
  else
    let reverted := s.vault.trial.isSome && decide (3 ≤ s.vault.trialCount + 1)
    let s1 := modVault (fun v =>
      if v.trial.isSome then (if reverted then { v with
          trial := none
          trialCount := 0 } else { v with trialCount := v.trialCount + 1 })
      else v) s
    let i := s1.vault.trial.getD s1.vault.preferred
    let c := imageCheck s1 i
    if c = 0 then startSlot (some i) (if reverted then 1 else 0) 0 s1
    else if imageCheck s1 (1 - i) = 0 then startSlot (some (1 - i)) 2 c s1
    else startSlot none 3 c s1

/-! ### Tamper (R535 to R541) -/

/-- Whether an enabled input is at its active level (R540). -/
def tamperActive (s : State) : Bool := s.vault.tamper.any (fun x => x.mode != 0 && x.last)

/-- The payload of TAMPER after the GTC (Table 14-15). -/
def tamperBytes (inputs responses atBoot : Nat) (s : State) : List Byte :=
  leBytes 1 inputs ++ leBytes 1 responses ++ leBytes 1 atBoot ++ zeros 1 ++ leBytes 4 s.vault.firstRtc
    ++ leBytes 2 s.vault.events ++ zeros 2

/-- The responses of every latched input together. -/
def latchedResponses (s : State) : Nat :=
  (List.range 4).foldl (fun v n =>
    if bit s.vault.inputs n then Nat.lor v (nth s.vault.tamper n TamperIn.zero).responses else v) 0

/-- TAMPER (Table 14-15). -/
def tamperEvent (src inputs responses atBoot : Nat) (s : State) : State :=
  emit 0xCD03 src (tamperBytes inputs responses atBoot s) s

/-- The VBAT share of a battery-bound root is erased (R535, R537). -/
def eraseShare (s : State) : State :=
  if s.vault.bound = true ∧ s.vault.share.isSome then keyGone (vaultLock 1 2 (modVault (fun v => { v with share := none, cells := [] }) s)) else s

/-- The responses of an event, performed (Table 14-11). -/
def performTamper (n : Nat) (s : State) : State :=
  let x := nth s.vault.tamper n TamperIn.zero
  let s1 := if bit x.responses 0 then vaultLock 1 1 (wipe s) else s
  let s2 := if bit x.responses 1 then eraseShare s1 else s1
  let s3 := if bit x.responses 2 then askReset 4 51 0xFF 0xFF s2 else s2
  evalLasting 9 (10 + n) true (tamperEvent (10 + n) (2 ^ n) x.responses 0 s3)

/-- An event enters the record (R535). -/
def tamperRecord (n : Nat) (s : State) : State :=
  modVault (fun v => { v with
    latch := true
    inputs := putBit v.inputs n true
    firstRtc := if v.latch then v.firstRtc else s.pwr.rtc
    events := satAdd 16 v.events 1
    tamper := modNth v.tamper n (fun x => { x with evented := true }) }) s

/-- The responses of an event wait: for the end of a fuse write, or for the wake (R538). -/
def tamperLater (n : Nat) (s : State) : State := { s with pwr := { s.pwr with tamperWait := putBit s.pwr.tamperWait n true } }

/-- A tamper with wipe that arrives before the first fuse of a VAULT_PROVISION is written aborts it (R538); whether the first fuse
is written already is a free value (log entry 4). -/
def abortProvision (n : Nat) (s : State) : State :=
  match s.pwr.fuse with
  | none => s
  | some j =>
    let f := fresh s
    if j.kind = 1 ∧ bit (nth s.vault.tamper n TamperIn.zero).responses 0 = true ∧ f.1 % 2 = 0 then
      performTamper n (reply j.req 0x0D02 0x8D09 [] { f.2 with pwr := { f.2.pwr with fuse := none } })
    else tamperLater n f.2

/-- An event of an input (R535, R538). -/
def tamperHit (n : Nat) (s : State) : State :=
  let s1 := tamperRecord n s
  let x := nth s1.vault.tamper n TamperIn.zero
  if s.pwr.state = 4 then (if bit x.responses 1 ∧ s1.vault.bound then modVault (fun v => { v with share := none }) s1 else s1)
  else if s.pwr.state = 3 then
    let s2 := if bit x.responses 1 ∧ s1.vault.bound then modVault (fun v => { v with share := none }) s1 else s1
    let s3 := if bit x.responses 2 then askReset 4 51 0xFF 0xFF s2 else s2
    evalLasting 9 (10 + n) true (tamperLater n (if bit x.responses 3 then askWake 4 s3 else s3))
  else if s.pwr.fuse.isSome then abortProvision n s1
  else performTamper n s1

/-- TAMPER_SAMPLE (R535): two consecutive samples at the active level make an event. -/
def execTamperSample (n : Nat) (high : Bool) (s : State) : Result :=
  let x := nth s.vault.tamper n TamperIn.zero
  let act := if x.mode = 1 then high else !high
  done (if x.mode = 0 ∨ n ≥ 4 then s
    else
      let s1 := modVault (fun v => { v with tamper := modNth v.tamper n (fun y => { y with
        last := act
        active := act && y.last
        evented := y.evented && act }) }) s
      if act = true ∧ x.last = true ∧ x.evented = false then tamperHit n s1 else s1)

/-- The settings of a tamper input as TAMPER_SET carries them. -/
def tamperPayload (n : Nat) (s : State) : List Byte :=
  let x := nth s.vault.tamper n TamperIn.zero
  leBytes 1 n ++ leBytes 1 x.mode ++ leBytes 1 x.responses ++ leBytes 1 x.period ++ leBytes 1 (flag s.vault.tLocked) ++ zeros 3

/-- TAMPER_SET (R541). -/
def execTamperSet (r : Req) (s : State) : Result :=
  let p := r.payload
  let n := u8 p 0
  done (runCommand 0x0D0C true r (fun s =>
    let x := nth s.vault.tamper n TamperIn.zero
    let weaker := (x.mode != 0 && u8 p 1 != x.mode) || Nat.land x.responses (u8 p 2) != x.responses || decide (x.period < u8 p 3)
    checked (p.length == 8) (bitsBelow (u8 p 4) 1 && zeroAt p 5 3) (n ≤ 3 && u8 p 1 ≤ 2 && u8 p 2 ≤ 15 && u8 p 3 ≤ 5) true
      (failIf (s.vault.tLocked && weaker) 0x2005) s (fun s =>
      let s1 := modVault (fun v => { v with
        tamper := modNth v.tamper n (fun y =>
          if y.mode = u8 p 1 then { y with
            responses := u8 p 2
            period := u8 p 3 }
          else ⟨u8 p 1, u8 p 2, u8 p 3, false, false, false⟩)
        tLocked := v.tLocked || bit (u8 p 4) 0 }) s
      .reply (changed (tamperPayload n s == tamperPayload n s1)) (tamperPayload n s1) s1)) s)

/-- TAMPER_CLEAR (R540). -/
def execTamperClear (r : Req) (s : State) : Result :=
  done (runCommand 0x0D0D true r (fun s =>
    checked (r.payload.length == 0) true true true (failIf (tamperActive s) 0x8D0C) s (fun s =>
      let b := leBytes 1 s.vault.inputs ++ zeros 1 ++ leBytes 2 s.vault.events ++ leBytes 4 s.vault.firstRtc
      if s.vault.latch = false then .reply 0x0102 b s
      else
        let s1 := vaultLock 0 4 (modVault (fun v => { v with
          latch := false
          inputs := 0
          firstRtc := 0
          events := 0
          locked := false
          tamperOwed := [] }) s)
        .reply 0 b ((List.range 4).foldl (fun t n => evalLasting 9 (10 + n) false t) s1))) s)

/-- The responses that waited are performed, unless a fuse write runs (R538). -/
def tamperPending (s : State) : State :=
  if s.pwr.fuse.isSome then s
  else
    let w := s.pwr.tamperWait
    (List.range 4).foldl (fun t n => if bit w n then performTamper n t else t) { s with pwr := { s.pwr with tamperWait := 0 } }

/-- FUSE_WRITE_COMPLETE (R510, R515, R538): the fuses are blown, then waiting tamper responses apply. -/
def execFuseWriteComplete (s : State) : Result :=
  done (match s.pwr.fuse with
    | none => s
    | some j =>
      let s1 := { s with pwr := { s.pwr with fuse := none } }
      tamperPending (if j.kind = 0 then blowLife j.req (u8 j.payload 0) s1 else blowRoot j.req j.payload s1))

/-- The vault after a COLD reset: locked when a latched input has the wipe response; the TAMPER event is owed to the first
sessions (R538, R539). -/
def tamperAtBoot (s : State) : State :=
  let wipes := (List.range 4).any (fun n => bit s.vault.inputs n && bit (nth s.vault.tamper n TamperIn.zero).responses 0)
  modVault (fun v => { v with
    locked := v.locked || (v.latch && wipes)
    tamperOwed := if v.latch then [0, 1, 2, 3, 4] else [] }) s

/-- Volatile nodes and cells are gone, and running operations with them (R543). -/
def clearVolatile (s : State) : State :=
  modVault (fun v => { v with
    nodes := v.nodes.filter (fun n => bit n.flags 0 || n.depth == 0)
    cells := []
    ops := [] }) s

/-- PD_CTRL powers up: cell addresses and contents are scrambled under a new key (R523). -/
def newScramble (s : State) : State := modVault (fun v => { v with scramble := v.scramble + 1 }) s

end Sys2Proof.Machine
end

