-- ==== Sys2Proof/Machine/Spill.lean ====
section
/-!
DEFINITION. Sys2Proof/Machine/Spill.lean: the spill queues of chapter 3 (R122 to R129, R135): pushing, popping, flushing, and the
device's own streams.
-/
namespace Sys2Proof.Machine
open Sys2Proof

/-- A spill queue. -/
def sqOf (s : State) (q : Nat) : SpillQ := nth s.sqs q SpillQ.zero

/-- Changes a spill queue. -/
def modSq (q : Nat) (f : SpillQ → SpillQ) (s : State) : State := { s with sqs := modNth s.sqs q f }

/-- The bytes that a packet of length `n` occupies (R122). -/
def sqOccupies (n : Nat) : Nat := (n + 63) / 64 * 64

/-- The bytes occupied in a queue, the packet being pushed included. -/
def sqLevel (x : SpillQ) : Nat :=
  (x.packets.map (fun p => sqOccupies p.length)).sum + (match x.push with
    | none => 0
    | some w => if w.2.2 then 0 else sqOccupies w.1)

/-- The capacity of a queue (R122). -/
def sqCapacity (x : SpillQ) : Nat := x.middle * 1048576 + 1024

/-- The space of a queue as it stands: while PD_MEM is off, only the two fast sections hold packets (R98, R122; log entry 20). -/
def sqSpace (s : State) (x : SpillQ) : Nat := if domOn s 11 then sqCapacity x else 1024

/-- Whether a pop would need the middle while PD_MEM is off: the packets held do not fit the fast sections (R98; log entry 20). -/
def sqStuck (s : State) (x : SpillQ) : Bool := !domOn s 11 && decide (1024 < sqLevel x)

/-- SQ_FAULT, at most once per second for each queue and fault (R135). DESIGN CHOICE: Table 1-3 has no number for a spill queue, so the event
carries its producer's number, whatever the fault, and 33 where the device produces (log entry 20). -/
def sqFault (q fault : Nat) (s : State) : State :=
  let p := (sqOf s q).producer
  limited 0xC203 (q * 8 + fault) sec (fun n t =>
    emit 0xC203 (if p ≤ 4 then p else 33) (leBytes 1 q ++ leBytes 1 fault ++ leBytes 2 n) t) s

/-- A flush takes effect once neither end is inside a packet (R126). -/
def sqFlushStep (q : Nat) (s : State) : State :=
  modSq q (fun x => if x.flushAt.isSome = true ∧ x.push.isNone = true ∧ x.popPos = 0 then { x with
      flushAt := none
      packets := [] } else x) s

/-- A partial packet is abandoned (R124). DESIGN CHOICE: a packet that is being dropped for space and whose words are still awaited counts as
one (log entry 20). -/
def sqAbandon (q : Nat) (s : State) : State :=
  match (sqOf s q).push with
  | none => s
  | some _ => sqFault q 3 (modSq q (fun x => { x with
      push := none
      abandon := true }) s)

/-- A packet is dropped for space (R123). -/
def sqOverflow (q : Nat) (s : State) : State :=
  sqFault q 1 (modSq q (fun x => { x with
    ovf := true
    dropped := satAdd 32 x.dropped 1 }) s)

/-- A producer starts a packet (R123, R124). A disabled queue and a length outside 16 to 4096 start none (log entry 20). -/
def sqPushLen (q len : Nat) (s : State) : State :=
  let s1 := sqAbandon q s
  let x := sqOf s1 q
  if x.en = false ∨ within len 16 4096 = false then sqFlushStep q s1
  else
    let drop := decide (sqSpace s1 x < sqLevel x + sqOccupies len)
    modSq q (fun x => { x with
      push := some (len, [], drop)
      pushFrom := s.tb.gtc }) (if drop then sqOverflow q s1 else s1)

/-- A producer writes the next word of its packet; the final one completes it (R123). A queue that is not enabled takes none (Table 3-8). -/
def sqPushWord (q w : Nat) (s : State) : State :=
  match (sqOf s q).push with
  | none => s
  | some (len, ws, drop) =>
    if (sqOf s q).en = false then s
    else if ws.length + 1 < (len + 3) / 4 then modSq q (fun x => { x with push := some (len, ws ++ [w], drop) }) s
    else sqFlushStep q (modSq q (fun x => { x with
      push := none
      packets := if drop then x.packets else x.packets ++ [((ws ++ [w]).flatMap (leBytes 4)).take len] }) s)

/-- The length of the head packet; 0 when the queue is empty (R125, R126). -/
def sqPopLen (x : SpillQ) : Nat :=
  match x.packets with
  | [] => 0
  | p :: _ => p.length

/-- The consumer reads the next word of the head packet (R125); `eccBad`: the packet meets an uncorrectable error (R127). DESIGN CHOICE: of a
packet that a flush cut, as many further reads return 0 as it had words left, also once a new packet has been pushed; a queue that is not
enabled answers 0 and keeps its packets as they are; so does one whose words lie in the middle while PD_MEM is off (log entry 20). -/
def sqPop (q : Nat) (eccBad : Bool) (s : State) : Nat × State :=
  let x := sqOf s q
  if x.cutLeft ≠ 0 then (0, modSq q (fun x => { x with cutLeft := x.cutLeft - 1 }) s)
  else if x.en = false ∨ sqStuck s x = true then (0, s)
  else match x.packets with
    | [] => (0, s)
    | p :: rest =>
      if eccBad then
        (0, sqFlushStep q (sqFault q 2 (modSq q (fun x => { x with
          packets := rest
          popPos := 0
          ecc := true }) s)))
      else
        let w := leNat ((p.drop (4 * x.popPos)).take 4)
        if x.popPos + 1 < (p.length + 3) / 4 then (w, modSq q (fun x => { x with
            popFrom := if x.popPos = 0 then s.tb.gtc else x.popFrom
            popPos := x.popPos + 1 }) s)
        else (w, sqFlushStep q (modSq q (fun x => { x with
          packets := rest
          popPos := 0 }) s))

/-- FLUSH is requested (R126): the limits of ends that are inside a packet run from now. -/
def sqFlush (q : Nat) (s : State) : State :=
  sqFlushStep q (modSq q (fun x => if x.flushAt.isSome then x else { x with
    flushAt := some s.tb.gtc
    pushFrom := s.tb.gtc
    popFrom := s.tb.gtc }) s)

/-- The 100 ms under a pending flush: how long an end has stayed inside its packet since the request (R126). -/
def sqLate (s : State) (x : SpillQ) (t : Gtc) : Bool := x.flushAt.isSome && decide (100000000 ≤ sinceNs s t)

/-- The producer stayed inside its packet for 100 ms: the packet is abandoned (R126). -/
def sqLatePush (q : Nat) (s : State) : State :=
  if sqLate s (sqOf s q) (sqOf s q).pushFrom then sqAbandon q s else s

/-- The consumer stayed inside its packet for 100 ms: the rest of the packet is cut (R126). -/
def sqLatePop (q : Nat) (s : State) : State :=
  let x := sqOf s q
  match x.packets with
  | [] => s
  | p :: rest =>
    if x.popPos = 0 ∨ sqLate s x x.popFrom = false then s
    else sqFault q 4 (modSq q (fun x => { x with
      packets := rest
      cutLeft := (p.length + 3) / 4 - x.popPos
      popPos := 0
      cut := true }) s)

/-- The limits of the two ends under a pending flush, each on its own (R126). -/
def sqFlushExpire (q : Nat) (s : State) : State := sqFlushStep q (sqLatePop q (sqLatePush q s))

/-- Whether a queue is bound with the device as producer (R200, R238). -/
def sqDeviceBound (s : State) (q : Nat) : Bool := (sqOf s q).producer == 16

/-- The device pushes whole packets of one record: all or none (R123, R200). -/
def sqDevice (q : Nat) (ps : List (List Byte)) (s : State) : Bool × State :=
  let x := sqOf s q
  if sqDeviceBound s q = false ∨ x.en = false ∨ domOn s 11 = false then (false, s)
  else if sqSpace s x < sqLevel x + (ps.map (fun p => sqOccupies p.length)).sum then (false, sqOverflow q s)
  else (true, sqFlushStep q (modSq q (fun x => { x with packets := x.packets ++ ps }) s))

/-- A PORT reset of an end (R124, R125). -/
def sqPortReset (m : Nat) (s : State) : State :=
  (List.range 64).foldl (fun t q =>
    let t1 := if (sqOf t q).producer = m then sqAbandon q t else t
    let t2 := if (sqOf t1 q).consumer = m then modSq q (fun x => { x with
      popPos := 0
      cutLeft := 0 }) t1 else t1
    sqFlushStep q t2) s

/-- SQ_CONFIG (R133). DESIGN CHOICE: it discards the content and keeps the flags of SQ_STAT and the count of SQ_DROPPED, of which the rule does
not speak (log entry 20). -/
def execSqConfig (r : Req) (s : State) : Result :=
  let p := r.payload
  let q := u8 p 0
  let okEnd (v : Nat) : Bool := v ≤ 4 || v == 16
  done (runCommand 0x0203 false r (fun s =>
    let x := sqOf s q
    let others := ((List.range 64).map (fun i => if i = q then 0 else (sqOf s i).middle)).sum
    checked (p.length == 4) true (q ≤ 63 && okEnd (u8 p 1) && okEnd (u8 p 2) && u8 p 3 ≤ 64 && u8 p 1 != u8 p 2) true
      (failIf x.en 0x2003 ++ failIf (decide (1024 < others + u8 p 3)) 0x8202) s (fun s =>
      .reply 0 (p ++ leBytes 2 (others + u8 p 3) ++ zeros 2)
        (modSq q (fun x => { SpillQ.zero with
          producer := u8 p 1
          consumer := u8 p 2
          middle := u8 p 3
          ovf := x.ovf
          ecc := x.ecc
          abandon := x.abandon
          cut := x.cut
          dropped := x.dropped }) s))) s)

end Sys2Proof.Machine
end

