-- ==== Sys2Proof/Machine/Gnss.lean ====
section
/-!
DEFINITION. Sys2Proof/Machine/Gnss.lean: chapter 5: antenna ports, interference, acquisition, tracking channels, the bearing check and
exclusion, with the commands of group 0x04. The epoch's record is put together here; Corr.lean runs the epoch.
-/
namespace Sys2Proof.Machine
open Sys2Proof

/-- Changes the GNSS path. -/
def modGnss (f : Gnss → Gnss) (s : State) : State := { s with gnss := f s.gnss }

/-- An antenna port. -/
def gnPort (s : State) (p : Nat) : GnPort := nth s.gnss.ports p GnPort.zero

/-- Changes an antenna port. -/
def modGnPort (p : Nat) (f : GnPort → GnPort) (s : State) : State := modGnss (fun g => { g with ports := modNth g.ports p f }) s

/-- A band stream. -/
def bandOf (s : State) (b : Nat) : Band := nth s.gnss.bands b (Band.zero b)

/-- Changes a band stream. -/
def modBand (b : Nat) (f : Band → Band) (s : State) : State := modGnss (fun g => { g with bands := modNth g.bands b f }) s

/-- Whether a port is in DATA. -/
def inData (s : State) (p : Nat) : Bool := (gnPort s p).link == 3

/-- The ports in DATA. -/
def dataPorts (s : State) : List Nat := (List.range 4).filter (fun p => inData s p)

/-! ### Signals (Table 5-6) -/

/-- A signal: code, band stream, carrier in Hz, step per GLONASS channel in Hz, whether it is acquired directly. -/
structure Signal where
  code : Nat
  band : Nat
  hz : Nat
  step : Nat
  direct : Bool
deriving DecidableEq, Repr

/-- The signals of Table 5-6 in bit order. -/
def signals : List Signal :=
  [⟨0x11, 0, 1575420000, 0, true⟩, ⟨0x12, 0, 1575420000, 0, false⟩, ⟨0x13, 1, 1227600000, 0, false⟩,
   ⟨0x14, 2, 1176450000, 0, false⟩, ⟨0x21, 0, 1602000000, 562500, true⟩, ⟨0x22, 1, 1246000000, 437500, false⟩,
   ⟨0x31, 0, 1575420000, 0, true⟩, ⟨0x32, 2, 1176450000, 0, false⟩, ⟨0x33, 2, 1207140000, 0, false⟩,
   ⟨0x34, 3, 1278750000, 0, false⟩, ⟨0x41, 0, 1561098000, 0, true⟩, ⟨0x42, 0, 1575420000, 0, false⟩,
   ⟨0x43, 2, 1176450000, 0, false⟩, ⟨0x44, 3, 1268520000, 0, false⟩, ⟨0x51, 0, 1575420000, 0, true⟩,
   ⟨0x52, 0, 1575420000, 0, false⟩, ⟨0x53, 1, 1227600000, 0, false⟩, ⟨0x54, 2, 1176450000, 0, false⟩,
   ⟨0x61, 0, 1575420000, 0, true⟩]

/-- The bit of a signal code in Table 5-6. -/
def signalBit (code : Nat) : Nat := signals.findIdx (fun x => x.code == code)

/-- The entry of a signal code. -/
def signalOf (code : Nat) : Signal := nth signals (signalBit code) ⟨0, 0, 1575420000, 0, false⟩

/-- Whether a signal is enabled (R181). -/
def signalOn (s : State) (code : Nat) : Bool := signalBit code < 19 && bit s.gnss.enables (signalBit code)

/-- Whether a satellite identifier lies in the ranges of R182. -/
def satValid (id : Nat) : Bool :=
  let n := id % 256
  match id / 256 with
  | 1 => within n 1 32
  | 2 => within n 1 24
  | 3 => within n 1 36
  | 4 => within n 1 63
  | 5 => within n 1 10
  | 6 => within n 120 158
  | _ => false

/-! ### Satellites and channels -/

/-- A satellite of which nothing is known. -/
def Sat.new (id : Nat) : Sat :=
  { id := id, eph := none, alm := none, healthy := false, pos := ⟨0, 0, 0⟩, rate := 0, corr := 0, u := (0, 0, 0), up := 0, az := 0, el := none,
    bearing := 0, ravg := none, n := [none, none, none, none], mpCount := 0, spCount := 0, clearCount := 0, causes := 0,
    causesWas := none, reacted := 0, reactedNow := 0, reactedAt := 0 }

/-- A satellite. -/
def satOf (s : State) (id : Nat) : Sat := (s.gnss.sats.find? (fun x => x.id == id)).getD (Sat.new id)

/-- Inserts or replaces a satellite, in rising identifier. -/
def putSat (x : Sat) (l : List Sat) : List Sat :=
  match l with
  | [] => [x]
  | y :: r => if x.id < y.id then x :: y :: r else if x.id = y.id then x :: r else y :: putSat x r

/-- Changes a satellite. -/
def modSat (id : Nat) (f : Sat → Sat) (s : State) : State :=
  modGnss (fun g => { g with sats := putSat (f (satOf s id)) g.sats }) s

/-- An idle channel. -/
def Channel.idle : Channel :=
  { state := 0, sat := 0, sig := 0, port := 0, k := 0, cn0 := 0, lockSince := 0, slip := false, lowSince := none, multipath := 0,
    pseudorange := 0, phase := 0, doppler := 0, phaseLock := 0, goodSince := none, code := 0, carrier := 0, taps := [], integ := 0 }

/-- A tracking channel; those never used are IDLE. -/
def chanAt (s : State) (i : Nat) : Channel := nth s.gnss.chans i Channel.idle

/-- Changes a tracking channel; the list grows up to it. -/
def modChan (i : Nat) (f : Channel → Channel) (s : State) : State :=
  let l := s.gnss.chans ++ List.replicate (i + 1 - s.gnss.chans.length) Channel.idle
  modGnss (fun g => { g with chans := modNth l i f }) s

/-- The first channel of a port and the number of its channels: its blocks of 32, in port order (R189; log entry 21). -/
def chanRange (s : State) (p : Nat) : Nat × Nat := (32 * ((s.gnss.alloc.take p).sum), 32 * nth s.gnss.alloc p 0)

/-- Whether a channel tracks a signal of a satellite; signals of GLONASS satellites without a slot differ by their channel k (R183). -/
def tracks (sat sig : Nat) (k : Int) (c : Channel) : Bool :=
  c.state != 0 && c.sat == sat && c.sig == sig && (sat % 256 != 0 || c.k == k)

/-- The channel that tracks a signal of a satellite on a port. -/
def tracking (s : State) (sat sig : Nat) (k : Int) (p : Nat) : Option Channel :=
  s.gnss.chans.find? (fun c => tracks sat sig k c && c.port == p)

/-- A free channel of a port. -/
def freeChan (s : State) (p : Nat) : Option Nat :=
  (List.range (chanRange s p).2).findSome? (fun i =>
    if (chanAt s ((chanRange s p).1 + i)).state = 0 then some ((chanRange s p).1 + i) else none)

/-- The satellite systems' GEO satellites of BeiDou (PRESUMED from BeiDou's interface document: PRN 1 to 5 and 59 to 63; log entry 21). -/
def beidouGeo (sat : Nat) : Bool := sat / 256 == 4 && (within (sat % 256) 1 5 || within (sat % 256) 59 63)

/-- The signals whose carrier loop runs on a pilot (Table 5-6). -/
def pilotSignal (sig : Nat) : Bool :=
  [0x12, 0x13, 0x14, 0x31, 0x32, 0x33, 0x34, 0x42, 0x43, 0x52, 0x53, 0x54].contains sig

/-- The taps from P in 1/400 chip: VE, E, P, L, VL at the E-L spacing, then the probes (R191). -/
def tapsOf (l : LoopSet) : List Int :=
  let h : Int := 2 * (l.spacing : Int)
  [-2 * h, -h, 0, h, 2 * h] ++ l.probes.map (fun v => 25 * v)

/-- The coherent integration of a channel in ms: the signal's setting on a pilot or after bit sync; 1 ms before, 2 ms for SBAS and BeiDou
GEO (R192). -/
def integOf (l : LoopSet) (sat sig st : Nat) : Nat :=
  let want := if beidouGeo sat then l.geo else l.coherent
  if pilotSignal sig = true ∨ 4 ≤ st then want else min want (if sig = 0x61 ∨ beidouGeo sat = true then 2 else 1)

/-- The loop settings of a signal. -/
def loopOf (s : State) (sig : Nat) : LoopSet := nth s.gnss.loops (signalBit sig) (LoopSet.default (signalBit sig))

/-- A channel's taps and integration follow its signal's settings (R191, R192). -/
def setLoops (s : State) (c : Channel) : Channel :=
  { c with
    taps := tapsOf (loopOf s c.sig)
    integ := integOf (loopOf s c.sig) c.sat c.sig c.state }

/-- What a channel starts from: satellite, signal, GLONASS channel, code phase and Doppler (R184). -/
structure Start where
  sat : Nat
  sig : Nat
  k : Int
  code : Nat
  carrier : Int
deriving DecidableEq, Repr

/-- A channel handed over (R184, R193). -/
def startChan (s : State) (x : Start) (p : Nat) : Channel :=
  setLoops s { Channel.idle with
    state := 1
    sat := x.sat
    sig := x.sig
    port := p
    k := x.k
    code := x.code
    carrier := x.carrier }

/-- Every channel of a signal returns to IDLE. -/
def dropSignal (sat sig : Nat) (k : Int) (s : State) : State :=
  modGnss (fun g => { g with chans := g.chans.map (fun c => if tracks sat sig k c then Channel.idle else c) }) s

/-- Puts a signal on a free channel of every port in DATA that does not track it yet; where a port has none free, the signal is tracked
nowhere (R184, R190). -/
def placeSignal (x : Start) (s : State) : Bool × State :=
  let ps := (dataPorts s).filter (fun p => (tracking s x.sat x.sig x.k p).isNone)
  if ps.all (fun p => (freeChan s p).isSome) then
    (true, ps.foldl (fun t p => match freeChan t p with
      | none => t
      | some i => modChan i (fun _ => startChan t x p) t) (modSat x.sat id s))
  else (false, dropSignal x.sat x.sig x.k s)

/-- GN_CHAN_SHORT, at most once per minute (R190). -/
def chanShort (n : Nat) (el : Int) (s : State) : State :=
  if n = 0 then s else limited 0xC405 0 (60 * sec) (fun _ t => emit 0xC405 24 (leBytes 2 n ++ leInt 1 el ++ zeros 1) t) s

/-! ### Links (R166 to R170) -/

/-- GN_LINK (Table 5-15). -/
def gnLink (p old new cause : Nat) (s : State) : State :=
  emit 0xC401 (24 + p) (leBytes 1 p ++ leBytes 1 old ++ leBytes 1 new ++ leBytes 1 cause) s

/-- The GTC of the latest epoch instant: ST was last a multiple of 50 ms then (R196). -/
def epochGtc (s : State) : Gtc := s.tb.gtc - BitVec.ofNat 64 (s.tb.st % 50000000)

/-- Whether a GTC lies at or after the latest epoch instant. -/
def sinceEpoch (s : State) (t : Gtc) : Bool := decide (sinceNs s t ≤ s.tb.st % 50000000)

/-- A value as it was at the latest epoch instant, from its first change since then (R224). -/
def atEpoch {α : Type} (s : State) (was : Option (Gtc × α)) (now : α) : α :=
  match was with
  | none => now
  | some w => if sinceEpoch s w.1 then w.2 else now

/-- The note of a change: the first one after the latest epoch instant is kept (R224). -/
def noteWas {α : Type} (s : State) (was : Option (Gtc × α)) (now : α) : Option (Gtc × α) :=
  match was with
  | none => some (s.tb.gtc, now)
  | some w => if sinceEpoch s w.1 then some w else some (s.tb.gtc, now)

/-- Whether a port was in DATA at the latest epoch instant (R224). -/
def wasData (s : State) (p : Nat) : Bool := atEpoch s (gnPort s p).linkWas (gnPort s p).link == 3

/-- A change of link state: leaving DATA starts the 200 ms of R170 and takes the samples from the band streams; entry into DATA
lets channels that were kept go on with a slip and lock time 0. A link start with SYSREF one-shot gives a single pulse (R167). -/
def setLink (p new cause : Nat) (s : State) : State :=
  let old := (gnPort s p).link
  if old = new then s
  else
    let s1 := modGnPort p (fun x => { x with
      link := new
      linkWas := noteWas s x.linkWas old
      syncN := new == 2 || new == 3
      syncLow := none
      outage := if old = 3 then some s.tb.gtc else if new = 3 then none else x.outage }) s
    let s2 := (List.range 4).foldl (fun t b => modBand (4 * p + b) (fun x => { x with
      dataSince := if new = 3 then some s.tb.gtc else none
      pnLow := none
      clipSince := none
      dimSince := none
      jn := if new = 3 then 254 else 255 }) t) s1
    let s3 := if new = 3 ∧ (gnPort s p).outage.isSome then
        modGnss (fun g => { g with chans := g.chans.map (fun c => if c.port = p ∧ c.state ≠ 0 then { c with
          slip := true
          lockSince := s.tb.gtc } else c) }) s2
      else s2
    let s4 := if new = 1 ∧ (gnPort s p).oneShot = true then put (.sysref sysrefWidth) s3 else s3
    gnLink p old new cause s4

/-- Two multiframes in ns, rounded up: as long as a restart holds SYNC_N low (R169, Table 5-1). -/
def twoMultiframes : Nat := 1043

/-- JESD_CGS_DONE (R166, R169): four consecutive K28.5 were received. While a restart's two multiframes run, SYNC_N stays low and the
link in CGS. -/
def execJesdCgsDone (p : Nat) (s : State) : Result :=
  let held := (gnPort s p).syncLow.any (fun t => decide (sinceNs s t < twoMultiframes))
  done (if (gnPort s p).link = 1 ∧ held = false then setLink p 2 0 s else s)

/-- The link parameters of Table 5-1. -/
def jesdTable : JesdCfg := ⟨1, 8, 4, 4, 1, 4, 32, 0, 0, 0, 1⟩

/-- JESD_ILAS_END (R168): the configuration data agrees with Table 5-1 or the port goes to FAULT (R166). -/
def execJesdIlasEnd (p : Nat) (cfg : JesdCfg) (s : State) : Result :=
  done (if (gnPort s p).link = 2 then (if cfg = jesdTable then setLink p 3 0 s else setLink p 4 3 s) else s)

/-- JESD_LINK_ERROR (R169): the code-group errors of one multiframe, and the multiframes in a row whose frame alignment was lost. The
errors count towards GN_STATUS whether or not they restart the link. -/
def execJesdLinkError (p errors misaligned : Nat) (s : State) : Result :=
  done (if (gnPort s p).link = 3 then
      let s1 := modGnPort p (fun x => { x with codeErr := satAdd 16 x.codeErr errors }) s
      if 8 ≤ errors ∨ 4 ≤ misaligned then
        modGnPort p (fun x => { x with syncLow := some s.tb.gtc }) (setLink p 1 (if 8 ≤ errors then 1 else 2) s1)
      else s1
    else s)

/-- Every channel of a port returns to IDLE. -/
def idlePort (p : Nat) (s : State) : State :=
  modGnss (fun g => { g with chans := g.chans.map (fun c => if c.port = p then Channel.idle else c) }) s

/-- LINK_OUTAGE_TIMEOUT (R170): 200 ms after DATA was left. -/
def execLinkOutageTimeout (p : Nat) (s : State) : Result :=
  done (match (gnPort s p).outage with
    | none => s
    | some t =>
      if (gnPort s p).link ≠ 3 ∧ 200000000 ≤ sinceNs s t then idlePort p (modGnPort p (fun x => { x with outage := none }) s) else s)

/-! ### Interference (R172 to R180) -/

/-- A loop's output: its fixed value, or its choice held inside the fence (R28, R30). -/
def notchOut (lo hi : Int) (fixed : Option Int) (want : Int) : Int := fixed.getD (clampInt lo hi want)

/-- Whether the host has set a notch to a fixed value: the loop leaves it alone (R30). -/
def notchFixed (n : Notch) : Bool := n.fixedFreq.isSome || n.fixedDepth.isSome

/-- The nearest line within half a notch's width of a frequency: the same line as before (R173; log entry 21). -/
def sameLine (f : Int) (ls : List (Int × Nat)) : Option (Int × Nat) :=
  (ls.filter (fun l => (l.1 - f).natAbs ≤ 125000)).foldl (fun o l => match o with
    | none => some l
    | some b => if (l.1 - f).natAbs < (b.1 - f).natAbs then some l else some b) none

/-- POLICY_LIMIT of a notch whose best choice lies outside its fences (R29). -/
def notchLimit (band i : Nat) (n : Notch) (f d : Int) (s : State) : State :=
  let src := 24 + band / 4
  let inst := band * 8 + i
  let s1 := if f < n.freqLo then policyLimit src 1 inst 0 0 n.freqLo f s
    else if n.freqHi < f then policyLimit src 1 inst 1 0 n.freqHi f s else s
  if d < n.depthLo then policyLimit src 1 inst 0 1 n.depthLo d s1
  else if n.depthHi < d then policyLimit src 1 inst 1 1 n.depthHi d s1 else s1

/-- A notch takes a line: frequency and depth inside the fences (R173, R28). -/
def followLine (n : Notch) (l : Int × Nat) : Notch :=
  { n with
    assigned := true
    line := some l
    freq := clampInt n.freqLo n.freqHi l.1
    depth := clampInt n.depthLo n.depthHi ((l.2 : Int) + 600) }

/-- A notch that is released; its output stays within the fences (R173, R28). -/
def releaseNotch (n : Notch) : Notch :=
  { n with
    assigned := false
    line := none
    weakSince := none
    freq := clampInt n.freqLo n.freqHi n.freq
    depth := clampInt n.depthLo n.depthHi n.depth }

/-- One update of a notch under loop control (R173): it follows its line, or is released once that has been weak for 1 s. The lines left
for the other notches, and the state. -/
def notchStep (band : Nat) (a : State × List (Int × Nat)) (i : Nat) : State × List (Int × Nat) :=
  let s := a.1
  let n := nth (bandOf s band).notches i (Notch.free band)
  let keep (m : Notch) : State := modBand band (fun b => { b with notches := b.notches.set i m }) s
  if notchFixed n then a
  else match n.line with
    | none => (keep (releaseNotch n), a.2)
    | some old =>
      let seen := sameLine old.1 a.2
      let l := seen.getD old
      let weak := decide (l.2 < 700) || seen.isNone
      let since := if weak then (if n.weakSince.isSome then n.weakSince else some s.tb.gtc) else none
      let rest := match seen with
        | none => a.2
        | some l => a.2.erase l
      if since.any (fun t => decide (sec ≤ sinceNs s t)) then (keep (releaseNotch n), rest)
      else (notchLimit band i n l.1 ((l.2 : Int) + 600) (keep { followLine n l with weakSince := since }), rest)

/-- The notch of the weakest line under loop control, with that line's excess. -/
def weakestNotch (l : List Notch) : Option (Nat × Nat) :=
  (List.range l.length).foldl (fun o i =>
    let n := nth l i (Notch.free 0)
    match n.line with
    | none => o
    | some x => if notchFixed n then o else match o with
      | none => some (i, x.2)
      | some w => if x.2 < w.2 then some (i, x.2) else some w) none

/-- A line without a notch takes a free one, or one from a line weaker by 3 dB or more (R172, R173). -/
def assignLine (band : Nat) (s : State) (l : Int × Nat) : State :=
  let ns := (bandOf s band).notches
  let free (i : Nat) : Bool := let n := nth ns i (Notch.free band); !n.assigned && !notchFixed n
  let slot := match (List.range 8).find? free with
    | some i => some i
    | none => ((weakestNotch ns).filter (fun w => decide (w.2 + 300 ≤ l.2))).map (fun w => w.1)
  match (if l.2 < 1000 then none else slot) with
  | none => s
  | some i =>
    let n := nth ns i (Notch.free band)
    notchLimit band i n l.1 ((l.2 : Int) + 600)
      (modBand band (fun b => { b with notches := b.notches.set i { followLine n l with weakSince := none } }) s)

/-- Inserts a line by strength, strongest first. -/
def insertLine (l : Int × Nat) (ls : List (Int × Nat)) : List (Int × Nat) :=
  match ls with
  | [] => [l]
  | m :: r => if m.2 < l.2 then l :: m :: r else m :: insertLine l r

/-- NOTCH_UPDATE (R172, R173): the peaks of the 100 ms spectrum with their excess over the floor in 0.01 dB. Those at 10 dB and above are
lines. -/
def execNotchUpdate (band : Nat) (lines : List (Int × Nat)) (s : State) : Result :=
  done (if inData s (band / 4) then
      let r := (List.range 8).foldl (notchStep band) (s, lines)
      (r.2.foldl (fun a l => insertLine l a) []).foldl (assignLine band) r.1
    else s)

/-- AGC_UPDATE (R174): the gain that brings 30 % of the samples to the outer levels, held inside the fence. -/
def execAgcUpdate (band : Nat) (best : Int) (s : State) : Result :=
  let b := bandOf s band
  let s1 := modBand band (fun b => { b with agc := notchOut b.agcLo b.agcHi b.agcFixed best }) s
  done (if inData s (band / 4) = false then s
    else if b.agcFixed.isSome then s1
    else if best < b.agcLo then policyLimit (24 + band / 4) 2 band 0 0 b.agcLo best s1
    else if b.agcHi < best then policyLimit (24 + band / 4) 2 band 1 0 b.agcHi best s1
    else s1)

/-- The J/N code of power P against the reference Pn: the number of codes whose lower edge the ratio reaches (R176, R177). -/
def jnCode (p pn : Nat) : Nat :=
  if p ≤ pn then 0
  else ((List.range 240).filter (fun i => decide (10 ^ (2 * i + 1) * pn ^ 80 ≤ (p - pn) ^ 80))).length

/-- The noise reference in use, and whether there is one (R178). -/
def noiseRef (s : State) (b : Band) : Option Nat :=
  match b.pnHost with
  | some v => some v
  | none => match b.dataSince with
    | none => none
    | some t => if 60 * sec ≤ sinceNs s t then b.pnLow else none

/-- GN_JAMMING (R179). -/
def gnJamming (band raised code : Nat) (s : State) : State :=
  emit 0xC402 (24 + band / 4) (leBytes 1 band ++ leBytes 1 raised ++ leBytes 1 code
    ++ leBytes 1 ((bandOf s band).notches.filter (fun n => n.assigned)).length) s

/-- Since when a condition holds that a window of 100 ms has just shown. -/
def heldSince (s : State) (cond : Bool) (was : Option Gtc) : Option Gtc :=
  if cond then (if was.isSome then was else some (s.tb.gtc - 100000000#64)) else none

/-- Whether something has held for 1 s. -/
def heldSecond (s : State) (t : Option Gtc) : Bool := t.any (fun t => decide (sec ≤ sinceNs s t))

/-- JN_UPDATE (R176 to R180): mean power of 100 ms, 1 s mean power, share of samples at the ends in 0.1 %, RMS in 0.01 LSB. -/
def execJnUpdate (band power low clip rms : Nat) (s : State) : Result :=
  done (if inData s (band / 4) = false then s
    else
      let s1 := modBand band (fun b => { b with
        pnLow := if b.dataSince.any (fun t => decide (sec ≤ sinceNs s t)) then some (match b.pnLow with
            | none => low
            | some v => min v low) else b.pnLow
        clip := min clip 255
        rms := rms
        clipSince := heldSince s (decide (50 < clip)) b.clipSince
        dimSince := heldSince s (decide (rms < 100)) b.dimSince }) s
      let b := bandOf s1 band
      let code := match noiseRef s b with
        | none => 254
        | some pn => jnCode power pn
      let s2 := modBand band (fun b => { b with jn := code }) s1
      let s3 :=
        if code ≤ 240 ∧ b.raised = false ∧ b.alarm ≤ code then gnJamming band 1 code (modBand band (fun b => { b with raised := true }) s2)
        else if code ≤ 240 ∧ b.raised = true ∧ code + b.hyst < b.alarm then
          gnJamming band 0 code (modBand band (fun b => { b with raised := false }) s2)
        else s2
      let level (kind v : Nat) (t : State) : State :=
        limited 0xC406 band (60 * sec) (fun _ u => emit 0xC406 (24 + band / 4) (leBytes 1 band ++ leBytes 1 kind ++ leBytes 2 v) u) t
      if heldSecond s b.clipSince then level 1 clip s3 else if heldSecond s b.dimSince then level 2 rms s3 else s3)

/-- NOISE_CAPTURE_END (R178): the capture ends 1 s after the reply, for a stream that stayed in DATA throughout. -/
def execNoiseCaptureEnd (band power : Nat) (s : State) : Result :=
  let b := bandOf s band
  done (match b.capture, b.dataSince with
    | some t, some d =>
      if sinceNs s t < sec then s
      else modBand band (fun b => { b with
        capture := none
        pnHost := if sinceNs s t ≤ sinceNs s d then some power else b.pnHost }) s
    | some _, none => modBand band (fun b => { b with capture := none }) s
    | none, _ => s)

/-! ### Acquisition and tracking (R184 to R195) -/

/-- The carrier of a signal with its GLONASS channel. -/
def carrierHz (sig : Nat) (k : Int) : Nat := (((signalOf sig).hz : Int) + k * ((signalOf sig).step : Int)).toNat

/-- Whole degrees of elevation, -90 while none is known. -/
def elDeg (x : Sat) : Int := match x.el with
  | none => -90
  | some v => v / 100

/-- Whether a satellite stands at or above a mask in degrees. -/
def aboveMask (m : Nat) (x : Sat) : Bool := x.el.any (fun v => decide (100 * (m : Int) ≤ v))

/-- The point that directions are taken from: the reference position at the epoch instant, in SURVEY or without one the last position
solved (R202, R214, R224). -/
def stationPoint (s : State) : Option Ecef :=
  match (if s.repl.corr.mode = 0 then none else atEpoch s s.corr.refWas s.repl.corr.refPos) with
  | some p => some p
  | none => s.corr.lastPos

/-- A row of Table 5-7: code bins per satellite, Doppler bin in Hz, coherent time in ms, default non-coherent sums. -/
structure AcqRow where
  bins : Nat
  doppler : Nat
  coherent : Nat
  sums : Nat
deriving DecidableEq, Repr

/-- The search space of a direct signal (Table 5-7). -/
def acqRow (sig : Nat) : AcqRow :=
  match sig with
  | 0x21 => ⟨1022, 500, 1, 8⟩
  | 0x41 => ⟨4092, 500, 1, 8⟩
  | 0x31 => ⟨16368, 125, 4, 4⟩
  | _ => ⟨2046, 500, 1, 8⟩

/-- The non-coherent sums in use for a signal (GN_ACQ_SET: 0 selects Table 5-7). -/
def acqSumsOf (s : State) (sig : Nat) : Nat := if s.gnss.acqSums = 0 then (acqRow sig).sums else s.gnss.acqSums

/-- The dwell of a signal in ms: coherent time times non-coherent sums (R185). -/
def acqDwell (s : State) (sig : Nat) : Nat := (acqRow sig).coherent * acqSumsOf s sig

/-- One satellite's search: satellite, signal, GLONASS channel, the Doppler window's centre and half width in Hz. -/
structure AcqTarget where
  sat : Nat
  sig : Nat
  k : Int
  centre : Int
  half : Nat
deriving DecidableEq, Repr

/-- The cells of a search: code bins times Doppler bins across the window (Table 5-7). -/
def acqCells (t : AcqTarget) : Nat := (acqRow t.sig).bins * (2 * t.half / (acqRow t.sig).doppler + 1)

/-- The passes that a search of `c` cells takes (R185). -/
def acqPasses (c : Nat) : Nat := (c + 131071) / 131072

/-- Whether almanac or ephemeris of a satellite is held. -/
def navHeld (x : Sat) : Bool := x.eph.isSome || x.alm.isSome

/-- The satellite that a search is about: for a GLONASS channel the one whose ephemeris names it (log entry 21). -/
def acqSat (s : State) (sat : Nat) (k : Int) : Option Sat :=
  if sat % 256 = 0 then s.gnss.sats.find? (fun x => x.id / 256 == sat / 256 && x.eph.any (fun e => e.head? == some (k + 7)))
  else s.gnss.sats.find? (fun x => x.id == sat)

/-- The Doppler window of a search: the cold one around 0 Hz while almanac and ephemeris, a station position or a good ST is missing, else
the aided one around the predicted Doppler (R186). -/
def acqWindow (s : State) (sat sig : Nat) (k : Int) : Int × Nat :=
  match (acqSat s sat k).filter (fun x => navHeld x && (stationPoint s).isSome && s.tb.state != 0) with
  | none => (0, s.gnss.acqCold)
  | some x => (roundDiv (-x.rate * (carrierHz sig k : Int)) 299792458000, s.gnss.acqAided)

/-- The satellite numbers and GLONASS channels that a direct signal is searched for (R182, Table 5-7). -/
def acqRange (sig : Nat) : List (Nat × Int) :=
  match sig with
  | 0x11 => (List.range 32).map (fun n => (0x101 + n, 0))
  | 0x21 => (List.range 14).map (fun (n : Nat) => (0x200, (n : Int) - 7))
  | 0x31 => (List.range 36).map (fun n => (0x301 + n, 0))
  | 0x41 => (List.range 63).map (fun n => (0x401 + n, 0))
  | 0x51 => (List.range 10).map (fun n => (0x501 + n, 0))
  | _ => (List.range 39).map (fun n => (0x678 + n, 0))

/-- What the bank searches: the enabled direct signals that no channel tracks (R181, R185). -/
def acqTargets (s : State) : List AcqTarget :=
  (signals.filter (fun g => g.direct && signalOn s g.code)).flatMap (fun g =>
    ((acqRange g.code).filter (fun x => !s.gnss.chans.any (fun c => c.state != 0 && c.sig == g.code &&
      (if g.code = 0x21 then c.k == x.2 else c.sat == x.1)))).map (fun x =>
        let w := acqWindow s x.1 g.code x.2
        ⟨x.1, g.code, x.2, w.1, w.2⟩))

/-- The port whose samples the bank searches: the search port, or the lowest-lettered one in DATA (R184). -/
def searchPort (s : State) : Option Nat := if inData s s.gnss.acqPort then some s.gnss.acqPort else (dataPorts s).head?

/-- The sum of x^j / j! for j below `n`, times 2^80, with x in 1/1024. -/
def expSum (x n : Nat) : Nat :=
  ((List.range n).foldl (fun (a : Nat × Nat) j => (a.1 + a.2, a.2 * x / ((j + 1) * 1024))) (0, 2 ^ 80)).1

/-- Whether a cell's non-coherent power over `n` sums is detected: noise alone of that mean exceeds it with a probability of at most 10^-6
(R187). The sum of `n` squared magnitudes of complex Gaussian noise is Erlang (DEDUCED, log entry 21). -/
def acqDetected (n power mean : Nat) : Bool :=
  let x := min (n * power * 1024 / max mean 1) (1024 * 256)
  decide (1000000 * expSum x n ≤ expSum x 1024)

/-- Whether a find lies in the search and is verified: detected, and again in the repeat dwell (R186, R187). -/
def acqVerified (s : State) (ts : List AcqTarget) (f : AcqFind) : Bool :=
  ts.any (fun t => t.sat == f.sat && t.sig == f.sig && t.k == f.k && decide ((f.doppler - t.centre).natAbs ≤ t.half)) &&
    acqDetected (acqSumsOf s f.sig) f.power f.mean && acqDetected (acqSumsOf s f.sig) f.again f.mean

/-- Whether elevation `a` comes before `b` in placing: the higher one, an unknown one last (R190; log entry 21). -/
def elBefore (a b : Option Int) : Bool :=
  match a, b with
  | some x, some y => decide (y < x)
  | some _, none => true
  | none, _ => false

/-- Inserts an item by the elevation of its satellite, highest first. -/
def insertEl {α : Type} (el : α → Option Int) (x : α) (l : List α) : List α :=
  match l with
  | [] => [x]
  | y :: r => if elBefore (el x) (el y) then x :: y :: r else y :: insertEl el x r

/-- Places signals in the order given; how many found no channel, and the lowest elevation among them (R190). -/
def placeEach (l : List Start) (a : State × Nat × Int) : State × Nat × Int :=
  l.foldl (fun a x =>
    let p := placeSignal x a.1
    if p.1 then (p.2, a.2.1, a.2.2) else (p.2, a.2.1 + 1, min a.2.2 (elDeg (satOf a.1 x.sat)))) a

/-- Whether a satellite stands below the tracking mask. -/
def belowMask (s : State) (x : Sat) : Bool := x.el.isSome && !aboveMask s.gnss.elMask x

/-- ACQ_PASS_COMPLETE (R184 to R187): the verified finds of a pass go to channels on every port in DATA, in descending elevation down to the
mask (R190). After the last of its passes the search begins anew. -/
def execAcqPassComplete (found : List AcqFind) (s : State) : Result :=
  done (if (searchPort s).isNone = true ∨ domOn s 5 = false ∨ 3 ≤ s.pwr.state then s
    else
      let ts := acqTargets s
      let good := found.filter (fun f => acqVerified s ts f && !belowMask s (satOf s f.sat))
      let order := good.foldl (fun a f => insertEl (fun (f : AcqFind) => (satOf s f.sat).el) f a) []
      let r := placeEach (order.map (fun f => ⟨f.sat, f.sig, f.k, f.code, 1000 * f.doppler⟩)) (s, 0, 90)
      let last := decide (acqPasses ((ts.map acqCells).sum) ≤ s.gnss.acqDone + 1)
      let dwell := ts.foldl (fun m t => max m (acqDwell s t.sig)) 0
      chanShort r.2.1 r.2.2 (modGnss (fun g => { g with
        acqDone := if last then 0 else g.acqDone + 1
        acqTime := if last then 0 else g.acqTime + dwell }) r.1))

/-- The ideal correlation at `d` 1/400 chips from the peak, in 0.001: BPSK, and BOC(1,1) for L1C, E1 OS and B1C (R195). -/
def idealCorr (sig : Nat) (d : Int) : Int :=
  let a : Int := d.natAbs
  if [0x12, 0x31, 0x42, 0x52].contains sig then
    (if a ≤ 200 then (400 - 3 * a) * 1000 / 400 else if a ≤ 400 then (a - 400) * 1000 / 400 else 0)
  else if a ≤ 400 then (400 - a) * 1000 / 400 else 0

/-- The code multipath index: the RMS deviation of the probes from the ideal shape, 0.001 (R195). -/
def multipathIndex (sig : Nat) (taps probes : List Int) : Nat :=
  let ds := (List.range 4).map (fun i => nth probes i 0 - idealCorr sig (nth taps (5 + i) 0))
  isqrt 40 ((ds.map (fun d => d.natAbs * d.natAbs)).sum / 4) 0

/-- Whether the PLL lock indicator has been at 0.8 or above for 100 ms. -/
def pllHeld (s : State) (t : Option Gtc) : Bool := t.any (fun t => decide (100000000 ≤ sinceNs s t))

/-- The next state of a channel (Table 5-9). -/
def chanNext (st : Nat) (c : ChanIn) (held : Bool) : Nat :=
  if st = 1 ∧ 2500 ≤ c.cn0 ∧ c.fllSettled = true ∧ c.dllSettled = true then 2
  else if st = 2 ∧ held = true then 3
  else if st = 3 ∧ c.sync = true then 4
  else st

/-- A channel after an update (R191 to R195): a fall of the lock indicator below 0.6 is a slip (R194). -/
def chanUpdated (s : State) (c : ChanIn) (x : Channel) : Channel :=
  let good := if 80 ≤ c.pll then (if x.goodSince.isSome then x.goodSince else some s.tb.gtc) else none
  let st := chanNext x.state c (pllHeld s good)
  let slip := decide (3 ≤ x.state) && decide (60 ≤ x.phaseLock) && decide (c.pll < 60)
  let y := setLoops s { x with
    state := st
    cn0 := min c.cn0 6500
    phaseLock := c.pll
    goodSince := good
    code := c.code
    carrier := c.carrier
    slip := x.slip || slip
    lockSince := if slip ∨ (st = 3 ∧ x.state = 2) then s.tb.gtc else x.lockSince
    lowSince := if c.cn0 < 2200 then (if x.lowSince.isSome then x.lowSince else some s.tb.gtc) else none }
  { y with multipath := multipathIndex x.sig y.taps c.probes }

/-- CHANNEL_UPDATE (R193 to R195). A channel whose port is not in DATA keeps its estimates (R170). -/
def execChannelUpdate (idx : Nat) (c : ChanIn) (s : State) : Result :=
  let x := chanAt s idx
  done (if x.state = 0 ∨ 1024 ≤ idx ∨ inData s x.port = false then s else modChan idx (chanUpdated s c) s)

/-- What a channel hands on. -/
def startOf (c : Channel) : Start := ⟨c.sat, c.sig, c.k, c.code, c.carrier⟩

/-- A signal started from a sibling of the same satellite: its code phase, and its Doppler at the other carrier (Table 5-6). -/
def startFrom (c : Channel) (sig : Nat) : Start :=
  ⟨c.sat, sig, c.k, c.code, roundDiv (c.carrier * (carrierHz sig c.k : Int)) (max (carrierHz c.sig c.k) 1)⟩

/-- CHANNEL_LOSS (R193): C/N0 stayed below 22 dB-Hz for 1 s; the signal is handed over again from a sibling in lock, else it is
left to the bank. -/
def execChannelLoss (idx : Nat) (s : State) : Result :=
  let x := chanAt s idx
  done (match x.lowSince with
    | none => s
    | some t =>
      if x.state = 0 ∨ sinceNs s t < sec ∨ inData s x.port = false then s
      else
        let sibling := s.gnss.chans.find? (fun c => c.port == x.port && c.sat == x.sat && c.k == x.k && c.sig != x.sig && decide (2 ≤ c.state))
        modChan idx (fun _ => match sibling with
          | none => Channel.idle
          | some c => startChan s (startFrom c x.sig) x.port) s)

/-- The GLONASS channels k under which a satellite's signals are or were tracked. -/
def channelsOf (l : List Channel) (sat : Nat) : List Int := ((l.filter (fun c => c.state != 0 && c.sat == sat)).map (fun c => c.k)).eraseDups

/-- How a signal of a satellite starts at an epoch: from a channel that tracks it, or tracked it before its block moved, else from the
satellite's direct signal once that is in CODE_LOCK (R181, R189, R190). -/
def startable (s : State) (prev : List Channel) (sat sig : Nat) (k : Int) : Option Start :=
  match (s.gnss.chans ++ prev).find? (tracks sat sig k) with
  | some c => some (startOf c)
  | none => if (signalOf sig).direct then none
    else ((s.gnss.chans ++ prev).find? (fun c => c.sat == sat && c.k == k && decide (2 ≤ c.state) && (signalOf c.sig).direct)).map
      (fun c => startFrom c sig)

/-- A satellite's signals that are not yet tracked on every port in DATA, in the order of Table 5-6 (R190). -/
def wantedSignals (s : State) (prev : List Channel) (sat : Nat) : List Start :=
  (channelsOf (s.gnss.chans ++ prev) sat).flatMap (fun k =>
    (signals.filter (fun g => g.code / 16 == sat / 256 && signalOn s g.code &&
      (dataPorts s).any (fun p => (tracking s sat g.code k p).isNone))).filterMap (fun g => startable s prev sat g.code k))

/-- The placement of signals at an epoch, in descending elevation; satellites below the mask are no longer tracked (R190). `prev` holds
the channels before a reallocation. -/
def placeAll (prev : List Channel) (s : State) : State :=
  let low := (s.gnss.sats.filter (belowMask s)).map (fun x => x.id)
  let s0 := modGnss (fun g => { g with chans := g.chans.map (fun c => if low.contains c.sat then Channel.idle else c) }) s
  let sats := (s.gnss.sats.filter (fun x => !belowMask s x)).foldl (fun a x => insertEl (fun (x : Sat) => x.el) x a) []
  let r := sats.foldl (fun (a : State × Nat × Int) x => placeEach (wantedSignals a.1 prev x.id) a) (s0, 0, 90)
  chanShort r.2.1 r.2.2 r.1

/-- A reallocation takes effect: the channels of blocks that move return to IDLE (R189). -/
def applyAlloc (s : State) : State :=
  match s.gnss.allocPending with
  | none => s
  | some a =>
    let owner (l : List Nat) (blk : Nat) : Nat := if blk < nth l 0 0 then 0 else if blk < nth l 0 0 + nth l 1 0 then 1
      else if blk < nth l 0 0 + nth l 1 0 + nth l 2 0 then 2 else 3
    modGnss (fun g => { g with
      alloc := a
      allocPending := none
      chans := (List.range g.chans.length).map (fun i =>
        if owner g.alloc (i / 32) = owner a (i / 32) then nth g.chans i Channel.idle else Channel.idle) }) s

/-- The channels of signals that are disabled return to IDLE (Table 5-14 note). -/
def dropDisabled (s : State) : State :=
  modGnss (fun g => { g with chans := g.chans.map (fun c => if c.state ≠ 0 ∧ signalOn s c.sig = false then Channel.idle else c) }) s

/-- A decoded orbital slot: the signals of a GLONASS channel go on under the satellite's identifier (R183). -/
def takeGlonass (x : Int × Nat) (s : State) : State :=
  let id := 0x200 + x.2
  if satValid id then
    modGnss (fun g => { g with chans := g.chans.map (fun c =>
      if c.state ≠ 0 ∧ c.sat = 0x200 ∧ c.k = x.1 then
        (if g.chans.any (fun d => tracks id c.sig c.k d && d.port == c.port) then Channel.idle else { c with sat := id })
      else c) }) (modSat id (fun y => y) s)
  else s

/-! ### Bearing check (R201 to R205) -/

/-- The ports that were in DATA at the epoch instant (R224). -/
def epochPorts (s : State) : List Nat := (List.range 4).filter (wasData s)

/-- The reference port (R202). -/
def bearingRef (s : State) : Nat := ((epochPorts s).head?).getD 0

/-- A calibrated place of a port in the site grid's axes: its ARP from port A's (section 4), 0.01 mm (Table 17-11). -/
def plateOf (s : State) (p : Nat) : V3 :=
  let v (i : Nat) : Int := iN 4 (nth s.pwr.calib 3 []) (12 * p + 4 * i)
  (v 0, v 1, v 2)

/-- The phase-centre offset of a port and band (section 3), 0.1 mm (Table 17-11). -/
def pcoOf (s : State) (p band : Nat) : V3 :=
  let v (i : Nat) : Int := iN 2 (nth s.pwr.calib 2 []) (6 * (4 * p + band) + 2 * i)
  (v 0, v 1, v 2)

/-- The baseline from the reference port's phase centre to another port's, in 0.01 mm (R202). -/
def bearingBase (s : State) (ref k band : Nat) : V3 :=
  add3 (sub3 (plateOf s k) (plateOf s ref)) (scale3 10 (sub3 (pcoOf s k band) (pcoOf s ref band)))

/-- The predicted phase difference -dot(b, u)/lambda in 2^-16 cycle, from a baseline in 0.01 mm, a direction in 2^-30 and a
carrier in Hz (R202). -/
def bearingPredict (b u : Int × Int × Int) (hz : Nat) : Int :=
  - roundDiv ((b.1 * u.1 + b.2.1 * u.2.1 + b.2.2 * u.2.2) * (hz : Int)) (16384 * 100000 * 299792458)

/-- Whether a signal of a satellite is in CARRIER_LOCK or SYNC on a port. -/
def inLock (s : State) (sat sig p : Nat) : Bool :=
  wasData s p && s.gnss.chans.any (fun c => c.sat == sat && c.sig == sig && c.port == p && decide (3 ≤ c.state))

/-- The signal that the bearing check uses for a satellite: its first L1-band signal, which must be in lock on the reference port and at
least two others (R201). -/
def checkedSignal (s : State) (sat : Nat) : Option Nat :=
  ((signals.find? (fun g => g.band == 0 && g.code / 16 == sat / 256 && signalOn s g.code)).map (fun g => g.code)).filter (fun sig =>
    inLock s sat sig (bearingRef s) &&
      decide (2 ≤ ((epochPorts s).filter (fun p => p != bearingRef s && inLock s sat sig p)).length))

/-- The entry of a signal on a port. -/
def entryOf (es : List ObsEntry) (sat sig p : Nat) : Option ObsEntry := es.find? (fun e => e.sat == sat && e.sig == sig && e.port == p)

/-- Whether a signal slipped on a port since the last epoch. -/
def slipped (es : List ObsEntry) (sat sig p : Nat) : Bool := (entryOf es sat sig p).any (fun e => bit e.flags 3)

/-- The other ports whose pair with the reference port has a slip (R203). -/
def slippedPairs (s : State) (es : List ObsEntry) (sat sig : Nat) : List Nat :=
  (epochPorts s).filter (fun k => k != bearingRef s && (slipped es sat sig k || slipped es sat sig (bearingRef s)))

/-- What one satellite's check gives at an epoch: R in 2^-16 cycle, none while no other port is valid, the integers afterwards, and
whether a whole-cycle jump was seen. -/
structure Residual where
  r : Option Nat
  n : List (Option Int)
  jump : Bool
deriving DecidableEq, Repr

/-- One port's residual (R202): the record's phases already carry the inter-antenna offsets of R197. -/
def portResidual (s : State) (es : List ObsEntry) (x : Sat) (sig : Nat) (e0 : ObsEntry) (a : List Int × Residual) (k : Nat) :
    List Int × Residual :=
  match entryOf es x.id sig k with
  | none => a
  | some e =>
    if bit e.flags 1 = false then a
    else
      let md := e.phase - e0.phase - bearingPredict (bearingBase s (bearingRef s) k 0) x.u (carrierHz sig e.k)
      let fresh := roundDiv md 65536
      let n := (nth a.2.n k none).getD fresh
      if 32768 ≤ (md - 65536 * n).natAbs then
        (a.1 ++ [md - 65536 * fresh], { a.2 with
          n := a.2.n.set k (some fresh)
          jump := true })
      else (a.1 ++ [md - 65536 * n], { a.2 with n := a.2.n.set k (some n) })

/-- One satellite's residuals at an epoch (R202), from integers that a slip has cleared (R203). -/
def bearingResidual (s : State) (es : List ObsEntry) (x : Sat) (sig : Nat) : Residual :=
  match (entryOf es x.id sig (bearingRef s)).filter (fun e => bit e.flags 1) with
  | none => ⟨none, x.n, false⟩
  | some e0 =>
    let a := ((epochPorts s).filter (fun k => k != bearingRef s)).foldl (portResidual s es x sig e0) ([], ⟨none, x.n, false⟩)
    let sq := (a.1.map (fun d => d.natAbs * d.natAbs)).sum
    { a.2 with r := if a.1 = [] then none else some (isqrt 20 (sq / a.1.length) 0) }

/-- The highest code multipath index of the checked signal on any port. -/
def probeIndex (es : List ObsEntry) (sat sig : Nat) : Nat :=
  (es.filter (fun e => e.sat == sat && e.sig == sig)).foldl (fun m e => max m e.multipath) 0

/-- R_avg in 0.001 cycle, saturating. -/
def ravgMilli (x : Sat) : Nat := min ((x.ravg.getD 0) * 1000 / 65536) 65535

/-- GN_BEARING (Table 5-15). -/
def gnBearing (x : Sat) (old new : Nat) (jump : Bool) (spoofs : Nat) (s : State) : State :=
  emit 0xC403 24 (leBytes 2 x.id ++ leBytes 1 old ++ leBytes 1 new ++ leBytes 2 (ravgMilli x)
    ++ leBytes 1 (bitsOf [jump, decide (s.gnss.bArray ≤ spoofs)]) ++ leBytes 1 spoofs) s

/-- A satellite that is not checked (R201). -/
def uncheckedSat (x : Sat) : Sat :=
  { x with
    bearing := 0
    ravg := none
    n := [none, none, none, none]
    mpCount := 0
    spCount := 0
    clearCount := 0
    reacted := 0 }

/-- The signal that a satellite is checked with at this epoch, if its conditions hold (R201, R183). -/
def checkDue (s : State) (x : Sat) : Option Nat :=
  if x.eph.isSome ∧ aboveMask s.gnss.bMask x = true ∧ x.id % 256 ≠ 0 then checkedSignal s x.id else none

/-- The bearing state after an epoch, from the counts of epochs that meet each condition (Table 5-12). -/
def bearingNext (g : Gnss) (old m p q : Nat) (jump : Bool) : Nat :=
  if jump = true ∨ g.bSpoofHold ≤ p then 3
  else if (old = 2 ∨ old = 3) ∧ g.bClear ≤ q then 1
  else if old = 3 then 3
  else if 20 ≤ m ∨ old = 2 then 2
  else 1

/-- A satellite's record after one epoch's check (R203, R204), and whether a jump was seen. -/
def bearingSat (s : State) (es : List ObsEntry) (x : Sat) : Sat × Bool :=
  match checkDue s x with
  | none => (uncheckedSat x, false)
  | some sig =>
    let cut := slippedPairs s es x.id sig
    let y := { x with
      n := if x.bearing = 0 then [none, none, none, none] else cut.foldl (fun n k => n.set k none) x.n
      ravg := if x.bearing = 0 ∨ cut ≠ [] then none else x.ravg }
    let c := bearingResidual s es y sig
    let avg : Option Nat := match c.r, y.ravg with
      | none, a => a
      | some r, none => some r
      | some r, some a => some ((a : Int) + roundDiv ((r : Int) - a) 20).toNat
    let idx := probeIndex es x.id sig
    let g := s.gnss
    let big (th : Nat) : Bool := avg.any (fun a => decide (th * 65536 ≤ a * 1000))
    let clear := avg.any (fun a => decide (a * 10000 < 8 * g.bMultipath * 65536)) && decide (10 * idx < 8 * g.bProbe) && !c.jump
    let m := if big g.bMultipath || decide (g.bProbe ≤ idx) then x.mpCount + 1 else 0
    let p := if big g.bSpoof then x.spCount + 1 else 0
    let q := if clear then x.clearCount + 1 else 0
    let st := bearingNext g x.bearing m p q c.jump
    ({ y with
      bearing := st
      ravg := avg
      n := c.n
      mpCount := m
      spCount := p
      clearCount := q
      reacted := if st = x.bearing then x.reacted else 0 }, c.jump)

/-- The causes of a satellite change (R206); the first change after an epoch instant is noted (R224). -/
def setCauses (id causes : Nat) (s : State) : State :=
  modSat id (fun x => { x with
    causes := causes
    causesWas := noteWas s x.causesWas x.causes }) s

/-- The causes of a satellite at the epoch instant (R224). -/
def causesAt (s : State) (x : Sat) : Nat := atEpoch s x.causesWas x.causes

/-- The number of the running station epoch, from 1: ST in units of 50 ms. -/
def stationEpoch (s : State) : Nat := s.tb.st / 50000000 + 1

/-- GN_SAT_EXCLUDED (Table 5-15). -/
def satExcluded (id before after who : Nat) (s : State) : State :=
  emit 0xC404 24 (leBytes 2 id ++ leBytes 1 before ++ leBytes 1 after ++ leBytes 1 who ++ zeros 3) s

/-- Reactions 0x07 and 0x08: once in a state, when it is entered or when the reaction is armed while it holds (R206, R23). The causes that
they set in a station epoch are kept for R207. -/
def satReaction (id : Nat) (s : State) : State :=
  let x := satOf s id
  let want := if x.bearing = 3 then 1 else if x.bearing = 2 then 2 else 0
  if want = 0 ∨ armed s (6 + want) = false ∨ bit x.reacted want = true then s
  else
    let after := putBit x.causes want true
    let s1 := modSat id (fun x => { x with
      reacted := putBit x.reacted want true
      reactedNow := putBit (if x.reactedAt = stationEpoch s then x.reactedNow else 0) want true
      reactedAt := stationEpoch s }) s
    if after = x.causes then s1 else satExcluded id x.causes after 0xFF (setCauses id after s1)

/-- Reactions 0x07 and 0x08 that are disarmed may act again once they are armed (R23, R206). -/
def forgetReactions (s : State) : State :=
  let keep (v : Nat) : Nat := Nat.land v ((if armed s 7 then 2 else 0) + (if armed s 8 then 4 else 0))
  modGnss (fun g => { g with sats := g.sats.map (fun x => { x with reacted := keep x.reacted }) }) s

/-- The disagreement of kind 2: an excluded satellite that looks consistent on every port in DATA (R208). -/
def satDisagree (es : List ObsEntry) (id : Nat) (s : State) : State :=
  let x := satOf s id
  match checkedSignal s id with
  | none => s
  | some sig =>
    let ps := epochPorts s
    let cs := ps.map (fun p => ((entryOf es id sig p).map (fun e => e.cn0)).getD 0)
    let lock := bitsOf ((List.range 4).map (fun p => (entryOf es id sig p).any (fun e => bit e.flags 1)))
    if x.causes ≠ 0 ∧ x.bearing = 1 ∧ ps ≠ [] ∧ cs.all (fun c => decide (3500 ≤ c)) = true then
      disagree 24 2 id x.causes (x.bearing + 256 * (min (cs.foldl min 6500 / 25) 255) + 65536 * lock + 16777216 * ravgMilli x) s
    else s

/-- The bearing check of an epoch (R201 to R208). An array flag that no change of state carries, because GN_BEARING_SET lowered the count,
is reported with the first satellite in SPOOF (R205; log entry 21). -/
def bearingCheck (es : List ObsEntry) (s : State) : State :=
  let old := s.gnss.sats
  let s0 := if s.gnss.refPort = bearingRef s then s
    else modGnss (fun g => { g with
      refPort := bearingRef s
      sats := g.sats.map (fun x => { x with
        n := [none, none, none, none]
        ravg := none }) }) s
  let rs := s0.gnss.sats.map (fun x => bearingSat s0 es x)
  let spoofs := (rs.filter (fun r => r.1.bearing == 3)).length
  let s1 := modGnss (fun g => { g with
    sats := rs.map (fun r => r.1)
    spoofCount := spoofs
    arrayFlag := decide (g.bArray ≤ spoofs) }) s0
  let moved := (old.zip rs).filter (fun p => p.1.bearing != p.2.1.bearing)
  let s2 := moved.foldl (fun t p => gnBearing p.2.1 p.1.bearing p.2.1.bearing p.2.2 spoofs t) s1
  let s3 := if s.gnss.arrayFlag = false ∧ s1.gnss.arrayFlag = true ∧ moved = [] then
      (match (rs.find? (fun r => r.1.bearing == 3)) with
        | none => s2
        | some r => gnBearing r.1 3 3 r.2 spoofs s2)
    else s2
  let ids := s3.gnss.sats.map (fun x => x.id)
  ids.foldl (fun t id => satDisagree es id t) (ids.foldl (fun t id => satReaction id t) s3)

/-! ### Observable records (R196 to R200) -/

/-- Whether entry `a` comes before `b`: satellite, signal, port (R198). -/
def entryBefore (a b : ObsEntry) : Bool :=
  a.sat < b.sat || (a.sat == b.sat && (a.sig < b.sig || (a.sig == b.sig && a.port < b.port)))

/-- Inserts an entry in the order of R198. -/
def insertEntry (a : ObsEntry) (l : List ObsEntry) : List ObsEntry :=
  match l with
  | [] => [a]
  | b :: r => if entryBefore a b then a :: b :: r else b :: insertEntry a r

/-- The nominal centre of a band stream in Hz (Table 5-3). -/
def bandCentre (b : Nat) : Nat :=
  match b with
  | 0 => 1582500000
  | 1 => 1234500000
  | 2 => 1191500000
  | _ => 1273500000

/-- The sign that undoes a band's spectral inversion (R171). -/
def specSign (x : GnPort) (band : Nat) : Int := if bit x.specInv band then -1 else 1

/-- The frequency that lies at 0 Hz of a band's complex stream: the LO set, or the nominal centre (R171, Table 5-3). -/
def loHz (x : GnPort) (band : Nat) : Nat := if nth x.lo band 0 = 0 then bandCentre band else nth x.lo band 0

/-- A channel with what it measured at the epoch: pseudorange less the group delay, phase less the inter-antenna offset (R168, R197), Doppler
from the frequency in the stream (R171). A phase that departs by more than half a cycle is a slip (R194). -/
def measured (s : State) (m : MeasIn) (c : Channel) : Channel :=
  let band := (signalOf c.sig).band
  let x := gnPort s c.port
  let o := 4 * (4 * c.port + band)
  let slip := decide (3 ≤ c.state) && decide (32768 < m.depart.natAbs)
  { c with
    pseudorange := ((m.range : Int) - roundDiv (iN 4 (nth s.pwr.calib 0 []) o * 299792458) 100000000).toNat
    phase := specSign x band * m.phase - iN 4 (nth s.pwr.calib 1 []) o
    doppler := 1000 * (loHz x band : Int) + specSign x band * m.freq - 1000 * (carrierHz c.sig c.k : Int)
    slip := c.slip || slip
    lockSince := if slip then epochGtc s else c.lockSince }

/-- The channels take their measurements. -/
def takeMeasures (ms : List MeasIn) (s : State) : State :=
  ms.foldl (fun t m => if (chanAt t m.idx).state = 0 then t else modChan m.idx (measured t m) t) s

/-- The lock time at the epoch in 10 ms, 0 before carrier lock and at a slip (R194). -/
def lockTime (s : State) (c : Channel) : Nat :=
  if c.slip = true ∨ c.state < 3 ∨ 2 ^ 63 ≤ elapsed (epochGtc s) c.lockSince then 0
  else min (elapsed (epochGtc s) c.lockSince / 10000000) 65535

/-- A channel's entry in the record (Table 5-11): validity follows the channel's state (Table 5-9), exclusion and bearing are those of the
epoch instant (R224). A channel without a measurement keeps its last values, none of them valid. -/
def entryFor (s : State) (seen : Bool) (c : Channel) : ObsEntry :=
  let x := satOf s c.sat
  ⟨c.sat, c.sig, c.port, c.pseudorange, c.phase, c.doppler, c.cn0, lockTime s c, c.k,
    bitsOf [seen && s.gnss.timeValid && decide (2 ≤ c.state), seen && decide (3 ≤ c.state), seen && decide (4 ≤ c.state), c.slip,
      causesAt s x != 0, x.bearing == 2, x.bearing == 3], c.multipath⟩

/-- The entries of an epoch's record: one per tracked signal per port in DATA, in the order of R198 (R196). -/
def recordEntries (s : State) (ms : List MeasIn) : List ObsEntry :=
  (((List.range s.gnss.chans.length).filter (fun i => (chanAt s i).state != 0 && wasData s (chanAt s i).port)).map (fun i =>
    entryFor s (ms.any (fun m => m.idx == i)) (chanAt s i))).foldl (fun a e => insertEntry e a) []

/-- An entry in bytes (Table 5-11). -/
def entryBytes (e : ObsEntry) : List Byte :=
  leBytes 2 e.sat ++ leBytes 1 e.sig ++ leBytes 1 e.port ++ leBytes 8 e.pseudorange ++ leInt 8 e.phase ++ leInt 4 e.doppler
    ++ leBytes 2 e.cn0 ++ leBytes 2 e.lock ++ leInt 1 e.k ++ leBytes 1 e.flags ++ leBytes 2 (min e.multipath 65535)

/-- The packets of a record (R198, Table 5-10). -/
def recordPackets (fuel : Nat) (s : State) (idx count : Nat) (es : List ObsEntry) : List (List Byte) :=
  match fuel with
  | 0 => []
  | k + 1 =>
    if idx ≥ count then []
    else
      let here := es.take 127
      let h := leBytes 8 (epochGtc s).toNat ++ leBytes 6 (s.tb.st / sec) ++ leBytes 1 idx ++ leBytes 1 count
        ++ leBytes 4 (s.tb.st % sec / 50000000 * 50000000) ++ leBytes 4 s.gnss.epoch ++ leBytes 2 here.length
        ++ leBytes 1 (bitsOf ((List.range 4).map (wasData s)))
        ++ leBytes 1 (bitsOf [s.gnss.timeValid, s.tb.state != 1, bearingRef s != 0]) ++ leInt 4 s.gnss.clockBias
      (h ++ here.flatMap entryBytes) :: recordPackets k s (idx + 1) count (es.drop 127)

/-- The record goes to the spill queue of GN_OBS_STREAM (R200). -/
def streamRecord (es : List ObsEntry) (s : State) : State :=
  let g := s.gnss
  if g.obsQueue = 255 ∨ g.epoch % max g.obsDecim 1 ≠ 0 then s
  else
    let l := es.filter (fun e => bit g.obsPorts e.port)
    (sqDevice g.obsQueue (recordPackets 9 s 0 (max ((l.length + 126) / 127) 1) l) s).2

/-- What navigation data say of a satellite at an epoch (R188). -/
def takeNav (x : NavIn) (s : State) : State :=
  if satValid x.sat then modSat x.sat (fun y => { y with
      eph := if x.issue.isSome then x.issue else y.eph
      alm := if x.almanac.isSome then x.almanac else y.alm
      healthy := x.healthy
      pos := x.pos
      rate := x.rate
      corr := x.corr }) s
  else s

/-- The axes of the site grid: at the site origin, or at the station while that is the origin (R220, R222). -/
def siteAxes (s : State) (p : Ecef) : Geodetic := geodetic (if s.repl.corr.originMode = 1 then s.repl.corr.origin else p)

/-- The directions of the satellites that navigation data have placed: the unit vector in the site grid's axes (R202), azimuth and elevation
at the station. -/
def takeDirections (l : List NavIn) (s : State) : State :=
  match stationPoint s with
  | none => s
  | some p =>
    let here := geodetic p
    let site := siteAxes s p
    l.foldl (fun t x => if navHeld (satOf t x.sat) = false then t else modSat x.sat (fun y =>
      let d := direction here p x.pos
      { y with
        u := direction site p x.pos
        up := d.2.2
        az := azimuthOf d
        el := some (elevationOf d) }) t) s

/-- The GNSS part of an epoch: navigation data, allocation, placement, the record, the bearing check; the record's entries and the state. -/
def gnssEpoch (x : EpochIn) (s : State) : List ObsEntry × State :=
  let s1 := modGnss (fun g => { g with
    epoch := (g.epoch + 1) % 2 ^ 32
    lastEpoch := some (s.tb.st / 50000000)
    timeValid := x.timeKnown }) s
  let nav := x.nav.filter (fun n => satValid n.sat)
  let s2 := x.slots.foldl (fun t k => takeGlonass k t) (takeDirections nav (nav.foldl (fun t n => takeNav n t) s1))
  let prev := s2.gnss.chans.filter (fun c => signalOn s2 c.sig && !belowMask s2 (satOf s2 c.sat))
  let s3 := takeMeasures x.meas (placeAll prev (dropDisabled (applyAlloc s2)))
  let es := recordEntries s3 x.meas
  let s4 := streamRecord es (bearingCheck es s3)
  (es, modGnss (fun g => { g with chans := g.chans.map (fun c => if wasData s4 c.port then { c with slip := false } else c) }) s4)

/-! ### Commands of group 0x04 -/

/-- The settings of a port as GN_PORT_SET carries them. -/
def gnPortBytes (p : Nat) (x : GnPort) : List Byte :=
  leBytes 1 p ++ leBytes 1 (bitsOf [x.enable, x.oneShot, x.laneInv]) ++ leBytes 1 x.specInv ++ zeros 1 ++ x.lo.flatMap (leBytes 4)

/-- GN_PORT_SET (R166, R167, R171). -/
def execGnPortSet (r : Req) (s : State) : Result :=
  let b := r.payload
  let p := u8 b 0
  let lo := (List.range 4).map (fun i => u32 b (4 + 4 * i))
  done (runCommand 0x0401 true r (fun s =>
    checked (b.length == 20) (bitsBelow (u8 b 1) 3 && bitsBelow (u8 b 2) 4 && zeroAt b 3 1)
      (p ≤ 3 && (List.range 4).all (fun i => nth lo i 0 == 0 || within (nth lo i 0) (bandCentre i - 10000000) (bandCentre i + 10000000)))
      true [] s (fun s =>
      let x := gnPort s p
      let same := gnPortBytes p x == b
      let en := bit (u8 b 1) 0
      let s1 := modGnPort p (fun x => { x with
        enable := en
        oneShot := bit (u8 b 1) 1
        laneInv := bit (u8 b 1) 2
        specInv := u8 b 2
        lo := lo
        feRef := en }) s
      let s2 := if en = false then setLink p 0 0 s1
        else if same = true ∧ x.link ≠ 4 then s1 else setLink p 1 0 s1
      .reply (changed same) (gnPortBytes p (gnPort s2 p) ++ leBytes 1 (gnPort s2 p).link ++ zeros 3) s2)) s)

/-- The reply payload of GN_STATUS. -/
def gnStatusBytes (s : State) : List Byte :=
  (List.range 4).flatMap (fun p =>
    leBytes 1 (gnPort s p).link ++ zeros 1 ++ leBytes 2 (32 * nth s.gnss.alloc p 0)
      ++ leBytes 2 (s.gnss.chans.filter (fun c => c.state != 0 && c.port == p)).length ++ leBytes 2 (gnPort s p).codeErr
      ++ (List.range 4).flatMap (fun b => leBytes 1 (bandOf s (4 * p + b)).jn)
      ++ (List.range 4).flatMap (fun b => leBytes 1 (bandOf s (4 * p + b)).clip))

/-- GN_STATUS (R212): it clears the code-group error counts. -/
def execGnStatus (r : Req) (s : State) : Result :=
  done (runCommand 0x0402 false r (fun s =>
    checked (r.payload.length == 0) true true true [] s (fun s =>
      .reply 0 (gnStatusBytes s)
        (modGnss (fun g => { g with ports := g.ports.map (fun x => { x with codeErr := 0 }) }) s))) s)

/-- GN_SIGNAL_SET (R181): channels of disabled signals return to IDLE at the next station epoch. -/
def execGnSignalSet (r : Req) (s : State) : Result :=
  let p := r.payload
  done (runCommand 0x0403 true r (fun s =>
    checked (p.length == 8) (bitsBelow (u32 p 0) 19 && zeroAt p 5 3) (u8 p 4 ≤ 30) true [] s (fun s =>
      .reply (changed (s.gnss.enables == u32 p 0 && s.gnss.elMask == u8 p 4)) p
        (modGnss (fun g => { g with
          enables := u32 p 0
          elMask := u8 p 4 }) s))) s)

/-- GN_CHAN_ALLOC (R189): it takes effect at the first station epoch after its reply. -/
def execGnChanAlloc (r : Req) (s : State) : Result :=
  let p := r.payload
  let a := (List.range 4).map (fun i => u8 p i)
  done (runCommand 0x0404 true r (fun s =>
    checked (p.length == 4) true (a.all (fun n => decide (n ≤ 32))) true (failIf (a.sum != 32) 0x8402) s (fun s =>
      .reply (changed (s.gnss.allocPending.getD s.gnss.alloc == a)) p (modGnss (fun g => { g with allocPending := some a }) s))) s)

/-- The loop settings that GN_LOOP_SET carries. -/
def loopSetOf (p : List Byte) : LoopSet :=
  ⟨u8 p 1, u8 p 1, u16 p 2, u16 p 4, u16 p 6, u8 p 8, (List.range 4).map (fun i => iN 1 p (12 + i))⟩

/-- Every channel in use takes its signal's loop settings (R192). -/
def retuneChans (s : State) : State :=
  modGnss (fun g => { g with chans := g.chans.map (fun c => if c.state = 0 then c else setLoops s c) }) s

/-- GN_LOOP_SET (R192). -/
def execGnLoopSet (r : Req) (s : State) : Result :=
  let p := r.payload
  let n := loopSetOf p
  let hit (i : Nat) : Bool := u8 p 0 == 0 || i == signalBit (u8 p 0)
  done (runCommand 0x0405 true r (fun s =>
    checked (p.length == 16) (zeroAt p 9 3)
      ((u8 p 0 == 0 || signalBit (u8 p 0) < 19) && within n.coherent 1 20 && within n.dll 5 200 && within n.pll 50 300
        && within n.fll 10 100 && within n.spacing 5 100 && n.probes.all (fun v => withinI v (-32) 32)) true [] s (fun s =>
      let l := (List.range 19).map (fun i => if hit i then n else nth s.gnss.loops i n)
      .reply (changed (l == s.gnss.loops)) p (retuneChans (modGnss (fun g => { g with loops := l }) s)))) s)

/-- A notch with the fence of GN_FENCE_SET for a quantity; a fixed value is taken at once and ends the loop's assignment (R30). -/
def fenceNotch (q : Nat) (lo hi : Int) (fixed : Option Int) (n : Notch) : Notch :=
  let m := if fixed.isSome then { n with
      assigned := false
      line := none
      weakSince := none } else n
  if q = 0 then { m with
    freqLo := lo
    freqHi := hi
    fixedFreq := fixed
    freq := fixed.getD n.freq }
  else { m with
    depthLo := lo
    depthHi := hi
    fixedDepth := fixed
    depth := fixed.getD n.depth }

/-- GN_FENCE_SET (R175, R28 to R31). -/
def execGnFenceSet (r : Req) (s : State) : Result :=
  let p := r.payload
  let loop := u8 p 0
  let q := u8 p 1
  let inst := u16 p 2
  let lo := iN 4 p 8
  let hi := iN 4 p 12
  let fx := iN 4 p 16
  let fixed := if u8 p 4 = 1 then some fx else none
  let rng : Int × Int := if loop = 2 then (-2400, 2400) else if q = 0 then (-30690000, 30690000) else (0, 4000)
  let ok (v : Int) : Bool := withinI v rng.1 rng.2
  done (runCommand 0x0406 true r (fun s =>
    checked (p.length == 20) (zeroAt p 5 3)
      (within loop 1 2 && q ≤ (if loop = 1 then 1 else 0) && (inst == 0xFFFF || inst < (if loop = 1 then 128 else 16)) && u8 p 4 ≤ 1
        && ok lo && ok hi && (u8 p 4 == 0 || ok fx)) true (failIf (decide (hi < lo)) 0x4003) s (fun s =>
      let bands := (List.range 16).map (fun b =>
        let x := bandOf s b
        if loop = 2 then (if inst = 0xFFFF ∨ inst = b then { x with
            agcLo := lo
            agcHi := hi
            agcFixed := fixed
            agc := fixed.getD x.agc } else x)
        else { x with notches := (List.range 8).map (fun i =>
          let n := nth x.notches i (Notch.free b)
          if inst = 0xFFFF ∨ inst = b * 8 + i then fenceNotch q lo hi fixed n else n) })
      .reply (changed (bands == s.gnss.bands)) p (modGnss (fun g => { g with bands := bands }) s))) s)

/-- GN_JN_SET (R178, R179). -/
def execGnJnSet (r : Req) (s : State) : Result :=
  let p := r.payload
  let b := u8 p 0
  let cap := bit (u8 p 1) 0
  let hit (i : Nat) : Bool := b == 0xFF || b == i
  done (runCommand 0x0407 true r (fun s =>
    checked (p.length == 8) (bitsBelow (u8 p 1) 1 && zeroAt p 6 2) ((b ≤ 15 || b == 0xFF) && u16 p 2 ≤ 240 && u16 p 4 ≤ 40) true
      (failIf (cap && (List.range 16).any (fun i => hit i && !inData s (i / 4))) 0x8401) s (fun s =>
      let bands := (List.range 16).map (fun i =>
        let x := bandOf s i
        if hit i then { x with
          alarm := u16 p 2
          hyst := u16 p 4
          capture := if cap then some s.tb.gtc else x.capture } else x)
      .reply (changed (bands == s.gnss.bands)) p (modGnss (fun g => { g with bands := bands }) s))) s)

/-- GN_BEARING_SET (R204). -/
def execGnBearingSet (r : Req) (s : State) : Result :=
  let p := r.payload
  done (runCommand 0x0408 true r (fun s =>
    checked (p.length == 12) (zeroAt p 11 1)
      (within (u8 p 0) 5 45 && within (u8 p 1) 1 200 && within (u16 p 2) 10 500 && within (u16 p 4) 50 500 && u16 p 2 < u16 p 4
        && within (u16 p 6) 10 1000 && within (u16 p 8) 20 2400 && within (u8 p 10) 2 32) true [] s (fun s =>
      let g := { s.gnss with
        bMask := u8 p 0
        bSpoofHold := u8 p 1
        bMultipath := u16 p 2
        bSpoof := u16 p 4
        bProbe := u16 p 6
        bClear := u16 p 8
        bArray := u8 p 10 }
      .reply (changed (g == s.gnss)) p { s with gnss := g })) s)

/-- One entry of GN_SAT_EXCLUDE: exclude adds the host's cause, include removes every cause; a reaction of the same station epoch counts as
later than the include (R206, R207). -/
def excludeSat (m id action : Nat) (s : State) : State :=
  let x := satOf s id
  let after := if action = 1 then putBit x.causes 0 true else if x.reactedAt = stationEpoch s then Nat.land x.causes x.reactedNow else 0
  if after = x.causes then s else satExcluded id x.causes after m (setCauses id after s)

/-- GN_SAT_EXCLUDE (R207). -/
def execGnSatExclude (r : Req) (s : State) : Result :=
  let p := r.payload
  let k := u8 p 0
  let es := (List.range k).map (fun i => (u16 p (4 + 4 * i), u8 p (6 + 4 * i)))
  done (runCommand 0x0409 true r (fun s =>
    checked (p.length == 4 + 4 * k) (zeroAt p 1 3 && (List.range k).all (fun i => zeroAt p (7 + 4 * i) 1))
      (within k 1 32 && es.all (fun e => e.2 ≤ 1)) (noRepeat (es.map (fun e => e.1)))
      (failIf (!es.all (fun e => satValid e.1)) 0x8403) s (fun s =>
      let s1 := es.foldl (fun t e => excludeSat r.master e.1 e.2 t) s
      .reply (changed (es.all (fun e => (satOf s e.1).causes == (satOf s1 e.1).causes)))
        (leBytes 2 (s1.gnss.sats.filter (fun x => x.causes != 0)).length ++ zeros 2) s1)) s)

/-- GN_SAT_GET (R212). -/
def execGnSatGet (r : Req) (s : State) : Result :=
  done (runCommand 0x040A false r (fun s =>
    checked (r.payload.length == 0) true true true [] s (fun s =>
      let l := s.gnss.sats.filter (fun x => x.causes != 0 || s.gnss.chans.any (fun c => c.state != 0 && c.sat == x.id))
      .reply 0 (leBytes 2 l.length ++ zeros 2 ++ l.flatMap (fun x =>
        let cs := s.gnss.chans.filter (fun c => c.state != 0 && c.sat == x.id)
        leBytes 2 x.id ++ leBytes 1 x.bearing ++ leBytes 1 x.causes ++ leBytes 2 x.az ++ leInt 1 (elDeg x)
          ++ leBytes 1 (bitsOf ((List.range 4).map (fun p => cs.any (fun c => c.port == p && decide (3 ≤ c.state)))))
          ++ leBytes 2 (ravgMilli x) ++ leBytes 1 (signals.filter (fun g => cs.any (fun c => c.sig == g.code))).length ++ zeros 1)) s)) s)

/-- GN_OBS_STREAM (R200). -/
def execGnObsStream (r : Req) (s : State) : Result :=
  let p := r.payload
  done (runCommand 0x040B false r (fun s =>
    checked (p.length == 4) (zeroAt p 3 1) ((u8 p 0 ≤ 63 || u8 p 0 == 0xFF) && within (u8 p 1) 1 20 && within (u8 p 2) 1 15) true
      (failIf (u8 p 0 != 0xFF && !sqDeviceBound s (u8 p 0)) 0x8404) s (fun s =>
      .reply 0 p (modGnss (fun g => { g with
        obsQueue := u8 p 0
        obsDecim := u8 p 1
        obsPorts := u8 p 2 }) s))) s)

/-- GN_ACQ_SET (R185). -/
def execGnAcqSet (r : Req) (s : State) : Result :=
  let p := r.payload
  done (runCommand 0x040C true r (fun s =>
    checked (p.length == 8) (zeroAt p 6 2) (u8 p 0 ≤ 3 && u8 p 1 ≤ 64 && within (u16 p 2) 2000 20000 && within (u16 p 4) 100 10000)
      true [] s (fun s =>
      let g := { s.gnss with
        acqPort := u8 p 0
        acqSums := u8 p 1
        acqCold := u16 p 2
        acqAided := u16 p 4 }
      .reply (changed (g == s.gnss)) p { s with gnss := g })) s)

end Sys2Proof.Machine
end

