-- ==== Sys2Proof/Machine/Rtcm.lean ====
section
/-!
DEFINITION. Sys2Proof/Machine/Rtcm.lean: the RTCM 10403.3 messages of Table 6-2 bit by bit (R232 to R237). The options are the spec's; the
bit layouts, invalid values and the quarter-cycle convention are those of RTCM 10403.3 (PRESUMED, log entry 33).
-/
namespace Sys2Proof.Machine
open Sys2Proof

/-! ### Bits and frames -/

/-- Fields of given widths, first field first, most significant bit first, zero-padded to whole bytes (R7). -/
def packBits (fs : List (Nat × Int)) : List Byte :=
  let w := (fs.map (fun f => f.1)).sum
  let v := fs.foldl (fun (a : Nat) f => a * 2 ^ f.1 + (f.2 % ((2 ^ f.1 : Nat) : Int)).toNat) 0
  let n := (w + 7) / 8
  beBytes n (v * 2 ^ (8 * n - w))

/-- An unsigned field. -/
def uF (w v : Nat) : Nat × Int := (w, (v : Int))

/-- A field of one bit. -/
def bF (b : Bool) : Nat × Int := (1, (flag b : Int))

/-- Bytes as fields of 8 bits. -/
def byteFields (l : List Byte) : List (Nat × Int) := l.map (fun b => uF 8 b.toNat)

/-- An RTCM frame: preamble, 10-bit length, content, CRC-24Q (R232). -/
def rtcmFrame (content : List Byte) : List Byte :=
  let h := beBytes 1 0xD3 ++ beBytes 2 (content.length % 1024) ++ content
  h ++ beBytes 3 (crc24q h)

/-! ### Station messages (R223, R236, R237) -/

/-- A vector of the site grid's axes, 0.01 mm, as ECEF in 0.1 mm. -/
def gridToEcef (s : State) (p : Ecef) (v : V3) : V3 := div3 (ecefOf (siteAxes s p) v) 10

/-- The ARP of the corrections port, from that of port A (R217, R223). -/
def portArp (s : State) (p : Ecef) : Ecef := vEcef (add3 (ecefV p) (gridToEcef s p (plateOf s s.corr.port)))

/-- The reference position as it stood at the epoch instant (R224). -/
def refAt (s : State) : Option Ecef := atEpoch s s.corr.refWas s.repl.corr.refPos

/-- 1005 or 1006: the station ARP without or with the antenna height (R237). -/
def stationMessage (s : State) (number : Nat) : List Byte :=
  let c := s.repl.corr
  let p := portArp s ((refAt s).getD ⟨0, 0, 0⟩)
  packBits ([uF 12 number, uF 12 c.stationId, uF 6 c.itrf, bF true, bF true, bF true, bF false, (38, p.x), bF true, bF false, (38, p.y),
    uF 2 0, (38, p.z)] ++ (if number = 1006 then [uF 16 c.height] else []))

/-- A decimal number in ASCII, up to ten digits. -/
def decimal (n : Nat) : List Byte :=
  let ds := (List.range 10).map (fun i => n / 10 ^ (9 - i) % 10)
  let t := ds.dropWhile (fun d => d == 0)
  (if t = [] then [0] else t).map (fun d => BitVec.ofNat 8 (48 + d))

/-- A number in 16 hexadecimal digits (R237). -/
def hex16 (n : Nat) : List Byte :=
  (List.range 16).map (fun i => let d := n / 16 ^ (15 - i) % 16; BitVec.ofNat 8 (if d < 10 then 48 + d else 55 + d))

/-- The running version as "4.2.build" (R237). -/
def versionText (fw : Nat) : List Byte :=
  decimal (fw / 16777216 % 256) ++ ascii "." ++ decimal (fw / 65536 % 256) ++ ascii "." ++ decimal (fw % 65536)

/-- A string with its length before it. -/
def counted (l : List Byte) : List (Nat × Int) := uF 8 l.length :: byteFields l

/-- The characters of a zero-padded field (Table 6-10). -/
def trimmed (l : List Byte) : List Byte := l.takeWhile (fun b => b != 0)

/-- 1033: antenna and receiver descriptors (R236, R237). -/
def descriptorMessage (s : State) : List Byte :=
  let c := s.repl.corr
  packBits ([uF 12 1033, uF 12 c.stationId] ++ counted (trimmed c.antenna) ++ [uF 8 c.setupId] ++ counted (trimmed c.serial)
    ++ counted (ascii "CARWICON CWA9256") ++ counted (versionText s.vault.fw) ++ counted (hex16 s.vault.devId))

/-- 1230: GLONASS code and phase are aligned: indicator 1 and an empty signal mask (R235). -/
def biasMessage (s : State) : List Byte := packBits [uF 12 1230, uF 12 s.repl.corr.stationId, bF true, uF 3 0, uF 4 0]

/-! ### Ephemerides (Table 6-2) -/

/-- The ephemeris message of a satellite's system (Table 6-2). -/
def ephemNumber (sat : Nat) : Nat :=
  match sat / 256 with
  | 1 => 1019
  | 2 => 1020
  | 3 => 1046
  | 4 => 1042
  | _ => 1044

/-- The widths of an ephemeris message's fields after the satellite's number. -/
def ephemWidths (number : Nat) : List Nat :=
  match number with
  | 1019 => [10, 4, 2, 14, 8, 16, 8, 16, 22, 10, 16, 16, 32, 16, 32, 16, 32, 16, 16, 32, 16, 32, 16, 32, 24, 8, 6, 1, 1]
  | 1020 => [5, 1, 1, 2, 12, 1, 1, 7, 24, 27, 5, 24, 27, 5, 24, 27, 5, 1, 11, 2, 1, 22, 5, 5, 1, 4, 11, 2, 1, 11, 32, 5, 22, 1, 7]
  | 1042 => [13, 4, 14, 5, 17, 11, 22, 24, 5, 18, 16, 32, 18, 32, 18, 32, 17, 18, 32, 18, 32, 18, 32, 24, 10, 10, 1]
  | 1046 => [12, 10, 8, 14, 14, 6, 21, 31, 16, 16, 32, 16, 32, 16, 32, 14, 16, 32, 16, 32, 16, 32, 24, 10, 10, 2, 1, 2, 1, 2]
  | _ => [16, 8, 16, 22, 8, 16, 16, 32, 16, 32, 16, 32, 16, 16, 32, 16, 32, 16, 32, 24, 14, 2, 10, 4, 6, 8, 10, 1]

/-- The ephemeris message of a satellite: its number and its fields as the navigation data gave them (R188, R232). -/
def ephemMessage (s : State) (sat : Nat) : List Byte :=
  let number := ephemNumber sat
  let fields := (satOf s sat).eph.getD []
  let w := ephemWidths number
  packBits ([uF 12 number, uF (if number = 1044 then 4 else 6) (sat % 256)]
    ++ (List.range w.length).map (fun i => (nth w i 0, nth fields i 0)))

/-! ### MSM7 (R233 to R236) -/

/-- The systems of the five MSM7 messages in the order of the enable bits: message number, system code. -/
def msmSystems : List (Nat × Nat) := [(1077, 1), (1087, 2), (1097, 3), (1117, 5), (1127, 4)]

/-- The MSM signal ID of a signal (Table 6-3). -/
def msmSignal (sig : Nat) : Nat :=
  match sig with
  | 0x11 => 2
  | 0x12 => 31
  | 0x13 => 16
  | 0x14 => 23
  | 0x21 => 2
  | 0x22 => 8
  | 0x31 => 2
  | 0x32 => 23
  | 0x33 => 15
  | 0x34 => 8
  | 0x41 => 2
  | 0x42 => 31
  | 0x43 => 23
  | 0x44 => 8
  | 0x51 => 2
  | 0x52 => 31
  | 0x53 => 16
  | 0x54 => 23
  | _ => 0

/-- The quarter cycles added to a signal's phase so that it is aligned with its band's reference signal (R235). -/
def quarterCycles (sig : Nat) : Int :=
  match sig with
  | 0x12 => 1
  | 0x13 => -1
  | 0x14 => -1
  | 0x31 => 2
  | 0x32 => -1
  | 0x33 => -1
  | 0x34 => -2
  | 0x42 => 1
  | 0x43 => 1
  | 0x52 => 1
  | 0x54 => -1
  | _ => 0

/-- How far light travels in 1 ms, 0.1 mm. -/
def lightMs : Nat := 2997924580

/-- TAI - UTC as it is in force: a host value takes precedence (R141). -/
def utcInForce (tb : Timebase) : Option (Nat × Bool × Bool) := if tb.utcHost.isSome then tb.utcHost else tb.utcNav

/-- The epoch time field of an MSM in ms of the system's own time: time of week, for GLONASS day of week and time of day (R233). -/
def msmTime (s : State) (sys : Nat) : List (Nat × Int) :=
  let st := s.tb.st / 50000000 * 50000000
  let t : Int := ((st / sec : Nat) : Int)
  let ms : Int := ((st % sec / 1000000 : Nat) : Int)
  if sys = 2 then
    let day : Int := match utcInForce s.tb with
      | none => 7
      | some u => ((t - (u.1 : Int) + 10800) / 86400 + 4) % 7
    let off : Int := match utcInForce s.tb with
      | none => 0
      | some u => (u.1 : Int)
    [(3, day), (27, (t - off + 10800) % 86400 * 1000 + ms)]
  else [(30, (t - (if sys = 4 then 1136073633 else 315964819)) % 604800 * 1000 + ms)]

/-- The lock-time indicator with extended range of a lock time in ms. -/
def lockIndicator (t : Nat) : Nat :=
  if t < 64 then t
  else if 67108864 ≤ t then 704
  else
    let n := Nat.log2 (t / 64) + 1
    64 + 32 * (n - 1) + (t - 64 * 2 ^ (n - 1)) / 2 ^ n

/-- The rough range of a satellite in 2^-10 ms, from its first cell. -/
def roughRange (e : ObsEntry) : Nat := (e.pseudorange * 1024 + lightMs / 2) / lightMs

/-- The rate of range from the Doppler in 0.1 mm/s. -/
def rangeRate (e : ObsEntry) : Int := - roundDiv (e.doppler * 2997924580) (max (carrierHz e.sig e.k) 1)

/-- The carrier phase with quarter cycles and whole cycles added, as a range in 2^-31 ms. -/
def phaseRange (e : ObsEntry) (cycles : Int) : Int :=
  roundDiv ((e.phase + 16384 * quarterCycles e.sig + 65536 * cycles) * 32768000) (max (carrierHz e.sig e.k) 1)

/-- The whole cycles that bring a phase nearest to its pseudorange. -/
def alignCycles (e : ObsEntry) : Int :=
  roundDiv ((e.pseudorange : Int) * (carrierHz e.sig e.k : Int) * 65536
    - (e.phase + 16384 * quarterCycles e.sig) * 2997924580000) (65536 * 2997924580000)

/-- A fine field, or the invalid value of its width where it does not fit or is not valid. -/
def fineField (w : Nat) (ok : Bool) (v : Int) : Nat × Int :=
  if ok && decide (v.natAbs < 2 ^ (w - 1)) then (w, v) else (w, -((2 ^ (w - 1) : Nat) : Int))

/-- Cells sorted by satellite and MSM signal ID. -/
def insertCell (a : ObsEntry) (l : List ObsEntry) : List ObsEntry :=
  match l with
  | [] => [a]
  | b :: r => if a.sat < b.sat || (a.sat == b.sat && msmSignal a.sig < msmSignal b.sig) then a :: b :: r else b :: insertCell a r

/-- The whole cycles kept for a cell. -/
def cyclesOf (s : State) (e : ObsEntry) : Int :=
  ((s.corr.aligns.find? (fun a => a.sat == e.sat && a.sig == e.sig)).map (fun a => a.cycles)).getD (alignCycles e)

/-- One MSM7 message of a system (R233 to R235). -/
def msmMessage (s : State) (number sys : Nat) (more : Bool) (es : List ObsEntry) : List Byte :=
  let cells := es.foldl (fun a e => insertCell e a) []
  let sats := (cells.map (fun e => e.sat)).eraseDups
  let sigs := (List.range 33).filter (fun i => cells.any (fun e => msmSignal e.sig == i))
  let first (sat : Nat) : ObsEntry := (cells.find? (fun e => e.sat == sat)).getD ⟨0, 0, 0, 0, 0, 0, 0, 0, 0, 0, 0⟩
  let rough (sat : Nat) : Nat := roughRange (first sat)
  let far (sat : Nat) : Bool := decide (255 * 1024 ≤ rough sat)
  let rate (sat : Nat) : Int := roundDiv (rangeRate (first sat)) 10000
  let slow (sat : Nat) : Bool := decide ((rate sat).natAbs < 8192)
  packBits ([uF 12 number, uF 12 s.repl.corr.stationId] ++ msmTime s sys
    ++ [bF more, uF 3 0, uF 7 0, uF 2 (if s.tb.state = 1 ∨ s.tb.state = 2 then 1 else 0), uF 2 1, bF false, uF 3 0]
    ++ (List.range 64).map (fun i => bF (sats.any (fun x => x % 256 == i + 1)))
    ++ (List.range 32).map (fun i => bF (sigs.contains (i + 1)))
    ++ sats.flatMap (fun x => sigs.map (fun g => bF (cells.any (fun e => e.sat == x && msmSignal e.sig == g))))
    ++ sats.map (fun x => uF 8 (if far x then 255 else rough x / 1024))
    ++ sats.map (fun x => (4, if sys = 2 then (first x).k + 7 else 0))
    ++ sats.map (fun x => uF 10 (if far x then 0 else rough x % 1024))
    ++ sats.map (fun x => fineField 14 (slow x) (rate x))
    ++ cells.map (fun e => fineField 20 (!far e.sat)
        (((e.pseudorange * 2 ^ 29 + lightMs / 2) / lightMs : Nat) - ((rough e.sat * 2 ^ 19 : Nat) : Int)))
    ++ cells.map (fun e => fineField 24 (bit e.flags 1 && !far e.sat)
        (phaseRange e (cyclesOf s e) - ((rough e.sat * 2 ^ 21 : Nat) : Int)))
    ++ cells.map (fun e => uF 10 (lockIndicator (10 * e.lock)))
    ++ cells.map (fun e => bF (!bit e.flags 2))
    ++ cells.map (fun e => uF 10 ((e.cn0 * 16 + 50) / 100))
    ++ cells.map (fun e => fineField 15 (slow e.sat) (rangeRate e - 10000 * rate e.sat)))

/-- The cells of a system in messages of at most 64 cells of satellites by signals, which is what a cell mask holds (log entry 33). -/
def msmChunks (es : List ObsEntry) : List (List ObsEntry) :=
  let sats := ((es.foldl (fun a e => insertCell e a) []).map (fun e => e.sat)).eraseDups
  let per := 64 / max ((es.map (fun e => e.sig)).eraseDups).length 1
  (List.range (max ((sats.length + per - 1) / per) 1)).map (fun i =>
    es.filter (fun e => ((sats.drop (i * per)).take per).contains e.sat))

end Sys2Proof.Machine
end

