-- ==== Sys2Proof/Machine/Clock.lean ====
section
/-!
DEFINITION. Sys2Proof/Machine/Clock.lean: the clock that runs while no command waits (R136, R138, R139; log entry 2).
-/
namespace Sys2Proof.Machine
open Sys2Proof

/-- The nanoseconds that ST can hold: 48 bits of seconds (R138). -/
def stSpan : Nat := 2 ^ 48 * 1000000000

/-- Station time after `ns` nanoseconds of GTC at rate `y` (R138, R139): ST advances by `1 + y`, `y` in 0.001 ns/s, so
`ns` nanoseconds add `ns * y` units of 10^-12 ns. -/
def advanceSt (tb : Timebase) (ns : Nat) : Timebase :=
  let total : Int := ((tb.st * 1000000000000 + tb.stFrac : Nat) : Int) + (ns : Int) * 1000000000000 + (ns : Int) * tb.y
  let n := total.toNat
  { tb with gtc := tb.gtc + BitVec.ofNat 64 ns, st := n / 1000000000000 % stSpan, stFrac := n % 1000000000000 }

/-- Whole seconds of GTC that begin within `ns` nanoseconds. -/
def secondsPassed (t : Gtc) (ns : Nat) : Nat := (t.toNat % 1000000000 + ns) / 1000000000

/-- One tick of the clock: `clockStep` nanoseconds pass (log entry 2). The RTC counts seconds in every power state, the operating
hours while PD_AON is powered (R564); in STANDBY the timebase only times the RTC's seconds, since GTC and ST start anew at
power-on. -/
def tick (s : State) : State :=
  let n := secondsPassed s.tb.gtc s.clockStep
  { s with
    tb := advanceSt s.tb s.clockStep
    pwr := { s.pwr with
      rtc := (s.pwr.rtc + n) % 2 ^ 32
      hours := if s.pwr.state = 4 then s.pwr.hours else (s.pwr.hours + n) % 2 ^ 32 } }

end Sys2Proof.Machine
end

