-- ==== Sys2Proof/Machine/Timebase.lean ====
section
/-!
DEFINITION. Sys2Proof/Machine/Timebase.lean: chapter 4: station time, sources, servo, holdover, steps, time pulses, captures, and their
commands of group 0x03.
-/
namespace Sys2Proof.Machine
open Sys2Proof

/-- Changes the timebase. -/
def modTb (f : Timebase → Timebase) (s : State) : State := { s with tb := f s.tb }

/-- Whether the life of the state lies in HOLDOVER or UNQUALIFIED (Table 4-1). -/
def holding (tb : Timebase) : Bool := tb.state == 3 || tb.state == 4

/-- Nanoseconds in HOLDOVER or UNQUALIFIED. -/
def holdNs (tb : Timebase) : Nat := if holding tb then elapsed tb.gtc tb.holdSince else 0

/-- The aging rate of calibration section 6 in 10^-9 ns/s^2 (R146, Table 17-11). -/
def agingRate (s : State) : Int := iN 4 (nth s.pwr.calib 5 []) 4

/-- The calibrated frequency offset of REF_IN in 0.001 ns/s (R148, Table 17-11). -/
def calOffset (s : State) : Int := iN 4 (nth s.pwr.calib 5 []) 0

/-- The estimated error in ns, saturating: R146 in holdover, its time taken to the nanosecond and the sum rounded down (log entry 15);
the largest value before any alignment; while LOCKED or SLEWING the spec gives no estimate, so the value is free (log entry 4). -/
def errEst (s : State) : Nat :=
  if s.tb.state = 0 then 0xFFFFFFFF
  else if holding s.tb then
    let t : Int := ((holdNs s.tb : Nat) : Int)
    min ((s.tb.eLock : Int) + ((s.tb.sigmaY : Int) * t * 2000000000000000 + agingRate s * t * t) / 2000000000000000000000000000).toNat
      0xFFFFFFFF
  else Config.freeValue s.free % 2 ^ 32

/-- Pulse quality (Table 4-1). -/
def quality (tb : Timebase) : Nat :=
  match tb.state with
  | 0 => 4
  | 1 => 0
  | 2 => 1
  | 3 => 2
  | _ => 3

/-- TBR_STATE (Table 4-7). -/
def tbrState (s : State) : Nat :=
  s.tb.state + 8 * s.tb.source + 64 * flag s.tb.stepNeeded + 128 * flag (tpDrivenOf s)

/-- TBR_UTC: a host value takes precedence (R141). -/
def tbrUtc (tb : Timebase) : Nat :=
  match tb.utcHost, tb.utcNav with
  | some (v, a, b), _ => v + 65536 * flag a + 131072 * flag b + 262144
  | none, some (v, a, b) => v + 65536 * flag a + 131072 * flag b + 262144
  | none, none => 0

/-- A signed value saturated to 32 bits, as a register shows it. -/
def sat32 (v : Int) : Nat := leNat (leInt 4 (clampInt (-2147483648) 2147483647 v))

/-- The latch that a read of TBR_GTC_LO takes (R162). -/
def tbrLatch (s : State) : TbrLatch := ⟨s.tb.gtc.toNat / 2 ^ 32, s.tb.st % sec, s.tb.st / sec⟩

/-- A TBR_ register as master `m` reads it (Table 4-7), but for the latch and the read-clear of OVF. -/
def tbrRead (m off : Nat) (s : State) : Nat :=
  let l := nth s.tb.latches m ⟨0, 0, 0⟩
  if off = 0 then s.tb.gtc.toNat % 2 ^ 32
  else if off = 4 then l.gtcHi
  else if off = 8 then l.stNs
  else if off = 0xC then l.stSec % 2 ^ 32
  else if off = 0x10 then l.stSec / 2 ^ 32 % 65536
  else if off = 0x14 then tbrState s
  else if off = 0x18 then sat32 s.tb.e
  else if off = 0x1C then sat32 s.tb.y
  else if off = 0x20 then errEst s
  else if off = 0x24 then min (holdNs s.tb / sec) 0xFFFFFFFF
  else if off = 0x28 then tbrUtc s.tb
  else if 0x40 ≤ off ∧ off < 0x80 then
    let p := nth s.tb.pulses ((off - 0x40) / 16) Pulse.zero
    match off % 16 / 4 with
    | 0 => p.recSt / sec % 2 ^ 32
    | 1 => p.recSt % sec
    | 2 => p.recQuality + 8 * flag p.recMissed + 65536 * p.skipped
    | _ => p.recErr
  else if 0x80 ≤ off ∧ off < 0x90 then
    let c := nth s.tb.captures ((off - 0x80) / 4) Capture.zero
    c.queue.length + 256 * flag c.ovf
  else 0

/-- Whether an offset of the TBR_ block holds a register (Table 4-7). -/
def tbrMapped (off : Nat) : Bool := off ≤ 0x28 || within off 0x40 0x8C

/-- The twelve words that TB_GET returns, latched together (R162, Table 4-9). -/
def tbGetPayload (s : State) : List Byte :=
  let l := tbrLatch s
  [s.tb.gtc.toNat % 2 ^ 32, l.gtcHi, l.stNs, l.stSec % 2 ^ 32, l.stSec / 2 ^ 32 % 65536, tbrState s, sat32 s.tb.e, sat32 s.tb.y,
    errEst s, min (holdNs s.tb / sec) 0xFFFFFFFF, tbrUtc s.tb, 0].flatMap (leBytes 4)

/-! ### States and steps -/

/-- A change of timebase state with its report TB_STATE (R142). -/
def tbState (new : Nat) (s : State) : State :=
  if s.tb.state = new then s
  else
    let t := modTb (fun b => { b with state := new, lockEnd := if b.state = 1 then b.gtc else b.lockEnd }) s
    emit 0xC301 31 (leBytes 1 s.tb.state ++ leBytes 1 new ++ leBytes 1 t.tb.source ++ zeros 1 ++ leBytes 4 (errEst t)) t

/-- Index of the first instant of a pulse program at or after an ST. -/
def pulseIndex (p : Pulse) (st : Nat) : Nat :=
  let k := if st ≤ p.start then 0 else (st - p.start + p.period - 1) / p.period
  if p.count = 0 then k else min k p.count

/-- Index of the first instant after the last one emitted. -/
def afterLast (p : Pulse) : Nat :=
  match p.lastInstant with
  | none => 0
  | some l => if l < p.start then 0 else (l - p.start) / p.period + 1

/-- What a jump of ST to `st` makes of a pulse program (R153): a jump forward skips the instants it jumps over; after one backward the
instants after the last one emitted come again. -/
def pulseJump (forward : Bool) (st : Nat) (p : Pulse) : Pulse :=
  let k := pulseIndex p st
  if p.enable = false then p
  else if forward then (if p.next < k then { p with next := k, skipped := satAdd 16 p.skipped (k - p.next) } else p)
  else { p with next := min p.next (max k (afterLast p)) }

/-- ST jumps by `d` ns; the air offset takes the step, so air time does not move (R139, R153, R330). DESIGN CHOICE (log entry 15): a step
backward past ST 0 leaves ST at 0, while the whole step is reported; one forward past 48 bits of seconds wraps (R138). A forward
step takes out the transits and zones it passes (R424). -/
def jumpSt (d : Int) (s : State) : State :=
  let st := ((s.tb.st : Int) + d).toNat % stSpan
  let s1 := { s with
    tb := { s.tb with
      st := st
      pulses := s.tb.pulses.map (pulseJump (decide (0 < d)) st) }
    mac := { s.mac with airOffset := s.mac.airOffset + d } }
  if 0 < d then removeEnded s1 else s1

/-- TB_STEPPED: the step and its cause (R150, R151, Table 4-10). -/
def tbStepped (d : Int) (cause : Nat) (s : State) : State :=
  emit 0xC303 31 (leInt 8 d ++ leBytes 1 cause ++ zeros 3) s

/-- TB_STEP_NEEDED with the present e (R149). -/
def stepNeededReport (s : State) : State :=
  emit 0xC302 31 (leInt 8 s.tb.e) (modTb (fun b => { b with stepReport := b.gtc }) s)

/-- The samples of the last `ns` nanoseconds of LOCKED. -/
def lastLocked (tb : Timebase) (ns : Nat) : List (Gtc × Nat × Int) :=
  let end_ := if tb.state = 1 then tb.gtc else tb.lockEnd
  tb.lockHist.filter (fun x => elapsed end_ x.1 ≤ ns)

/-- Mean of the magnitudes over the last 10 s of LOCKED (R146); the value kept where no sample fell into them (log entry 15). -/
def meanE (tb : Timebase) : Nat :=
  match lastLocked tb (10 * sec) with
  | [] => tb.eLock
  | l => (l.map (fun x => x.2.1)).sum / l.length

/-- Mean of the frequency term over the last 300 s of LOCKED; the value kept where no sample fell into them. -/
def meanI (tb : Timebase) : Int :=
  match lastLocked tb (300 * sec) with
  | [] => tb.iAvg
  | l => (l.map (fun x => x.2.2)).sum / (l.length : Int)

/-- The applied rate of a frequency term in 10^-18 ns/s, in 0.001 ns/s (R139; rounding: log entry 15). -/
def rateOf (i : Int) : Int := - roundDiv i 1000000000000000

/-- Entry into HOLDOVER (R144, R146, R148): t counts from 0. From FREE the estimate starts at 10^9 ns and y stays. -/
def enterHoldover (s : State) : State :=
  tbState 3 (modTb (fun b =>
    let i := if b.state = 0 then calOffset s * 1000000000000000 else meanI b
    { b with
      eLock := if b.state = 0 then 1000000000 else meanE b
      iAvg := i
      y := rateOf i
      holdSince := b.gtc
      inLockSince := none }) s)

/-- The servo parameters of the source in use (Table 4-3). -/
def servoSet (tb : Timebase) : ServoSet := if tb.source = 1 then tb.servoGnss else tb.servoPtp

/-- The judgement of R149 for a sample e of the source in use while the state is HOLDOVER or UNQUALIFIED. -/
def judgeReturn (s : State) : State :=
  if s.tb.e.natAbs ≤ (servoSet s.tb).stepTh then
    tbState 2 (modTb (fun b => { b with stepNeeded := false, inLockSince := none }) s)
  else if s.tb.stepNeeded then s
  else stepNeededReport (modTb (fun b => { b with stepNeeded := true }) s)

/-- A step of ST by d with a cause: STEP_NEEDED clears, the state is LOCKED with i := i_avg (R150). -/
def stepAndLock (d : Int) (cause : Nat) (s : State) : State :=
  let s1 := jumpSt d (modTb (fun b => { b with stepNeeded := false, integ := b.iAvg, y := rateOf b.iAvg }) s)
  tbState 1 (tbStepped d cause s1)

/-- The servo at a sample e, T ns after the one before (R145). -/
def servo (t : Nat) (s : State) : State :=
  let k := servoSet s.tb
  let e := s.tb.e
  if k.stepTh < e.natAbs then s
  else
    let want : Int := (k.kp : Int) * e
    let p := clampInt (k.slewLo * 1000000) (k.slewHi * 1000000) want
    let i := if s.tb.state = 1
      then clampInt (-50000000000000000000000) 50000000000000000000000 (s.tb.integ + (k.ki : Int) * e * (t : Int)) else s.tb.integ
    let s1 := modTb (fun b => { b with integ := i, y := rateOf (i + p * 1000000000000) }) s
    let s2 := if p = want then s1
      else policyLimit 31 6 0 (if want < p then 0 else 1) 0 (if want < p then k.slewLo else k.slewHi) (roundDiv want 1000000) s1
    if s.tb.state = 1 then
      modTb (fun b => { b with lockHist :=
        ((b.gtc, e.natAbs, i) :: b.lockHist).filter (fun x => elapsed b.gtc x.1 ≤ 300 * sec) }) s2
    else if k.lockTh < e.natAbs then modTb (fun b => { b with inLockSince := none }) s2
    else match s.tb.inLockSince with
      | none => modTb (fun b => { b with inLockSince := some b.gtc }) s2
      | some g => if sec ≤ elapsed s.tb.gtc g then tbState 1 s2 else s2

/-- The qualification record of a source 1 to 3. -/
def srcOf (tb : Timebase) (n : Nat) : SourceQ := nth tb.sources (n - 1) ⟨false, 0, 0, 0, 0⟩

/-- Changes the qualification record of a source. -/
def modSrc (n : Nat) (f : SourceQ → SourceQ) (s : State) : State :=
  modTb (fun b => { b with sources := modNth b.sources (n - 1) f }) s

/-- The highest-ranked qualified source, 0 for none (R143). -/
def bestSource (tb : Timebase) : Nat :=
  (tb.ranking.find? (fun n => n != 0 && (srcOf tb n).qualified)).getD 0

/-- Rank of a source: its place in the ranking; a source that is not ranked comes after all. -/
def rankOf (tb : Timebase) (n : Nat) : Nat := tb.ranking.findIdx (fun x => x == n)

/-- The device changes to a source as a return (R143, R144, R149). From LOCKED or SLEWING an offset beyond the threshold leaves
it in HOLDOVER with STEP_NEEDED (DEDUCED, log entry 15). -/
def returnTo (n : Nat) (s : State) : State :=
  let s1 := modTb (fun b => { b with
    source := n
    e := (srcOf b n).e
    lastSample := (srcOf b n).lastValid
    stepNeeded := false }) s
  if holding s.tb then judgeReturn s1
  else if s1.tb.e.natAbs ≤ (servoSet s1.tb).stepTh then
    tbState 2 (modTb (fun b => { b with inLockSince := none }) s1)
  else judgeReturn (enterHoldover s1)

/-- A source has just qualified (R143, R149, R151). -/
def sourceQualified (n : Nat) (s : State) : State :=
  if s.tb.ranking.contains n = false then s
  else if s.tb.state = 0 then
    let d := - s.tb.e
    let s1 := jumpSt d (modTb (fun b => { b with source := n, integ := b.iAvg }) s)
    tbState 1 (tbStepped d 0 s1)
  else if holding s.tb ∧ (s.tb.source = 0 ∨ s.tb.source = n) then returnTo n s
  else s

/-- The run of samples towards qualification after one more (Table 4-2): a GNSS solution counts when it is valid with at least 4
satellites; a Sync counts while the port is in SLAVE, and begins a new run after a gap. -/
def sampleRun (n : Nat) (x : Sample) (s : State) : Nat :=
  let c := (srcOf s.tb n).count
  if n = 1 then (if x.valid = true ∧ 4 ≤ x.sats then c + 1 else 0)
  else if x.valid = true ∧ (nth s.tb.ptp (n - 2) PtpPort.zero).state = 9 then (if x.gap then 1 else c + 1) else 0

/-- Samples in a row that qualify a source (Table 4-2). -/
def qualifyCount (n : Nat) : Nat := if n = 1 then 10 else 16

/-- An offset sample of a source: qualification (Table 4-2), then, for the source in use, the servo, the judgement of R149 and
the armed step of R150. While REF_IN is lost no sample enters (R578). -/
def offsetSample (n : Nat) (x : Sample) (s : State) : State :=
  if s.pwr.refLost then s else
  let q := srcOf s.tb n
  let c := sampleRun n x s
  let newly := !q.qualified && qualifyCount n ≤ c
  let s1 := modSrc n (fun q => { q with
    count := min c 255
    qualified := q.qualified || newly
    since := if newly then s.tb.gtc else q.since
    lastValid := if x.valid then s.tb.gtc else q.lastValid
    e := if x.valid then x.e else q.e }) s
  if newly ∧ s.tb.state = 0 ∧ s.tb.ranking.contains n then
    sourceQualified n (modTb (fun b => { b with e := x.e, lastSample := b.gtc }) s1)
  else if newly then sourceQualified n s1
  else if q.qualified = true ∧ x.valid = true ∧ s.tb.source = n then
    let t := elapsed s.tb.gtc s.tb.lastSample
    let s2 := modTb (fun b => { b with e := x.e, lastSample := b.gtc }) s1
    if holding s.tb then
      if s.tb.stepNeeded = true ∧ armed s 12 = true then stepAndLock (-x.e) 2 s2 else judgeReturn s2
    else if s.tb.state = 0 then s2
    else servo t s2
  else s1

/-- A sample waits for its OFFSET_SAMPLE. -/
def awaitSample (n : Nat) (x : Sample) (s : State) : State :=
  modTb (fun b => { b with samples := b.samples.set (n - 1) (some x) }) s

/-- Nanoseconds after which a source without a valid sample is lost (Table 4-2). -/
def lossNs (n : Nat) (s : State) : Nat :=
  if n = 1 then 2 * sec
  else
    let l := (nth s.tb.ptp (n - 2) PtpPort.zero).logSync
    if 0 ≤ l then 3 * sec * 2 ^ l.toNat else 3 * sec / 2 ^ (-l).toNat

/-- Whether the loss of a source is due (Table 4-2). -/
def lossDue (n : Nat) (s : State) : Bool :=
  (srcOf s.tb n).qualified && (lossNs n s ≤ elapsed s.tb.gtc (srcOf s.tb n).lastValid ||
    (n != 1 && (nth s.tb.ptp (n - 2) PtpPort.zero).state != 9))

/-- A source is lost (R144). DESIGN CHOICE (log entry 15): STEP_NEEDED clears with the source in use that raised it, since no e is left to
step by; the next source that qualifies is judged anew (R149). -/
def loseSource (n : Nat) (s : State) : State :=
  let s1 := modSrc n (fun q => { q with qualified := false, count := 0 }) s
  if s.tb.source ≠ n then s1
  else if bestSource s1.tb ≠ 0 then returnTo (bestSource s1.tb) s1
  else if holding s.tb then modTb (fun b => { b with source := 0, stepNeeded := false }) s1
  else if s.tb.state = 0 then modTb (fun b => { b with source := 0 }) s1
  else enterHoldover (modTb (fun b => { b with source := 0 }) s1)

/-! ### Events of the timebase -/

/-- OFFSET_SAMPLE (R145): the sample that the station epoch (GNSS) or a Sync (PTP) left enters; nothing happens without one. -/
def execOffsetSample (src : Nat) (s : State) : Result :=
  match nth s.tb.samples (src - 1) none with
  | none => done s
  | some x => done (offsetSample src x (modTb (fun b => { b with samples := b.samples.set (src - 1) none }) s))

/-- SOURCE_LOST (R144): acts once the loss of Table 4-2 is due. -/
def execSourceLost (src : Nat) (s : State) : Result := done (if lossDue src s then loseSource src s else s)

/-- SOURCE_SWITCH_TIMER (R143): a source ranked higher than the one in use and qualified for 10 s becomes the one in use. -/
def execSourceSwitchTimer (src : Nat) (s : State) : Result :=
  let q := srcOf s.tb src
  done (if q.qualified = true ∧ s.tb.source ≠ 0 ∧ rankOf s.tb src < rankOf s.tb s.tb.source ∧
      10 * sec ≤ elapsed s.tb.gtc q.since
    then returnTo src s else s)

/-- HOLDOVER_LIMIT (R147). -/
def execHoldoverLimit (s : State) : Result :=
  done (if s.tb.state = 3 ∧ s.tb.holdLimit * sec ≤ holdNs s.tb then tbState 4 s else s)

/-- TB_STEP_NEEDED_REPEAT (R149): once per minute while the condition lasts. -/
def execTbStepNeededRepeat (s : State) : Result :=
  done (if s.tb.stepNeeded = true ∧ 60 * sec ≤ elapsed s.tb.gtc s.tb.stepReport then stepNeededReport s else s)

/-- RTC_SECOND_UPDATE (R140): while LOCKED the ST seconds go to the RTC once per second. -/
def execRtcSecondUpdate (s : State) : Result :=
  let n := s.tb.st / sec
  done (if s.tb.state = 1 ∧ s.tb.rtcWritten ≠ n then
      { s with tb := { s.tb with rtcWritten := n }, pwr := { s.pwr with rtc := n % 2 ^ 32 } }
    else s)

/-- Pulse `n` of the timebase. -/
def pulseOf (s : State) (n : Nat) : Pulse := nth s.tb.pulses n Pulse.zero

/-- Changes a pulse output. -/
def modPulse (n : Nat) (f : Pulse → Pulse) (s : State) : State := modTb (fun b => { b with pulses := modNth b.pulses n f }) s

/-- The ST of the next programmed instant. -/
def nextInstant (p : Pulse) : Nat := p.start + p.next * p.period

/-- Whether the next instant has come (R152). -/
def instantDue (p : Pulse) (st : Nat) : Bool := p.enable && (p.count == 0 || p.next < p.count) && nextInstant p ≤ st

/-- Whether an instant is at or before the last one emitted, which a step backward can bring about (R153). -/
def instantStale (p : Pulse) : Bool :=
  match p.lastInstant with
  | none => false
  | some l => nextInstant p ≤ l

/-- A pulse is emitted: the output holds its active level for the width (`tpLevel`); it is recorded in the TBR_ block, reported where enabled (R152 to R155). -/
def emitPulse (n : Nat) (s : State) : State :=
  let p := pulseOf s n
  let i := nextInstant p
  let q := quality s.tb
  let err := errEst s
  let s1 := put (.pulse n i q (!p.activeLow) p.width) (modPulse n (fun p => { p with
    next := p.next + 1, lastInstant := some i, fall := some (i + p.width), missed := false,
    recSt := i, recQuality := q, recMissed := p.missed, recErr := err }) s)
  if p.event then
    emit 0xC304 31 (leBytes 1 n ++ leBytes 1 q ++ leBytes 1 (flag p.missed) ++ zeros 1 ++ leBytes 8 (i / sec)
      ++ leBytes 4 (i % sec) ++ leBytes 4 err) s1
  else s1

/-- TP_PULSE_INSTANT (R152 to R155): the next instant of an output has come; an undriven output misses it, a squelched one
skips it. -/
def execTpPulseInstant (n : Nat) (s : State) : Result :=
  let p := pulseOf s n
  done (
    if instantDue p s.tb.st = false then s
    else if instantStale p then modPulse n (fun p => { p with next := p.next + 1 }) s
    else if tpDrivenOf s = false then modPulse n (fun p => { p with next := p.next + 1, missed := true }) s
    else if p.squelch = true ∧ 3 ≤ quality s.tb then
      modPulse n (fun p => { p with next := p.next + 1, skipped := satAdd 16 p.skipped 1 }) s
    else emitPulse n s)

/-! ### Captures -/

/-- Changes a capture input. -/
def modCapture (n : Nat) (f : Capture → Capture) (s : State) : State :=
  modTb (fun b => { b with captures := modNth b.captures n f }) s

/-- TC_CAPTURE of one queued capture, under the captured GTC (R156). -/
def captureReport (n : Nat) (ovf : Bool) (c : CaptureRec) (s : State) : State :=
  emitAt c.gtc 0xC305 31 (leBytes 1 n ++ leBytes 1 (flag c.falling) ++ leBytes 1 (flag ovf) ++ zeros 1 ++ leBytes 8 (c.st / sec)
    ++ leBytes 4 (c.st % sec)) s

/-- Queued captures are reported and leave the queue while PD_CTRL runs (R156; log entry 15). -/
def drainCaptures (n : Nat) (s : State) : State :=
  let c := nth s.tb.captures n Capture.zero
  if domOn s 10 then
    c.queue.foldl (fun t x => captureReport n c.ovf x t) (modCapture n (fun c => { c with queue := [] }) s)
  else s

/-- An edge at a capture input in RUN, DOZE or NAP (R156, R157). -/
def captureEdge (n : Nat) (falling : Bool) (s : State) : State :=
  let c := nth s.tb.captures n Capture.zero
  if (if falling then c.falling else c.rising) = false then s
  else if c.queue.length ≥ 16 ∨ (c.last.any (fun t => elapsed s.tb.gtc t < 20)) = true then
    modCapture n (fun c => { c with ovf := true }) s
  else
    drainCaptures n (modCapture n (fun c => { c with
      queue := c.queue ++ [⟨s.tb.gtc, s.tb.st, falling⟩]
      last := some s.tb.gtc }) s)

/-! ### Commands of group 0x03 (Table 4-9) -/

/-- TB_GET (R164). -/
def execTbGet (r : Req) (s : State) : Result :=
  done (runCommand 0x0301 false r (fun s =>
    checked (r.payload.length == 0) true true true [] s (fun s => .reply 0 (tbGetPayload s) s)) s)

/-- The servo settings as TB_SERVO_SET carries them. -/
def servoPayload (tb : Timebase) (set : Nat) : List Byte :=
  let k := if set = 0 then tb.servoGnss else tb.servoPtp
  leBytes 1 set ++ zeros 3 ++ leBytes 4 k.kp ++ leBytes 4 k.ki ++ leInt 2 k.slewLo ++ leInt 2 k.slewHi ++ leBytes 4 k.lockTh
    ++ leBytes 4 k.stepTh ++ leBytes 4 tb.holdLimit ++ leBytes 4 tb.sigmaY

/-- TB_SERVO_SET (R145 to R147). -/
def execTbServoSet (r : Req) (s : State) : Result :=
  let p := r.payload
  let k : ServoSet := ⟨u32 p 4, u32 p 8, iN 2 p 12, iN 2 p 14, u32 p 16, u32 p 20⟩
  done (runCommand 0x0303 true r (fun s =>
    checked (p.length == 32) (zeroAt p 1 3)
      (within (u8 p 0) 0 1 && within k.kp 1 1000000 && within k.ki 0 1000000000 && withinI k.slewLo (-1000) 1000
        && withinI k.slewHi (-1000) 1000 && within k.lockTh 10 100000 && within k.stepTh 1000 1000000000
        && within (u32 p 24) 60 604800 && within (u32 p 28) 1 100000000)
      true (failIf (decide (k.slewHi < k.slewLo)) 0x4003) s (fun s =>
      let s1 := modTb (fun b => { b with
        servoGnss := if u8 p 0 = 0 then k else b.servoGnss
        servoPtp := if u8 p 0 = 0 then b.servoPtp else k
        holdLimit := u32 p 24
        sigmaY := u32 p 28 }) s
      .reply (changed (s1.tb == s.tb)) (servoPayload s1.tb (u8 p 0)) s1)) s)

/-- TB_STEP (R150, R165). -/
def execTbStep (r : Req) (s : State) : Result :=
  let p := r.payload
  let amount := iN 8 p 8
  done (runCommand 0x0304 true r (fun s =>
    checked (p.length == 16) (zeroAt p 1 7) (within (u8 p 0) 0 1 && withinI amount (-(2 ^ 62)) (2 ^ 62)) true
      (failIf (u8 p 0 == 0 && !s.tb.stepNeeded) 0x8302) s (fun s =>
      if u8 p 0 = 0 then .reply 0 (leInt 8 (- s.tb.e)) (stepAndLock (- s.tb.e) 1 s)
      else
        let s1 := tbStepped amount 1 (jumpSt amount s)
        .reply 0 (leInt 8 amount) (if holding s.tb then s1 else enterHoldover s1))) s)

/-- The program of an output as TP_SET carries it. -/
def pulsePayload (n : Nat) (p : Pulse) : List Byte :=
  leBytes 1 n ++ leBytes 1 (flag p.enable + 2 * flag p.activeLow + 4 * flag p.squelch + 8 * flag p.event) ++ zeros 2
    ++ leBytes 8 (p.start / sec) ++ leBytes 4 (p.start % sec) ++ leBytes 8 p.period ++ leBytes 4 p.width ++ leBytes 4 p.count

/-- TP_SET (R152, R153). -/
def execTpSet (r : Req) (s : State) : Result :=
  let p := r.payload
  let fl := u8 p 1
  let start := u64 p 4 * sec + u32 p 12
  done (runCommand 0x0305 false r (fun s =>
    checked (p.length == 32) (zeroAt p 2 2 && bitsBelow fl 4 && bitsBelow (u64 p 4) 48)
      (within (u8 p 0) 0 3 && within (u32 p 12) 0 999999999 && within (u64 p 16) 1000 1000000000000
        && within (u32 p 24) 10 1000000000 && decide (u32 p 24 < u64 p 16))
      true (failIf (bit fl 0 && decide (start < s.tb.st + 1000000)) 0x8301) s (fun s =>
      let same := pulsePayload (u8 p 0) (pulseOf s (u8 p 0)) == p
      let s1 := modPulse (u8 p 0) (fun q => { q with
        enable := bit fl 0, activeLow := bit fl 1, squelch := bit fl 2, event := bit fl 3,
        start := start, period := u64 p 16, width := u32 p 24, count := u32 p 28, next := 0 }) s
      .reply (changed same) p (if same then s else s1))) s)

/-- TC_SET (R156). -/
def execTcSet (r : Req) (s : State) : Result :=
  let p := r.payload
  let fl := u8 p 1
  done (runCommand 0x0306 false r (fun s =>
    checked (p.length == 4) (zeroAt p 2 2 && bitsBelow fl 3) (within (u8 p 0) 0 3) true [] s (fun s =>
      let c := nth s.tb.captures (u8 p 0) Capture.zero
      let same := c.rising == bit fl 0 && c.falling == bit fl 1 && c.wake == bit fl 2
      .reply (changed same) p (drainCaptures (u8 p 0) (modCapture (u8 p 0) (fun c =>
        { c with rising := bit fl 0, falling := bit fl 1, wake := bit fl 2 }) s)))) s)

/-- The settings of UTC_SET in force: the host's value, else that of navigation data, else zeros (R141, Table 4-9). -/
def utcPayload (tb : Timebase) : List Byte := leBytes 2 (tbrUtc tb) ++ leBytes 1 (tbrUtc tb / 65536 % 4) ++ zeros 1

/-- UTC_SET (R141). -/
def execUtcSet (r : Req) (s : State) : Result :=
  let p := r.payload
  let fl := u8 p 2
  done (runCommand 0x0308 false r (fun s =>
    checked (p.length == 4) (zeroAt p 3 1 && decide (fl % 128 < 4)) (within (u16 p 0) 0 255) true [] s (fun s =>
      let s1 := modTb (fun b => { b with utcHost := if bit fl 7 then none else some (u16 p 0, bit fl 0, bit fl 1) }) s
      .reply 0 (utcPayload s1.tb) s1)) s)

end Sys2Proof.Machine
end

