-- ==== Sys2Proof/Machine/Transits.lean ====
section
/-!
DEFINITION. Sys2Proof/Machine/Transits.lean: chapter 11: the transit arbiter, keep-out zones, the conformance monitor, and the
commands of group 0x0A.
-/
namespace Sys2Proof.Machine
open Sys2Proof

/-! ### Geometry (R411, R412)

Distances are compared as exact rationals: a squared distance is a numerator and a denominator (log entry 16). -/

/-- The vector from one point to another. -/
def ptSub (p q : Pt) : Pt := ⟨p.e - q.e, p.n - q.n⟩

/-- The scalar product. -/
def dot (p q : Pt) : Int := p.e * q.e + p.n * q.n

/-- The cross product, positive for a turn to the left. -/
def cross (p q : Pt) : Int := p.e * q.n - p.n * q.e

/-- The square of pt_seg as numerator and denominator. -/
def ptSegSq (p a b : Pt) : Nat × Nat :=
  let ab := ptSub b a
  let ap := ptSub p a
  let k := dot ap ab
  let l := dot ab ab
  if l = 0 ∨ k ≤ 0 then ((dot ap ap).toNat, 1)
  else if l ≤ k then ((dot (ptSub p b) (ptSub p b)).toNat, 1)
  else ((dot ap ap * l - k * k).toNat, l.toNat)

/-- Whether a squared distance is below the square of `need`. -/
def below (d : Nat × Nat) (need : Nat) : Bool := d.1 < need * need * d.2

/-- Whether two segments cross each other in their interiors; segments that only touch are at distance 0 by pt_seg. -/
def segCross (a b c d : Pt) : Bool :=
  let o1 := cross (ptSub b a) (ptSub c a)
  let o2 := cross (ptSub b a) (ptSub d a)
  let o3 := cross (ptSub d c) (ptSub a c)
  let o4 := cross (ptSub d c) (ptSub b c)
  ((decide (o1 < 0) && decide (0 < o2)) || (decide (0 < o1) && decide (o2 < 0))) &&
    ((decide (o3 < 0) && decide (0 < o4)) || (decide (0 < o3) && decide (o4 < 0)))

/-- seg_dist < need. -/
def segNear (a b c d : Pt) (need : Nat) : Bool :=
  (segCross a b c d && decide (0 < need)) || below (ptSegSq a c d) need || below (ptSegSq b c d) need
    || below (ptSegSq c a b) need || below (ptSegSq d a b) need

/-- The segments of a polyline; a single waypoint is one segment whose ends coincide. -/
def segments (l : List Pt) : List (Pt × Pt) :=
  match l with
  | [] => []
  | [a] => [(a, a)]
  | a :: b :: [] => [(a, b)]
  | a :: b :: r => (a, b) :: segments (b :: r)

/-- The edges of a polygon. -/
def edges (l : List Pt) : List (Pt × Pt) :=
  match l with
  | [] => []
  | a :: _ => (List.range l.length).map (fun i => (nth l i a, nth l ((i + 1) % l.length) a))

/-- Whether a point lies on or to the left of every edge (R411). -/
def insideZone (p : Pt) (z : List Pt) : Bool := (edges z).all (fun e => decide (0 ≤ cross (ptSub e.2 e.1) (ptSub p e.1)))

/-- zone_dist < need. -/
def zoneNear (a b : Pt) (z : List Pt) (need : Nat) : Bool :=
  (decide (0 < need) && (insideZone a z || insideZone b z)) || (edges z).any (fun e => segNear a b e.1 e.2 need)

/-- Whether two corridors come nearer than their half-widths and the clearance (R411): dmin < need + 1. -/
def lineConflict (x : List Pt) (wx : Nat) (y : List Pt) (wy clearance : Nat) : Bool :=
  (segments x).any (fun a => (segments y).any (fun b => segNear a.1 a.2 b.1 b.2 (wx + wy + clearance + 1)))

/-- Whether a corridor comes nearer to a zone than its half-width and the clearance. -/
def zoneConflict (x : List Pt) (wx : Nat) (z : List Pt) (clearance : Nat) : Bool :=
  (segments x).any (fun a => zoneNear a.1 a.2 z (wx + clearance + 1))

/-- time_conflict; an open end is infinite. -/
def timeConflict (sx ex sy ey guard : Nat) : Bool :=
  (ey == openEnd || decide (sx < ey + guard)) && (ex == openEnd || decide (sy < ex + guard))

/-! ### Requests (R410 to R418) -/

/-- A request for a transit. -/
structure TrAsk where
  owner : Option Nat
  line : List Pt
  half : Nat
  start : Nat
  stop : Nat
deriving DecidableEq, Repr

/-- The machine that a request's owner holds. -/
def askMachine (a : TrAsk) (s : State) : Nat :=
  match a.owner with
  | none => 0
  | some b => (berthOf s b).machine

/-- A blocker: kind of R418, ID, clear-after time. -/
structure Blocker where
  kind : Nat
  ident : Nat
  clear : Nat
deriving DecidableEq, Repr

/-- end + guard, and no end for an open one. -/
def clearAfter (stop guard : Nat) : Nat := if stop = openEnd then openEnd else stop + guard

/-- Whether a transit is the request's own (R413). -/
def sameOwner (a : TrAsk) (t : Transit) (s : State) : Bool :=
  a.owner.isSome && t.owner == a.owner && t.machine == askMachine a s

/-- The blocking transits of a request. -/
def transitBlockers (a : TrAsk) (s : State) : List Blocker :=
  let c := s.repl.tr.cfg
  (s.repl.tr.transits.filter (fun t => !sameOwner a t s && timeConflict a.start a.stop t.start t.stop c.guard &&
    lineConflict a.line a.half t.line t.half c.clearance)).map (fun t => ⟨1, transitId t, clearAfter t.stop c.guard⟩)

/-- The blocking zones of a request. -/
def zoneBlockers (a : TrAsk) (s : State) : List Blocker :=
  let c := s.repl.tr.cfg
  (s.repl.tr.zones.filter (fun z => timeConflict a.start a.stop z.start z.stop c.guard &&
    zoneConflict a.line a.half z.poly c.clearance)).map (fun z => ⟨2, z.index, clearAfter z.stop c.guard⟩)

/-- The blocking claims of a request among those of levels below `limit` (Table 11-3). -/
def claimBlockers (a : TrAsk) (limit : Nat) (s : State) : List Blocker :=
  let c := s.repl.tr.cfg
  (s.repl.tr.claims.filter (fun k => decide (k.level < limit) && a.owner != some k.owner &&
    timeConflict a.start a.stop k.start openEnd c.guard && lineConflict a.line a.half k.line k.half c.clearance)).map
    (fun k => ⟨3, k.level, openEnd⟩)

/-- The better of two blockers of R418: the later clear-after time, then the kind, then the lowest ID. -/
def worse (x y : Blocker) : Bool :=
  decide (y.clear < x.clear) || (x.clear == y.clear &&
    (decide (x.kind < y.kind) || (x.kind == y.kind && decide (x.ident < y.ident))))

/-- The blocker that R418 reports. -/
def reported (l : List Blocker) : Option Blocker :=
  l.foldl (fun o x => match o with
    | none => some x
    | some y => if worse x y then some x else some y) none

/-- The blocker of a request: none is a grant. -/
def askBlocker (a : TrAsk) (limit : Nat) (s : State) : Option Blocker :=
  reported (transitBlockers a s ++ zoneBlockers a s ++ claimBlockers a limit s)

/-- Whether coordinates lie within R406. -/
def ptInRange (p : Pt) : Bool := withinI p.e (-100000000) 100000000 && withinI p.n (-100000000) 100000000

/-- Whether two consecutive waypoints are equal. -/
def repeats (l : List Pt) : Bool :=
  match l with
  | [] => false
  | [_] => false
  | a :: b :: r => a == b || repeats (b :: r)

/-- Rule 1 of Table 11-2. -/
def lineValid (l : List Pt) : Bool := within l.length 1 16 && !repeats l && l.all ptInRange

/-- The rules of Table 11-2 that a request breaks, as their statuses. -/
def askInvalid (a : TrAsk) (s : State) : List Nat :=
  let c := s.repl.tr.cfg
  let now := stMs s
  failIf (!lineValid a.line) 0x8A07 ++ failIf (!within a.half 50 65000) 0x4002 ++
  failIf (!(decide (a.start < a.stop) && decide (now < a.stop) && decide (a.stop - a.start ≤ c.maxDur * 1000) &&
    decide (a.start ≤ now + c.horizon * 1000))) 0x8A06 ++
  failIf (match a.owner with
    | none => false
    | some b => !within (berthOf s b).state 1 4) 0x8A0A ++
  failIf (decide (c.ownerLimit ≤ (s.repl.tr.transits.filter (fun t => t.owner == a.owner && t.machine == askMachine a s)).length))
    0x8A05 ++
  failIf (decide (4096 ≤ s.repl.tr.transits.length)) 0x8A04

/-- The next generation of a slot (R408). -/
def nextGen (limit g : Nat) : Nat := if g + 1 < limit then g + 1 else 1

/-- The lowest free number below `n` (the choice of a free slot: log entry 16). -/
def freeSlot (n : Nat) (used : List Nat) : Nat := ((List.range n).find? (fun i => !used.contains i)).getD 0

/-- A grant: the transit is inserted and reported; answers its ID (R416, R421). -/
def insertTransit (a : TrAsk) (tag source : Nat) (s : State) : Nat × State :=
  let slot := freeSlot 4096 (s.repl.tr.transits.map (fun t => t.slot))
  let g := nextGen (2 ^ 20) ((look s.repl.tr.gens slot).getD 0)
  let t : Transit := ⟨slot, g, a.owner, askMachine a s, source, a.start, a.stop, tag, a.half, a.line⟩
  (transitId t, trChange t 0 source (modArb (fun r => { r with
    transits := r.transits ++ [t]
    gens := upsert r.gens slot g }) s))

/-- The arbiter's statistics of one decision: its time, and the grant or the kind of blocker. -/
def trCount (time : Nat) (granted : Bool) (kind : Nat) (s : State) : State :=
  { s with trown := { s.trown with
    recent := lastSecond s.tb.gtc ((s.tb.gtc, time) :: s.trown.recent)
    maxTime := max s.trown.maxTime time
    grants := if granted then satAdd 32 s.trown.grants 1 else s.trown.grants
    refTransit := if kind = 1 then satAdd 32 s.trown.refTransit 1 else s.trown.refTransit
    refZone := if kind = 2 then satAdd 32 s.trown.refZone 1 else s.trown.refZone
    refClaim := if kind = 3 then satAdd 32 s.trown.refClaim 1 else s.trown.refClaim } }

/-- A status of the list, any of them where several apply (R54 step 12). -/
def pickStatus (l : List Nat) (s : State) : Nat × State :=
  match l with
  | [] => (0, s)
  | [st] => (st, s)
  | st :: _ => (nth l ((fresh s).1 % l.length) st, (fresh s).2)

/-- The reply payload of TR_REQUEST and TR_CHECK (Table 11-8). -/
def trPayload (id : Nat) (b : Option Blocker) (time : Nat) (s : State) : List Byte :=
  let k := b.getD ⟨0, 0, 0⟩
  leBytes 4 id ++ leBytes 1 k.kind ++ zeros 3 ++ leBytes 4 k.ident ++ leBytes 8 (stMs s) ++ leBytes 8 k.clear ++ leBytes 4 time

/-- Waypoints or vertices from offset `o`. -/
def pointsOf (p : List Byte) (o n : Nat) : List Pt :=
  (List.range n).map (fun i => ⟨iN 4 p (o + 8 * i), iN 4 p (o + 8 * i + 4)⟩)

/-- The bytes of waypoints. -/
def pointBytes (l : List Pt) : List Byte := l.flatMap (fun p => leInt 4 p.e ++ leInt 4 p.n)

/-- The request that TR_REQUEST and TR_CHECK carry. -/
def askOf (p : List Byte) : TrAsk :=
  ⟨if u16 p 0 = 0xFFFF then none else some (u16 p 0), pointsOf p 32 (u8 p 2), u16 p 4, u64 p 8, u64 p 16⟩

/-- A queued TR_REQUEST or TR_CHECK is decided (R416): a grant is inserted at once and replied to after its commit (R439). The payload
goes with the statuses of Table 11-9 and 0x0000 (R442). -/
def decideHost (op : Nat) (r : Req) (time : Nat) (s : State) : State :=
  let a := askOf r.payload
  match failIf (op == 0x0A01 && s.pair.role == 2) 0x2004 ++ askInvalid a s with
  | st :: l =>
    let f := pickStatus (st :: l) s
    reply r op f.1 (if 0x8A00 < f.1 then trPayload 0 none time s else []) (trCount time false 0 f.2)
  | [] =>
    match askBlocker a 64 s with
    | some k => reply r op (0x8A00 + k.kind) (trPayload 0 (some k) time s) (trCount time false k.kind s)
    | none =>
      if op = 0x0A01 then
        let g := insertTransit a (u32 r.payload 24) r.master (trCount time true 0 s)
        hold r.master (.answer r op 0 (trPayload g.1 none time s)) g.2
      else reply r op 0 (trPayload 0 none time s) (trCount time false 0 s)

/-- The first queued request is decided; `time` is the decision time in ns. -/
def decideFirst (time : Nat) (s : State) : State :=
  match s.trown.queue with
  | [] => s
  | (op, r, _) :: q => decideHost op r time { s with trown := { s.trown with queue := q } }

/-- ARBITER_DECISION (R416): the first queued request is decided; `time` is the decision time in ns. -/
def execArbiterDecision (time : Nat) (s : State) : Result := done (decideFirst time s)

/-- A decision time that no command gives: a free value up to the limit of R429. -/
def freeTime (s : State) : Nat × State := ((fresh s).1 % 30001, (fresh s).2)

/-- Whether a queued request comes before one that reaches the arbiter now: an urgent one overtakes those of its session that are not
urgent (R81), and of one GTC the lower source comes first (R17, R416). -/
def queuedBefore (r : Req) (g : Gtc) (e : Nat × Req × Gtc) : Bool :=
  if e.2.1.master = r.master then e.2.1.urgent || !r.urgent else e.2.2 != g || decide (e.2.1.master < r.master)

/-- A request takes its place among those that wait for the arbiter. -/
def enqueueAsk (op : Nat) (r : Req) (g : Gtc) (l : List (Nat × Req × Gtc)) : List (Nat × Req × Gtc) :=
  l.takeWhile (queuedBefore r g) ++ (op, r, g) :: l.dropWhile (queuedBefore r g)

/-- The checks that TR_REQUEST and TR_CHECK make before they reach the arbiter, and the queue of 64 (R429). -/
def trQueue (op : Nat) (states : List Nat) (r : Req) (s : State) : Ans :=
  let p := r.payload
  checked (p.length == 32 + 8 * u8 p 2) (zeroAt p 3 1 && zeroAt p 6 2 && zeroAt p 28 4)
    (u16 p 0 ≤ 255 || u16 p 0 == 0xFFFF) true
    (states ++ failIf (decide (64 ≤ s.trown.queue.length)) 0x2003) s (fun s =>
    .later { s with trown := { s.trown with queue := enqueueAsk op r s.tb.gtc s.trown.queue } })

/-- The refusal of R439 in STANDBY. -/
def notStandby (s : State) : List Nat := failIf (s.pair.role == 2) 0x2004

/-- TR_REQUEST (R411, R429). -/
def execTrRequest (r : Req) (s : State) : Result :=
  done (runCommand 0x0A01 true r (fun s => trQueue 0x0A01 (notStandby s) r s) s)

/-- TR_CHECK (R414, R429). -/
def execTrCheck (r : Req) (s : State) : Result :=
  done (runCommand 0x0A03 false r (fun s => trQueue 0x0A03 [] r s) s)

/-! ### Release and removal (R420 to R424) -/

/-- TR_RELEASE (R422): at once; the reply follows the commit (R439). -/
def execTrRelease (r : Req) (s : State) : Result :=
  let p := r.payload
  let now := stMs s
  let asked := u64 p 8
  done (runCommand 0x0A02 true r (fun s =>
    checked (p.length == 16) (zeroAt p 4 4) (asked == 0 || decide (now ≤ asked)) true
      (notStandby s ++ failIf (transitOf s (u32 p 0)).isNone 0x8A09) s (fun s =>
      match transitOf s (u32 p 0) with
      | none => .later s
      | some t =>
        let e := min t.stop (max now asked)
        if e ≤ t.start then
          .later (hold r.master (.answer r 0x0A02 0 (leBytes 8 0)) (removeTransit t 2 r.master s))
        else if e = t.stop then .later (hold r.master (.answer r 0x0A02 0x0102 (leBytes 8 e)) s)
        else
          .later (hold r.master (.answer r 0x0A02 0 (leBytes 8 e)) (trChange { t with stop := e } 1 r.master (spaceBump
            (modArb (fun a => { a with transits := a.transits.map (fun x =>
              if transitId x = transitId t then { x with stop := e } else x) }) s)))))) s)

/-- ZONE_REMOVAL (R421). -/
def execZoneRemoval (z : Nat) (s : State) : Result :=
  done (match zoneOf s z with
    | none => s
    | some x =>
      if s.pair.role ≠ 2 ∧ x.stop ≠ openEnd ∧ x.stop + s.repl.tr.cfg.guard ≤ stMs s then trZone z 3 0xFF 29 (dropZone z s)
      else s)

/-! ### Zones (R425 to R427) -/

/-- Whether every turn between consecutive edges is strictly to the left (R425). -/
def convex (l : List Pt) : Bool :=
  let n := l.length
  (List.range n).all (fun i =>
    let a := nth l i ⟨0, 0⟩
    let b := nth l ((i + 1) % n) ⟨0, 0⟩
    let c := nth l ((i + 2) % n) ⟨0, 0⟩
    decide (0 < cross (ptSub b a) (ptSub c b)))

/-- The blocker of a zone: held transits and claims (R426). -/
def zoneBlocker (z : Zone) (s : State) : Option Blocker :=
  let c := s.repl.tr.cfg
  reported
    ((s.repl.tr.transits.filter (fun t => timeConflict z.start z.stop t.start t.stop c.guard &&
      zoneConflict t.line t.half z.poly c.clearance)).map (fun t => ⟨1, transitId t, clearAfter t.stop c.guard⟩) ++
    (s.repl.tr.claims.filter (fun k => timeConflict z.start z.stop k.start openEnd c.guard &&
      zoneConflict k.line k.half z.poly c.clearance)).map (fun k => ⟨3, k.level, openEnd⟩))

/-- The zone that TR_ZONE_SET carries. -/
def zoneAsk (r : Req) : Zone :=
  let p := r.payload
  ⟨u8 p 0, u64 p 8, u64 p 16, pointsOf p 24 (u8 p 1), r.master⟩

/-- The reply payload of TR_ZONE_SET. -/
def zonePayload (b : Option Blocker) : List Byte :=
  let k := b.getD ⟨0, 0, 0⟩
  leBytes 1 k.kind ++ zeros 3 ++ leBytes 4 k.ident ++ zeros 4 ++ leBytes 8 k.clear

/-- TR_ZONE_SET (R425, R426): the reply follows the commit (R439). -/
def execTrZoneSet (r : Req) (s : State) : Result :=
  let p := r.payload
  let z := zoneAsk r
  done (runCommand 0x0A06 true r (fun s =>
    checked (p.length == 24 + 8 * u8 p 1) (zeroAt p 2 6) (within (u8 p 1) 3 16) true
      (notStandby s ++ failIf (decide (z.stop ≤ z.start)) 0x8A06 ++ failIf (!(z.poly.all ptInRange && !repeats z.poly)) 0x8A07
        ++ failIf (!convex z.poly) 0x8A08) s (fun s =>
      match zoneBlocker z s with
      | some k => .reply (0x8A00 + k.kind) (zonePayload (some k)) s
      | none =>
        let s0 := modArb (fun a => { a with zones := a.zones.filter (fun x => x.index != z.index) ++ [z] }) s
        let s1 := if (zoneOf s z.index).isSome then spaceBump s0 else s0
        .later (hold r.master (.answer r 0x0A06 0 (zonePayload none))
          (trZone z.index (flag (zoneOf s z.index).isSome) r.master r.master s1)))) s)

/-- TR_ZONE_REMOVE (R427). -/
def execTrZoneRemove (r : Req) (s : State) : Result :=
  let p := r.payload
  let z := u8 p 0
  done (runCommand 0x0A07 true r (fun s =>
    checked (p.length == 4) (zeroAt p 1 3) true true (notStandby s) s (fun s =>
      if (zoneOf s z).isNone then .reply 0x0102 p s
      else .later (hold r.master (.answer r 0x0A07 0 p) (trZone z 2 r.master r.master (dropZone z s))))) s)

/-! ### Settings (R428, R433) -/

/-- The settings of TR_CONFIG_SET in force. -/
def trConfigPayload (c : TrConfig) : List Byte :=
  leBytes 2 c.clearance ++ leBytes 2 c.guard ++ leBytes 2 c.margin ++ leBytes 2 c.uLimit ++ leBytes 2 c.unknown
    ++ leBytes 1 c.depCount ++ leBytes 1 c.ownerLimit ++ leBytes 4 c.maxDur ++ leBytes 4 c.horizon

/-- The settings that TR_CONFIG_SET carries. -/
def trConfigOf (p : List Byte) : TrConfig :=
  ⟨u16 p 0, u16 p 2, u16 p 4, u16 p 6, u16 p 8, u8 p 10, u8 p 11, u32 p 12, u32 p 16⟩

/-- The commit of TR_CONFIG_SET (R428, R439). -/
def commitTrConfig (r : Req) (s : State) : State :=
  let s1 := spaceBump (modArb (fun a => { a with cfg := trConfigOf r.payload }) s)
  reply r 0x0A08 (changed (s.repl.tr.cfg == trConfigOf r.payload)) (trConfigPayload s1.repl.tr.cfg) s1

/-- TR_CONFIG_SET (R428). -/
def execTrConfigSet (r : Req) (s : State) : Result :=
  let p := r.payload
  let c := trConfigOf p
  done (runCommand 0x0A08 true r (fun s =>
    checked (p.length == 20) true
      (c.clearance ≤ 10000 && c.guard ≤ 60000 && c.margin ≤ 5000 && within c.uLimit 50 10000 && within c.unknown 200 10000
        && within c.depCount 1 10 && within c.ownerLimit 1 64 && within c.maxDur 10 86400 && within c.horizon 10 86400)
      true (notStandby s) s (fun s => .later (hold r.master (.command 0x0A08 r) s))) s)

/-- Conformance mode and reported uncertainty of a berth (R433, R431). -/
def trBerthOf (s : State) (b : Nat) : Nat × Nat := (look s.repl.tr.berths b).getD (1, 150)

/-- The entries of TR_BERTH_SET: berth, mode, uncertainty. -/
def trBerthEntries (p : List Byte) : List (Nat × Nat × Nat) :=
  (List.range (u8 p 0)).map (fun i => (u8 p (4 + 4 * i), u8 p (5 + 4 * i), u16 p (6 + 4 * i)))

/-- The commit of TR_BERTH_SET (R433, R439). -/
def commitTrBerth (r : Req) (s : State) : State :=
  let es := trBerthEntries r.payload
  let s1 := es.foldl (fun t e => modArb (fun a => { a with berths := upsert a.berths e.1 e.2 }) t) s
  reply r 0x0A09 (changed (es.all (fun e => trBerthOf s e.1 == e.2))) r.payload s1

/-- TR_BERTH_SET (R433). -/
def execTrBerthSet (r : Req) (s : State) : Result :=
  let p := r.payload
  let es := trBerthEntries p
  done (runCommand 0x0A09 true r (fun s =>
    checked (p.length == 4 + 4 * u8 p 0) (zeroAt p 1 3)
      (within (u8 p 0) 1 64 && es.all (fun e => e.2.1 ≤ 2 && e.2.2 ≤ 5000)) (noRepeat (es.map (fun e => e.1)))
      (notStandby s) s (fun s => .later (hold r.master (.command 0x0A09 r) s))) s)

/-! ### Reads (R442) -/

/-- The state of a transit (R420). -/
def transitState (t : Transit) (s : State) : Nat := if stMs s < t.start then 0 else if stMs s < t.stop then 1 else 2

/-- TR_GET (R442). -/
def execTrGet (r : Req) (s : State) : Result :=
  done (runCommand 0x0A04 false r (fun s =>
    checked (r.payload.length == 4) true true true (failIf (transitOf s (u32 r.payload 0)).isNone 0x8A09) s (fun s =>
      match transitOf s (u32 r.payload 0) with
      | none => .later s
      | some t => .reply 0 (leBytes 4 (transitId t) ++ leBytes 2 (t.owner.getD 0xFFFF) ++ leBytes 1 t.source
          ++ leBytes 1 (transitState t s) ++ leBytes 8 t.machine ++ leBytes 8 t.start ++ leBytes 8 t.stop ++ leBytes 4 t.tag
          ++ leBytes 2 t.half ++ leBytes 1 t.line.length ++ zeros 1 ++ pointBytes t.line) s)) s)

/-- The transits that TR_LIST asks for, ascending slot. -/
def listed (owner first : Nat) (s : State) : List Transit :=
  (List.range 4096).flatMap (fun i => if i < first then [] else
    s.repl.tr.transits.filter (fun t => t.slot == i && (owner == 0xFFFE || t.owner.getD 0xFFFF == owner)))

/-- TR_LIST (R442): at most 256 IDs. -/
def execTrList (r : Req) (s : State) : Result :=
  let p := r.payload
  done (runCommand 0x0A05 false r (fun s =>
    checked (p.length == 4) true
      ((u16 p 0 ≤ 255 || u16 p 0 == 0xFFFF || u16 p 0 == 0xFFFE) && u16 p 2 ≤ 4095) true [] s (fun s =>
      let l := listed (u16 p 0) (u16 p 2) s
      let next := match l.drop 256 with
        | [] => 0xFFFF
        | t :: _ => t.slot
      .reply 0 (leBytes 2 (min l.length 256) ++ leBytes 2 next ++ (l.take 256).flatMap (fun t => leBytes 4 (transitId t))) s)) s)

/-- A bitmap over the berths, 32 bytes. -/
def berthBitmap (f : Nat → Bool) : List Byte := leBytes 32 (bitsOf ((List.range 256).map f))

/-- The reply payload of TR_STATUS. -/
def trStatusBytes (s : State) : List Byte :=
  let l := (lastSecond s.tb.gtc s.trown.recent).map (fun x => x.2)
  leBytes 2 s.repl.tr.transits.length ++ leBytes 1 s.repl.tr.claims.length
    ++ leBytes 1 (min s.repl.tr.zones.length 255) ++ leBytes 4 l.length ++ leBytes 4 s.trown.grants
    ++ leBytes 4 s.trown.refTransit ++ leBytes 4 s.trown.refZone ++ leBytes 4 s.trown.refClaim ++ leBytes 4 (median l)
    ++ leBytes 4 s.trown.maxTime ++ berthBitmap (fun b => (conformOf s b).departed)
    ++ berthBitmap (fun b => (conformOf s b).unknown)

/-- TR_STATUS (R442). -/
def execTrStatus (r : Req) (s : State) : Result :=
  done (runCommand 0x0A0A false r (fun s =>
    checked (r.payload.length == 0) true true true [] s (fun s =>
      .reply 0 (trStatusBytes s) s)) s)

/-! ### The conformance monitor (R430 to R438) -/

/-- Whether a transit watches a berth at a time in ms (R432). -/
def watches (t : Transit) (b ms : Nat) (s : State) : Bool :=
  t.owner == some b && t.machine == (berthOf s b).machine && decide (t.start ≤ ms + s.repl.tr.cfg.guard) &&
    decide (ms < t.stop + s.repl.tr.cfg.guard)

/-- The transits that watch a berth at a time. -/
def watchers (b ms : Nat) (s : State) : List Transit := s.repl.tr.transits.filter (fun t => watches t b ms s)

/-- The distance of a fix from a transit's line in mm, rounded down, for the report. -/
def lineDist (p : Pt) (l : List Pt) : Nat :=
  (segments l).foldl (fun d g =>
    let q := ptSegSq p g.1 g.2
    min d (isqrt 32 (q.1 / q.2) 0)) 0xFFFFFFFF

/-- Whether a fix lies within `margin` of a transit's line. -/
def lineWithin (p : Pt) (l : List Pt) (margin : Nat) : Bool :=
  (segments l).any (fun g => let q := ptSegSq p g.1 g.2; decide (q.1 ≤ margin * margin * q.2))

/-- The margin of a transit for an uncertainty (R432). -/
def marginOf (t : Transit) (u : Nat) (s : State) : Nat := t.half + s.repl.tr.cfg.margin + u

/-- The nearest of the watching transits with its distance. -/
def nearest (p : Pt) (l : List Transit) : Option (Transit × Nat) :=
  l.foldl (fun o t =>
    let d := lineDist p t.line
    match o with
    | none => some (t, d)
    | some (u, e) => if d < e then some (t, d) else some (u, e)) none

/-- A fix as the monitor takes it: berth, epoch tag, epoch (ST in 50 ms), state, position, 3 sigma. -/
structure MonFix where
  berth : Nat
  tag : Nat
  epoch : Nat
  state : Nat
  p : Pt
  u : Nat
deriving DecidableEq, Repr

/-- TRANSIT_DEPARTURE (Table 11-10); a STANDBY raises no event (R439). -/
def departure (f : MonFix) (raised cause stop : Nat) (near : Option (Transit × Nat)) (s : State) : State :=
  if s.pair.role = 2 then s
  else
  let id := match near with
    | none => 0
    | some (t, _) => transitId t
  let d := match near with
    | none => 0
    | some (_, d) => d
  let m := match near with
    | none => 0
    | some (t, _) => marginOf t f.u s
  emit 0xCA01 29 (leBytes 1 f.berth ++ leBytes 1 raised ++ leBytes 1 cause ++ leBytes 1 f.state ++ leBytes 4 id ++ leBytes 4 d
    ++ leBytes 4 m ++ leInt 4 f.p.e ++ leInt 4 f.p.n ++ leBytes 2 f.tag ++ leBytes 1 stop ++ zeros 1) s

/-- Whether a reaction's spot stop can be put in force for the berth: it is not FREE (R396), and the member is no STANDBY (R439). -/
def canStop (b : Nat) (s : State) : Bool := (berthOf s b).state != 0 && s.pair.role != 2

/-- Reaction 0x04 at an evaluation of a departed berth (R23, R437). -/
def departStop (b : Nat) (s : State) : State :=
  if (conformOf s b).departed = true ∧ (conformOf s b).depStop = false ∧ armed s 4 = true ∧ canStop b s = true then
    spotStopBerth b 2 0xFF 29 (modConform b (fun c => { c with depStop := true }) s)
  else s

/-- Reaction 0x05 at an evaluation of a berth whose conformance is unknown (R23, R437). -/
def unknownStop (b : Nat) (s : State) : State :=
  if (conformOf s b).unknown = true ∧ (conformOf s b).unkStop = false ∧ armed s 5 = true ∧ canStop b s = true then
    spotStopBerth b 3 0xFF 29 (modConform b (fun c => { c with unkStop := true }) s)
  else s

/-- A known fix outside every watching transit (R434, R437). -/
def fixOutside (f : MonFix) (cause : Nat) (near : Option (Transit × Nat)) (s : State) : State :=
  let n := (conformOf s f.berth).outCount + 1
  let s1 := modConform f.berth (fun c => { c with outCount := n, inCount := 0 }) s
  if (conformOf s f.berth).departed then departStop f.berth s1
  else if s.repl.tr.cfg.depCount ≤ n then
    let s2 := modConform f.berth (fun c => { c with departed := true, depStop := false }) s1
    departStop f.berth (departure f 1 cause (flag (armed s 4 && canStop f.berth s)) near s2)
  else s1

/-- A known fix inside (R434). -/
def fixInside (f : MonFix) (near : Option (Transit × Nat)) (s : State) : State :=
  let n := (conformOf s f.berth).inCount + 1
  let s1 := modConform f.berth (fun c => { c with inCount := n, outCount := 0 }) s
  if (conformOf s f.berth).departed = true ∧ s.repl.tr.cfg.depCount ≤ n then
    departure f 0 0 0 near (modConform f.berth (fun c => { c with departed := false, depStop := false }) s1)
  else departStop f.berth s1

/-- A known fix clears CONFORMANCE_UNKNOWN, unless nothing is evaluated for the berth (R433, R435). -/
def knownFix (b : Nat) (s : State) : State :=
  let c := conformOf s b
  let s1 := modConform b (fun c => { c with lastKnown := some s.tb.gtc, lastBad := 3 }) s
  if c.unknown = true ∧ c.cause ≠ 4 ∧ (trBerthOf s b).1 ≠ 0 then
    unknownEvent b 0 c.cause 0 0 (modConform b (fun c => { c with unknown := false, unkStop := false }) s1)
  else s1

/-- The monitor takes a fix (R430 to R434): one whose epoch is not later than the last is ignored; a known one is the berth's last known
fix (R431, R447) and is evaluated unless the mode is OFF. On a STANDBY nothing is raised (R439). -/
def monitorFix (f : MonFix) (s : State) : State :=
  let mode := (trBerthOf s f.berth).1
  if ((conformOf s f.berth).lastEpoch.any (fun e => decide (f.epoch ≤ e))) = true then s
  else
    let s1 := modConform f.berth (fun c => { c with lastEpoch := some f.epoch }) s
    if f.state = 0 then modConform f.berth (fun c => { c with lastBad := 1 }) s1
    else if s.repl.tr.cfg.uLimit < f.u then modConform f.berth (fun c => { c with lastBad := 2 }) s1
    else
      let s2 := knownFix f.berth (modConform f.berth (fun c => { c with fix := some f.p }) s1)
      if mode = 0 then s2
      else
        match watchers f.berth (f.epoch * 50) s with
        | [] => if mode = 2 then fixOutside f 1 none s2 else s2
        | l =>
          let near := nearest f.p l
          if l.any (fun t => lineWithin f.p t.line (marginOf t f.u s)) then fixInside f near s2 else fixOutside f 0 near s2

/-- CONFORMANCE_UNKNOWN is raised (R435 to R437). -/
def raiseUnknown (b cause id : Nat) (s : State) : State :=
  let s1 := modConform b (fun c => { c with unknown := true, unkStop := false, cause := cause, watchId := id }) s
  unknownStop b (unknownEvent b 1 cause id (flag (armed s 5 && canStop b s)) s1)

/-- The unknown timeout of a watched or STRICT berth has run out (R435). -/
def unknownDue (b : Nat) (watched : Bool) (s : State) : Bool :=
  let c := conformOf s b
  let lim := s.repl.tr.cfg.unknown * 1000000
  (c.lastKnown.all (fun t => decide (lim < sinceNs s t))) && (!watched || decide (lim < sinceNs s c.watchSince)) &&
    decide (lim < sinceNs s s.trown.takeover) && decide (lim < sinceNs s s.trown.napExit)

/-- CONFORMANCE_UNKNOWN_TIMEOUT (R435 to R438): the evaluation of a berth at a station epoch. -/
def execConformanceUnknownTimeout (b : Nat) (s : State) : Result :=
  let mode := (trBerthOf s b).1
  let ws := watchers b (stMs s) s
  let id := match ws with
    | [] => 0
    | t :: _ => transitId t
  done (
    if s.pwr.state = 2 ∨ mode = 0 then s
    else if (conformOf s b).unknown then unknownStop b s
    else if (berthOf s b).state = 0 ∨ (berthOf s b).state = 5 then
      if ws = [] then s else raiseUnknown b 4 id s
    else if ws = [] ∧ mode ≠ 2 then s
    else if unknownDue b (!ws.isEmpty) s then raiseUnknown b (conformOf s b).lastBad id s
    else s)

/-- WATCHING_START (R420, R432, R436): a transit begins to watch its berth. -/
def execWatchingStart (id : Nat) (s : State) : Result :=
  done (match transitOf s id with
    | none => s
    | some t =>
      match t.owner with
      | none => s
      | some b =>
        if watches t b (stMs s) s = false then s
        else
          let others := (watchers b (stMs s) s).any (fun x => transitId x != id)
          let s1 := modConform b (fun c => { c with
            watching := true
            watchSince := if c.watching = true ∧ others = true then c.watchSince else s.tb.gtc }) s
          if ((berthOf s b).state = 0 ∨ (berthOf s b).state = 5) ∧ (conformOf s b).unknown = false ∧
              (trBerthOf s b).1 ≠ 0 ∧ s.pwr.state ≠ 2 then raiseUnknown b 4 id s1
          else s1)

end Sys2Proof.Machine
end

