-- ==== Sys2Proof/Machine/Corr.lean ====
section
/-!
DEFINITION. Sys2Proof/Machine/Corr.lean: station position and corrections (chapter 6): the survey, the correction set, the RTCM
outputs, the self-check, the integrity word, the station epoch as a whole, and the commands of group 0x05.
-/
namespace Sys2Proof.Machine
open Sys2Proof

/-- Changes the station corrections of the member. -/
def modCorr (f : Corr → Corr) (s : State) : State := { s with corr := f s.corr }

/-- Changes the replicated station settings. -/
def modStation (f : CorrSet6 → CorrSet6) (s : State) : State := { s with repl := { s.repl with corr := f s.repl.corr } }

/-- ECEF coordinates in bytes. -/
def ecefBytes (p : Ecef) : List Byte := leInt 8 p.x ++ leInt 8 p.y ++ leInt 8 p.z

/-- The difference of two points. -/
def ecefSub (a b : Ecef) : Ecef := ⟨a.x - b.x, a.y - b.y, a.z - b.z⟩

/-- The square of a distance, in (0.1 mm)^2. -/
def ecefNorm2 (a : Ecef) : Nat := (a.x * a.x + a.y * a.y + a.z * a.z).toNat

/-! ### Survey (R227 to R230) -/

/-- How long a survey has run, ns. -/
def surveyNs (s : State) (v : Survey) : Nat := if v.running then sinceNs s v.elapsedSince else 0

/-- The whole seconds that a survey has run. -/
def surveySeconds (s : State) (v : Survey) : Nat := surveyNs s v / sec

/-- The time that divides the spread, ns: at least a minute (R227). -/
def surveyMinute (s : State) (v : Survey) : Nat := max (60 * sec) (surveyNs s v)

/-- The survey sigma in mm, rounded down and saturating; the highest value before two solutions (R227). -/
def surveySigma (s : State) (v : Survey) : Nat :=
  if v.n < 2 then 0xFFFFFFFF
  else min (isqrt 128 (v.spread * (60 * sec) / (surveyMinute s v * (v.n * (v.n - 1)))) 0 / 10) 0xFFFFFFFF

/-- Whether the sigma is at or below a target in mm, exactly (R227, R228). -/
def sigmaMet (s : State) (v : Survey) (target : Nat) : Bool :=
  decide (2 ≤ v.n) && decide (v.spread * (60 * sec) ≤ (10 * target) * (10 * target) * (surveyMinute s v * (v.n * (v.n - 1))))

/-- CORR_SURVEY (Table 6-11). -/
def corrSurvey (result : Nat) (adopted : Bool) (v : Survey) (s : State) : State :=
  emit 0xC501 40 (leBytes 1 result ++ leBytes 1 (flag adopted) ++ zeros 2 ++ leBytes 4 (min (surveySeconds s v) 0xFFFFFFFF)
    ++ leBytes 4 (surveySigma s v) ++ ecefBytes v.mean) s

/-- A survey that begins now. -/
def newSurvey (s : State) : Survey := { Survey.zero with
  running := true
  elapsedSince := s.tb.gtc }

/-- A survey restarts from zero, which is reported (R230). -/
def surveyRestart (s : State) : State :=
  if s.repl.corr.mode = 0 then modCorr (fun c => { c with survey := newSurvey s }) (corrSurvey 2 false s.corr.survey s) else s

/-- A survey is aborted at SLEEP entry (R230). -/
def surveyAbort (s : State) : State :=
  if s.corr.survey.running then modCorr (fun c => { c with survey := Survey.zero }) (corrSurvey 3 false s.corr.survey s) else s

/-- One valid PVT solution enters a survey (R227): the running mean and the spread of the coordinates about it. -/
def surveyAdd (p : Ecef) (v : Survey) : Survey :=
  let o := if v.n = 0 then p else v.origin
  let d := ecefSub p o
  let n := v.n + 1
  let sum : Ecef := ⟨v.sum.x + d.x, v.sum.y + d.y, v.sum.z + d.z⟩
  let sq : Ecef := ⟨v.sq.x + d.x * d.x, v.sq.y + d.y * d.y, v.sq.z + d.z * d.z⟩
  let one (q m : Int) : Int := (n : Int) * q - m * m
  { v with
    n := n
    origin := o
    sum := sum
    sq := sq
    mean := ⟨o.x + roundDiv sum.x n, o.y + roundDiv sum.y n, o.z + roundDiv sum.z n⟩
    spread := (one sq.x sum.x + one sq.y sum.y + one sq.z sum.z).toNat }

/-- A survey with the epoch's solution, if there is one. -/
def surveyWith (p : Option Ecef) (v : Survey) : Survey := match p with
  | none => v
  | some p => surveyAdd p v

/-- Whether a survey completes at this epoch (R228). -/
def surveyCompletes (s : State) (v : Survey) : Bool :=
  v.running && !v.completed && decide (s.repl.corr.minDur ≤ surveySeconds s v) && sigmaMet s v s.repl.corr.target

/-- CORR_POSITION (Table 6-11). -/
def corrPosition (cause m : Nat) (p : Ecef) (s : State) : State :=
  emit 0xC506 40 (leBytes 1 cause ++ leBytes 1 m ++ zeros 2 ++ ecefBytes p) s

/-- The reference position changes (R217, R245 bit 8); the first change after an epoch instant is noted (R224). -/
def setReference (p : Ecef) (s : State) : State :=
  modCorr (fun c => { c with
    changed := some s.tb.gtc
    refWas := noteWas s c.refWas s.repl.corr.refPos }) (modStation (fun c => { c with refPos := some p }) s)

/-- The mean of a survey becomes the reference position and is kept as the result (R228); a position that a command has set since the last
epoch prevails (R231). -/
def takeMean (v : Survey) (s : State) : State :=
  let s1 := modStation (fun c => { c with result := some v.mean }) s
  match s.corr.cmdPos with
  | some p => setReference p s1
  | none => corrPosition 1 0xFF v.mean (setReference v.mean s1)

/-- The survey is adopted: the mean becomes the reference position, the mode requested and in force FIXED (R228, R229). -/
def surveyAdopt (result : Nat) (s : State) : State :=
  let s1 := takeMean s.corr.survey (corrSurvey result true s.corr.survey s)
  modeChange 40 7 0 1 0 (modStation (fun c => { c with mode := 1 }) (modCorr (fun c => { c with
    modeReq := 1
    survey := { c.survey with running := false } }) s1))

/-- A survey that a CORR_MODE_SET has replaced since the last epoch: its completion is evaluated first, then the command's mode holds (R231). -/
def surveyClosing (p : Option Ecef) (s : State) : State :=
  match s.corr.closing with
  | none => s
  | some v0 =>
    let v := surveyWith p v0
    let t := modCorr (fun c => { c with closing := none }) s
    if surveyCompletes s v = false ∨ s.pair.role = 2 then t
    else if s.repl.corr.adopt then takeMean v (corrSurvey 0 true v t)
    else modStation (fun c => { c with result := some v.mean }) (corrSurvey 0 false v t)

/-- The survey at an epoch, with its valid PVT solution reduced to port A's ARP (R227 to R229). A STANDBY adopts nothing: it runs what the
active member commits (R216). -/
def surveyEpoch (p : Option Ecef) (s : State) : State :=
  if s.repl.corr.mode ≠ 0 ∨ s.corr.survey.completed = true then s
  else
    let s0 := if s.corr.survey.running then s else modCorr (fun c => { c with survey := newSurvey s }) s
    let s1 := modCorr (fun c => { c with survey := surveyWith p c.survey }) s0
    let v := s1.corr.survey
    let c := s1.repl.corr
    if surveyCompletes s1 v then
      if c.adopt = true ∧ s1.pair.role ≠ 2 then surveyAdopt 0 s1
      else modStation (fun c => { c with result := if s1.pair.role = 2 then c.result else some v.mean })
        (modCorr (fun c => { c with survey := { c.survey with completed := true } }) (corrSurvey 0 false v s1))
    else if c.maxDur ≤ surveySeconds s1 v ∧ v.limitReported = false then
      if c.adoptLimit = true ∧ s1.pair.role ≠ 2 ∧ 1 ≤ v.n then surveyAdopt 1 s1
      else modCorr (fun c => { c with survey := { c.survey with limitReported := true } }) (corrSurvey 1 false v s1)
    else s1

/-! ### Corrections port and correction set (R223, R234) -/

/-- The corrections port that R223 asks for at the epoch instant; the present one while no port was in DATA (R224). -/
def wantedPort (s : State) : Nat := ((epochPorts s).head?).getD s.corr.port

/-- A change of the corrections port (R223, R230, R242). -/
def corrPortStep (s : State) : State :=
  let p := wantedPort s
  if p = s.corr.port then s
  else
    let s1 := emit 0xC505 40 (leBytes 1 s.corr.port ++ leBytes 1 p ++ zeros 2) s
    let s2 := modCorr (fun c => { c with
      port := p
      changed := some s.tb.gtc
      portSince := some s.tb.gtc
      stationDue := true }) s1
    surveyRestart s2

/-- Whether a satellite serves corrections: not excluded at the epoch instant, its slot known (R183, R199, R224). -/
def servesCorr (s : State) (x : Sat) : Bool := causesAt s x == 0 && x.id % 256 != 0

/-- Whether a satellite may be published: not excluded, at or above the corrections elevation mask (R234). -/
def publishable (s : State) (sat : Nat) : Bool := servesCorr s (satOf s sat) && aboveMask s.repl.corr.elMask (satOf s sat)

/-- An observable with the phase-centre offset of its band removed, so that it refers to the ARP, (R236, R262). -/
def reduced (s : State) (e : ObsEntry) : ObsEntry :=
  let d := roundDiv (dot3 (pcoOf s e.port (signalOf e.sig).band) (satOf s e.sat).u) (2 ^ 30)
  { e with
      pseudorange := ((e.pseudorange : Int) + d).toNat
      phase := e.phase + roundDiv (d * (carrierHz e.sig e.k : Int) * 65536) 2997924580000 }

/-- The correction set of an epoch: the observables of the corrections port with a valid pseudorange, lock times counted from
the last change of port (R223, R234). SBAS is not published (Table 6-2). -/
def correctionSet (s : State) (es : List ObsEntry) : List ObsEntry :=
  (es.filter (fun e => e.port == s.corr.port && bit e.flags 0 && publishable s e.sat && e.sat / 256 != 6)).map (fun e =>
    { e with lock := match s.corr.portSince with
        | none => e.lock
        | some t => min e.lock (sinceNs s t / 10000000) })

/-- The whole cycles of a cell at an epoch, and whether they are those it had: kept until a slip or until the phase has drifted from the
pseudorange by 2^-9 ms (R234; log entry 33). -/
def alignNext (s : State) (e : ObsEntry) : Int × Bool :=
  match s.corr.aligns.find? (fun a => a.sat == e.sat && a.sig == e.sig) with
  | none => (alignCycles e, true)
  | some a =>
    if bit e.flags 3 then (alignCycles e, true)
    else if (phaseRange e a.cycles - (e.pseudorange * 2 ^ 31 / lightMs : Nat)).natAbs < 2 ^ 22 then (a.cycles, true)
    else (alignCycles e, false)

/-- The set with its whole cycles noted; a cell whose cycles change counts its lock time anew. -/
def alignSet (set : List ObsEntry) (s : State) : List ObsEntry × State :=
  (set.map (fun e => if (alignNext s e).2 then e else { e with lock := 0 }),
    modCorr (fun c => { c with aligns := (set.filter (fun e => bit e.flags 1)).map (fun e => ⟨e.sat, e.sig, (alignNext s e).1⟩) }) s)

/-- How many satellites a list of entries names. -/
def satCount (es : List ObsEntry) : Nat := ((es.map (fun e => e.sat)).eraseDups).length

/-- The baseline engine keeps the correction set of the epoch among those of the last 40 (R263, R266). -/
def keepSet (es : List ObsEntry) (word : Nat) (s : State) : State :=
  let e := s.tb.st / 50000000
  let c : CorrSet := ⟨e, s.gnss.epoch, s.tb.gtc, wasData s s.corr.port && decide (5 ≤ satCount es), word, s.corr.port,
    s.gnss.clockBias, es⟩
  { s with bl := { s.bl with sets := c :: s.bl.sets.filter (fun x => decide (e < x.epoch + 40 ∧ x.epoch < e)) } }

/-! ### RTCM messages (R232 to R239) -/

/-- The message settings of an output: 0 host stream, 1 air. -/
def msgSet (s : State) (o : Nat) : MsgSet := nth s.repl.corr.msgs o MsgSet.zero

/-- Whether an interval in seconds falls due at this epoch (Table 6-2). -/
def intervalDue (s : State) (n : Nat) : Bool :=
  n != 0 && s.tb.st / 50000000 % 20 == 0 && s.tb.st / sec % n == 0

/-- The cells of an MSM on an output. -/
def msmCells (s : State) (o sys : Nat) (es : List ObsEntry) : List ObsEntry :=
  es.filter (fun e => e.sat / 256 == sys && bit (msgSet s o).sigMask (signalBit e.sig))

/-- The MSM messages due at an epoch on an output: number and system. -/
def msmDue (s : State) (o : Nat) : List (Nat × Nat) :=
  let m := msgSet s o
  if m.rate ≠ 0 ∧ s.tb.st / 50000000 % (20 / m.rate) = 0 then
    ((List.range 5).filter (fun i => bit m.msm i)).map (fun i => nth msmSystems i (0, 0))
  else []

/-- When the last ephemeris message of a satellite went to an output. -/
def ephemLast (e : EphemSat) (o : Nat) : Option Gtc := if o = 0 then e.host else e.air

/-- The satellite whose ephemeris goes out next on an output: the first one due after the last sent, in turn (R239). -/
def ephemDue (s : State) (o : Nat) : Option Nat :=
  let m := msgSet s o
  let turn := if o = 0 then s.corr.turnHost else s.corr.turnAir
  let l := (s.corr.ephem.filter (fun e => match ephemLast e o with
    | none => true
    | some t => decide (m.ephInt * sec ≤ sinceNs s t))).map (fun e => e.sat)
  let l := l.filter (fun x => (satOf s x).eph.isSome)
  if bit m.flags 1 = false then none
  else match l.find? (fun x => decide (turn < x)) with
    | some x => some x
    | none => l.head?

/-- The messages due at an epoch on an output: number, satellite, frame. In SURVEY only MSM, 1033 and 1230 leave, and only to the
host (Table 6-1). -/
def dueMessages (s : State) (o : Nat) (es : List ObsEntry) : List (Nat × Nat × List Byte) :=
  let m := msgSet s o
  let known := s.repl.corr.mode != 0
  let msm := msmDue s o
  let station := if bit m.flags 0 then 1005 else 1006
  let cells := msm.flatMap (fun x => (msmChunks (msmCells s o x.2 es)).map (fun l => (x.1, x.2, l)))
  (List.range cells.length).map (fun i =>
    let x := nth cells i (0, 0, [])
    (x.1, 0, rtcmFrame (msmMessage s x.1 x.2.1 (decide (i + 1 < cells.length)) x.2.2)))
  ++ (if known && (intervalDue s m.stationInt || s.corr.stationDue) then [(station, 0, rtcmFrame (stationMessage s station))] else [])
  ++ (if intervalDue s m.descInt then [(1033, 0, rtcmFrame (descriptorMessage s))] else [])
  ++ (if intervalDue s m.biasInt then [(1230, 0, rtcmFrame (biasMessage s))] else [])
  ++ (if known then match ephemDue s o with
      | none => []
      | some x => [(ephemNumber x, x, rtcmFrame (ephemMessage s x))]
    else [])

/-- Notes that the ephemeris of a satellite went to an output. -/
def noteEphem (o : Nat) (l : List (Nat × Nat × List Byte)) (s : State) : State :=
  match l.find? (fun m => m.2.1 != 0) with
  | none => s
  | some m => modCorr (fun c => { c with
      ephem := c.ephem.map (fun e => if e.sat = m.2.1 then (if o = 0 then { e with host := some s.tb.gtc }
        else { e with air := some s.tb.gtc }) else e)
      turnHost := if o = 0 then m.2.1 else c.turnHost
      turnAir := if o = 0 then c.turnAir else m.2.1 }) s

/-- The host stream: one packet per message, a whole epoch or none (R238, Table 6-5). -/
def publishHost (es : List ObsEntry) (s : State) : State :=
  let l := dueMessages s 0 es
  if s.corr.queue = 255 ∨ l = [] then s
  else
    let r := sqDevice s.corr.queue (l.map (fun m => leBytes 8 (epochGtc s).toNat ++ leBytes 4 s.gnss.epoch ++ leBytes 2 s.corr.word ++ leBytes 2 m.1
      ++ m.2.2)) s
    let t := noteEphem 0 l r.2
    if r.1 then t else modCorr (fun c => { c with dropped := satAdd 32 c.dropped 1 }) t

/-- One message is handed to the MAC; one of the same number and satellite that has not gone on air is superseded (R239). -/
def handAir (m : Nat × Nat × List Byte) (s : State) : State :=
  let old (x : AirMsg) : Bool := x.number == m.1 && x.sat == m.2.1 && x.epoch != s.gnss.epoch
  modCorr (fun c => { c with
    superseded := satAdd 32 c.superseded (c.air.filter (fun x => old x && x.sent == 0)).length
    air := c.air.filter (fun x => !old x) ++ [⟨m.1, m.2.1, m.2.2, s.gnss.epoch, 0⟩] }) s

/-- Whether messages go to the air: FIXED, an active or SOLO member in SERVE, not NAP (Table 6-1, R240). -/
def airPublishes (s : State) : Bool :=
  s.repl.corr.mode == 1 && s.pair.role != 2 && s.modes.radio == 2 && s.pwr.state ≤ 1

/-- The due messages leave on both outputs (R238, R239). -/
def publish (es : List ObsEntry) (s : State) : State :=
  let s1 := publishHost es s
  let s2 := if airPublishes s then
      let l := dueMessages s 1 es
      noteEphem 1 l (l.foldl (fun t m => handAir m t) s1) else s1
  modCorr (fun c => { c with stationDue := false }) s2

/-! ### Self-check (R241 to R244) -/

/-- The satellites that a port's baseline uses: in the correction set, their phase valid on both ports (R241). -/
def baselineSats (set es : List ObsEntry) (k : Nat) : Nat :=
  satCount (set.filter (fun e => bit e.flags 1 && (entryOf es e.sat e.sig k).any (fun x => bit x.flags 1)))

/-- |b_fixed - b_cal| of a port, 0.1 mm: the solved baseline against the plate, ARP to ARP (R241). -/
def plateError (s : State) (b : BaseIn) : Nat :=
  len3 (sub3 (scale3 10 (b.e, b.n, b.u)) (sub3 (plateOf s b.port) (plateOf s s.corr.port))) / 10

/-- e[k] of a port (R241): none unless the baseline is evaluated, fixed and fits. -/
def baselineError (s : State) (set es : List ObsEntry) (bs : List BaseIn) (k : Nat) : Option Nat :=
  match bs.find? (fun b => b.port == k) with
  | none => none
  | some b =>
    if k ≠ s.corr.port ∧ wasData s k = true ∧ s.corr.scMinSat ≤ baselineSats set es k ∧ s.corr.scRatio ≤ b.ratio ∧ b.rms ≤ 10 then
      some (plateError s b)
    else none

/-- e[k] for the three ports other than the corrections port, in port order. -/
def otherErrors (c : Corr) : List Byte :=
  ((List.range 4).filter (fun k => k != c.port)).flatMap (fun k => leBytes 2 (match nth c.e k none with
    | none => 0xFFFF
    | some v => min v 0xFFFE))

/-- The self-check state moves, which is reported (R242). -/
def scMove (new : Nat) (s : State) : State :=
  if s.corr.scState = new then s
  else
    modCorr (fun c => { c with
      scState := new
      scFail := 0
      scOk := 0
      scLow := 0 })
    (emit 0xC502 40 (leBytes 1 s.corr.scState ++ leBytes 1 new ++ leBytes 1 s.corr.port ++ zeros 1 ++ otherErrors s.corr ++ zeros 2) s)

/-- The self-check at an epoch (R241 to R243). Epochs that are neither failing nor clear leave the count of clear epochs as it
is (R243; log entry 22). -/
def selfCheck (set es : List ObsEntry) (bs : List BaseIn) (s : State) : State :=
  let e := (List.range 4).map (fun k => baselineError s set es bs k)
  let vals := e.filterMap id
  let fails := vals.any (fun v => decide (s.corr.scThreshold * 10 < v))
  let clear := decide (2 ≤ vals.length) && vals.all (fun v => decide (v < 8 * s.corr.scThreshold))
  let s1 := modCorr (fun c => { c with
    e := e
    scFail := if fails then c.scFail + 1 else 0
    scOk := if clear then c.scOk + 1 else if fails then 0 else c.scOk
    scLow := if vals.length < 2 then c.scLow + 1 else 0 }) s
  if s1.corr.scHold ≤ s1.corr.scFail then scMove 2 s1
  else if s1.corr.scClear ≤ s1.corr.scOk then scMove 1 s1
  else if 20 ≤ s1.corr.scLow ∧ s1.corr.scState ≠ 2 then scMove 0 s1
  else s1

/-- A change of the corrections port returns the self-check to NOT_EVALUATED unless FAIL holds (R242). -/
def scPortChange (old : Nat) (s : State) : State :=
  if s.corr.port = old ∨ s.corr.scState = 2 then s
  else modCorr (fun c => { c with
    scOk := 0
    scLow := 0 }) (scMove 0 s)

/-- Withholding under reaction 0x09 (R244, R25). -/
def withholdStep (s : State) : State :=
  let w := armed s 9 && s.corr.scState == 2
  let s1 := if w = s.corr.withheld then s
    else emit 0xC504 40 (leBytes 1 (flag w) ++ zeros 3 ++ leBytes 4 s.gnss.epoch) s
  modCorr (fun c => { c with
    withheld := w
    withheldEpochs := if w then satAdd 32 c.withheldEpochs 1 else c.withheldEpochs }) s1

/-! ### Integrity (R245 to R247) -/

/-- The station integrity word (Table 6-7), with INTEGRITY_LOST as given. -/
def integrityWord (s : State) (lost : Bool) : Nat :=
  let c := s.corr
  bitsOf [c.scState == 2, c.scState == 0, c.withheld, (List.range 4).any (fun b => (bandOf s (4 * c.port + b)).raised),
    s.gnss.arrayFlag, s.tb.state != 1, c.port != 0, s.repl.corr.mode == 0,
    c.changed.any (fun t => decide (sinceNs s t < 60 * sec)), decide (c.timeSats < 6) || !c.timeValid, lost]

/-- The evaluation of loss of station integrity at an epoch (R246, R247). -/
def integrityStep (s : State) : State :=
  let hit := Nat.land (integrityWord s s.corr.lost) s.corr.inMask != 0
  let n := if hit then s.corr.inCount + 1 else 0
  let z := if hit then 0 else s.corr.inZero + 1
  let lost := if s.corr.lost then decide (z < s.corr.inClear) else decide (s.corr.inHold ≤ n)
  let s1 := modCorr (fun c => { c with
    inCount := n
    inZero := z
    lost := lost
    word := integrityWord s lost }) s
  let s2 := if lost = s.corr.lost then s1
    else emit 0xC503 40 (leBytes 1 (flag lost) ++ leBytes 1 (flag (lost && armed s 6)) ++ leBytes 2 s1.corr.word
      ++ leBytes 2 s.corr.inMask ++ zeros 2) s1
  evalLasting 8 40 lost s2

/-! ### The station epoch -/

/-- A new issue of ephemeris data of a satellite is due on both outputs (R232). -/
def newEphem (sat : Nat) (s : State) : State :=
  modCorr (fun c => { c with
    ephem := c.ephem.filter (fun e => decide (e.sat < sat)) ++ [⟨sat, none, none⟩] ++ c.ephem.filter (fun e => decide (sat < e.sat)) }) s

/-- The measurements of the time solution: on the corrections port, one valid pseudorange of every satellite that is not excluded, stands
above the mask and has a healthy ephemeris (R225). While no position is known no elevation is, and the mask does not apply. -/
def timeMeasures (s : State) (es : List ObsEntry) : List RangeMeas :=
  let mine := es.filter (fun e => e.port == s.corr.port && bit e.flags 0)
  (((mine.map (fun e => e.sat)).eraseDups).filter (fun sat =>
    let x := satOf s sat
    servesCorr s x && x.healthy && x.eph.isSome && (aboveMask s.repl.corr.elMask x || (stationPoint s).isNone))).map (fun sat =>
      let x := satOf s sat
      ⟨sat, (((mine.find? (fun e => e.sat == sat)).map (fun e => (e.pseudorange : Int))).getD 0) + x.corr, x.pos⟩)

/-- The phase centre of the corrections port in L1 from port A's ARP, as ECEF at a point (R225). -/
def leverArm (s : State) (p : Ecef) : V3 := gridToEcef s p (add3 (plateOf s s.corr.port) (scale3 10 (pcoOf s s.corr.port 0)))

/-- The position and clock of the corrections port from a set of measurements (R225). -/
def portSolution (s : State) (ms : List RangeMeas) : Option Solution :=
  let start := match s.corr.lastPos with
    | some p => p
    | none => (s.repl.corr.refPos).getD ⟨0, 0, 0⟩
  solveOnce (fun l => solvePosition start l) ms

/-- A solved position of the corrections port reduced to the ARP of port A (R225, R227). -/
def reduceToA (s : State) (x : Solution) : Ecef := vEcef (sub3 (ecefV x.pos) (leverArm s x.pos))

/-- The time solution of an epoch: the clock at the held position, in SURVEY the position and clock (R225, Table 6-1). -/
def clockSolution (s : State) (ms : List RangeMeas) : Option Solution :=
  if s.repl.corr.mode = 0 then portSolution s ms
  else (refAt s).bind (fun p => solveOnce (fun _ => some (vEcef (add3 (ecefV p) (leverArm s p)))) ms)

/-- A clock term in 0.1 mm as 0.1 ns, within the field of Table 5-10. -/
def clockTenths (v : Int) : Int := clampInt (-2147483648) 2147483647 (roundDiv (v * 1000000) 299792458)

/-- The time solution with its offset sample for the servo (R225, Table 4-2), and the check position. -/
def timeSolution (es : List ObsEntry) (s : State) : State :=
  let ms := timeMeasures s es
  let t := clockSolution s ms
  let chk := (portSolution s ms).map (reduceToA s)
  let s1 := modCorr (fun c => { c with
    timeValid := t.isSome
    timeSats := (t.map (fun x => x.sats)).getD 0
    checkPos := chk
    lastPos := if chk.isSome then chk else c.lastPos }) s
  let s2 := match t with
    | none => s1
    | some x => modGnss (fun g => { g with clockBias := clockTenths x.clock }) s1
  awaitSample 1 ⟨t.isSome, (t.map (fun x => x.sats)).getD 0, (t.map (fun x => roundDiv (x.clock * 1000000) 2997924580)).getD 0, false⟩ s2

/-- What the epoch's navigation data bring beside directions: ephemeris messages that fall due (R232), UTC (R141). -/
def takeMessages (x : EpochIn) (s : State) : State :=
  let s1 := (x.nav.filter (fun n => n.issue.isSome && satValid n.sat && n.sat / 256 != 6)).foldl (fun t n => newEphem n.sat t) s
  match x.utc with
  | none => s1
  | some u => { s1 with tb := { s1.tb with utcNav := some u } }

/-- Chapter 6 at a station epoch, in the order of its list: time solution, survey, correction set, messages, self-check, word. The
messages leave once the self-check has judged the set, under the epoch's own word (R238, R244). -/
def corrEpoch (x : EpochIn) (es : List ObsEntry) (s : State) : State :=
  let s0 := scPortChange s.corr.port (corrPortStep (takeMessages x s))
  let s1 := timeSolution es s0
  let pvt := if s1.corr.timeValid then s1.corr.checkPos else none
  let s2 := modCorr (fun c => { c with cmdPos := none }) (surveyEpoch pvt (surveyClosing pvt s1))
  let full := correctionSet s2 es
  let set := alignSet (if s2.repl.corr.reduce then full.map (reduced s2) else full) s2
  let s3 := integrityStep (withholdStep (selfCheck set.1 es x.bases set.2))
  let s4 := keepSet (full.map (reduced s3)) s3.corr.word s3
  if s4.corr.withheld then s4 else publish set.1 s4

/-- Whether a station epoch can be handled: the GNSS path is on, and no epoch of this ST was handled yet (R196, Table 1-11). -/
def epochDue (s : State) : Bool :=
  s.pwr.state ≤ 2 && domOn s 4 && s.gnss.lastEpoch != some (s.tb.st / 50000000)

/-- OBS_RECORD_COMPLETE (R196): the station epoch through the GNSS path and the station corrections. -/
def execObsRecordComplete (x : EpochIn) (s : State) : Result :=
  done (if epochDue s then corrEpoch x (gnssEpoch x s).1 (gnssEpoch x s).2 else s)

/-! ### Commands of group 0x05 -/

/-- The request layout of CORR_MODE_SET with the settings in force. -/
def modePayload (s : State) : List Byte :=
  let c := s.repl.corr
  leBytes 1 c.mode ++ leBytes 1 (bitsOf [c.adopt, c.adoptLimit]) ++ zeros 2 ++ leBytes 4 c.minDur ++ leBytes 4 c.maxDur
    ++ leBytes 4 c.target

/-- The commit of CORR_MODE_SET (R216, R230). A survey that it replaces is kept for the next epoch's evaluation (R231). -/
def commitCorrMode (r : Req) (s : State) : State :=
  let p := r.payload
  let same := modePayload s == p
  let s1 := modStation (fun c => { c with
    mode := u8 p 0
    adopt := bit (u8 p 1) 0
    adoptLimit := bit (u8 p 1) 1
    minDur := u32 p 4
    maxDur := u32 p 8
    target := u32 p 12 }) s
  let s1 := modCorr (fun c => { c with
    modeReq := u8 p 0
    closing := if s.repl.corr.mode = 0 ∧ c.survey.running = true then some c.survey else c.closing }) s1
  let s2 := if u8 p 0 ≠ 0 then modCorr (fun c => { c with survey := { c.survey with running := false } }) s1
    else if s.repl.corr.mode = 0 then surveyRestart s1
    else modCorr (fun c => { c with survey := newSurvey s }) s1
  reply r 0x0501 (if same = true ∧ u8 p 0 ≠ 0 then 0x0102 else 0) (modePayload s2) s2

/-- CORR_MODE_SET (R214 to R216). -/
def execCorrModeSet (r : Req) (s : State) : Result :=
  let p := r.payload
  done (runCommand 0x0501 true r (fun s =>
    checked (p.length == 16) (bitsBelow (u8 p 1) 2 && zeroAt p 2 2)
      (u8 p 0 ≤ 2 && within (u32 p 4) 60 86400 && within (u32 p 8) (u32 p 4) 604800 && within (u32 p 12) 10 10000) true
      (notStandby s ++ failIf (u8 p 0 != 0 && s.repl.corr.refPos.isNone) 0x8505) s
      (fun s => .later (hold r.master (.command 0x0501 r) s))) s)

/-- The point of three ECEF fields. -/
def ecefAt (p : List Byte) (o : Nat) : Ecef := ⟨iN 8 p o, iN 8 p (o + 8), iN 8 p (o + 16)⟩

/-- The position that CORR_POSITION_SET names. -/
def positionOf (p : List Byte) (s : State) : Option Ecef := if bit (u8 p 26) 1 then s.repl.corr.result else some (ecefAt p 0)

/-- Whether a distance from the Earth's centre is allowed (R218). -/
def earthOk (a : Ecef) : Bool := within (ecefNorm2 a) (63000000000 * 63000000000) (64500000000 * 64500000000)

/-- Whether two points lie further apart than a limit in m. -/
def apart (a b : Ecef) (m : Nat) : Bool := decide ((m * 10000) * (m * 10000) < ecefNorm2 (ecefSub a b))

/-- Whether any transit or keep-out zone is held (R221). -/
def gridInUse (s : State) : Bool := !s.repl.tr.transits.isEmpty || !s.repl.tr.zones.isEmpty

/-- The request layout of CORR_POSITION_SET with the settings in force. -/
def positionPayload (p : List Byte) (s : State) : List Byte :=
  (match s.repl.corr.refPos with
    | none => zeros 24
    | some a => ecefBytes a) ++ leBytes 2 s.repl.corr.height ++ sub p 26 6

/-- The commit of CORR_POSITION_SET (R216, R231). -/
def commitCorrPosition (r : Req) (s : State) : State :=
  let p := r.payload
  match positionOf p s with
  | none => reply r 0x0502 0x8505 [] s
  | some a =>
    let s1 := modStation (fun c => { c with height := u16 p 24 }) (setReference a s)
    let s2 := modCorr (fun c => { c with cmdPos := some a }) (corrPosition 0 r.master a s1)
    reply r 0x0502 0 (positionPayload p s2) s2

/-- CORR_POSITION_SET (R218, R219, R221). -/
def execCorrPositionSet (r : Req) (s : State) : Result :=
  let p := r.payload
  done (runCommand 0x0502 true r (fun s =>
    let a := positionOf p s
    checked (p.length == 32) (bitsBelow (u8 p 26) 2 && zeroAt p 27 1 && zeroAt p 30 2)
      (within (u16 p 28) 10 1000 && a.all earthOk) true
      (notStandby s ++ failIf a.isNone 0x8505
        ++ failIf (s.modes.radio == 2 && s.repl.ecl.state == 0) 0x2002
        ++ failIf (s.repl.corr.originMode == 0 && gridInUse s && a != s.repl.corr.refPos) 0x8502
        ++ failIf (!bit (u8 p 26) 0 && (match a, s.corr.checkPos with
            | some x, some y => apart x y (u16 p 28)
            | _, _ => false)) 0x8501) s
      (fun s => .later (hold r.master (.command 0x0502 r) s))) s)

/-- The request layout of CORR_ORIGIN_SET with the settings in force. -/
def originPayload (s : State) : List Byte := leBytes 1 s.repl.corr.originMode ++ zeros 3 ++ ecefBytes s.repl.corr.origin

/-- The commit of CORR_ORIGIN_SET (R220). In origin mode 0 the coordinates are not used. -/
def commitCorrOrigin (r : Req) (s : State) : State :=
  let p := r.payload
  let s1 := modStation (fun c => { c with
    originMode := u8 p 0
    origin := if u8 p 0 = 1 then ecefAt p 4 else c.origin }) s
  reply r 0x0503 (changed (originPayload s == originPayload s1)) (originPayload s1) s1

/-- CORR_ORIGIN_SET (R220, R221). -/
def execCorrOriginSet (r : Req) (s : State) : Result :=
  let p := r.payload
  done (runCommand 0x0503 true r (fun s =>
    checked (p.length == 28) (zeroAt p 1 3) (u8 p 0 ≤ 1) true
      (notStandby s ++ failIf (gridInUse s) 0x8502
        ++ failIf (u8 p 0 == 1 && s.repl.corr.refPos.any (fun a => apart (ecefAt p 4) a 50000)) 0x8503) s
      (fun s => .later (hold r.master (.command 0x0503 r) s))) s)

/-- The message settings that CORR_MSG_SET carries. -/
def msgOf (p : List Byte) : MsgSet := ⟨u8 p 1, u8 p 2, u8 p 3, u16 p 4, u16 p 6, u16 p 8, u16 p 10, u32 p 12⟩

/-- The request layout of CORR_MSG_SET with the settings in force. -/
def msgPayload (o : Nat) (s : State) : List Byte :=
  let m := msgSet s o
  leBytes 1 o ++ leBytes 1 m.msm ++ leBytes 1 m.rate ++ leBytes 1 m.flags ++ leBytes 2 m.stationInt ++ leBytes 2 m.descInt
    ++ leBytes 2 m.biasInt ++ leBytes 2 m.ephInt ++ leBytes 4 m.sigMask ++ leBytes 1 s.repl.corr.elMask ++ zeros 3

/-- The commit of CORR_MSG_SET: output 0 sets the elevation mask for both (Table 6-10). -/
def commitCorrMsg (r : Req) (s : State) : State :=
  let p := r.payload
  let o := u8 p 0
  let s1 := modStation (fun c => { c with
    msgs := modNth c.msgs o (fun _ => msgOf p)
    elMask := if o = 0 then u8 p 16 else c.elMask }) s
  reply r 0x0504 (changed (msgPayload o s == msgPayload o s1)) (msgPayload o s1) s1

/-- CORR_MSG_SET (R238). -/
def execCorrMsgSet (r : Req) (s : State) : Result :=
  let p := r.payload
  done (runCommand 0x0504 true r (fun s =>
    checked (p.length == 20) (bitsBelow (u8 p 3) 2 && zeroAt p 17 3)
      (u8 p 0 ≤ 1 && u8 p 1 ≤ 0x1F && [0, 1, 2, 5, 10, 20].contains (u8 p 2) && within (u16 p 4) 1 300 && u16 p 6 ≤ 300
        && u16 p 8 ≤ 300 && within (u16 p 10) 10 3600 && bitsBelow (u32 p 12) 18 && u8 p 16 ≤ 30) true (notStandby s) s
      (fun s => .later (hold r.master (.command 0x0504 r) s))) s)

/-- Whether 32 bytes hold 0 to 31 ASCII characters, zero-padded (Table 6-10). -/
def asciiField (b : List Byte) : Bool :=
  let t := b.dropWhile (fun x => x != 0)
  b.length == 32 && !t.isEmpty && t.all (fun x => x == 0) && b.all (fun x => decide (x.toNat < 128))

/-- The request layout of CORR_STATION_SET with the settings in force. -/
def stationPayload (s : State) : List Byte :=
  let c := s.repl.corr
  leBytes 2 c.stationId ++ leBytes 1 c.itrf ++ leBytes 1 (flag c.reduce) ++ leBytes 1 c.setupId ++ zeros 3 ++ c.antenna ++ c.serial

/-- The commit of CORR_STATION_SET (R237). -/
def commitCorrStation (r : Req) (s : State) : State :=
  let p := r.payload
  let s1 := modStation (fun c => { c with
    stationId := u16 p 0
    itrf := u8 p 2
    reduce := bit (u8 p 3) 0
    setupId := u8 p 4
    antenna := sub p 8 32
    serial := sub p 40 32 }) s
  reply r 0x0505 (changed (stationPayload s == stationPayload s1)) (stationPayload s1) s1

/-- CORR_STATION_SET (R237). -/
def execCorrStationSet (r : Req) (s : State) : Result :=
  let p := r.payload
  done (runCommand 0x0505 true r (fun s =>
    checked (p.length == 72) (bitsBelow (u8 p 3) 1 && zeroAt p 5 3)
      (u16 p 0 ≤ 4095 && u8 p 2 ≤ 63 && asciiField (sub p 8 32) && asciiField (sub p 40 32)) true (notStandby s) s
      (fun s => .later (hold r.master (.command 0x0505 r) s))) s)

/-- CORR_STREAM (R238). -/
def execCorrStream (r : Req) (s : State) : Result :=
  let p := r.payload
  done (runCommand 0x0506 false r (fun s =>
    checked (p.length == 4) (zeroAt p 1 3) (u8 p 0 ≤ 63 || u8 p 0 == 0xFF) true
      (failIf (u8 p 0 != 0xFF && !sqDeviceBound s (u8 p 0)) 0x8504) s
      (fun s => .reply 0 p (modCorr (fun c => { c with queue := u8 p 0 }) s))) s)

/-- CORR_SELFCHECK_SET (R242). -/
def execCorrSelfcheckSet (r : Req) (s : State) : Result :=
  let p := r.payload
  done (runCommand 0x0507 true r (fun s =>
    checked (p.length == 8) true
      (within (u16 p 0) 5 200 && within (u16 p 2) 1 200 && within (u16 p 4) 20 2400 && within (u8 p 6) 5 20 && within (u8 p 7) 15 100)
      true [] s (fun s =>
      let c := { s.corr with
        scThreshold := u16 p 0
        scHold := u16 p 2
        scClear := u16 p 4
        scMinSat := u8 p 6
        scRatio := u8 p 7 }
      .reply (changed (c == s.corr)) p { s with corr := c })) s)

/-- CORR_INTEGRITY_SET (R246). -/
def execCorrIntegritySet (r : Req) (s : State) : Result :=
  let p := r.payload
  done (runCommand 0x0508 true r (fun s =>
    checked (p.length == 8) (zeroAt p 6 2)
      (bitsBelow (u16 p 0) 10 && !bit (u16 p 0) 2 && within (u16 p 2) 1 200 && within (u16 p 4) 20 2400) true [] s (fun s =>
      let c := { s.corr with
        inMask := u16 p 0
        inHold := u16 p 2
        inClear := u16 p 4 }
      .reply (changed (c == s.corr)) p { s with corr := c })) s)

/-- The reply payload of CORR_GET. -/
def corrGetBytes (s : State) : List Byte :=
  let c := s.corr
  leBytes 1 s.repl.corr.mode ++ leBytes 1 c.modeReq ++ leBytes 1 c.port ++ leBytes 1 c.scState ++ leBytes 2 c.word
    ++ zeros 2 ++ leBytes 4 (min (surveySeconds s c.survey) 0xFFFFFFFF) ++ leBytes 4 (surveySigma s c.survey) ++ ecefBytes c.survey.mean
    ++ (match s.repl.corr.refPos with
        | none => zeros 24
        | some a => ecefBytes a)
    ++ otherErrors c ++ zeros 2 ++ leBytes 4 c.superseded ++ leBytes 4 c.withheldEpochs ++ leBytes 4 c.dropped

/-- CORR_GET (R249). -/
def execCorrGet (r : Req) (s : State) : Result :=
  done (runCommand 0x0509 false r (fun s =>
    checked (r.payload.length == 0) true true true [] s (fun s =>
      .reply 0 (corrGetBytes s) s)) s)

end Sys2Proof.Machine
end

