-- ==== Sys2Proof/Machine/Baseline.lean ====
section
/-!
DEFINITION. Sys2Proof/Machine/Baseline.lean: the baseline engine (chapter 7): OBS contents and their arrival, matching with the
station epochs, fix states, fixes and their ways out, shadow solving, and the commands of group 0x06. What the filter and the
search unit compute arrives with BL_OBS_SOLVE (log entry 8).
-/
namespace Sys2Proof.Machine
open Sys2Proof

/-- Changes the engine's state. -/
def modBl (f : Baseline → Baseline) (s : State) : State := { s with bl := f s.bl }

/-- A filter that holds nothing. -/
def Filter.empty (machine : Nat) (now : Gtc) : Filter :=
  { state := 0, e := 0, n := 0, u := 0, ve := 0, vn := 0, vu := 0, flags := 0, sigH := 0xFFFF, sigV := 0xFFFF, sats := 0,
    nFloat := 0, nFixed := 0, ratio := 0, age := 0, tag := 0, lastEpoch := none, lastArrival := now, version := 0,
    slipCounts := [], holdCount := 0, failCount := 0, since := now, convergeSince := now, toFixed := 0xFFFFFFFF, slips := 0,
    accepted := 0, divergences := 0, retainUntil := none, machine := machine, silent := now, port := 0, located := false,
    held := false, lastAvail := now, ambs := [], pivots := [], rows := [], model := none }

/-- The filter of a berth. -/
def filterOf (s : State) (b : Nat) : Filter := (look s.bl.filters b).getD (Filter.empty (berthOf s b).machine s.tb.gtc)

/-- The station epoch that ST lies in, in units of 50 ms (R196). -/
def epochNow (s : State) : Nat := s.tb.st / 50000000

/-! ### OBS contents (R254 to R260) -/

/-- The number of signals of a system in Table 5-6. -/
def systemSignals (sys : Nat) : Nat := (signals.filter (fun x => x.code / 16 == sys)).length

/-- The set bits of a signal bitmap as signal codes of a system, lowest first. -/
def bitmapSignals (sys v : Nat) : List Nat := ((List.range 4).filter (fun i => bit v i)).map (fun i => sys * 16 + 1 + i)

/-- The cell keys of an OBS v3 in order: satellite, signal, rough range. -/
def v3Keys (p : List Byte) (o n : Nat) : List (Nat × Nat × Nat) :=
  (List.range n).flatMap (fun i =>
    (bitmapSignals (u16 p (o + 5 * i) / 256) (u8 p (o + 5 * i + 4) % 16)).map (fun c => (u16 p (o + 5 * i), c, u16 p (o + 5 * i + 2))))

/-- A cell of an OBS v3 (Table 7-4): ranges less whole milliseconds, in 2^-24 ms and 2^-29 ms. -/
def v3Cell (k : Nat × Nat × Nat) (p : List Byte) (o : Nat) : ObsCell :=
  { sat := k.1
    sig := k.2.1
    range := if u16 p o = 0x8000 then none else some ((k.2.2 : Int) * 256 + iN 2 p o)
    phase := if uN 3 p (o + 2) = 0x800000 then none else some ((k.2.2 : Int) * 8192 + iN 3 p (o + 2))
    cn0 := u8 p (o + 5)
    half := bit (u8 p (o + 6)) 0
    slip := u8 p (o + 6) / 2 }

/-- An OBS v3 (Tables 7-2 to 7-4), where it is well formed (R260). -/
def parseV3 (b : Nat) (p : List Byte) (now : Gtc) : Option WaitingObs :=
  let h := if bit (u8 p 1) 0 then 12 else 0
  let sn := u8 p 8
  let cn := u8 p 9
  let keys := v3Keys p (12 + h) sn
  let sats := (List.range sn).map (fun i => u16 p (12 + h + 5 * i))
  let entryOk (i : Nat) : Bool :=
    let o := 12 + h + 5 * i
    let sys := u16 p o / 256
    let m := u8 p (o + 4)
    satValid (u16 p o) && decide (m % 16 < 2 ^ systemSignals sys) && (if sys = 2 then m / 16 ≤ 13 else m / 16 == 0)
  if u8 p 0 = 0x30 ∧ bitsBelow (u8 p 1) 2 = true ∧ zeroAt p 10 2 = true ∧ within sn 1 48 = true ∧ within cn 1 144 = true ∧
      p.length = 12 + h + 5 * sn + 7 * cn ∧ keys.length = cn ∧ noRepeat sats = true ∧ (List.range sn).all entryOk = true then
    some { berth := b, epoch := 0, tag := u16 p 2, offset := iN 4 p 4, version := 3,
           hint := if h = 12 then some (iN 4 p 12, iN 4 p 16, iN 4 p 20) else none, stationary := bit (u8 p 1) 1,
           cells := (List.range cn).map (fun i => v3Cell (nth keys i (0, 0, 0)) p (12 + h + 5 * sn + 7 * i)), arrival := now }
  else none

/-- A cell of an OBS v2 (Table 7-6), in 0.02 m and 2^-8 cycle. -/
def v2Cell (p : List Byte) (o : Nat) : ObsCell :=
  let f := u8 p (o + 3)
  { sat := u16 p o
    sig := u8 p (o + 2)
    range := if bit f 0 then some (u32 p (o + 4) : Int) else none
    phase := if bit f 1 then some (iN 4 p (o + 8)) else none
    cn0 := u8 p (o + 12)
    half := bit f 2
    slip := flag (bit f 3) }

/-- An OBS v2 (Tables 7-5 and 7-6), where it is well formed (R260). -/
def parseV2 (b : Nat) (p : List Byte) (now : Gtc) : Option WaitingObs :=
  let cn := u8 p 1
  let cellOk (i : Nat) : Bool :=
    let o := 8 + 14 * i
    let sys := u16 p o / 256
    satValid (u16 p o) && bitsBelow (u8 p (o + 3)) 4 && u8 p (o + 2) / 16 == sys && decide (signalBit (u8 p (o + 2)) < 19)
      && (if sys = 2 then withinI (iN 1 p (o + 13)) (-7) 6 else u8 p (o + 13) == 0)
  if u8 p 0 = 0x20 ∧ within cn 1 144 = true ∧ p.length = 8 + 14 * cn ∧ (List.range cn).all cellOk = true ∧
      noRepeat ((List.range cn).map (fun i => u16 p (8 + 14 * i) * 256 + u8 p (10 + 14 * i))) = true then
    some { berth := b, epoch := 0, tag := u16 p 2, offset := iN 4 p 4, version := 2, hint := none, stationary := false,
           cells := (List.range cn).map (fun i => v2Cell p (8 + 14 * i)), arrival := now }
  else none

/-- An OBS content under the berth's negotiated version (R254, R260). -/
def parseObs (b version : Nat) (p : List Byte) (now : Gtc) : Option WaitingObs :=
  if p = [] ∨ u8 p 0 / 16 ≠ version then none else if version = 3 then parseV3 b p now else parseV2 b p now

/-- The station epoch that an epoch tag names: the nearest with that tag (R255). -/
def resolveTag (now tag : Nat) : Int :=
  let d := (tag + 65536 - now % 65536) % 65536
  if d < 32768 then (now : Int) + d else (now : Int) + d - 65536

/-- The origin of the site grid: the point set, or the reference position, or while none is held the check position (R220). -/
def siteOrigin (s : State) : Option Ecef :=
  if s.repl.corr.originMode = 1 then some s.repl.corr.origin
  else if s.repl.corr.refPos.isSome then s.repl.corr.refPos else s.corr.checkPos

/-- A point of the site grid in mm as ECEF (R222). -/
def gridPoint (s : State) (v : V3) : Option Ecef :=
  (siteOrigin s).map (fun o => vEcef (add3 (ecefV o) (ecefOf (geodetic o) (scale3 10 v))))

/-- The position that ranges are predicted from: the berth's last one, the hint, the reference position, the check position (R258). -/
def predictFrom (s : State) (w : WaitingObs) : Option Ecef :=
  let f := filterOf s w.berth
  if f.located then gridPoint s (f.e, f.n, f.u)
  else match w.hint with
    | some h => gridPoint s h
    | none => if s.repl.corr.refPos.isSome then s.repl.corr.refPos else s.corr.checkPos

/-- The oldest station epoch whose correction set is kept (R263). -/
def oldestSet (s : State) : Nat :=
  match s.bl.sets.getLast? with
  | none => epochNow s - 39
  | some c => c.epoch

/-- Whether an OBS is excess: at or less than one period after the last accepted epoch (R264). -/
def isExcess (s : State) (b e : Nat) : Bool :=
  match (look s.bl.filters b).bind (fun f => f.lastEpoch) with
  | none => false
  | some l => decide (e < l + 20 / max (blBerthOf s b).rate 1)

/-- The OBS of a berth waits; a waiting one is superseded (R264). -/
def obsWait (w : WaitingObs) (s : State) : State :=
  if s.bl.waiting.any (fun x => x.berth == w.berth) then
    modBl (fun l => { l with
      waiting := l.waiting.filter (fun x => x.berth != w.berth) ++ [w]
      cSuperseded := satAdd 32 l.cSuperseded 1
      supersededAt := l.supersededAt ++ [s.tb.gtc] }) s
  else modBl (fun l => { l with waiting := l.waiting ++ [w] }) s

/-- The MAC hands an OBS content to the engine (R251, R254 to R264). -/
def obsArrival (b : Nat) (content : List Byte) (s : State) : State :=
  if (blBerthOf s b).mode ≠ 1 then modBl (fun l => { l with cNotSolving := satAdd 32 l.cNotSolving 1 }) s
  else match parseObs b (berthOf s b).obs content s.tb.gtc with
    | none => modBl (fun l => { l with cMalformed := satAdd 32 l.cMalformed 1 }) s
    | some w =>
      let e := resolveTag (epochNow s) w.tag
      if w.version = 3 ∧ (predictFrom s w).isNone = true then modBl (fun l => { l with cMalformed := satAdd 32 l.cMalformed 1 }) s
      else if withinI w.offset (-100000) 100000 = false then modBl (fun l => { l with cTiming := satAdd 32 l.cTiming 1 }) s
      else if e < (oldestSet s : Int) then modBl (fun l => { l with cStale := satAdd 32 l.cStale 1 }) s
      else if (epochNow s : Int) < e then modBl (fun l => { l with cFuture := satAdd 32 l.cFuture 1 }) s
      else if isExcess s b e.toNat then modBl (fun l => { l with cExcess := satAdd 32 l.cExcess 1 }) s
      else obsWait { w with epoch := e.toNat } s

/-- Whether the engine runs (R293). -/
def engineOn (s : State) : Bool := s.pwr.state ≤ 1 && domOn s 6

/-- BL_OBS_ARRIVAL (R263). -/
def execBlObsArrival (b : Nat) (content : List Byte) (s : State) : Result :=
  done (if engineOn s = true ∧ b < 256 then obsArrival b content s else s)

/-! ### Station observables of an epoch (R262 to R267) -/

/-- What the engine has of the station for an epoch: its class (0 available, 1 extrapolated, 2 unavailable), the set in use and the
integrity word. -/
structure StationObs where
  cls : Nat
  set : Option CorrSet
  word : Nat
  age : Nat
deriving DecidableEq, Repr

/-- The newest valid set no younger than an epoch. -/
def newestValid (s : State) (e : Nat) : Option CorrSet := s.bl.sets.find? (fun c => c.valid && decide (c.epoch ≤ e))

/-- The station observables of an epoch (R265 to R267). -/
def stationObs (s : State) (e : Nat) : StationObs :=
  let exact := s.bl.sets.find? (fun c => c.epoch == e)
  let use := newestValid s e
  let age := match use with
    | none => 0xFFFF
    | some c => min ((e - c.epoch) * 50) 0xFFFF
  let from_ := if exact.isSome then exact else use
  let word := match from_ with
    | none => s.corr.word
    | some c => c.word
  let biased := from_.any (fun c => decide (10000000 < c.bias.natAbs))
  let cls := if biased = true ∨ bit word 2 = true ∨ bit word 7 = true ∨ s.repl.corr.mode = 0 ∨ use.isNone = true then 2
    else if age = 0 then 0 else if age ≤ s.repl.blParam.extrap then 1 else 2
  ⟨cls, use, word, age⟩

/-- BL_STATION_GAP (Table 7-18). -/
def stationGap (kind e age : Nat) (s : State) : State :=
  emit 0xC603 28 (leBytes 1 kind ++ zeros 3 ++ leBytes 4 e ++ leBytes 2 age ++ zeros 2) s

/-- The number of Table 5-10 of a station epoch. -/
def epochNumber (s : State) (e : Nat) : Nat :=
  match s.bl.sets.find? (fun c => c.epoch == e) with
  | some c => c.num
  | none => (((s.gnss.epoch : Int) + e - (s.gnss.lastEpoch.getD (epochNow s) : Nat)) % 4294967296).toNat

/-- Runs of extrapolated and of unavailable epochs (R266). -/
def gapStep (e : Nat) (o : StationObs) (s : State) : State :=
  if s.bl.gapEpoch.any (fun g => decide (e ≤ g)) then s
  else
    let n := epochNumber s e
    let s1 := modBl (fun l => { l with
      gap := o.cls
      gapEpoch := some e
      cExtrapolated := if o.cls = 1 then satAdd 32 l.cExtrapolated 1 else l.cExtrapolated
      cUnavailable := if o.cls = 2 then satAdd 32 l.cUnavailable 1 else l.cUnavailable }) s
    if o.cls = s.bl.gap then s1
    else
      let s2 := if s.bl.gap = 0 then s1 else stationGap 0 n o.age s1
      if o.cls = 0 then s2 else stationGap o.cls n o.age s2

/-- The cells of an OBS that the engine uses with a set (R262). -/
def usableCells (s : State) (w : WaitingObs) (c : CorrSet) : List ObsCell :=
  let k := blBerthOf s w.berth
  w.cells.filter (fun x => c.entries.any (fun e => e.sat == x.sat && e.sig == x.sig)
    && aboveMask k.elMask (satOf s x.sat) && decide (k.cn0Mask * 4 ≤ x.cn0))

/-! ### Restored ranges and double differences (R258, R265, R270) -/

/-- The pseudorange that a satellite's ephemeris predicts at a point, 0.1 mm. -/
def predictedRange (p : Ecef) (x : Sat) : Int := (len3 (sub3 (ecefV x.pos) (ecefV p)) : Int) - x.corr

/-- The part of an OBS v3 range below 1 ms, 0.1 mm. -/
def rangePart (c : ObsCell) : Option Int := c.range.map (fun r => roundDiv (r * (lightMs : Int)) (2 ^ 24))

/-- The whole milliseconds of a satellite: those that bring its range nearest to the prediction (R258). -/
def wholeMs (s : State) (w : WaitingObs) (sat : Nat) : Int :=
  match predictFrom s w, (w.cells.find? (fun c => c.sat == sat && c.range.isSome)).bind rangePart with
  | some p, some r => roundDiv (predictedRange p (satOf s sat) - r) lightMs
  | _, _ => 0

/-- Whether every restored range lies within 0.25 ms of its prediction, for the satellites whose ephemeris is held (R258). -/
def rangesOk (s : State) (w : WaitingObs) : Bool :=
  match predictFrom s w with
  | none => false
  | some p => w.cells.all (fun c => match rangePart c with
    | none => true
    | some r => (satOf s c.sat).eph.isNone ||
      decide (4 * (wholeMs s w c.sat * (lightMs : Int) + r - predictedRange p (satOf s c.sat)).natAbs ≤ lightMs))

/-- A machine's pseudorange in 0.1 mm (R258, Table 7-6). -/
def machineCode (s : State) (w : WaitingObs) (c : ObsCell) : Option Int :=
  if w.version = 2 then c.range.map (fun r => r * 200) else (rangePart c).map (fun r => wholeMs s w c.sat * (lightMs : Int) + r)

/-- A machine's carrier phase in 2^-16 cycle of a carrier in Hz (R258, Table 7-6). -/
def machinePhase (s : State) (w : WaitingObs) (c : ObsCell) (hz : Nat) : Option Int :=
  c.phase.map (fun r => if w.version = 2 then r * 256 else roundDiv ((wholeMs s w c.sat * 2 ^ 29 + r) * (hz : Int)) 8192000)

/-- The time in ns from a set's epoch to the machine's sampling instant: the sampling offset, the station's clock bias, and the age of a
propagated set (R265, R266). -/
def sampleLag (w : WaitingObs) (c : CorrSet) : Int := w.offset + roundDiv c.bias 10 + 50000000 * ((w.epoch : Int) - (c.epoch : Int))

/-- A station observable carried to the machine's sampling instant by its Doppler (R265). -/
def carried (lag : Int) (e : ObsEntry) : ObsEntry :=
  { e with
    pseudorange := ((e.pseudorange : Int) + roundDiv (rangeRate e * lag) sec).toNat
    phase := e.phase - roundDiv (e.doppler * lag * 65536) (10 ^ 12) }

/-- Whether two cells share system and band. -/
def sameGroup (a b : ObsCell) : Bool := a.sat / 256 == b.sat / 256 && (signalOf a.sig).band == (signalOf b.sig).band

/-- The higher of two satellites at the station, the lower identifier where they stand alike. -/
def higherSat (s : State) (a b : Nat) : Nat :=
  let e (x : Nat) : Int := (satOf s x).el.getD (-9000)
  if e a < e b ∨ (e a = e b ∧ b < a) then b else a

/-- The pivot of a cell's system and band among the common cells: the satellite of highest elevation; one with a slip in the group gives way
to the next-highest (R277). -/
def pivotOf (s : State) (l : List ObsCell) (slips : List (Nat × Nat)) (c : ObsCell) : Nat :=
  let group := l.filter (fun x => sameGroup x c)
  let slipped (sat : Nat) : Bool := group.any (fun x => x.sat == sat && slips.contains (x.sat, x.sig))
  let kept := group.filter (fun x => !slipped x.sat)
  let best := if kept = [] then group else kept
  best.foldl (fun p x => higherSat s p x.sat) ((best.head?.map (fun x => x.sat)).getD c.sat)

/-- The cells with a valid phase on both sides (Table 7-11). -/
def phaseCells (c : CorrSet) (l : List ObsCell) : List ObsCell :=
  l.filter (fun x => x.phase.isSome && c.entries.any (fun e => e.sat == x.sat && e.sig == x.sig && bit e.flags 1))

/-- The pivots of the systems and bands of a list of cells. -/
def pivotsOf (s : State) (l : List ObsCell) (slips : List (Nat × Nat)) : List Pivot :=
  (l.map (fun c => ⟨c.sat / 256, (signalOf c.sig).band, pivotOf s l slips c⟩)).eraseDups

/-- The pivot satellite of a cell. -/
def pivotAt (ps : List Pivot) (sat sig : Nat) : Option Nat :=
  (ps.find? (fun p => p.sys == sat / 256 && p.band == (signalOf sig).band)).map (fun p => p.sat)

/-- The non-pivot cells whose pivot carries the same signal: each is one double difference. -/
def ddCells (ps : List Pivot) (l : List ObsCell) : List ObsCell :=
  l.filter (fun c => (pivotAt ps c.sat c.sig).any (fun p => p != c.sat && l.any (fun d => d.sat == p && d.sig == c.sig)))

/-- The single difference of a cell between machine and station: phase and code. -/
def singleDiff (s : State) (w : WaitingObs) (set : CorrSet) (c : ObsCell) : Option Int × Option Int :=
  match set.entries.find? (fun e => e.sat == c.sat && e.sig == c.sig) with
  | none => (none, none)
  | some e =>
    let t := carried (sampleLag w set) e
    (if bit e.flags 1 then (machinePhase s w c (carrierHz e.sig e.k)).map (fun v => v - t.phase) else none,
      (machineCode s w c).map (fun v => v - (t.pseudorange : Int)))

/-- The difference of two values that are both there. -/
def bothDiff (a b : Option Int) : Option Int := a.bind (fun x => b.map (fun y => x - y))

/-- 1 / sin(el) times a length, for an elevation sine in 2^-30 (R270). -/
def overSine (v : Nat) (up : Int) : Nat := v * 2 ^ 30 / max up.toNat 1

/-- The rows that the update takes, in ascending satellite and signal, with their weights: 2 mm + 2 mm / sin(el) of phase, 0.2 m +
0.2 m / sin(el) of code (R265, R270). -/
def ddRows (s : State) (w : WaitingObs) (set : CorrSet) (ps : List Pivot) (l : List ObsCell) : List DdRow :=
  (ddCells ps l).filterMap (fun c => (pivotAt ps c.sat c.sig).map (fun p =>
    let a := singleDiff s w set c
    let b := ((l.find? (fun d => d.sat == p && d.sig == c.sig)).map (singleDiff s w set)).getD (none, none)
    let up := (satOf s c.sat).up
    ⟨c.sat, c.sig, p, bothDiff a.1 b.1, bothDiff a.2 b.2, 200 + overSine 200 up, 200 + overSine 200 up⟩))

/-- The process noise of a dynamics class, horizontal and vertical, 10^-4 m^2/s^3 (Table 7-9). -/
def dynNoise (cls : Nat) : Nat × Nat :=
  match cls with
  | 0 => (1, 1)
  | 1 => (5000, 500)
  | _ => (40000, 4000)

/-- The length of a berth's baseline to the corrections port in mm. -/
def baselineMm (s : State) (f : Filter) : Nat :=
  match siteOrigin s, s.repl.corr.refPos with
  | some o, some p => len3 (sub3 (f.e, f.n, f.u) (add3 (siteGrid o p) (div3 (plateOf s s.corr.port) 100)))
  | _, _ => 0

/-- The filter's models at an epoch (Tables 7-8 and 7-9, R269): while the OBS carries the stationary flag a zero-velocity observation of
1 mm/s is applied in each axis. -/
def modelOf (s : State) (f : Filter) (w : WaitingObs) : FilterModel :=
  let q := dynNoise (blBerthOf s w.berth).dyn
  let b := baselineMm s f
  { qH := q.1, qV := q.2, posSigma := if w.hint.isSome && !f.located then 1000 else 30000,
    velSigma := if w.stationary then 100 else 10000, wetSigma := 10000, wetWalk := 100, ionoSigma := 5000 + b / 1000,
    ionoWalk := 500 + b / 5000, ambSigma := 30, zeroVel := if w.stationary then some 1 else none }

/-! ### Slips and gaps (R276 to R279) -/

/-- The slips that the OBS itself declares against the last accepted one (R276). -/
def declaredSlips (f : Filter) (w : WaitingObs) : List (Nat × Nat) :=
  (w.cells.filter (fun c =>
    if w.version = 2 then c.slip == 1
    else f.version == 3 && f.slipCounts.any (fun x => x.1 == c.sat && x.2.1 == c.sig && x.2.2 != c.slip))).map
    (fun c => (c.sat, c.sig))

/-- The slip counters after an accepted OBS. -/
def nextCounts (f : Filter) (w : WaitingObs) : List (Nat × Nat × Nat) :=
  if w.version = 2 then []
  else f.slipCounts.filter (fun x => !(w.cells.any (fun c => c.sat == x.1 && c.sig == x.2.1)))
    ++ w.cells.map (fun c => (c.sat, c.sig, c.slip))

/-- The longest gap in ms over which a berth keeps its ambiguities (R278). -/
def coastMs (s : State) (version : Nat) : Nat := if version = 2 then min 1000 s.repl.blParam.coast else s.repl.blParam.coast

/-- Whether all ambiguities of the berth reset for a gap (R278). -/
def gapResets (s : State) (f : Filter) (w : WaitingObs) : Bool :=
  (match f.lastEpoch with
   | none => false
   | some l =>
     let ms := (w.epoch - l) * 50
     decide (1000 / max (blBerthOf s w.berth).rate 1 < ms) &&
       (decide (coastMs s w.version < ms) || (w.version == 3 && !(declaredSlips f w).isEmpty)))
  || decide (coastMs s w.version * 1000000 < sinceNs s f.lastAvail)

/-- The slips that a cell shows against the prediction: more than 0.05 m of geometry-free phase, or a residual above 0.5 cycle (R276). -/
def shownSlips (x : SolveIn) : List (Nat × Nat) :=
  (x.cells.filter (fun c => decide (50 < c.jump) || decide (32768 < c.residual.natAbs))).map (fun c => (c.sat, c.sig))

/-! ### Ambiguities (R270 to R273, R277) -/

/-- An ambiguity against a new pivot (R277): the old pivot's own cell takes the new pivot's with its sign turned, the others are differenced
with it; the value stays fixed where both were. Where the new pivot had no ambiguity there is nothing to express it against. -/
def reexpress (old new : List Pivot) (l : List Amb) (a : Amb) : Option Amb :=
  match pivotAt old a.sat a.sig, pivotAt new a.sat a.sig with
  | some p, some q =>
    if p = q then some a
    else (l.find? (fun b => b.sat == q && b.sig == a.sig)).map (fun b =>
      if a.sat = q then { a with
        sat := p
        value := -b.value }
      else { a with
        value := a.value - b.value
        var := a.var + b.var
        fixed := a.fixed && b.fixed })
  | _, _ => none

/-- Whether ambiguity `a` comes before `b`. -/
def ambBefore (a b : Amb) : Bool := a.sat < b.sat || (a.sat == b.sat && a.sig < b.sig)

/-- Inserts an ambiguity in ascending satellite and signal. -/
def insertAmb (a : Amb) (l : List Amb) : List Amb :=
  match l with
  | [] => [a]
  | b :: r => if ambBefore a b then a :: b :: r else b :: insertAmb a r

/-- What is left of the ambiguities before an update: re-expressed against the pivots in force, without those that slipped (R276, R277). -/
def keptAmbs (f : Filter) (ps : List Pivot) (slips : List (Nat × Nat)) : List Amb :=
  (f.ambs.filterMap (reexpress f.pivots ps f.ambs)).filter (fun a => !slips.contains (a.sat, a.sig))

/-- The ambiguities of an epoch's double differences: those kept, and new ones as float at the initial sigma; float values follow the
update. -/
def updatedAmbs (x : SolveIn) (kept : List Amb) (dds : List ObsCell) : List Amb :=
  (dds.map (fun c =>
    let a := (kept.find? (fun a => a.sat == c.sat && a.sig == c.sig)).getD ⟨c.sat, c.sig, 0, 900 * 4294967296, false⟩
    match x.cells.find? (fun y => y.sat == c.sat && y.sig == c.sig) with
    | none => a
    | some y => if a.fixed then a else { a with
        value := y.value
        var := y.var })).foldl (fun l a => insertAmb a l) []

/-- Whether an ambiguity may be fixed: those of GLONASS are estimated and never fixed (R270). -/
def fixable (a : Amb) : Bool := a.sat / 256 != 2

/-- A set without its ambiguity of largest float variance (R271). -/
def dropLargest (l : List Amb) : List Amb :=
  match l with
  | [] => []
  | a :: r => l.erase (r.foldl (fun m b => if m.var < b.var then b else m) a)

/-- A set fixed to integers. -/
def fixTo (l : List Amb) (ints : List Int) : List Amb :=
  (List.range l.length).map (fun i => { nth l i ⟨0, 0, 0, 0, false⟩ with
    value := 65536 * nth ints i 0
    fixed := true })

/-- The distinct satellites of a set. -/
def ambSats (l : List Amb) : Nat := ((l.map (fun a => a.sat)).eraseDups).length

/-- The residual tests of Table 7-10. -/
def residualOk (s : State) (rms largest : Nat) : Bool := decide (rms ≤ s.repl.blParam.rms) && decide (largest ≤ 25)

/-- A candidate set passes validation (R272). -/
def validated (s : State) (l : List Amb) (x : SearchIn) : Bool :=
  let p := s.repl.blParam
  decide (p.ratio ≤ x.ratio) && decide (p.expo ≤ x.expo) && decide (p.setMin ≤ l.length) && decide (p.satMin ≤ ambSats l)
    && residualOk s x.rms x.largest

/-- The first set that passes, from the full one on, each without the largest variance of the one before; none once a set falls below the
minima (R271). -/
def searchSets (s : State) (l : List Amb) (xs : List SearchIn) : Option (List Amb × SearchIn) :=
  match xs with
  | [] => none
  | x :: r =>
    if l.length < s.repl.blParam.setMin ∨ ambSats l < s.repl.blParam.satMin then none
    else if validated s l x then some (fixTo l x.ints, x)
    else searchSets s (dropLargest l) r

/-- New ambiguities join the held ones once their own validation passes the ratio and residual tests (R273). -/
def joinHeld (s : State) (l : List Amb) (xs : List SearchIn) : List Amb :=
  let new := l.filter (fun a => !a.fixed && fixable a)
  match xs.head? with
  | none => l
  | some x =>
    if new ≠ [] ∧ s.repl.blParam.ratio ≤ x.ratio ∧ residualOk s x.rms x.largest = true then
      ((l.filter (fun a => a.fixed || !fixable a)) ++ fixTo new x.ints).foldl (fun l a => insertAmb a l) []
    else l

/-- A set fixed within the ambiguities; every other one is float. -/
def withFixed (l fixedSet : List Amb) : List Amb :=
  l.map (fun a => (fixedSet.find? (fun b => b.sat == a.sat && b.sig == a.sig)).getD { a with fixed := false })

/-- Whether every ambiguity that was fixed and is still there has the same integer in a new set (Table 7-11). -/
def sameIntegers (kept fixedSet : List Amb) : Bool :=
  (kept.filter (fun a => a.fixed)).all (fun a => fixedSet.all (fun b => b.sat != a.sat || b.sig != a.sig || b.value == a.value))

/-! ### Fix states (R274) -/

/-- The satellites and systems of the code-only solution: pseudoranges of satellites whose ephemeris the station holds, that are not
excluded and whose slot is known (Table 7-11, R183, R199). -/
def codeSats (s : State) (w : WaitingObs) : List Nat :=
  ((w.cells.filter (fun c => c.range.isSome && (satOf s c.sat).eph.isSome && servesCorr s (satOf s c.sat))).map (fun c => c.sat)).eraseDups

/-- The code-only solution is valid (Table 7-11). -/
def codeValid (s : State) (w : WaitingObs) (x : SolveIn) : Bool :=
  let l := codeSats s w
  decide (4 + (((l.map (fun i => i / 256)).eraseDups).length - 1) ≤ l.length) && decide (x.pdop ≤ 100) && decide (x.codeRms ≤ 100)

/-- What the ambiguities of a berth show at an epoch, for Table 7-11. -/
structure FixView where
  avail : Bool
  codeOk : Bool
  dds : Nat
  /-- all ambiguities reset for a gap; the corrections port or the OBS version changed -/
  reset : Bool
  portCh : Bool
  verCh : Bool
  /-- a set passed validation; with the integers it had -/
  valid : Bool
  same : Bool
  residuals : Bool
  /-- held ambiguities before, those that slipped, those left -/
  before : Nat
  slipped : Nat
  left : Nat
deriving DecidableEq, Repr

/-- The new fix state and its cause (Table 7-11). A change of port or version resets every ambiguity (R279, R281) and is named as the
cause (log entry 23). -/
def nextFix (s : State) (f : Filter) (v : FixView) : Nat × Nat :=
  let p := s.repl.blParam
  if v.avail = false then
    if v.codeOk then (1, if f.state = 0 then 6 else 5) else (0, 5)
  else match f.state with
    | 2 => if v.valid then (3, 0) else (2, 0)
    | 3 =>
      if v.portCh then (2, 9) else if v.verCh then (2, 11)
      else if v.valid = true ∧ v.same = true ∧ p.hold ≤ f.holdCount + 1 then (4, 1)
      else if v.valid = false then (2, 2) else (3, 0)
    | 4 =>
      if v.portCh then (2, 9) else if v.verCh then (2, 11)
      else if (v.residuals = false ∧ 1 ≤ f.failCount) ∨ v.before < 2 * v.slipped then (2, 3)
      else if v.left < p.setMin then (2, 4) else (4, 0)
    | _ =>
      if f.held = true ∧ v.reset = false ∧ v.portCh = false ∧ v.verCh = false ∧ v.residuals = true ∧ p.setMin ≤ v.left then (4, 0)
      else if 4 ≤ v.dds then (2, 10) else (f.state, 0)

/-- BL_FIX_STATE, at most once per second per berth (R275). -/
def fixStateEvent (b old new cause : Nat) (s : State) : State :=
  if old = new then s
  else limited 0xC601 b sec (fun n t =>
    emit 0xC601 28 (leBytes 1 b ++ leBytes 1 old ++ leBytes 1 new ++ leBytes 1 cause ++ leBytes 2 n ++ zeros 2) t) s

/-! ### Fixes and their ways out (R282 to R285, R289, R290) -/

/-- The FIX content (Table 7-12) in the layout of a version. -/
def fixContent (v : Nat) (f : Filter) (word latency : Nat) : List Byte :=
  leBytes 1 (v * 16 + f.state) ++ leBytes 1 f.flags ++ leBytes 2 f.tag ++ leInt 4 f.e ++ leInt 4 f.n ++ leInt 4 f.u
    ++ leBytes 2 (min f.sigH 0xFFFF) ++ leBytes 2 (min f.sigV 0xFFFF) ++ leInt 2 (clampInt (-32767) 32767 f.ve)
    ++ leInt 2 (clampInt (-32767) 32767 f.vn) ++ leInt 2 (clampInt (-32767) 32767 f.vu) ++ leBytes 1 f.sats ++ leBytes 1 f.nFixed
    ++ leBytes 2 (min f.ratio 0xFFFF) ++ leBytes 2 (min f.age 500)
    ++ (if v = 3 then leBytes 2 word ++ leBytes 2 (min latency 0xFFFF) else [])

/-- A fix record goes to the queue of BL_STREAM where its source is selected, every n-th per berth (R285, Table 7-13). -/
def fixRecord (src b cells num : Nat) (arrival : Gtc) (content : List Byte) (s : State) : State :=
  if s.bl.queue = 255 ∨ bit s.bl.sources src = false then s
  else
    let n := (look s.bl.decims b).getD 0 + 1
    let s1 := modBl (fun l => { l with decims := upsert l.decims b (n % max l.decim 1) }) s
    if n % max s.bl.decim 1 = 0 then
      (sqDevice s.bl.queue [gtcBytes s ++ leBytes 8 arrival.toNat ++ leBytes 1 b ++ leBytes 1 src ++ leBytes 2 cells
        ++ leBytes 4 num ++ content ++ zeros 4] s1).2
    else s1

/-- The FIX frame of a berth: an older one that has not gone on air is discarded (R282). -/
def fixFrame (b : Nat) (content : List Byte) (s : State) : State :=
  modBerth b (fun x => { x with
    queue := x.queue.filter (fun f => f.ftype != 4) ++ [⟨4, 0, 0, content, s.tb.gtc, 0, true, [], 0, true⟩] }) s

/-- A fix of a berth is issued: to the MAC, the monitor and the host (R282); on a STANDBY to the host alone, as a shadow fix
(R289). `e`: the station epoch it belongs to. -/
def issueFix (b e cells : Nat) (arrival : Gtc) (word latency : Nat) (s : State) : State :=
  let f := filterOf s b
  let num := epochNumber s e
  let sum : FixSum := ⟨b, f.tag, f.state, f.e, f.n, f.u⟩
  let s0 := modBl (fun l => { l with recent := lastSecond s.tb.gtc l.recent ++ [(s.tb.gtc, latency)] }) s
  if s.pair.role = 2 then
    fixRecord 2 b cells num arrival (fixContent 3 f word latency)
      (modBl (fun l => { l with shadow := (sum :: l.shadow.filter (fun x => !(x.berth == b && x.tag == f.tag))).take 5120 }) s0)
  else
    let s1 := if (berthOf s b).hasSession then fixFrame b (fixContent (if f.version = 2 then 2 else 3) f word latency) s0 else s0
    let s2 := monitorFix ⟨b, f.tag, e, f.state, ⟨f.e, f.n⟩, f.sigH⟩ s1
    let s3 := modBl (fun l => { l with fixSums := l.fixSums ++ [sum] }) s2
    fixRecord 0 b cells num arrival (fixContent 3 f word latency) s3

/-- A machine-reported fix goes to the host stream: what the report does not carry reads 0, the uncertainties 0xFFFF (R285). -/
def reportRecord (b tag st : Nat) (p : Pt) (u : Int) (s : State) : State :=
  let e := (resolveTag (epochNow s) tag).toNat
  let f := { Filter.empty 0 s.tb.gtc with
    state := st
    tag := tag
    e := p.e
    n := p.n
    u := u }
  fixRecord 1 b 0 (epochNumber s e) s.tb.gtc (fixContent 3 f 0 0) s

/-! ### Solving (R267 to R281, R288) -/

/-- The 99th percentile of the latencies of the last second. -/
def latency99 (s : State) : Nat :=
  let l := ((lastSecond s.tb.gtc s.bl.recent).map (fun x => x.2)).foldr insertRising []
  nth l ((99 * l.length + 99) / 100 - 1) 0

/-- The supersessions of the last second. -/
def supersededNow (s : State) : List Gtc := s.bl.supersededAt.filter (fun t => decide (sinceNs s t ≤ sec))

/-- BL_OVERLOAD, at most once per second (R288). -/
def overloadStep (s : State) : State :=
  let n := supersededNow s
  let s1 := modBl (fun l => { l with supersededAt := n }) s
  if 800 < latency99 s ∨ n ≠ [] ∨ 950 < s.bl.util then
    limited 0xC602 0 sec (fun _ t =>
      emit 0xC602 28 (leBytes 2 (min (latency99 s) 0xFFFF) ++ leBytes 2 n.length ++ leBytes 2 s.bl.util ++ zeros 2) t) s1
  else s1

/-- BL_VERSION (R279). -/
def blVersion (b : Nat) (f : Filter) (new : Nat) (s : State) : State :=
  if f.version = 0 ∨ f.version = new then s
  else emit 0xC604 28 (leBytes 1 b ++ leBytes 1 f.version ++ leBytes 1 new ++ leBytes 1 (min (f.nFloat + f.nFixed) 255)) s

/-- What one accepted OBS makes of a berth's ambiguities: pivots, ambiguities, and what Table 7-11 asks of them. -/
structure AmbStep where
  pivots : List Pivot
  ambs : List Amb
  found : Option (List Amb × SearchIn)
  view : FixView
deriving DecidableEq, Repr

/-- The ambiguities at an epoch with station observables (R271 to R278). `all`: every one of them is reset. -/
def ambStep (s : State) (f : Filter) (x : SolveIn) (set : CorrSet) (cells : List ObsCell) (slips : List (Nat × Nat)) (all : Bool)
    (v : FixView) : AmbStep :=
  let ph := phaseCells set cells
  let ps := pivotsOf s ph slips
  let kept := if all then [] else keptAmbs f ps slips
  let dds := ddCells ps ph
  let l0 := updatedAmbs x kept dds
  let holding := f.state = 4 ∨ (f.state < 2 ∧ f.held = true)
  let l := if holding then l0 else l0.map (fun a => if f.state = 3 then a else { a with fixed := false })
  let found := if holding then none else searchSets s (l.filter fixable) x.searches
  let was := f.ambs.filter (fun a => a.fixed)
  ⟨ps, if holding then joinHeld s l x.searches else l, found, { v with
    dds := dds.length
    valid := found.isSome
    same := found.all (fun r => sameIntegers kept r.1)
    residuals := residualOk s x.rms x.largest
    before := was.length
    slipped := (was.filter (fun a => slips.contains (a.sat, a.sig))).length
    left := (l0.filter (fun a => a.fixed)).length }⟩

/-- The ambiguities that a fix state leaves: in FIXED the set found, in FIXED_HOLD those held, in FLOAT all float. -/
def settledAmbs (f : Filter) (st : Nat) (a : AmbStep) : List Amb :=
  match st with
  | 3 => withFixed a.ambs ((a.found.map (fun r => r.1)).getD [])
  | 4 => if f.state = 3 then withFixed a.ambs ((a.found.map (fun r => r.1)).getD []) else a.ambs
  | _ => a.ambs.map (fun b => { b with fixed := false })

/-- The filter of a berth after an accepted OBS. -/
def solvedFilter (s : State) (f : Filter) (w : WaitingObs) (x : SolveIn) (o : StationObs) (cells : List ObsCell) : Filter × Nat :=
  let avail := o.cls != 2
  let port := (o.set.map (fun c => c.port)).getD f.port
  let reset := gapResets s f w
  let portCh := avail && f.accepted != 0 && port != f.port
  let verCh := f.version != 0 && f.version != w.version
  let slips := (declaredSlips f w ++ shownSlips x).eraseDups
  let v : FixView := ⟨avail, codeValid s w x, 0, reset, portCh, verCh, false, false, false, 0, 0, 0⟩
  let a := match o.set with
    | some c => if avail then ambStep s f x c cells slips (reset || portCh || verCh) v else ⟨f.pivots, f.ambs, none, v⟩
    | none => ⟨f.pivots, f.ambs, none, v⟩
  let r := nextFix s f a.view
  let st := r.1
  let ambs := if avail then settledAmbs f st a else if reset = true ∨ verCh = true then [] else f.ambs
  let nFixed := if avail then (ambs.filter (fun b => b.fixed)).length else 0
  let caution := bit o.word 0 || bit o.word 2 || bit o.word 4 || bit o.word 10
  ({ f with
      state := st
      e := if st = 0 then f.e else x.e
      n := if st = 0 then f.n else x.n
      u := if st = 0 then f.u else x.u
      ve := if st = 0 then 0 else x.ve
      vn := if st = 0 then 0 else x.vn
      vu := if st = 0 then 0 else x.vu
      flags := bitsOf [o.cls == 1, caution, decide (3 ≤ st) && decide (nFixed < (ambs.filter fixable).length), x.velValid && st != 0,
        w.stationary && avail]
      sigH := if st = 0 then 0xFFFF else x.sigH
      sigV := if st = 0 then 0xFFFF else x.sigV
      sats := if avail then ((cells.map (fun c => c.sat)).eraseDups).length else if st = 0 then 0 else (codeSats s w).length
      nFloat := if avail then ambs.length - nFixed else 0
      nFixed := nFixed
      ratio := (a.found.map (fun r => r.2.ratio)).getD (if avail then ((x.searches.head?.map (fun y => y.ratio)).getD 0) else 0)
      age := if o.cls = 1 then o.age else 0
      tag := w.tag
      lastEpoch := some w.epoch
      lastArrival := w.arrival
      version := w.version
      slipCounts := nextCounts f w
      holdCount := if st = 3 then (if f.state = 3 ∧ a.view.same = true then f.holdCount + 1 else 1) else 0
      failCount := if avail then (if a.view.residuals then 0 else f.failCount + 1) else f.failCount
      since := if st = f.state then f.since else s.tb.gtc
      convergeSince := if st = 2 ∧ f.state < 2 then s.tb.gtc else f.convergeSince
      toFixed := if st = 3 ∧ f.state = 2 then min (sinceNs s f.convergeSince / 1000000) 0xFFFFFFFF else f.toFixed
      slips := satAdd 32 f.slips slips.length
      accepted := satAdd 32 f.accepted 1
      port := if avail then port else f.port
      located := f.located || st != 0
      held := if st = 4 then true else if avail = true ∨ reset = true ∨ verCh = true then false else f.held
      lastAvail := if avail then s.tb.gtc else f.lastAvail
      ambs := ambs
      pivots := if avail then a.pivots else f.pivots
      rows := match o.set with
        | some c => if avail then ddRows s w c a.pivots cells else []
        | none => []
      model := if avail then some (modelOf s f w) else none }, r.2)

/-- Whether the correction set of an OBS is there, or can no longer come (R226, R263). -/
def setReady (s : State) (w : WaitingObs) : Bool :=
  s.bl.sets.any (fun c => c.epoch == w.epoch) || decide (w.epoch * 50000000 + 4000000 ≤ s.tb.st)

/-- A waiting OBS is solved. -/
def solveObs (w : WaitingObs) (x : SolveIn) (s0 : State) : State :=
  let b := w.berth
  let s := modBl (fun l => { l with
    waiting := l.waiting.filter (fun y => y.berth != b)
    util := x.util }) s0
  if (blBerthOf s b).mode ≠ 1 then modBl (fun l => { l with cNotSolving := satAdd 32 l.cNotSolving 1 }) s
  else if w.version = 3 ∧ rangesOk s w = false then modBl (fun l => { l with cMalformed := satAdd 32 l.cMalformed 1 }) s
  else
    let f := filterOf s b
    let o := stationObs s w.epoch
    let cells := match o.cls, o.set with
      | 2, _ => w.cells.filter (fun c => c.range.isSome)
      | _, some c => usableCells s w c
      | _, none => []
    let r := solvedFilter s f w x o cells
    let latency := sinceNs s w.arrival / 10000
    let s1 := blVersion b f w.version (gapStep w.epoch o s)
    let s2 := setFilter b r.1 (modBl (fun l => { l with cAccepted := satAdd 32 l.cAccepted 1 }) s1)
    overloadStep (issueFix b w.epoch cells.length w.arrival o.word latency (fixStateEvent b f.state r.1.state r.2 s2))

/-- The OBS that the engine serves next: the first to arrive whose set is ready (R263, R288). -/
def nextObs (s : State) : Option WaitingObs := s.bl.waiting.find? (fun w => setReady s w)

/-- BL_OBS_SOLVE (R288): it serves the waiting OBS of a berth in its turn. -/
def execBlObsSolve (b : Nat) (x : SolveIn) (s : State) : Result :=
  done (match nextObs s with
    | none => s
    | some w => if w.berth = b ∧ engineOn s = true then solveObs w x s else s)

/-- BL_SILENCE_TIMEOUT (R275): a NONE fix with the last position at each further silence time. -/
def execBlSilenceTimeout (b : Nat) (s : State) : Result :=
  let due (t : Gtc) : Bool := decide (s.repl.blParam.silence * 1000000 ≤ sinceNs s t)
  done (match look s.bl.filters b with
    | none => s
    | some f =>
      if (blBerthOf s b).mode = 1 ∧ due f.lastArrival = true ∧ due f.silent = true ∧ s.pwr.state ≤ 2 ∧ domOn s 6 = true then
        let g := { f with
          state := 0
          flags := 0
          ve := 0
          vn := 0
          vu := 0
          sigH := 0xFFFF
          sigV := 0xFFFF
          sats := 0
          nFloat := 0
          nFixed := 0
          ratio := 0
          age := 0
          holdCount := 0
          since := if f.state = 0 then f.since else s.tb.gtc
          silent := s.tb.gtc }
        issueFix b (epochNow s) 0 f.lastArrival s.corr.word 0 (fixStateEvent b f.state 0 7 (setFilter b g s))
      else s)

/-- A berth's filter is cleared; the fix state becomes NONE with a cause. -/
def clearFilter (b cause : Nat) (s : State) : State :=
  match look s.bl.filters b with
  | none => s
  | some f => fixStateEvent b f.state 0 cause (modBl (fun l => { l with filters := erase l.filters b }) s)

/-- BL_RETENTION_EXPIRY (R280). No cause code of R274 names it; it reports code 7 (log entry 23). -/
def execBlRetentionExpiry (b : Nat) (s : State) : Result :=
  done (match (look s.bl.filters b).bind (fun f => f.retainUntil) with
    | none => s
    | some t => if elapsed s.tb.gtc t < 2 ^ 63 then clearFilter b 7 s else s)

/-- The comparison of the active member's fixes with the shadow fixes (R290). -/
def shadowCompare (a : FixSum) (s : State) : State :=
  match s.bl.shadow.find? (fun x => x.berth == a.berth && x.tag == a.tag) with
  | none => s
  | some x =>
    let de := a.e - x.e
    let dn := a.n - x.n
    let du := a.u - x.u
    if 3 ≤ a.state ∧ 3 ≤ x.state ∧ ((s.bl.shadowH : Int) * s.bl.shadowH < de * de + dn * dn ∨ s.bl.shadowV < du.natAbs) then
      let s1 := modBl (fun l => { l with
        cShadow := satAdd 32 l.cShadow 1
        filters := l.filters.map (fun e => if e.1 = a.berth then (e.1, { e.2 with divergences := satAdd 32 e.2.divergences 1 })
          else e) }) s
      limited 0xC605 a.berth sec (fun n t =>
        emit 0xC605 28 (leBytes 1 a.berth ++ leBytes 1 a.state ++ leBytes 1 x.state ++ zeros 1 ++ leInt 4 de ++ leInt 4 dn
          ++ leInt 4 du ++ leBytes 2 n ++ zeros 2) t) s1
    else s

/-! ### Commands of group 0x06 -/

/-- The configured load in Hz (R252). -/
def configuredLoad (l : List (Nat × BlBerth)) : Nat := ((l.filter (fun e => e.2.mode == 1)).map (fun e => e.2.rate)).sum

/-- The number of STATION berths. -/
def stationBerths (l : List (Nat × BlBerth)) : Nat := (l.filter (fun e => e.2.mode == 1)).length

/-- The entries of BL_BERTH_SET. -/
def blEntries (p : List Byte) : List (Nat × BlBerth) :=
  (List.range (u8 p 0)).map (fun i => let o := 4 + 8 * i
    (u8 p o, ⟨u8 p (o + 1), u8 p (o + 2), u8 p (o + 3), u8 p (o + 4), u8 p (o + 5)⟩))

/-- The settings after a BL_BERTH_SET. -/
def blApplied (p : List Byte) (s : State) : List (Nat × BlBerth) :=
  (blEntries p).foldl (fun l e => upsert l e.1 e.2) s.repl.bl

/-- Whether a BL_BERTH_SET would raise the load above 2560 Hz (R252). -/
def overCapacity (p : List Byte) (s : State) : Bool := decide (2560 < configuredLoad (blApplied p s))

/-- The commit of BL_BERTH_SET (R252, R253). -/
def commitBlBerth (r : Req) (s : State) : State :=
  if overCapacity r.payload s then reply r 0x0601 0x8601 [] s
  else
    let same := (blEntries r.payload).all (fun e => blBerthOf s e.1 == e.2)
    let s1 := { s with repl := { s.repl with bl := blApplied r.payload s } }
    reply r 0x0601 (changed same) (leBytes 2 (configuredLoad s1.repl.bl) ++ leBytes 2 (stationBerths s1.repl.bl)) s1

/-- BL_BERTH_SET (R252). -/
def execBlBerthSet (r : Req) (s : State) : Result :=
  let p := r.payload
  let ok (e : Nat × BlBerth) : Bool :=
    e.2.mode ≤ 2 && (if e.2.mode = 1 then [1, 2, 5, 10, 20].contains e.2.rate else e.2.rate == 0) && e.2.dyn ≤ 2
      && within e.2.elMask 5 30 && within e.2.cn0Mask 20 45
  done (runCommand 0x0601 true r (fun s =>
    checked (p.length == 4 + 8 * u8 p 0) (zeroAt p 1 3 && (List.range (u8 p 0)).all (fun i => zeroAt p (10 + 8 * i) 2))
      (within (u8 p 0) 1 64 && (blEntries p).all ok) (noRepeat ((blEntries p).map (fun e => e.1)))
      (notStandby s ++ failIf (overCapacity p s) 0x8601) s (fun s => .later (hold r.master (.command 0x0601 r) s))) s)

/-- The parameters that BL_PARAM_SET carries. -/
def blParamOf (p : List Byte) : BlParam :=
  ⟨u16 p 0, u8 p 2, u8 p 3, u8 p 4, u8 p 5, u16 p 6, u16 p 8, u16 p 10, u16 p 12, u8 p 14⟩

/-- The commit of BL_PARAM_SET (R253). -/
def commitBlParam (r : Req) (s : State) : State :=
  reply r 0x0602 (changed (s.repl.blParam == blParamOf r.payload)) r.payload
    { s with repl := { s.repl with blParam := blParamOf r.payload } }

/-- BL_PARAM_SET (R272). -/
def execBlParamSet (r : Req) (s : State) : Result :=
  let p := r.payload
  let x := blParamOf p
  done (runCommand 0x0602 true r (fun s =>
    checked (p.length == 16) (zeroAt p 15 1)
      (within x.ratio 15 100 && within x.setMin 4 32 && within x.satMin 4 16 && within x.hold 5 200 && within x.rms 5 25
        && within x.silence 200 5000 && x.extrap ≤ 500 && x.coast ≤ 30000 && x.retention ≤ 600 && within x.expo 2 6) true
      (notStandby s) s (fun s => .later (hold r.master (.command 0x0602 r) s))) s)

/-- BL_STREAM (R285). -/
def execBlStream (r : Req) (s : State) : Result :=
  let p := r.payload
  done (runCommand 0x0603 false r (fun s =>
    checked (p.length == 4) (zeroAt p 3 1) ((u8 p 0 ≤ 63 || u8 p 0 == 0xFF) && u8 p 1 ≤ 7 && within (u8 p 2) 1 20) true
      (failIf (u8 p 0 != 0xFF && !sqDeviceBound s (u8 p 0)) 0x8602) s (fun s =>
      .reply 0 p (modBl (fun l => { l with
        queue := u8 p 0
        sources := u8 p 1
        decim := u8 p 2 }) s))) s)

/-- BL_RESET_BERTH (R274, R295). -/
def execBlResetBerth (r : Req) (s : State) : Result :=
  let p := r.payload
  done (runCommand 0x0604 true r (fun s =>
    checked (p.length == 4) (zeroAt p 1 3) true true (failIf ((blBerthOf s (u8 p 0)).mode != 1) 0x8603) s (fun s =>
      .reply 0 [] (clearFilter (u8 p 0) 8 s))) s)

/-- The reply payload of BL_STATUS. -/
def blStatusBytes (s : State) : List Byte :=
  let l := s.bl
  let t := (lastSecond s.tb.gtc l.recent).map (fun x => x.2)
  leBytes 2 (configuredLoad s.repl.bl) ++ leBytes 2 (stationBerths s.repl.bl) ++ leBytes 2 l.util
    ++ leBytes 2 (min (median t) 0xFFFF) ++ leBytes 2 (min (latency99 s) 0xFFFF) ++ leBytes 2 (min (t.foldl max 0) 0xFFFF)
    ++ leBytes 4 t.length
    ++ [l.cAccepted, l.cStale, l.cFuture, l.cExcess, l.cSuperseded, l.cMalformed, l.cNotSolving, l.cTiming, l.cExtrapolated,
        l.cUnavailable, l.cShadow].flatMap (leBytes 4)

/-- BL_STATUS (R294). -/
def execBlStatus (r : Req) (s : State) : Result :=
  done (runCommand 0x0605 false r (fun s =>
    checked (r.payload.length == 0) true true true [] s (fun s =>
      .reply 0 (blStatusBytes s) s)) s)

/-- BL_BERTH_GET (R294). -/
def execBlBerthGet (r : Req) (s : State) : Result :=
  let p := r.payload
  done (runCommand 0x0606 false r (fun s =>
    checked (p.length == 4) (zeroAt p 1 3) true true [] s (fun s =>
      let b := u8 p 0
      let f := filterOf s b
      .reply 0 (leBytes 1 b ++ leBytes 1 (blBerthOf s b).mode ++ leBytes 1 (blBerthOf s b).rate ++ leBytes 1 f.version
        ++ leBytes 1 f.state ++ leBytes 1 f.sats ++ leBytes 1 f.nFloat ++ leBytes 1 f.nFixed ++ leBytes 2 f.tag
        ++ leBytes 2 (min f.ratio 0xFFFF) ++ leInt 4 f.e ++ leInt 4 f.n ++ leInt 4 f.u ++ leBytes 2 (min f.sigH 0xFFFF)
        ++ leBytes 2 (min f.sigV 0xFFFF) ++ leBytes 4 (min (sinceNs s f.since / 1000000) 0xFFFFFFFF) ++ leBytes 4 f.toFixed
        ++ leBytes 4 f.slips ++ leBytes 4 f.accepted ++ leBytes 4 f.divergences) s)) s)

/-- BL_SHADOW_SET (R290). -/
def execBlShadowSet (r : Req) (s : State) : Result :=
  let p := r.payload
  done (runCommand 0x0607 true r (fun s =>
    checked (p.length == 8) (bitsBelow (u8 p 0) 1 && zeroAt p 1 1 && zeroAt p 6 2)
      (within (u16 p 2) 5 1000 && within (u16 p 4) 10 2000) true [] s (fun s =>
      let l := { s.bl with
        shadowOn := bit (u8 p 0) 0
        shadowH := u16 p 2
        shadowV := u16 p 4 }
      .reply (changed (l == s.bl)) p { s with bl := l })) s)

end Sys2Proof.Machine
end

