-- ==== Sys2Proof/Machine/Dispatcher.lean ====
section
/-!
DEFINITION. Sys2Proof/Machine/Dispatcher.lean: chapter 12: tasks, the selection pass, levels and claims, the pack ledger, and the
commands of group 0x0B.
-/
namespace Sys2Proof.Machine
open Sys2Proof

/-! ### Berths and packs -/

/-- The dispatch settings of a berth. -/
def dpBerthOf (s : State) (b : Nat) : DpBerth := (look s.repl.dp.berths b).getD DpBerth.zero

/-- Changes the dispatch settings of a berth. -/
def modDpBerth (b : Nat) (f : DpBerth → DpBerth) (s : State) : State :=
  modDp (fun d => { d with berths := upsert d.berths b (f ((look d.berths b).getD DpBerth.zero)) }) s

/-- The counters of a berth (Table 12-4). -/
def dpCountOf (s : State) (b : Nat) : DpCount := (look s.dpown.berths b).getD DpCount.zero

/-- Changes the counters of a berth. -/
def modDpCount (b : Nat) (f : DpCount → DpCount) (s : State) : State :=
  { s with dpown := { s.dpown with berths := upsert s.dpown.berths b (f (dpCountOf s b)) } }

/-- The pack bound to a berth. -/
def boundPack (s : State) (b : Nat) : Option Pack := s.repl.dp.packs.find? (fun k => k.berth == some b)

/-- The ledger entry of an index. -/
def packOf (s : State) (i : Nat) : Option Pack := s.repl.dp.packs.find? (fun k => k.index == i)

/-- Changes the ledger entry of an index. -/
def modPack (i : Nat) (f : Pack → Pack) (s : State) : State :=
  modDp (fun d => { d with packs := d.packs.map (fun k => if k.index = i then f k else k) }) s

/-- The available energy of a berth in 0.001 Wh: the remaining energy less the reserve (R467). -/
def available (s : State) (b : Nat) : Option Int :=
  match boundPack s b with
  | none => none
  | some k =>
    let d := dpBerthOf s b
    let rem := if d.heard = true ∧ d.packId = k.ident then some d.packEnergy else k.remaining
    rem.map (fun r => (r : Int) * 100 - (s.repl.dp.reserve : Int) * (k.rated : Int))

/-- Whether a task's energy estimate fits a berth (R467). -/
def fits (t : Task) (b : Nat) (s : State) : Bool :=
  t.energy == 0 || (match boundPack s b with
    | none => false
    | some k => !k.retired && (match available s b with
      | none => false
      | some a => decide ((t.energy : Int) * 100 ≤ a)))

/-! ### Levels -/

/-- A level. -/
def levelOf (s : State) (l : Nat) : Level := nth s.repl.dp.levels l Level.zero

/-- Changes a level. -/
def modLevel (l : Nat) (f : Level → Level) (s : State) : State := modDp (fun d => { d with levels := modNth d.levels l f }) s

/-- Whether a task is READY and not already assigned or ending (R445, R454). -/
def isReady (t : Task) : Bool := t.state == 2 && t.berth.isNone && !t.ending

/-- Whether task `t` comes before task `u` in ready order (R448). -/
def before (t u : Task) : Bool :=
  decide (t.ready.toNat < u.ready.toNat) || (t.ready == u.ready && decide (t.readySource < u.readySource))

/-- Inserts a task in ready order, after those that are equal. -/
def insertReady (t : Task) (l : List Task) : List Task :=
  match l with
  | [] => [t]
  | u :: r => if before t u then t :: u :: r else u :: insertReady t r

/-- The READY tasks of a level in ready order (R448). -/
def readyTasks (s : State) (l : Nat) : List Task :=
  (s.repl.dp.tasks.filter (fun t => t.level == l && isReady t)).foldl (fun a t => insertReady t a) []

/-- The head of a level. -/
def headOf (s : State) (l : Nat) : Option Task := (readyTasks s l).head?

/-- DP_LEVEL (Table 12-8). -/
def dpLevel (l blocked claim head : Nat) (s : State) : State :=
  let v := levelOf s l
  emit 0xCB02 30 (leBytes 1 l ++ leBytes 1 blocked ++ leBytes 1 claim ++ leBytes 1 v.bypass ++ leBytes 4 head
    ++ leBytes 2 (v.claimBerth.getD 0xFFFF) ++ zeros 2) s

/-- TR_CLAIM (Table 11-10). -/
def trClaim (l change owner id : Nat) (s : State) : State :=
  emit 0xCA04 29 (leBytes 1 l ++ leBytes 1 change ++ leBytes 2 owner ++ leBytes 4 id) s

/-- The claim of a level leaves the arbiter: granted (1), or withdrawn (2), which raises the space count. -/
def dropClaim (l change id : Nat) (s : State) : State :=
  match s.repl.tr.claims.find? (fun c => c.level == l) with
  | none => s
  | some c =>
    let s1 := modLevel l (fun v => { v with claim := false, claimBerth := none, refusedZone := false })
      (modArb (fun a => { a with claims := a.claims.filter (fun x => x.level != l) }) s)
    trClaim l change c.owner id (if change = 2 then spaceBump s1 else s1)

/-- The polyline of a task's transit for a berth: the lead-in from the last known fix when the flag asks for it (R447). -/
def taskLine (t : Task) (b : Nat) (s : State) : List Pt :=
  if bit t.flags 1 then
    match (conformOf s b).fix with
    | none => t.line
    | some p => if t.line.head? = some p then t.line else p :: t.line
  else t.line

/-- The dispatcher asks the arbiter for the pending claim of a blocked level (R456, R457, R459, R415). -/
def askClaim (l : Nat) (s : State) : State :=
  match headOf s l with
  | none => s
  | some t =>
    let b := if bit t.flags 1 then (levelOf s l).lastRefused else none
    if bit t.flags 1 = true ∧ b = none then s
    else
      let line := taskLine t (b.getD 0) s
      let ask : TrAsk := ⟨b, line, t.half, stMs s, openEnd⟩
      if zoneBlockers ask s = [] then
        let s0 := modArb (fun a => { a with claims := a.claims ++ [⟨l, b.getD 0xFFFF, stMs s, t.half, line⟩] }) s
        let s1 := modLevel l (fun v => { v with
          claim := true
          claimBerth := b
          refusedZone := false
          askedAt := s.repl.dp.spaceCount }) s0
        trClaim l 0 (b.getD 0xFFFF) 0 s1
      else modLevel l (fun v => { v with refusedZone := true, askedAt := s.repl.dp.spaceCount }) s

/-- A level that has reached the bypass limit becomes blocked, and its claim is asked for (R456). -/
def blockStep (l : Nat) (s : State) : State :=
  match headOf s l with
  | none => s
  | some h =>
    if (levelOf s l).blocked = false ∧ s.repl.dp.bypassLimit ≤ (levelOf s l).bypass then
      let s1 := askClaim l (modLevel l (fun v => { v with blocked := true }) s)
      dpLevel l 1 (if (levelOf s1 l).claim then 1 else if (levelOf s1 l).refusedZone then 2 else 0) (taskId h) s1
    else s

/-- A bypass of a level (R455), and the blocking at the limit (R456). -/
def bypass (l : Nat) (s : State) : State :=
  match headOf s l with
  | none => s
  | some h =>
    blockStep l (modTask (taskId h) (fun t => { t with bypasses := min (t.bypasses + 1) 255 })
      (modLevel l (fun v => { v with bypass := min (v.bypass + 1) 255 }) s))

/-- A head leaves its level: a blocked level is unblocked (R458). `granted`: the transit of the grant, 0 for cancel or
expiry. -/
def headLeaves (l head granted : Nat) (s : State) : State :=
  let v := levelOf s l
  let s1 := modLevel l (fun v => { v with refusedHead := none, lastRefused := none }) s
  if v.blocked then
    let s2 := if v.claim then dropClaim l (if granted = 0 then 2 else 1) granted s1 else s1
    dpLevel l 0 (if granted = 0 ∧ v.claim = true then 3 else 0) head
      (modLevel l (fun v => { v with blocked := false, bypass := 0, refusedZone := false }) s2)
  else s1

/-! ### The selection pass (R452 to R459) -/

/-- Whether a berth is the claim berth of a level other than `l` (R451, R457). -/
def claimedElsewhere (s : State) (b l : Nat) : Bool :=
  (List.range 64).any (fun k => k != l && (levelOf s k).claimBerth == some b)

/-- Whether a task is eligible for an idle berth (R451). -/
def eligible (t : Task) (b : Nat) (s : State) : Bool :=
  let d := dpBerthOf s b
  Nat.land t.caps d.caps == t.caps && (t.area == 0xFF || bit d.areas t.area) && fits t b s &&
    (!bit t.flags 1 || (conformOf s b).fix.isSome) && !claimedElsewhere s b t.level

/-- Whether a task was requested for a berth under the present space count (R452). -/
def triedNow (t : Task) (b : Nat) (s : State) : Bool :=
  s.repl.dp.tried.any (fun x => x.1 == taskId t && x.2.1 == b && x.2.2 == s.repl.dp.spaceCount)

/-- Marks a request of a task for a berth. -/
def markTried (t : Task) (b : Nat) (s : State) : State :=
  modDp (fun d => { d with
    tried := d.tried.filter (fun x => !(x.1 == taskId t && x.2.1 == b)) ++ [(taskId t, b, d.spaceCount)] }) s

/-- The request for a task and a berth at the present ST (R447). -/
def taskAsk (t : Task) (b : Nat) (s : State) : TrAsk :=
  let start := stMs s + t.offset
  ⟨some b, taskLine t b s, t.half, start, start + t.duration⟩

/-- Whether the arbiter grants the dispatcher's request (R410, R411, Table 11-3): none is a grant, else the blocker's kind
(0: the request breaks a rule of Table 11-2). -/
def dpRefusal (t : Task) (b : Nat) (s : State) : Option Nat :=
  let a := taskAsk t b s
  let v := levelOf s t.level
  let own := v.claim && (headOf s t.level).any (fun h => taskId h == taskId t)
  if askInvalid a s ≠ [] then some 0
  else (askBlocker a (if own then t.level else 64) s).map (fun k => k.kind)

/-- The state of a pass. -/
structure PassSt where
  s : State
  budget : Nat
  ended : Bool
  granted : Bool
deriving DecidableEq, Repr

/-- A granted request: the transit is inserted, the assignment held for commit (R454). -/
def grantTask (t : Task) (b : Nat) (s : State) : State :=
  let isHead := (headOf s t.level).any (fun h => taskId h == taskId t)
  let refused := (headOf s t.level).any (fun h => (levelOf s t.level).refusedHead == some (taskId h))
  let f := freeTime s
  let g := insertTransit (taskAsk t b s) (taskId t) 30 (trCount f.1 true 0 f.2)
  let s0 := { g.2 with dpown := { g.2.dpown with grants := satAdd 32 g.2.dpown.grants 1 } }
  let s1 := modTask (taskId t) (fun x => { x with berth := some b, transit := g.1 }) s0
  let s2 := hold 30 (.assign t.slot t.gen b) s1
  if isHead then headLeaves t.level (taskId t) g.1 s2
  else if refused then bypass t.level s2
  else s2

/-- A refused request: a refused head is marked, and the claim of a blocked level whose claim berth is gone is asked for again
(R455, R457). -/
def refuseTask (t : Task) (b kind : Nat) (s : State) : State :=
  let isHead := (headOf s t.level).any (fun h => taskId h == taskId t)
  let f := freeTime s
  let s1 := trCount f.1 false kind { f.2 with dpown := { f.2.dpown with refusals := satAdd 32 f.2.dpown.refusals 1 } }
  if isHead then
    let s2 := modLevel t.level (fun v => { v with refusedHead := some (taskId t), lastRefused := some b }) s1
    let v := levelOf s2 t.level
    if v.blocked = true ∧ v.claim = false ∧ v.refusedZone = false then askClaim t.level s2 else s2
  else s1

/-- Whether a task's deadline, the latest ST at which it may be assigned, has passed (R446, R449). -/
def pastDeadline (t : Task) (s : State) : Bool := t.deadline != 0 && decide (t.deadline < stMs s)

/-- One task of a level offered to a berth. -/
def passTask (b : Nat) (head : Option Nat) (p : PassSt) (t : Task) : PassSt :=
  if p.ended ∨ p.granted then p
  else
    let v := levelOf p.s t.level
    if v.blocked = true ∧ head ≠ some (taskId t) then p
    else if v.claimBerth.isSome ∧ v.claimBerth ≠ some b then p
    else if eligible t b p.s = false ∨ triedNow t b p.s = true ∨ pastDeadline t p.s = true then p
    else if p.budget = 0 then { p with ended := true }
    else
      let s1 := markTried t b { p.s with dpown := { p.s.dpown with requests := p.s.tb.gtc :: p.s.dpown.requests } }
      match dpRefusal t b s1 with
      | none => { p with s := grantTask t b s1, budget := p.budget - 1, granted := true }
      | some k => { p with s := refuseTask t b k s1, budget := p.budget - 1 }

/-- The levels offered to a berth, from 0 down. -/
def passBerth (p : PassSt) (b : Nat) : PassSt :=
  (List.range 64).foldl (fun q l =>
    if q.ended ∨ q.granted ∨ claimedElsewhere q.s b l = true then q
    else (readyTasks q.s l).foldl (passTask b ((headOf q.s l).map taskId)) q) { p with granted := false }

/-- Inserts a berth by idle time, then number. -/
def insertIdle (x : Nat × Nat) (l : List (Nat × Nat)) : List (Nat × Nat) :=
  match l with
  | [] => [x]
  | y :: r => if x.1 < y.1 ∨ (x.1 = y.1 ∧ x.2 < y.2) then x :: y :: r else y :: insertIdle x r

/-- The idle berths by idle time, then number (R450). -/
def idleBerths (s : State) : List Nat :=
  ((s.repl.dp.berths.filterMap (fun e => e.2.idleSince.map (fun t => (t.toNat, e.1)))).foldl
    (fun a x => insertIdle x a) []).map (fun x => x.2)

/-- Claims follow their berths: a claim whose berth is no longer idle is withdrawn (R457), and one refused by a zone is asked
for again at a new space count (R459). -/
def claimStep (l : Nat) (s : State) : State :=
  let v := levelOf s l
  if v.claim then
    match v.claimBerth with
    | none => s
    | some b => if isIdle s b (dpBerthOf s b) then s else dropClaim l 2 0 s
  else if v.blocked = true ∧ v.refusedZone = true ∧ v.askedAt ≠ s.repl.dp.spaceCount then askClaim l s
  else s

/-- The claims of every level follow their berths and the space count (R457, R459); a STANDBY follows the deltas. -/
def claimsFollow (s : State) : State :=
  if s.pair.role != 2 && s.repl.dp.levels.any (fun v => v.blocked) then (List.range 64).foldl (fun t l => claimStep l t) s else s

/-- TRANSIT_REMOVAL (R421): at the first ST at or after end + guard; claims refused by a zone are asked for again (R459); a STANDBY
follows the deltas (R439). -/
def execTransitRemoval (id : Nat) (s : State) : Result :=
  done (match transitOf s id with
    | none => s
    | some t =>
      if s.pair.role ≠ 2 ∧ t.stop + s.repl.tr.cfg.guard ≤ stMs s then claimsFollow (removeTransit t 3 29 s) else s)

/-- Whether a pass runs (12, Selection). -/
def passAllowed (s : State) : Bool :=
  s.pair.role != 2 && s.modes.radio == 2 && eclShown s == 0 && decide (s.pwr.state ≤ 1)

/-- The requests that reached the arbiter before a pass are decided before it (R17, R416). -/
def decideWaiting (s : State) : State :=
  s.trown.queue.foldl (fun t _ => let f := freeTime t; decideFirst f.1 f.2) s

/-- The selection pass (R452), at a slot-unit boundary; the claims follow whether or not a pass runs. -/
def selectionPass (s : State) : State :=
  let s1 := claimsFollow s
  if passAllowed s then
    let s2 := decideWaiting { s1 with dpown := { s1.dpown with
      passes := s.tb.gtc :: s.dpown.passes.filter (fun t => elapsed s.tb.gtc t ≤ sec)
      requests := s.dpown.requests.filter (fun t => elapsed s.tb.gtc t ≤ sec) } }
    ((idleBerths s2).foldl (fun (p : PassSt) b => if p.ended then p else passBerth p b) ⟨s2, s.repl.dp.perPass, false, false⟩).s
  else s1

/-! ### The life of an assignment (R460 to R465) -/

/-- The TASK body of an assignment (Table 12-3). -/
def taskBody (t : Task) (x : Transit) : List Byte :=
  leBytes 4 (taskId t) ++ leBytes 4 (transitId x) ++ leBytes 8 x.start ++ leBytes 8 x.stop ++ leBytes 2 x.half
    ++ leBytes 1 x.line.length ++ zeros 1 ++ leBytes 2 t.energy ++ leBytes 2 t.payload.length ++ pointBytes x.line ++ t.payload

/-- The TASK body of a cancel (R460). -/
def cancelBody (t : Task) (s : State) : List Byte :=
  let x := transitOf s t.transit
  leBytes 4 (taskId t) ++ leBytes 4 t.transit ++ leBytes 8 ((x.map (fun y => y.start)).getD 0)
    ++ leBytes 8 ((x.map (fun y => y.stop)).getD 0) ++ leBytes 2 t.half ++ leBytes 1 0 ++ leBytes 1 1 ++ leBytes 2 t.energy
    ++ leBytes 2 0

/-- A transit is released with new end t_dec, and reported (R422, R462). -/
def releaseNow (id source : Nat) (s : State) : State :=
  match transitOf s id with
  | none => s
  | some t =>
    let e := min t.stop (stMs s)
    if e ≤ t.start then dropTransit t 2 source s
    else if e = t.stop then s
    else trChange { t with stop := e } 1 source (spaceBump (modArb (fun a => { a with transits := a.transits.map (fun x =>
      if transitId x = id then { x with stop := e } else x) }) s))

/-- The histogram bin of a waiting time in ns (R470). -/
def waitBin (ns : Nat) : Nat :=
  let k := ns / 100000000
  if k = 0 then 0 else min (((List.range 15).filter (fun i => decide (2 ^ i ≤ k))).length) 15

/-- The commit of an assignment (R454, R462): the task is ASSIGNED, its TASK frame may go on air, the transit of the berth's task
before is released. -/
def commitAssign (id b : Nat) (s : State) : State :=
  match taskOf s id with
  | none => s
  | some t =>
    match transitOf s t.transit with
    | none => s
    | some x =>
      if t.state = 2 ∧ t.berth = some b then
        let old := s.repl.dp.waitRelease.filter (fun w => w.1 == b)
        let s1 := old.foldl (fun a w => releaseNow w.2 30 a)
          (modDp (fun d => { d with waitRelease := d.waitRelease.filter (fun w => w.1 != b) }) s)
        let s2 := modTask id (fun t => { t with state := 3, commitSt := stMs s }) s1
        let s3 := modDpCount b (fun c => { c with hist := modNth c.hist (waitBin (sinceNs s t.ready)) (fun n => satAdd 32 n 1) }) s2
        dpTask { t with state := 3 } 2 3 1 (queueFrame b ⟨5, 0, id, taskBody t x, s.tb.gtc, 0, true, [], 0, true⟩ s3)
      else s

/-- A task leaves its slot at the commit of its terminal change (R445). -/
def dropTask (id : Nat) (s : State) : State :=
  modDp (fun d => { d with
    tasks := d.tasks.filter (fun t => taskId t != id)
    tried := d.tried.filter (fun x => x.1 != id) }) s

/-- The commit of a terminal change (R445, R458, R462). -/
def commitTaskEnd (id st cause : Nat) (s : State) : State :=
  match taskOf s id with
  | none => s
  | some t =>
    let isHead := (readyTasks (modTask id (fun t => { t with ending := false }) s) t.level).head?.any (fun h => taskId h == id)
    let s1 := dropTask id (dpTask t t.state st cause s)
    let s2 := match t.berth with
      | none => s1
      | some b =>
        let s3 := modDpCount b (fun c => if st = 5 then { c with completed := satAdd 32 c.completed 1 }
          else if st = 6 ∨ st = 9 then { c with failed := satAdd 32 c.failed 1 } else c) s1
        if st ≠ 5 then s3
        else if bit t.flags 2 then releaseNow t.transit 30 s3
        else modDp (fun d => { d with waitRelease := d.waitRelease ++ [(b, t.transit)] }) s3
    if t.state = 2 ∧ isHead = true then headLeaves t.level id 0 s2 else s2

/-- The commit of ASSIGNED becoming ACTIVE (R461). -/
def commitTaskActive (id : Nat) (s : State) : State :=
  match taskOf s id with
  | none => s
  | some t => if t.state = 3 then dpTask t 3 4 2 (modTask id (fun t => { t with state := 4 }) s) else s

/-- The task state that a STATUS of a berth reports (R461). -/
def statusTask (b id st : Nat) (s : State) : State :=
  let ignore := { s with dpown := { s.dpown with ignored := satAdd 32 s.dpown.ignored 1 } }
  if id = 0 then s
  else match taskOf s id with
    | none => ignore
    | some t =>
      if t.berth ≠ some b ∨ t.ending = true ∨ (t.state ≠ 3 ∧ t.state ≠ 4) then ignore
      else if st = 1 ∨ st = 2 then
        if t.state = 3 then
          if s.pair.decisions.any (fun h => h.what == .taskActive t.slot t.gen) then s
          else hold 30 (.taskActive t.slot t.gen) s
        else if st = 1 then ignore else s
      else if st = 3 then endTask id 5 2 s
      else if st = 4 then endTask id 6 2 s
      else s

/-- DP_PACK (Table 12-8). -/
def dpPack (idx event b cycles ident : Nat) (s : State) : State :=
  emit 0xCB03 30 (leBytes 2 idx ++ leBytes 1 event ++ leBytes 1 b ++ leBytes 4 cycles ++ leBytes 8 ident) s

/-- The pack identity and remaining energy that a STATUS reports (R467, R468); no pack where one is bound differs too. -/
def statusPack (b ident energy : Nat) (s : State) : State :=
  let s1 := modDpBerth b (fun d => { d with packId := ident, packEnergy := energy, heard := true }) s
  let s2 := match s.repl.dp.packs.find? (fun k => k.ident == ident) with
    | none => s1
    | some k => modPack k.index (fun k => { k with remaining := some energy }) s1
  let bound := boundPack s b
  let known := s.repl.dp.packs.find? (fun k => k.ident == ident)
  if (bound.map (fun k => k.ident)).getD 0 = ident then s2
  else if ident = 0 then packDisagree b bound 0 ident s2
  else
    match known with
    | some k =>
      if (dpBerthOf s b).autoBind = true ∧ k.berth = none then
        if s.pair.decisions.any (fun h => h.what == .rebind b k.index) then s2 else hold 30 (.rebind b k.index) s2
      else packDisagree b bound 1 ident s2
    | none =>
      packDisagree b bound 0 ident (limited 0xCB03 b (60 * sec) (fun _ t => dpPack 0xFFFF 4 b 0 ident t) s2)
where
  /-- The disagreement of kind 4 (R468). -/
  packDisagree (b : Nat) (bound : Option Pack) (inLedger ident : Nat) (s : State) : State :=
    disagree 30 4 ((bound.map (fun k => k.index)).getD 0xFFFF)
      (b + 65536 * (((bound.map (fun k => k.ident)).getD 0) % 2 ^ 48)) (b + 256 * inLedger + 65536 * (ident % 2 ^ 48)) s

/-- A pack is unbound from its berth and reported. -/
def unbindPack (k : Pack) (s : State) : State :=
  match k.berth with
  | none => s
  | some b => dpPack k.index 3 b k.cycles k.ident (modPack k.index (fun k => { k with berth := none }) s)

/-- A pack is bound to a berth, in place of the one bound before (R468, Table 12-7). -/
def bindPack (b idx : Nat) (s : State) : State :=
  let s1 := match boundPack s b with
    | none => s
    | some k => if k.index = idx then s else unbindPack k s
  match packOf s1 idx with
  | none => s1
  | some k => if k.berth = some b then s1
    else dpPack idx 2 b k.cycles k.ident (modPack idx (fun k => { k with berth := some b }) s1)

/-- The commit of a rebinding (R468). -/
def commitRebind (b idx : Nat) (s : State) : State :=
  match packOf s idx with
  | none => s
  | some k => if k.berth = none then bindPack b idx s else s

/-! ### Commands of group 0x0B -/

/-- The task that DP_TASK_ADD carries. -/
def taskAdd (p : List Byte) (slot gen : Nat) (ready : Gtc) (src : Nat) : Task :=
  { slot := slot, gen := gen, state := if bit (u8 p 1) 0 then 2 else 1, level := u8 p 0, flags := u8 p 1, caps := u16 p 2,
    area := u8 p 4, half := u16 p 6, offset := u32 p 8, duration := u32 p 12, deadline := u64 p 16, energy := u16 p 24,
    tag := u32 p 28, line := pointsOf p 32 (u8 p 5), payload := sub p (32 + 8 * u8 p 5) (u16 p 26),
    ready := if bit (u8 p 1) 0 then ready else 0, readySource := src, bypasses := 0, berth := none, transit := 0,
    commitSt := 0, onAir := false, ending := false }

/-- The commit of DP_TASK_ADD (R444, R471). -/
def commitTaskAdd (r : Req) (g : Gtc) (s : State) : State :=
  if 8192 ≤ s.repl.dp.tasks.length then reply r 0x0B01 0x8B01 [] s
  else
    let slot := freeSlot 8192 (s.repl.dp.tasks.map (fun t => t.slot))
    let gen := nextGen (2 ^ 19) ((look s.repl.dp.gens slot).getD 0)
    let t := taskAdd r.payload slot gen g r.master
    let s1 := modDp (fun d => { d with tasks := d.tasks ++ [t], gens := upsert d.gens slot gen }) s
    reply r 0x0B01 0 (leBytes 4 (taskId t) ++ leBytes 1 t.state ++ zeros 3 ++ leBytes 8 t.ready.toNat) (dpTask t 0 t.state 0 s1)

/-- DP_TASK_ADD (R447). -/
def execDpTaskAdd (r : Req) (s : State) : Result :=
  let p := r.payload
  let n := u8 p 5
  let lead := bit (u8 p 1) 1
  done (runCommand 0x0B01 true r (fun s =>
    checked (p.length == 32 + 8 * n + u16 p 26) (bitsBelow (u8 p 1) 3)
      (u8 p 0 ≤ 63 && (u8 p 4 ≤ 15 || u8 p 4 == 0xFF) && u32 p 8 ≤ s.repl.tr.cfg.horizon * 1000 && 1000 ≤ u32 p 12
        && u16 p 24 ≤ 65534 && u16 p 26 ≤ 512 && within (u16 p 6) 50 65000)
      true
      (notStandby s ++ failIf (decide (8192 ≤ s.repl.dp.tasks.length)) 0x8B01 ++
        failIf (!(lineValid (pointsOf p 32 n) && decide (n ≤ if lead then 15 else 16) &&
          decide (u32 p 12 ≤ s.repl.tr.cfg.maxDur * 1000))) 0x8B05) s (fun s =>
      .later (hold r.master (.command 0x0B01 r) s))) s)

/-- The commit of DP_TASK_READY (R448); `cancelled`: a cancel of the same batch prevailed (R465). -/
def commitTaskReady (r : Req) (g : Gtc) (cancelled : Bool) (s : State) : State :=
  let id := u32 r.payload 0
  if cancelled then reply r 0x0B02 0x8B04 [] s
  else match taskOf s id with
    | none => reply r 0x0B02 0x8B02 [] s
    | some t =>
      if t.state = 1 then
        reply r 0x0B02 0 (leBytes 4 id ++ zeros 4 ++ leBytes 8 g.toNat)
          (dpTask t 1 2 0 (modTask id (fun t => { t with state := 2, ready := g, readySource := r.master }) s))
      else reply r 0x0B02 0x8B03 [] s

/-- DP_TASK_READY (R448). -/
def execDpTaskReady (r : Req) (s : State) : Result :=
  let id := u32 r.payload 0
  done (runCommand 0x0B02 true r (fun s =>
    checked (r.payload.length == 4) true true true
      (notStandby s ++ (match taskOf s id with
        | none => [0x8B02]
        | some t => failIf (t.state != 1) 0x8B03)) s (fun s => .later (hold r.master (.command 0x0B02 r) s))) s)

/-- The reply payload of DP_TASK_CANCEL. -/
def cancelPayload (t : Task) : List Byte :=
  leBytes 4 (taskId t) ++ leBytes 1 t.state ++ zeros 3 ++ leBytes 4 t.transit

/-- The commit of DP_TASK_CANCEL (R465): the task ends CANCELLED; one that was ASSIGNED or ACTIVE is sent a cancel. -/
def commitCancel (r : Req) (id : Nat) (p : List Byte) (s : State) : State :=
  match taskOf s id with
  | none => reply r 0x0B03 0 p s
  | some t0 =>
    let s0 := if t0.state = 2 ∧ t0.berth.isSome then withdraw id s else s
    match taskOf s0 id with
    | none => reply r 0x0B03 0 p s0
    | some t =>
      let s1 := match t.berth with
        | none => s0
        | some b => if t.state = 3 ∨ t.state = 4 then
            queueFrame b ⟨5, 1, id, cancelBody t s0, s0.tb.gtc, 0, true, [], 0, true⟩
              (modBerth b (fun x => { x with queue := x.queue.filter (fun f => !(f.ftype == 5 && f.seq == id)) }) s0)
          else s0
      reply r 0x0B03 0 p (commitTaskEnd id 7 0 s1)

/-- DP_TASK_CANCEL (R465). -/
def execDpTaskCancel (r : Req) (s : State) : Result :=
  let id := u32 r.payload 0
  done (runCommand 0x0B03 true r (fun s =>
    checked (r.payload.length == 4) true true true (notStandby s ++ failIf (taskOf s id).isNone 0x8B02) s (fun s =>
      match taskOf s id with
      | none => .later s
      | some t => .later (hold r.master (.cancel r id (cancelPayload t)) s))) s)

/-- DP_TASK_GET (R473). -/
def execDpTaskGet (r : Req) (s : State) : Result :=
  let id := u32 r.payload 0
  done (runCommand 0x0B04 false r (fun s =>
    checked (r.payload.length == 4) true true true (failIf (taskOf s id).isNone 0x8B02) s (fun s =>
      match taskOf s id with
      | none => .later s
      | some t =>
        let pend := t.state = 2 ∧ t.berth.isSome
        .reply 0 (leBytes 4 id ++ leBytes 1 t.state ++ leBytes 1 t.bypasses
          ++ leBytes 2 (if pend then 0xFFFF else t.berth.getD 0xFFFF) ++ leBytes 8 t.ready.toNat ++ leBytes 1 t.readySource ++ zeros 3
          ++ leBytes 4 (if pend then 0 else t.transit) ++ leBytes 8 t.commitSt ++ zeros 8 ++ leBytes 1 t.level ++ leBytes 1 t.flags
          ++ leBytes 2 t.caps ++ leBytes 1 t.area ++ leBytes 1 t.line.length ++ leBytes 2 t.half ++ leBytes 4 t.offset
          ++ leBytes 4 t.duration ++ leBytes 8 t.deadline ++ leBytes 2 t.energy ++ leBytes 2 t.payload.length ++ leBytes 4 t.tag
          ++ pointBytes t.line ++ t.payload) s)) s)

/-- The commit of DP_CONFIG_SET (R471): a level that the new limit is at or below becomes blocked (R456). -/
def commitDpConfig (r : Req) (s : State) : State :=
  let p := r.payload
  let same := s.repl.dp.bypassLimit == u8 p 0 && s.repl.dp.reserve == u8 p 1 && s.repl.dp.perPass == u8 p 2
  reply r 0x0B05 (changed same) p ((List.range 64).foldl (fun t l => blockStep l t)
    (modDp (fun d => { d with bypassLimit := u8 p 0, reserve := u8 p 1, perPass := u8 p 2 }) s))

/-- DP_CONFIG_SET (R456). -/
def execDpConfigSet (r : Req) (s : State) : Result :=
  let p := r.payload
  done (runCommand 0x0B05 true r (fun s =>
    checked (p.length == 4) (zeroAt p 3 1) (1 ≤ u8 p 0 && u8 p 1 ≤ 50 && within (u8 p 2) 1 16) true (notStandby s) s (fun s =>
      .later (hold r.master (.command 0x0B05 r) s))) s)

/-- The entries of DP_BERTH_SET: berth, flags, capability mask, work-area mask. -/
def dpBerthEntries (p : List Byte) : List (Nat × Nat × Nat × Nat) :=
  (List.range (u8 p 0)).map (fun i => (u8 p (4 + 8 * i), u8 p (5 + 8 * i), u16 p (6 + 8 * i), u16 p (8 + 8 * i)))

/-- The commit of DP_BERTH_SET (R450, R471). -/
def commitDpBerth (r : Req) (s : State) : State :=
  let es := dpBerthEntries r.payload
  let f (e : Nat × Nat × Nat × Nat) (d : DpBerth) : DpBerth :=
    { d with available := bit e.2.1 0, autoBind := bit e.2.1 1, caps := e.2.2.1, areas := e.2.2.2 }
  reply r 0x0B06 (changed (es.all (fun e => f e (dpBerthOf s e.1) == dpBerthOf s e.1))) r.payload
    (es.foldl (fun t e => modDpBerth e.1 (f e) t) s)

/-- DP_BERTH_SET (R450). -/
def execDpBerthSet (r : Req) (s : State) : Result :=
  let p := r.payload
  let es := dpBerthEntries p
  done (runCommand 0x0B06 true r (fun s =>
    checked (p.length == 4 + 8 * u8 p 0)
      (zeroAt p 1 3 && es.all (fun e => bitsBelow e.2.1 2) && (List.range (u8 p 0)).all (fun i => zeroAt p (10 + 8 * i) 2))
      (within (u8 p 0) 1 64) (noRepeat (es.map (fun e => e.1))) (notStandby s) s (fun s =>
      .later (hold r.master (.command 0x0B06 r) s))) s)

/-- The READY tasks that R451 would allow for a berth (Table 12-4). -/
def eligibleDepth (b : Nat) (s : State) : Nat := (s.repl.dp.tasks.filter (fun t => isReady t && eligible t b s)).length

/-- DP_BERTH_GET (R473). -/
def execDpBerthGet (r : Req) (s : State) : Result :=
  let b := u8 r.payload 0
  done (runCommand 0x0B07 false r (fun s =>
    checked (r.payload.length == 4) (zeroAt r.payload 1 3) true true [] s (fun s =>
      let d := dpBerthOf s b
      let c := dpCountOf s b
      let f := fresh s
      let energy : Int := match available s b with
        | none => (toSigned 4 (f.1 % 2 ^ 32))
        | some a => a / 100
      .reply 0 (leBytes 1 b
        ++ leBytes 1 (bitsOf [isIdle s b d, d.available, (berthOf s b).resting, (spotOf s b).inForce,
            (List.range 64).any (fun l => (levelOf s l).claimBerth == some b)])
        ++ leBytes 2 c.depth ++ leBytes 4 (((busyTask s b).map taskId).getD 0)
        ++ leBytes 2 (((boundPack s b).map (fun k => k.index)).getD 0xFFFF) ++ zeros 2 ++ leInt 4 energy
        ++ c.load.flatMap (leBytes 2) ++ zeros 2 ++ c.hist.flatMap (leBytes 4) ++ leBytes 4 c.completed ++ leBytes 4 c.failed) f.2)) s)

/-- DP_LEVEL_GET (R473). -/
def execDpLevelGet (r : Req) (s : State) : Result :=
  done (runCommand 0x0B08 false r (fun s =>
    checked (r.payload.length == 0) true true true [] s (fun s =>
      .reply 0 ((List.range 64).flatMap (fun l =>
        let v := levelOf s l
        let h := headOf s l
        leBytes 2 (nth s.dpown.depths l 0) ++ leBytes 1 v.bypass ++ leBytes 1 (bitsOf [v.blocked, v.claim, v.refusedZone])
          ++ leBytes 4 ((h.map (fun t => min (sinceNs s t.ready / 1000000) 0xFFFFFFFF)).getD 0) ++ leBytes 4 ((h.map taskId).getD 0)
          ++ leBytes 2 (v.claimBerth.getD 0xFFFF) ++ zeros 2)) s)) s)

/-- One entry of DP_PACK_SET. -/
structure PackAsk where
  index : Nat
  action : Nat
  ident : Nat
  rated : Nat
  count : Nat
  life : Nat
deriving DecidableEq, Repr

/-- The entries of DP_PACK_SET. -/
def packAsks (p : List Byte) : List PackAsk :=
  (List.range (u8 p 0)).map (fun i =>
    let o := 4 + 24 * i
    ⟨u16 p o, u8 p (o + 2), u64 p (o + 4), u16 p (o + 12), u32 p (o + 16), u32 p (o + 20)⟩)

/-- One entry applied to the ledger: the new ledger with the entry's index, or the status that refuses it. -/
def packApply (a : PackAsk) (l : List Pack) : Nat × Option (List Pack × Nat) :=
  let old := l.find? (fun k => k.index == a.index)
  if a.action = 0 then
    if l.any (fun k => k.ident == a.ident && k.index != a.index) then (0x8B09, none)
    else if a.index = 0xFFFF ∧ 1024 ≤ l.length then (0x8B06, none)
    else
      let i := if a.index = 0xFFFF then freeSlot 1024 (l.map (fun k => k.index)) else a.index
      let new : Pack := match old with
        | none => ⟨i, a.ident, a.rated, a.count, a.life, decide (a.life ≤ a.count), false, none, none⟩
        | some k => { k with ident := a.ident, rated := a.rated, cycles := a.count, life := a.life,
                             expired := decide (a.life ≤ a.count), remaining := if k.ident = a.ident then k.remaining else none }
      (0, some (l.filter (fun k => k.index != i) ++ [new], i))
  else match old with
    | none => (0x8B07, none)
    | some k =>
      let put' (n : Pack) := l.map (fun x => if x.index = k.index then n else x)
      if a.action = 1 then
        let c := satAdd 32 k.cycles a.count
        (0, some (put' { k with cycles := c, expired := k.expired || decide (k.life ≤ c) }, k.index))
      else if a.action = 2 then
        if k.berth.isSome then (0x8B08, none) else (0, some (l.filter (fun x => x.index != k.index), k.index))
      else (0, some (put' { k with retired := a.action == 3 }, k.index))

/-- The entries applied one after another: the status, the ledger and the indexes. -/
def packApplyAll (as : List PackAsk) (l : List Pack) (idx : List Nat) : Nat × List Pack × List Nat :=
  match as with
  | [] => (0, l, idx)
  | a :: r => match packApply a l with
    | (_, some (l1, i)) => packApplyAll r l1 (idx ++ [i])
    | (st, none) => (st, l, idx)

/-- The commit of DP_PACK_SET (R469, R471): the changed entries are written to boot flash (R472). -/
def commitPackSet (r : Req) (s : State) : State :=
  let a := packApplyAll (packAsks r.payload) s.repl.dp.packs []
  if a.1 ≠ 0 then reply r 0x0B09 a.1 [] s
  else
    let s1 := modDp (fun d => { d with packs := a.2.1 }) s
    let s2 := a.2.1.foldl (fun t k =>
      if k.expired = true ∧ (s.repl.dp.packs.any (fun o => o.index == k.index && o.ident == k.ident && o.expired)) = false
      then dpPack k.index 1 (k.berth.getD 0xFF) k.cycles k.ident t else t) s1
    let s3 := { s2 with pwr := { s2.pwr with flash := s2.pwr.flash ++ [⟨3, none⟩] } }
    reply r 0x0B09 0 (leBytes 2 a.2.1.length ++ zeros 2 ++ a.2.2.flatMap (leBytes 2)) s3

/-- DP_PACK_SET (R469). -/
def execDpPackSet (r : Req) (s : State) : Result :=
  let p := r.payload
  let as := packAsks p
  done (runCommand 0x0B09 true r (fun s =>
    checked (p.length == 4 + 24 * u8 p 0)
      (zeroAt p 1 3 && (List.range (u8 p 0)).all (fun i => zeroAt p (7 + 24 * i) 1 && zeroAt p (18 + 24 * i) 2))
      (within (u8 p 0) 1 32 && as.all (fun a => (a.index ≤ 1023 || a.index == 0xFFFF) && a.action ≤ 4 &&
        (a.action != 0 || (within a.ident 1 (2 ^ 64 - 2) && within a.rated 1 65534 && within a.life 1 1000000))))
      (noRepeat ((as.filter (fun a => a.index != 0xFFFF)).map (fun a => a.index)))
      (notStandby s ++ (let a := packApplyAll as s.repl.dp.packs []; failIf (a.1 != 0) a.1)) s (fun s =>
      .later (hold r.master (.command 0x0B09 r) s))) s)

/-- The commit of DP_PACK_BIND (R467, R471). -/
def commitPackBind (r : Req) (s : State) : State :=
  let b := u8 r.payload 0
  let i := u16 r.payload 2
  if i = 0xFFFF then
    match boundPack s b with
    | none => reply r 0x0B0A 0x0102 r.payload s
    | some k => reply r 0x0B0A 0 r.payload (unbindPack k s)
  else match packOf s i with
    | none => reply r 0x0B0A 0x8B07 [] s
    | some k =>
      if k.berth = some b then reply r 0x0B0A 0x0102 r.payload s
      else if k.berth.isSome then reply r 0x0B0A 0x8B08 [] s
      else reply r 0x0B0A 0 r.payload (bindPack b i s)

/-- DP_PACK_BIND (R467). -/
def execDpPackBind (r : Req) (s : State) : Result :=
  let p := r.payload
  let b := u8 p 0
  let i := u16 p 2
  done (runCommand 0x0B0A true r (fun s =>
    checked (p.length == 4) (zeroAt p 1 1) (i ≤ 1023 || i == 0xFFFF) true
      (notStandby s ++ (if i = 0xFFFF then [] else match packOf s i with
        | none => [0x8B07]
        | some k => failIf (k.berth.isSome && k.berth != some b) 0x8B08)) s (fun s =>
      .later (hold r.master (.command 0x0B0A r) s))) s)

/-- One entry of the DP_PACK_GET reply. -/
def packBytes (i : Nat) (s : State) : List Byte :=
  match packOf s i with
  | none => leBytes 2 i ++ leBytes 1 0 ++ leBytes 1 0xFF ++ zeros 8 ++ zeros 2 ++ leBytes 2 0xFFFF ++ zeros 16
  | some k =>
    leBytes 2 i ++ leBytes 1 (bitsOf [true, k.expired, k.retired, k.berth.isSome]) ++ leBytes 1 (k.berth.getD 0xFF)
      ++ leBytes 8 k.ident ++ leBytes 2 k.rated ++ leBytes 2 (k.remaining.getD 0xFFFF) ++ leBytes 4 k.cycles ++ leBytes 4 k.life
      ++ zeros 8

/-- DP_PACK_GET (R473). -/
def execDpPackGet (r : Req) (s : State) : Result :=
  let p := r.payload
  done (runCommand 0x0B0B false r (fun s =>
    checked (p.length == 4) true
      (u16 p 0 ≤ 1023 && within (u16 p 2) 1 64 && decide (u16 p 0 + u16 p 2 ≤ 1024)) true [] s (fun s =>
      .reply 0 ((List.range (u16 p 2)).flatMap (fun j => packBytes (u16 p 0 + j) s)) s)) s)

/-- The reply payload of DP_STATUS. -/
def dpStatusBytes (s : State) : List Byte :=
  let d := s.repl.dp
  let old (l : List Gtc) := (l.filter (fun t => elapsed s.tb.gtc t ≤ sec)).length
  leBytes 2 (8192 - d.tasks.length)
    ++ (List.range 9).flatMap (fun i => leBytes 2 (d.tasks.filter (fun t => t.state == i + 1)).length)
    ++ leBytes 4 (old s.dpown.passes) ++ leBytes 4 (old s.dpown.requests) ++ leBytes 4 s.dpown.grants ++ leBytes 4 s.dpown.refusals
    ++ leBytes 8 (bitsOf ((List.range 64).map (fun l => (levelOf s l).blocked))) ++ leBytes 2 d.packs.length
    ++ leBytes 2 (idleBerths s).length

/-- DP_STATUS (R473). -/
def execDpStatus (r : Req) (s : State) : Result :=
  done (runCommand 0x0B0C false r (fun s =>
    checked (r.payload.length == 0) true true true [] s (fun s =>
      .reply 0 (dpStatusBytes s) s)) s)

/-- TASK_DEADLINE (R449): a HELD or READY task whose deadline has passed ends EXPIRED. -/
def execTaskDeadline (id : Nat) (s : State) : Result :=
  done (match taskOf s id with
    | none => s
    | some t =>
      if (t.state = 1 ∨ (t.state = 2 ∧ t.berth = none)) ∧ t.deadline ≠ 0 ∧ t.deadline < stMs s ∧ s.pair.role ≠ 2 then
        endTask id 8 3 s
      else s)

/-- The share of the newest `n` seconds of a window that were busy, in 0.1 %. -/
def share (l : List Bool) (n : Nat) : Nat := ((l.take n).filter id).length * 1000 / n

/-- The berths that the counters are kept for. -/
def countedBerths (s : State) : List Nat :=
  (List.range 256).filter (fun b => (look s.repl.mac.berths b).isSome || (look s.repl.dp.berths b).isSome ||
    (look s.dpown.berths b).isSome)

/-- DP_COUNTERS_UPDATE (R470): once per second, for every level and every berth. -/
def execDpCountersUpdate (s0 : State) : Result :=
  let s : State := { s0 with dpown := { s0.dpown with depths := (List.range 64).map (fun l => (readyTasks s0 l).length) } }
  done ((countedBerths s).foldl (fun t b =>
    let busy := ((busyTask s b).isSome :: (dpCountOf s b).busy).take 3600
    modDpCount b (fun c => { c with
      depth := min (eligibleDepth b s) 8192
      busy := busy
      load := [share busy 60, share busy 600, share busy 3600] }) t) s)

end Sys2Proof.Machine
end

