-- ==== Sys2Proof/Machine/Power.lean ====
section
/-!
DEFINITION. Sys2Proof/Machine/Power.lean: chapter 17 without its resets: the power states and the deferral of SLEEP, the supply loop, the
watchdog's renewals, the monitors, ECC errors, flash writes and the calibration record, with the commands of groups 0x10 and 0x11.
-/
namespace Sys2Proof.Machine
open Sys2Proof

/-- Changes the power manager. -/
def modPwr (f : Power → Power) (s : State) : State := { s with pwr := f s.pwr }

/-! ### Power states (R579, R580) -/

/-- Whether SLEEP is requested and not entered. -/
def sleepAsked (s : State) : Bool := s.pwr.requested == 3 && s.pwr.state != 3

/-- The deferral causes (Table 17-4). -/
def deferral (s : State) : Nat :=
  bitsOf [eclShown s != 0, !s.repl.tr.transits.isEmpty || !s.repl.tr.claims.isEmpty,
    s.repl.ecl.spots.any (fun e => e.2.inForce), !s.pwr.flash.isEmpty]

/-- The deferral causes as the replies show them: while SLEEP is requested. -/
def shownCauses (s : State) : Nat := if sleepAsked s then deferral s else 0

/-- The reply payload of PWR_STATE_SET. -/
def pwrPayload (s : State) : List Byte := leBytes 1 s.pwr.state ++ leBytes 1 s.pwr.requested ++ leBytes 1 (shownCauses s) ++ zeros 1

/-- PWR_STATE (Table 17-14). -/
def pwrEvent (old new cause causes wake cleared : Nat) (s : State) : State :=
  emit 0xD002 33 (leBytes 1 old ++ leBytes 1 new ++ leBytes 1 cause ++ leBytes 1 causes ++ leBytes 1 wake ++ zeros 3
    ++ leBytes 8 cleared) s

/-- The SLEEP request that awaits its reply is answered (R580). -/
def answerSleep (st : Nat) (s : State) : State :=
  match s.pwr.owed with
  | none => s
  | some r => reply r 0x1001 st (pwrPayload s) (modPwr (fun p => { p with owed := none }) s)

/-- The set of deferral causes is looked at again: each change is reported, and a request not yet answered is answered 0x0101
when a cause has arisen (R580), or when the pair role forbids SLEEP (Table 1-11). -/
def sleepStep (s : State) : State :=
  if sleepAsked s then
    let c := deferral s
    let s1 := if c = s.pwr.causes then s
      else pwrEvent s.pwr.state s.pwr.state 2 c 0 0 (modPwr (fun p => { p with causes := c }) s)
    if c = 0 ∧ s.pair.role = 0 then s1 else answerSleep 0x0101 s1
  else s

/-- A change among RUN, DOZE and NAP takes effect (R579). -/
def powerChange (s : State) : State :=
  if s.pwr.requested ≤ 2 ∧ s.pwr.state ≤ 2 ∧ s.pwr.requested ≠ s.pwr.state then
    let s1 := modPwr (fun p => { p with
      state := p.requested
      since := s.tb.gtc }) s
    let s2 := if s.pwr.state = 2 then { s1 with trown := { s1.trown with napExit := s.tb.gtc } } else s1
    pwrEvent s.pwr.state s.pwr.requested 0 0 0 0 s2
  else s

/-- PWR_STATE_SET (R579, R580). -/
def execPwrStateSet (r : Req) (s : State) : Result :=
  let p := r.payload
  let n := u8 p 0
  let wake := u32 p 4
  done (runCommand 0x1001 true r (fun s =>
    checked (p.length == 8) (zeroAt p 2 2) (n ≤ 3 && u8 p 1 ≤ 2) true
      (failIf (n == 3 && s.pair.role != 0) 0x2002 ++ failIf (n == 3 && wake != 0 && decide (wake < s.pwr.rtc + 2)) 0x9001) s (fun s =>
      let s0 := answerSleep 0x0101 s
      if n = 3 then
        let s1 := sleepStep (modPwr (fun q => { q with
          requested := 3
          wakeState := u8 p 1
          wakeTime := wake
          causes := if s.pwr.requested = 3 then q.causes else 0 }) s0)
        if deferral s1 = 0 then .later (modPwr (fun q => { q with owed := some r }) s1)
        else .reply 0x0101 (pwrPayload s1) s1
      else
        let s1 := modPwr (fun q => { q with
          requested := n
          causes := 0 }) s0
        let s2 := if s.modes.radio = 0 then powerChange s1 else s1
        .reply (changed (s.pwr.requested == n)) (pwrPayload s2) s2)) s)

/-- The domains powered, as a bitmap (Table 17-1). -/
def poweredBits (s : State) : Nat := bitsOf ((List.range 14).map (fun d => domOn s d))

/-- The reply payload of PWR_STATUS; `mv` is the measured VDD_CORE (log entry 24). -/
def pwrStatusBytes (mv : Nat) (s : State) : List Byte :=
  let p := s.pwr
  leBytes 1 p.state ++ leBytes 1 p.requested ++ leBytes 1 (shownCauses s) ++ leBytes 1 p.lastWake ++ leInt 2 p.thTop
    ++ leBytes 1 p.thSensor ++ zeros 1 ++ leInt 2 p.avsV ++ leBytes 2 mv ++ leInt 4 p.avsSlack ++ leBytes 2 (poweredBits s)
    ++ leBytes 2 p.monitors ++ leBytes 2 p.wdTimeout ++ leBytes 2 p.bites ++ leBytes 4 p.rtc ++ leBytes 4 p.hours ++ leBytes 4 p.cycles
    ++ leBytes 4 p.eccSramC ++ leBytes 4 p.eccSramU ++ leBytes 4 p.eccMemC ++ leBytes 4 p.eccMemU ++ leBytes 1 (flag p.calUser)
    ++ zeros 1 ++ leBytes 2 p.calCount ++ leBytes 4 (min (sinceNs s p.since / sec) 0xFFFFFFFF)
    ++ leBytes 4 (min (p.portResets + p.domainResets + p.warmResets) 0xFFFFFFFF)

/-- PWR_STATUS (R602). -/
def execPwrStatus (r : Req) (s : State) : Result :=
  done (runCommand 0x1002 false r (fun s =>
    checked (r.payload.length == 0) true true true [] s (fun s =>
      .reply 0 (pwrStatusBytes ((fresh s).1 % 65536) s) (fresh s).2)) s)

/-! ### Adaptive voltage scaling (R593, R594) -/

/-- Whether the firmware runs. -/
def fwRuns (s : State) : Bool := decide (s.pwr.state ≤ 2) && domOn s 10 && !s.vault.recovery && s.vault.life != 0xFF

/-- AVS_FENCE_SET (R30, R31, R593). -/
def execAvsFenceSet (r : Req) (s : State) : Result :=
  let p := r.payload
  let fixed := if u8 p 0 = 1 then some (iN 4 p 12) else none
  done (runCommand 0x1003 true r (fun s =>
    checked (p.length == 16) (zeroAt p 1 3)
      (u8 p 0 ≤ 1 && withinI (iN 4 p 4) 650 850 && withinI (iN 4 p 8) 650 850 && (u8 p 0 == 0 || withinI (iN 4 p 12) 650 850)) true
      (failIf (decide (iN 4 p 8 < iN 4 p 4)) 0x4003) s (fun s =>
      .reply (changed (s.pwr.avsLo == iN 4 p 4 && s.pwr.avsHi == iN 4 p 8 && s.pwr.avsFixed == fixed)) p
        (modPwr (fun q => { q with
          avsLo := iN 4 p 4
          avsHi := iN 4 p 8
          avsFixed := fixed }) s))) s)

/-- PWR_MONITOR (Table 17-14). -/
def pwrMonitor (code fault : Nat) (value : Int) (s : State) : State :=
  emit 0xD006 33 (leBytes 1 code ++ leBytes 1 fault ++ zeros 2 ++ leInt 4 value)
    (modPwr (fun p => { p with monitors := putBit p.monitors (code - 1) (fault == 1) }) s)

/-- The voltage that the loop wants for a slack (17, Adaptive voltage scaling). -/
def avsWant (slack : Int) (s : State) : Int :=
  if slack < 20 then s.pwr.avsV + 10
  else match s.pwr.avsHighSince with
    | none => s.pwr.avsV
    | some t => if 60 < slack ∧ 100000000 ≤ sinceNs s t then s.pwr.avsV - 5 else s.pwr.avsV

/-- One update of the supply loop (loop 5, instance 0). -/
def avsLoop (slack : Int) (s : State) : State :=
  let want := avsWant slack s
  let v := match s.pwr.avsFixed with
    | none => clampInt s.pwr.avsLo s.pwr.avsHi want
    | some f => f
  let top := s.pwr.avsFixed.isSome || v == s.pwr.avsHi
  let s1 := modPwr (fun p => { p with
    avsV := v
    avsSlack := slack
    avsHighSince := if 60 < slack then (if p.avsHighSince.isSome then p.avsHighSince else some s.tb.gtc) else none
    avsNegSince := if slack < 0 ∧ top = true then (if p.avsNegSince.isSome then p.avsNegSince else some s.tb.gtc) else none }) s
  let s2 := if v = s.pwr.avsV then s1 else put (.avs v) s1
  let s3 := if s.pwr.avsFixed.isSome then s2
    else if want < s.pwr.avsLo then policyLimit 33 5 0 0 0 s.pwr.avsLo want s2
    else if s.pwr.avsHi < want then policyLimit 33 5 0 1 0 s.pwr.avsHi want s2 else s2
  match s3.pwr.avsNegSince with
  | none => s3
  | some t => if 10000000 ≤ sinceNs s t ∧ bit s.pwr.monitors 8 = false then pwrMonitor 9 1 slack s3 else s3

/-- AVS_TICK (R593, R594): `slack` is the least slack of the delay monitors in ps. -/
def execAvsTick (slack : Int) (s : State) : Result := done (if fwRuns s then avsLoop slack s else s)

/-! ### Watchdog renewals (R591) -/

/-- Whether a watchdog channel has reached half its timeout. -/
def lateCore (s : State) (c : Nat) : Bool := decide (s.pwr.wdTimeout * 500000 ≤ sinceNs s (nth s.pwr.renewals c 0))

/-- The late channels, bit per core. -/
def lateBits (s : State) : Nat := bitsOf ((List.range 8).map (fun c => lateCore s c))

/-- WATCHDOG, which the cores that are not late report (Table 17-14). -/
def watchdogReport (s : State) : State :=
  if lateBits s = 255 ∨ lateBits s = 0 then s
  else emit 0xD007 33 (leBytes 1 (lateBits s) ++ zeros 3
    ++ leBytes 4 (((List.range 8).map (fun c => sinceNs s (nth s.pwr.renewals c 0) / 1000000)).foldl max 0)) s

/-- WATCHDOG_HALF_TIMEOUT (R591). -/
def execWatchdogHalfTimeout (core : Nat) (s : State) : Result :=
  done (if fwRuns s = true ∧ core < 8 ∧ lateCore s core = true then watchdogReport s else s)

/-- WATCHDOG_RENEWAL (R591). -/
def execWatchdogRenewal (core : Nat) (s : State) : Result :=
  done (modPwr (fun p => { p with
    renewals := modNth p.renewals core (fun _ => s.tb.gtc)
    renewed := if core < 8 then putBit p.renewed core true else p.renewed }) s)

/-- WD_SET (R591, R592): a channel that a shorter timeout makes late is reported. -/
def execWdSet (r : Req) (s : State) : Result :=
  let p := r.payload
  done (runCommand 0x1004 true r (fun s =>
    checked (p.length == 4) true (within (u16 p 0) 100 10000 && within (u16 p 2) 10 3600) true [] s (fun s =>
      let s1 := modPwr (fun q => { q with
        wdTimeout := u16 p 0
        wdWindow := u16 p 2 }) s
      .reply (changed (s.pwr.wdTimeout == u16 p 0 && s.pwr.wdWindow == u16 p 2)) p
        (if lateBits s1 = lateBits s then s1 else watchdogReport s1))) s)

/-! ### Monitors, temperature, ECC (R595 to R597) -/

/-- MONITOR_FAULT (R595): the condition has held for 1 ms; REF_IN has rows of its own. -/
def execMonitorFault (code : Nat) (value : Int) (s : State) : Result :=
  done (if within code 1 9 = true ∧ code ≠ 6 ∧ bit s.pwr.monitors (code - 1) = false then pwrMonitor code 1 value s else s)

/-- MONITOR_CLEAR (R595): the condition has been absent for 100 ms. -/
def execMonitorClear (code : Nat) (value : Int) (s : State) : Result :=
  done (if within code 1 9 = true ∧ code ≠ 6 ∧ bit s.pwr.monitors (code - 1) = true then pwrMonitor code 0 value s else s)

/-- REF_IN_LOST (R578): the measured offset in ppm is a free value. -/
def execRefInLost (s : State) : Result :=
  let f := fresh s
  done (if s.pwr.refLost then s
    else pwrMonitor 6 1 (toSigned 4 (f.1 % 2 ^ 32)) (modPwr (fun p => { p with refLost := true }) f.2))

/-- REF_IN_RESTORED (R578). -/
def execRefInRestored (s : State) : Result :=
  let f := fresh s
  done (if s.pwr.refLost then pwrMonitor 6 0 (toSigned 4 (f.1 % 2 ^ 32)) (modPwr (fun p => { p with refLost := false }) f.2)
    else s)

/-- The temperature level: a level is left 5.00 degrees below it (R596). -/
def thermalLevel (warn : Int) (old : Nat) (t : Int) : Nat :=
  if 15000 ≤ t ∨ (old = 2 ∧ 14500 < t) then 2 else if warn ≤ t ∨ (1 ≤ old ∧ warn - 500 < t) then 1 else 0

/-- The level is judged and a change reported (R596). -/
def thermalStep (s : State) : State :=
  let n := thermalLevel s.pwr.thWarn s.pwr.thLevel s.pwr.thTop
  if n = s.pwr.thLevel then s
  else emit 0xD005 33 (leBytes 1 n ++ leBytes 1 s.pwr.thSensor ++ leInt 2 s.pwr.thTop) (modPwr (fun p => { p with thLevel := n }) s)

/-- THERMAL_SET (R596). -/
def execThermalSet (r : Req) (s : State) : Result :=
  let p := r.payload
  done (runCommand 0x1005 true r (fun s =>
    checked (p.length == 4) (zeroAt p 2 2) (within (u16 p 0) 10000 14800) true [] s (fun s =>
      .reply (changed (s.pwr.thWarn == (u16 p 0 : Int))) p (thermalStep (modPwr (fun q => { q with thWarn := u16 p 0 }) s)))) s)

/-- MEM_ECC (Table 17-14). -/
def memEcc (mem uncorrectable source count address : Nat) (s : State) : State :=
  emit 0xD004 33 (leBytes 1 mem ++ leBytes 1 uncorrectable ++ leBytes 1 source ++ zeros 1 ++ leBytes 4 count ++ leBytes 8 address) s

/-- MEM_ECC_ERROR (R597): counted; corrected errors are reported at most once a minute for each memory; a task whose body is hit
in LPDDR5X ends LOST with cause 8 (R464), `object` being its ID where the owner is the dispatcher. -/
def execMemEccError (mem : Nat) (uncorrectable : Bool) (source address object : Nat) (s : State) : Result :=
  let s1 := modPwr (fun p => { p with
    eccSramC := if mem = 1 ∧ uncorrectable = false then satAdd 32 p.eccSramC 1 else p.eccSramC
    eccSramU := if mem = 1 ∧ uncorrectable = true then satAdd 32 p.eccSramU 1 else p.eccSramU
    eccMemC := if mem = 2 ∧ uncorrectable = false then satAdd 32 p.eccMemC 1 else p.eccMemC
    eccMemU := if mem = 2 ∧ uncorrectable = true then satAdd 32 p.eccMemU 1 else p.eccMemU }) s
  done (if within mem 1 2 = false then s
    else if uncorrectable then
      let s2 := memEcc mem 1 source 1 address s1
      if mem = 2 ∧ source = 30 ∧ (taskOf s object).any (fun t => t.state == 3 || t.state == 4) = true then endTask object 9 8 s2 else s2
    else limited 0xD004 mem 60000000000 (fun n t => memEcc mem 0 source (n + 1) address t) s1)

/-! ### Calibration record and flash writes (R598 to R601) -/

/-- The CRC-32C of the record in force (R598). -/
def calibCrc (s : State) : Nat := crc32c s.pwr.calib.flatten

/-- The length of a calibration section (Table 17-11). -/
def calibLength (n : Nat) : Nat := nth [0, 64, 64, 96, 48, 672, 8, 16, 64] n 0

/-- Whether one head's block of a radio section meets the ranges of Table 8-10 as R324 applies them. -/
def radioBlockOk (b : List Byte) : Bool :=
  u8 b 0 == 0 ||
    (let e := bandKhz (u8 b 0)
     let fs := (List.range (u8 b 1)).map (fun i => u32 b (40 + 8 * i))
     u8 b 0 ≤ 4 && within (u8 b 1) 1 16 && zeroAt b 2 2 && u32 b 4 ≤ 100000000 && u32 b 8 ≤ 100000000
       && (List.range 8).all (fun i => u8 b (30 + i) ≤ 80) && zeroAt b 38 2
       && fs.all (fun f => within f e.1 e.2) && (List.range (u8 b 1)).all (fun i => zeroAt b (46 + 8 * i) 2)
       && (List.range (u8 b 1 - 1)).all (fun i => decide (nth fs i 0 < nth fs (i + 1) 0)))

/-- CALIB_READ (R598). -/
def execCalibRead (r : Req) (s : State) : Result :=
  let n := u8 r.payload 0
  done (runCommand 0x1101 false r (fun s =>
    checked (r.payload.length == 1) true (within n 1 8) true [] s (fun s =>
      .reply 0 (leBytes 1 n ++ leBytes 1 (flag s.pwr.calUser) ++ leBytes 2 s.pwr.calCount ++ nth s.pwr.calib (n - 1) []) s)) s)

/-- CALIB_WRITE (R599, R600): the write runs, and the reply comes with FLASH_WRITE_COMPLETE. -/
def execCalibWrite (r : Req) (s : State) : Result :=
  let p := r.payload
  let n := u8 p 0
  let d := p.drop 4
  done (runCommand 0x1102 true r (fun s =>
    checked (if within n 1 8 then p.length == 4 + calibLength n else decide (4 ≤ p.length)) (zeroAt p 1 3)
      (within n 1 8 && (n != 5 || (List.range 4).all (fun h => radioBlockOk (sub d (168 * h) 168)))) true
      (failIf (s.vault.life == 2) 0x2001 ++ failIf (s.modes.radio == 2 && eclShown s == 0) 0x2002 ++
        failIf (!s.pwr.flash.isEmpty) 0x2003) s (fun s =>
      .later (modPwr (fun q => { q with flash := q.flash ++ [⟨0, some r⟩] }) s))) s)

/-- A CALIB_WRITE has reached the flash: the values come into use, the reply and CALIB_CHANGED follow (R599, R601); sections 1 to
4 restart a survey (R230), and an enabled head whose block names another band stops sending (R324). -/
def applyCalib (r : Req) (ok : Bool) (s : State) : State :=
  let n := u8 r.payload 0
  if ok = false then reply r 0x1102 0x9101 [] s
  else
    let s1 := modPwr (fun p => { p with
      calib := modNth p.calib (n - 1) (fun _ => r.payload.drop 4)
      calUser := true
      calCount := (p.calCount + 1) % 65536 }) s
    let s2 := if n ≤ 4 then surveyRestart s1
      else if n = 5 then (List.range 4).foldl (fun (t : State) h =>
        modHead h (fun x => { x with calHold := x.calHold || (x.set.enable && calBand t h != x.set.band) }) t) s1
      else s1
    let s3 := reply r 0x1102 0 (leBytes 2 s2.pwr.calCount ++ zeros 2 ++ leBytes 4 (calibCrc s2)) s2
    emit 0xD101 33 (leBytes 1 n ++ leBytes 1 r.master ++ leBytes 2 s3.pwr.calCount ++ leBytes 4 (calibCrc s3)) s3

/-- Takes the oldest flash write that is not a nucleus record, with the writes that stay. -/
def takeFlash (l : List FlashJob) : Option (FlashJob × List FlashJob) :=
  match l with
  | [] => none
  | j :: t =>
    if j.kind = 2 then (takeFlash t).map (fun x => (x.1, j :: x.2)) else some (j, t)

/-- FLASH_WRITE_COMPLETE (R599, R533): nucleus records have a row of their own. -/
def execFlashWriteComplete (ok : Bool) (s : State) : Result :=
  done (match takeFlash s.pwr.flash with
    | none => s
    | some (j, rest) =>
      let s1 := modPwr (fun p => { p with flash := rest }) s
      sleepStep (match j.req with
        | none => s1
        | some r => if j.kind = 0 then applyCalib r ok s1 else applyFwWrite r ok s1))

end Sys2Proof.Machine
end

