-- ==== Sys2Proof/Machine/Air.lean ====
section
/-!
DEFINITION. Sys2Proof/Machine/Air.lean: how a frame of chapter 9 goes on air: its duration, the duty-cycle accounting of its sub-band
entries, the counters it is protected under, and what a head must be to send it.
-/
namespace Sys2Proof.Machine
open Sys2Proof

/-! ### The MAC's state -/

/-- Changes the MAC's replicated state. -/
def modMac (f : Mac → Mac) (s : State) : State := { s with repl := { s.repl with mac := f s.repl.mac } }

/-- The schedule of a head. -/
def macHead (s : State) (h : Nat) : MacHead := nth s.repl.mac.heads h MacHead.default

/-- Changes the schedule of a head. -/
def modMacHead (h : Nat) (f : MacHead → MacHead) (s : State) : State := modMac (fun m => { m with heads := modNth m.heads h f }) s

/-- What the MAC keeps for itself of a head. -/
def macLocal (s : State) (h : Nat) : MacLocal := nth s.mac.heads h MacLocal.zero

/-- Changes what the MAC keeps for itself of a head. -/
def modLocal (h : Nat) (f : MacLocal → MacLocal) (s : State) : State := { s with mac := { s.mac with heads := modNth s.mac.heads h f } }

/-- Changes the MAC's own state. -/
def modOwn (f : MacOwn → MacOwn) (s : State) : State := { s with mac := f s.mac }

/-! ### Durations (R319, R334) -/

/-- The units that a frame of `us` needs (R334). -/
def unitsOf (us : Nat) : Nat := (us + 16 + 249) / 250

/-- LENGTH of a frame: header, body, the MIC of a protected one, FCS (R336). -/
def frameLength (ftype body : Nat) : Nat := 12 + body + (if within ftype 7 9 then 0 else 8) + 4

/-- The units that a frame of a head needs. -/
def frameUnits (s : State) (h mcs len : Nat) : Nat := unitsOf (frameUs (headOfRh s h).set.n1 mcs len)

/-- The typical SNR of an MCS in 0.01 dB (Table 8-7). -/
def snrReq (mcs : Nat) : Int := nth [-100, 200, 500, 800, 1100, 1450, 1850, 2000] mcs 0

/-! ### Duty cycle (R369 to R371) -/

/-- A sub-band entry. -/
def subOf (s : State) (i : Nat) : SubBand := nth s.repl.mac.subs i ⟨0, 0, 0, 60, 0, false, 0⟩

/-- The meter of an entry as it stands now (R370). -/
def meterNow (s : State) (i : Nat) : Meter := rollMeter (bucketNum (subOf s i) (airTime s)) (nth s.repl.mac.meters i ⟨[], 0, 0, 0⟩)

/-- The used time of an entry in us. -/
def usedUs (s : State) (i : Nat) : Nat := (meterNow s i).buckets.sum

/-- The budget of an entry in us. -/
def budgetUs (e : SubBand) : Nat := e.duty * e.window * 10

/-- Whether an entry admits a frame of duration `d` (R369). -/
def dutyAdmits (s : State) (ftype d i : Nat) : Bool :=
  let e := subOf s i
  let u := usedUs s i
  if ftype = 0 then decide (u + d ≤ budgetUs e)
  else if ftype = 1 ∨ ftype = 3 then e.exempt || decide (u + d ≤ budgetUs e)
  else decide (u + d + budgetUs e * e.reserve / 100 ≤ budgetUs e)

/-- RADIO_DUTY (Table 9-16). -/
def radioDuty (i cause ftype head : Nat) (s : State) : State :=
  emit 0xC704 (if head ≤ 3 then 20 + head else 28) (leBytes 1 i ++ leBytes 1 cause ++ leBytes 1 ftype ++ leBytes 1 head
    ++ leBytes 4 (usedUs s i / 1000) ++ leBytes 4 (budgetUs (subOf s i) / 1000)) s

/-- An entry refuses a frame: counted, and reported at most once per bucket interval (R370). -/
def dutyRefuse (h ftype i : Nat) (s : State) : State :=
  let m := meterNow s i
  let s1 := modMac (fun x => { x with meters := x.meters.set i { m with refused := satAdd 32 m.refused 1 } }) s
  if look s.mac.dutyReport i = some m.num then s1
  else radioDuty i 0 ftype h (modOwn (fun x => { x with dutyReport := upsert x.dutyReport i m.num }) s1)

/-- An entry meters a frame of duration `d` (R370). -/
def dutyAdd (ftype d : Nat) (s : State) (i : Nat) : State :=
  let m := meterNow s i
  let beyond := (ftype == 1 || ftype == 3) && (subOf s i).exempt && decide (budgetUs (subOf s i) < m.buckets.sum + d)
  modMac (fun x => { x with meters := x.meters.set i { m with
    buckets := modNth (if m.buckets.isEmpty then [0] else m.buckets) 0 (fun b => b + d)
    exemptOver := if beyond then satAdd 32 m.exemptOver 1 else m.exemptOver } }) s

/-! ### Sending -/

/-- Whether a head is READY (R301, R578). -/
def headReady (s : State) (h : Nat) : Bool := (headOfRh s h).port == 2 && !s.pwr.refLost

/-- The channel a head is tuned to. -/
def headChan (s : State) (h : Nat) : Option RhChan := (headOfRh s h).chan.bind (fun i => chanOf (headOfRh s h) i)

/-- Whether a channel script waits for or runs on a head (R310). -/
def scripting (s : State) (h : Nat) : Bool := (headOfRh s h).queue.any (fun q => q.kind == 1)

/-- A frame that waits to go on air. -/
structure Frame where
  head : Nat
  ftype : Nat
  dst : Nat
  mcs : Nat
  /-- the requested EIRP in 0.01 dBm -/
  eirp : Int
  body : List Byte
  /-- LENGTH: the bytes of the PSDU with its FCS -/
  len : Nat
deriving DecidableEq, Repr

/-- The duration of a frame in us. -/
def frameTime (f : Frame) (s : State) : Nat := frameUs (headOfRh s f.head).set.n1 f.mcs f.len

/-- Whether a channel script has ended less than T/R lead ago: no frame opens on the new channel yet (R310). -/
def settling (s : State) (h : Nat) : Bool :=
  match (headOfRh s h).chanAt with
  | none => false
  | some t => decide (sinceNs s t < (headOfRh s h).set.trLead * 1000)

/-- A frame of Table 9-3 with the length that follows from its body. -/
def macFrame (h ftype dst mcs : Nat) (eirp : Int) (body : List Byte) : Frame :=
  ⟨h, ftype, dst, mcs, eirp, body, frameLength ftype body.length⟩

/-- Why a head does not send a frame: 0 it does, 1 head not READY, 2 duty budget, 3 sub-band, 4 channel script, 5 too long
(R301, R304, R310, R322, R324, R369). -/
def sendCheck (f : Frame) (s : State) : Nat :=
  if headReady s f.head = false then 1
  else if scripting s f.head || settling s f.head then 4
  else if (headOfRh s f.head).calHold ∨ calBand s f.head ≠ (headOfRh s f.head).set.band then 3
  else match headChan s f.head with
    | none => 3
    | some c =>
      if (subbandsOf s f.head c).isEmpty then 3
      else if 4000 < frameTime f s ∨ 4095 < f.len then 5
      else if (subbandsOf s f.head c).all (fun i => dutyAdmits s f.ftype (frameTime f s) i) then 0 else 2

/-- The EIRP of a frame, its backoff and whether cap limited it (R323): the strictest of the entries that apply limits it. -/
def sendEirp (f : Frame) (c : RhChan) (s : State) : Int × Int × Bool :=
  let caps := (subbandsOf s f.head c).map (fun i => (subOf s i).eirp)
  frameEirp s f.head c.centre f.mcs (caps.foldl min (caps.headD 0)) f.eirp

/-! ### Protection (R336, R337) -/

/-- How a frame is protected: Table 9-2's code, the air version, the counter, the key generation and the key; without one the MIC is
zero (R527). -/
structure Protect where
  prot : Nat
  air : Nat
  counter : Nat
  gen : Nat
  key : Option (List Byte)
deriving DecidableEq, Repr

/-- The protection of a frame type (Table 9-3). -/
def protOf (ftype : Nat) : Nat := if within ftype 7 9 then 0 else if ftype ≤ 3 then 1 else 2

/-- The MAC header (Table 9-2). -/
def macHeader (ftype prot air epoch dst src counter ack : Nat) : List Byte :=
  leBytes 1 (ftype + 16 * prot) ++ leBytes 1 (air + 16 * (epoch % 16)) ++ leBytes 2 dst ++ leBytes 2 src ++ leBytes 4 counter
    ++ leBytes 2 ack

/-- The nonce of a frame: header byte 0, source, destination, counter, key generation (R337). -/
def frameNonce (header : List Byte) (gen : Nat) : List Byte :=
  sub header 0 1 ++ sub header 4 2 ++ sub header 2 2 ++ sub header 6 4 ++ leBytes 4 gen

/-- What follows the MAC header: the body, encrypted under protection 2, and the 8-byte MIC. Under protection 1 the body stays in clear
and is authenticated behind the header (R337; log entry 34). -/
def protectBody (x : Protect) (header body : List Byte) : List Byte :=
  if x.prot = 0 then body
  else match x.key with
    | none => body ++ zeros 8
    | some k =>
      if x.prot = 1 then body ++ ccmSeal 8 k (frameNonce header x.gen) (header ++ body) []
      else ccmSeal 8 k (frameNonce header x.gen) header body

/-- The body of a received PSDU's content under a key; none where the MIC fails or the frame carries no MIC (R337, R340). -/
def openBody (prot gen : Nat) (key header content : List Byte) : Option (List Byte) :=
  let n := content.length - 8
  if prot = 2 then ccmOpen 8 key (frameNonce header gen) header content
  else if prot = 1 ∧ 8 ≤ content.length then
    (ccmOpen 8 key (frameNonce header gen) (header ++ content.take n) (content.drop n)).map (fun _ => content.take n)
  else none

/-- The PSDU of a frame with its FCS (R315, R336); an RH_TEST frame, type 255, holds random bytes alone (R328). -/
def framePsdu (f : Frame) (x : Protect) (s : State) : List Byte :=
  let header := macHeader f.ftype x.prot x.air s.repl.mac.bepoch f.dst 0 x.counter 0
  withFcs (if f.ftype = 255 then f.body else header ++ protectBody x header f.body)

/-- The frame as a head sends it at the present boundary (R302, R313 to R317, R323). -/
def txFrame (f : Frame) (x : Protect) (e : Int × Int × Bool) (s : State) : TxFrame :=
  let y := headOfRh s f.head
  let psdu := framePsdu f x s
  let header := phyHeader f.mcs psdu.length y.seed s.repl.mac.cfg.colour 0 (txpwrOf e.1)
  { head := f.head, gtc := s.tb.gtc, source := 20 + f.head, unit := unitNow s, ftype := f.ftype, dst := f.dst, counter := x.counter
    mcs := f.mcs, eirp := e.1, backoff := e.2.1, body := f.body, header := header, psdu := psdu
    early := txLatency s f.head, symbols := frameSymbols y.set.n1 header f.mcs y.seed psdu }

/-- A frame in progress on a head is cut off by one that starts now. -/
def cutFrame (h : Nat) (s : State) : State := if unitNow s < (macLocal s h).occupied then put (.cutOff h) s else s

/-- A frame that the check admits goes on air (R302, R303, R315, R370). -/
def onAir (f : Frame) (x : Protect) (s : State) : State :=
  match headChan s f.head with
  | none => s
  | some c =>
    let e := sendEirp f c s
    let s1 := (subbandsOf s f.head c).foldl (fun t i => dutyAdd f.ftype (frameTime f s) t i) (cutFrame f.head s)
    let s2 := modHead f.head (fun y => { y with
      sent := satAdd 32 y.sent 1
      limited := if e.2.2 then satAdd 16 y.limited 1 else y.limited
      seed := if y.seed = 127 then 1 else y.seed + 1 }) (raiseLines f.head (frameTime f s) s1)
    put (.frame (txFrame f x e s))
      (modLocal f.head (fun l => { l with
        occupied := unitNow s + unitsOf (frameTime f s)
        ftype := f.ftype }) s2)

/-- What a frame that is not sent leaves behind: the counts of R304 and R322, the refusals of R369. -/
def notSent (f : Frame) (code : Nat) (s : State) : State :=
  match code with
  | 2 =>
    match headChan s f.head with
    | none => s
    | some c => ((subbandsOf s f.head c).filter (fun i => !dutyAdmits s f.ftype (frameTime f s) i)).foldl
        (fun t i => dutyRefuse f.head f.ftype i t) s
  | 3 => modHead f.head (fun x => { x with dropped := satAdd 16 x.dropped 1 }) s
  | 5 => modHead f.head (fun x => { x with dropped := satAdd 16 x.dropped 1 }) s
  | _ => s

/-- The largest counter under which a frame is protected (R341, R342). -/
def counterTop : Nat := 0xFFFFFFF0

/-- The broadcast key of an epoch: the first 16 bytes of its node (R337). -/
def epochKey (s : State) (e : Nat) : List Byte :=
  match epochNode s e with
  | none => zeros 16
  | some n => (material s n.handle).take 16

/-- The session key of a berth: the first 16 bytes of its session node (R337). -/
def sessionKey (s : State) (b : Nat) : List Byte :=
  match sessionNode s b with
  | none => zeros 16
  | some n => (material s n.handle).take 16

/-- The air version that frames to 0xFFFF carry: they are the same for both versions (R373; log entry 34). -/
def broadcastAir : Nat := 3

/-- The protection of a frame under the broadcast key (R337, R342). -/
def broadcastProtect (s : State) : Protect :=
  ⟨1, broadcastAir, s.repl.mac.bcounter, s.repl.mac.bepoch, some (epochKey s s.repl.mac.bepoch)⟩

/-- Sends a frame under the broadcast key (R338, R342): the code of `sendCheck`, or 6 for an exhausted counter or a key that is not
VALID. -/
def sendBroadcast (f : Frame) (s : State) : Nat × State :=
  if counterTop < s.repl.mac.bcounter ∨ broadcastKeyOk s = false then (6, s)
  else
    let c := sendCheck f s
    if c = 0 then (0, modMac (fun m => { m with bcounter := m.bcounter + 1 }) (onAir f (broadcastProtect s) (useNode (epochNode s s.repl.mac.bepoch) s)))
    else (c, notSent f c s)

/-- The short address of a berth. -/
def shortAddress (b : Nat) : Nat := 0x0100 + b

/-- A REJOIN message is sent to a berth whose counter passed the limit (R341); it is held for commit (R351). -/
def rejoinAtLimit (b : Nat) (s : State) : State :=
  let x := berthOf s b
  if (0xF0000000 < x.down ∨ 0xF0000000 < x.up) ∧ x.rejoinSent = false ∧ (x.state = 2 ∨ x.state = 3) then
    hold (20 + x.head) (.release b)
      (queueControl b 6 [1, 0] false (modBerth b (fun x => { x with rejoinSent := true }) s))
  else s

/-- The protection of a frame of a type under a berth's session key (R337, R339); a STOP frame goes out with a zero MIC where the vault
can protect nothing (R527). -/
def sessionProtect (s : State) (b ftype : Nat) : Protect :=
  let x := berthOf s b
  ⟨protOf ftype, x.air, x.down, x.session, if x.hasSession && sessionKeyOk s b then some (sessionKey s b) else none⟩

/-- Sends a frame to a berth under its session key (R337, R339, R341): the code of `sendCheck`, or 6 where no counter or no key is
left, which stops no STOP frame (R527). Answers the counter too. -/
def sendSession (b : Nat) (f : Frame) (s : State) : Nat × Nat × State :=
  let x := berthOf s b
  let key := x.hasSession && sessionKeyOk s b
  if counterTop < x.down ∨ (key = false ∧ f.ftype ≠ 3) then (6, x.down, s)
  else
    let c := sendCheck f s
    if c = 0 then
      let s1 := onAir f (sessionProtect s b f.ftype) (if key then useNode (sessionNode s b) s else s)
      (0, x.down, rejoinAtLimit b (modBerth b (fun y => { y with down := y.down + 1 }) s1))
    else (c, x.down, notSent f c s)

/-- Sends an unprotected frame (CHALLENGE). -/
def sendPlain (f : Frame) (s : State) : Nat × State :=
  let c := sendCheck f s
  if c = 0 then (0, onAir f ⟨0, broadcastAir, 0, 0, none⟩ s) else (c, notSent f c s)

end Sys2Proof.Machine
end

