-- ==== Sys2Proof/Machine/Slots.lean ====
section
/-!
DEFINITION. Sys2Proof/Machine/Slots.lean: unit maps, runs, and the allotment of slots and status units to berths (R332 to R335, R360 to R363).
-/
namespace Sys2Proof.Machine
open Sys2Proof

/-! ### Maps and runs -/

/-- The orbit length in units. -/
def orbitL (s : State) : Nat := s.repl.mac.cfg.l

/-- The length of the run of type `t` that `l` begins with, or of what is left of it. -/
def runLength (t : Nat) (l : List Nat) : Nat := (l.takeWhile (fun x => x == t)).length

/-- What is left of the run that unit `u` lies in. -/
def runLeft (types : List Nat) (u : Nat) : Nat :=
  match types.drop u with
  | [] => 0
  | t :: r => runLength t (t :: r)

/-- Whether unit `u` begins a run of type `t`. -/
def runStarts (types : List Nat) (t u : Nat) : Bool := nth types u 0 == t && (u == 0 || nth types (u - 1) 0 != t)

/-- The runs of type `t`: first unit and length. -/
def runsOf (types : List Nat) (t : Nat) : List (Nat × Nat) :=
  ((List.range types.length).filter (fun u => runStarts types t u)).map (fun u => (u, runLeft types u))

/-- The beacon run of a head in units, at a beacon MCS: a BEACON frame is 56 bytes long (R335). -/
def beaconRun (s : State) (h mcs : Nat) : Nat := frameUnits s h mcs 56

/-- Whether a map is valid (R335): L entries, BEACON exactly in the beacon run, every JOIN run holds a JOIN_REQ (44 bytes). -/
def mapOk (s : State) (h : Nat) (types : List Nat) (beaconMcs joinMcs : Nat) : Bool :=
  let b := beaconRun s h beaconMcs
  types.length == orbitL s &&
    (List.range types.length).all (fun u => (nth types u 0 == 1) == decide (u < b)) && decide (b ≤ types.length) &&
    (runsOf types 6).all (fun r => decide (frameUnits s h joinMcs 44 ≤ r.2))

/-! ### What an allotment occupies (R360, R363) -/

/-- The first units of the slots of a series in an orbit of L units. -/
def seriesStarts (l : Nat) (x : Series) : List Nat :=
  if x.m ≤ 1 then (List.range x.n).map (fun k => x.first + k * l / max x.n 1) else [x.first]

/-- The units that an allotment uses: unit, modulus and phase of the orbits (R360, R363). -/
def allotUses (l : Nat) (a : Allotment) : List (Nat × Nat × Nat) :=
  a.series.flatMap (fun x => (seriesStarts l x).flatMap (fun u => (List.range a.size).map (fun i => (u + i, max x.m 1, x.phase))))
    ++ [(a.statusUnit, max a.period 1, a.phase)]

/-- Whether two uses meet in some orbit. -/
def usesMeet (a b : Nat × Nat × Nat) : Bool :=
  a.1 == b.1 && (let g := Nat.gcd a.2.1 b.2.1; a.2.2 % max g 1 == b.2.2 % max g 1)

/-- The allotments of a head that hold or are to hold, but those of one berth. -/
def usesOnHead (s : State) (h skip : Nat) : List (Nat × Nat × Nat) :=
  s.repl.mac.berths.flatMap (fun e =>
    if e.1 = skip then [] else
      (match e.2.allot with
       | none => []
       | some a => if a.head = h then allotUses (orbitL s) a else []) ++
      (match e.2.pending with
       | none => []
       | some a => if a.1.head = h then allotUses (orbitL s) a.1 else []))

/-- Whether `size` consecutive UP units from `u` are free in the orbits of a phase. -/
def slotFree (types : List Nat) (taken : List (Nat × Nat × Nat)) (size u m phase : Nat) : Bool :=
  (List.range size).all (fun i => nth types (u + i) 0 == 5 && !(taken.any (fun x => usesMeet x (u + i, m, phase))))

/-- The lowest first unit of a series of `n` slots in every orbit. -/
def findEvery (l : Nat) (types : List Nat) (taken : List (Nat × Nat × Nat)) (size n : Nat) : Option Series :=
  ((List.range l).find? (fun u => (seriesStarts l ⟨u, n, 1, 0⟩).all (fun v => slotFree types taken size v 1 0))).map (fun u => ⟨u, n, 1, 0⟩)

/-- The lowest first unit, and its lowest phase, of one slot in every `m`-th orbit. -/
def findSparse (l : Nat) (types : List Nat) (taken : List (Nat × Nat × Nat)) (size m : Nat) : Option Series :=
  (List.range l).findSome? (fun u =>
    ((List.range m).find? (fun p => slotFree types taken size u m p)).map (fun p => ⟨u, 1, m, p⟩))

/-- `j` series that hold `n` slots in every orbit together, as equal as they come. -/
def findSeries (l : Nat) (types : List Nat) (size : Nat) (taken : List (Nat × Nat × Nat)) (j n : Nat) : Option (List Series) :=
  match j with
  | 0 => if n = 0 then some [] else none
  | k + 1 =>
    match findEvery l types taken size ((n + k) / (k + 1)) with
    | none => none
    | some x =>
      let used := (seriesStarts l x).flatMap (fun u => (List.range size).map (fun i => (u + i, 1, 0)))
      (findSeries l types size (used ++ taken) k (n - (n + k) / (k + 1))).map (fun r => x :: r)

/-- The slots of a berth by its cadence (R361): one to four series in every orbit, or one slot in every m-th. -/
def findSlots (l : Nat) (types : List Nat) (taken : List (Nat × Nat × Nat)) (size cadence : Nat) : Option (List Series) :=
  if 4000 ≤ cadence * l then
    let n := (cadence * l + 3999) / 4000
    [1, 2, 3, 4].findSome? (fun j => if j ≤ n then findSeries l types size taken j n else none)
  else (findSparse l types taken size (4000 / max (cadence * l) 1)).map (fun x => [x])

/-- An allotment of a berth on a head under a map; none where the free UP units do not hold it (R360, R361). -/
def allotUnder (s : State) (b h : Nat) (types : List Nat) (set : BerthSet) (cadence : Nat) : Option Allotment :=
  let l := orbitL s
  let taken := usesOnHead s h b
  match findSlots l types taken set.size cadence with
  | none => none
  | some ss =>
    let used := ss.flatMap (fun x => (seriesStarts l x).flatMap (fun u => (List.range set.size).map (fun i => (u + i, max x.m 1, x.phase))))
    match findSparse l types (used ++ taken) 1 set.period with
    | none => none
    | some st => some ⟨h, ss, st.first, set.period, st.phase, set.size⟩

/-- The UP cadence of a berth (R361). -/
def cadenceOf (s : State) (b : Nat) (set : BerthSet) : Nat := if (blBerthOf s b).mode = 1 then (blBerthOf s b).rate else set.cadence

/-- The map whose units an allotment is searched in: the one that is to apply, else the one in force. -/
def newestMap (s : State) (h : Nat) : UnitMap :=
  match (macHead s h).next with
  | none => (macHead s h).map
  | some m => m.1

/-- An allotment of a berth: on the head preferred where its settings allow that head, else on the lowest that can take it. -/
def findAllot (s : State) (b : Nat) (set : BerthSet) (prefer : Nat) : Option Allotment :=
  ((prefer :: (List.range 4).filter (fun h => h != prefer)).filter (fun h => bit set.heads h && (headOfRh s h).set.enable)).findSome?
    (fun h => allotUnder s b h (newestMap s h).types set (cadenceOf s b set))

/-! ### ALLOT (R362, R363) -/

/-- The orbit from which a change decided now applies: at least 2 whole orbits later (R362). -/
def allotOrbit (s : State) : Nat := (orbitNow s + 3) % 2 ^ 32

/-- The fields of an ALLOT message (Table 9-8). -/
def allotFields (s : State) (a : Allotment) (orbit : Nat) : List Byte :=
  let x := headOfRh s a.head
  leBytes 4 orbit ++ leBytes 1 a.head ++ leBytes 1 (flag x.set.n1)
    ++ leBytes 4 ((chanOf x (macHead s a.head).chan).map (fun c => c.centre) |>.getD 0) ++ leBytes 1 a.series.length ++ zeros 1
    ++ a.series.flatMap (fun y => leBytes 2 y.first ++ leBytes 1 y.n ++ leBytes 1 y.m ++ leBytes 1 y.phase ++ zeros 1)
    ++ leBytes 2 a.statusUnit ++ leBytes 1 a.period ++ leBytes 1 a.phase

/-- An allotment is decided for a berth: it applies from a later orbit, and ALLOT announces it (R351, R362). -/
def decideAllot (b : Nat) (a : Allotment) (released : Bool) (s : State) : State :=
  queueControl b 2 (allotFields s a (allotOrbit s)) released
    (modBerth b (fun x => { x with pending := some (a, allotOrbit s) }) s)

/-- Whether an allotment still fits a berth's settings. -/
def allotFits (s : State) (b : Nat) (a : Allotment) : Bool :=
  let set := (berthOf s b).set
  let n := (a.series.map (fun x => x.n)).sum
  let c := cadenceOf s b set * orbitL s
  bit set.heads a.head && a.size == set.size && a.period == set.period &&
    (if 4000 ≤ c then n == (c + 3999) / 4000 && a.series.all (fun x => decide (x.m ≤ 1))
     else a.series.all (fun x => x.m == 4000 / max c 1))

/-- The allotment that a berth has or is to have. -/
def newestAllot (x : Berth) : Option Allotment := if x.pending.isSome then x.pending.map (fun p => p.1) else x.allot

/-- A berth that is JOINING, SERVED or ADRIFT is allotted again where it has no allotment or one that its settings no longer fit;
`released`: the decision has committed already (R332, R361, R362). -/
def reallot (b : Nat) (released : Bool) (s : State) : State :=
  let x := berthOf s b
  if within x.state 1 3 = false then s
  else if (newestAllot x).any (fun a => allotFits s b a) then s
  else match findAllot s b x.set x.head with
    | none => s
    | some a =>
      let s1 := decideAllot b a released s
      if released then s1 else hold (20 + a.head) (.release b) s1

/-! ### Slots in an orbit -/

/-- The first units of a berth's slots in orbit `k`. -/
def slotsIn (l k : Nat) (a : Allotment) : List Nat :=
  a.series.flatMap (fun x => if x.m ≤ 1 ∨ k % x.m = x.phase then seriesStarts l x else [])

/-- Whether unit `u` of orbit `k` lies in a slot or the status unit of an allotment. -/
def inAllotment (l k u : Nat) (a : Allotment) : Bool :=
  (slotsIn l k a).any (fun f => decide (f ≤ u) && decide (u < f + a.size)) || (u == a.statusUnit && k % max a.period 1 == a.phase)

/-- Whether unit `u` of orbit `k` is allotted to a berth on a head. -/
def unitOfBerth (s : State) (h k u b : Nat) : Bool :=
  match (berthOf s b).allot with
  | none => false
  | some a => a.head == h && inAllotment (orbitL s) k u a

/-- The berth that unit `u` of orbit `k` is allotted to on a head. -/
def berthAt (s : State) (h k u : Nat) : Option Nat :=
  (s.repl.mac.berths.find? (fun e => match e.2.allot with
    | none => false
    | some a => a.head == h && inAllotment (orbitL s) k u a)).map (fun e => e.1)

end Sys2Proof.Machine
end

