-- ==== Sys2Proof/Machine/Mac.lean ====
section
/-!
DEFINITION. Sys2Proof/Machine/Mac.lean: the MAC's work at unit boundaries and at the start of an orbit: beacons, Eclipse and STOP frames,
broadcast and down units, link adaptation (chapter 9; 10 R389 to R398).
-/
namespace Sys2Proof.Machine
open Sys2Proof

/-! ### Eclipse and STOP frames (R389 to R392, R397, R398) -/

/-- The station's fixed EIRP for broadcast frames and CHALLENGE, in 0.01 dBm (DESIGN CHOICE: the upper default fence of Table 9-9; log
entry 25). -/
def broadcastEirp : Int := 3600

/-- ECL_AIR, once per head per Eclipse entry (R403). -/
def eclAirReport (h cause ftype seq : Nat) (s : State) : State :=
  if (macLocal s h).eclAir then s
  else emit 0xC905 (20 + h) (leBytes 1 h ++ leBytes 1 cause ++ leBytes 1 ftype ++ zeros 1 ++ leBytes 2 seq ++ zeros 2)
    (modLocal h (fun l => { l with eclAir := true }) s)

/-- The cause of ECL_AIR for a code of `sendCheck`. -/
def eclAirCause (code : Nat) : Nat := if code = 2 then 1 else 2

/-- Sends one ECLIPSE frame on a head (R390, Table 9-7). -/
def sendEclipse (h : Nat) (s : State) : State :=
  let c := eclCoreShown s
  let body := leBytes 2 c.seq ++ leBytes 1 c.cause ++ zeros 1 ++ leBytes 4 (orbitNow s)
  let r := sendBroadcast (macFrame h 1 0xFFFF (nth s.ecl.mcs h 0) broadcastEirp body) s
  if r.1 = 0 then r.2 else eclAirReport h (eclAirCause r.1) 1 c.seq r.2

/-- Whether a head's last frame has ended before unit `n`. -/
def headFree (s : State) (h n : Nat) : Bool := decide ((macLocal s h).occupied ≤ n)

/-- How long before a boundary a head's decision point lies, in ns: T/R lead, TX latency and 4 us (R388). -/
def decisionLead (s : State) (h : Nat) : Nat := (headOfRh s h).set.trLead * 1000 + (txLatency s h + 999) / 1000 + 4000

/-- Whether what happened at a GTC came before the decision point of the present boundary of a head (R388). -/
def decided (s : State) (h : Nat) (t : Gtc) : Bool := decide (decisionLead s h ≤ sinceNs s t)

/-- Whether the present boundary of a head lies in its Eclipse burst (R388, R389). -/
def inBurst (s : State) (h : Nat) : Bool := (macLocal s h).burst != 0 && ((macLocal s h).burst != 40 || decided s h (macLocal s h).burstSince)

/-- The Eclipse state at the decision point of the present boundary of a head (R344, R388). -/
def eclAtDecision (s : State) (h : Nat) : Nat :=
  if eclShown s = 1 ∧ decided s h s.ecl.entry = false then s.ecl.before else eclShown s

/-- One boundary of an Eclipse burst: a frame where the last one has ended; the first boundary cuts off a frame in progress (R389). -/
def burstStep (h n : Nat) (s : State) : State :=
  let start := headFree s h n || (macLocal s h).burst == 40
  let s1 := if start then sendEclipse h s else s
  let s2 := if start = true ∧ s1.repl.mac.bcounter ≠ s.repl.mac.bcounter then
      { s1 with ecl := { s1.ecl with burstHeads := putBit s1.ecl.burstHeads h true } } else s1
  modLocal h (fun l => { l with burst := l.burst - 1 }) s2

/-- The body of a STOP frame: stop sequence, cause, release bit (Table 9-7). -/
def stopBody (x : Spot) (release : Bool) : List Byte := leBytes 2 x.seq ++ leBytes 1 x.cause ++ leBytes 1 (flag release)

/-- Sends a STOP frame to a berth (R390): at the Eclipse MCS of the head. -/
def sendStop (h b : Nat) (release : Bool) (s : State) : Nat × State :=
  let x := spotOf s b
  let r := sendSession b (macFrame h 3 (shortAddress b) (nth s.ecl.mcs h 0) (berthOf s b).eirp (stopBody x release)) s
  if r.1 = 0 then (0, r.2.2) else (r.1, eclAirReport h (eclAirCause r.1) 3 x.seq r.2.2)

/-- The berths of a head with STOP frames of a series still to send (R397). -/
def stopWaiting (s : State) (h k u : Nat) : List Nat :=
  (s.repl.ecl.spots.filter (fun e => e.2.left != 0 && (berthOf s e.1).head == h && (berthOf s e.1).state != 0 &&
    !unitOfBerth s h k u e.1)).map (fun e => e.1)

/-- One STOP frame of the first series that may go out in this unit; one that a budget refuses is skipped (R397, R369). -/
def stopStep (h k u : Nat) (s : State) : State :=
  match stopWaiting s h k u with
  | [] => s
  | b :: _ =>
    let x := spotOf s b
    let r := sendStop h b x.release s
    if r.1 = 0 ∨ r.1 = 2 ∨ r.1 = 6 then setSpot b { x with left := x.left - 1 } r.2 else r.2

/-! ### Broadcast units (R349) -/

/-- The MAP item of a head: the map that is to apply, else the one in force (Table 9-5). -/
def mapItem (s : State) (h : Nat) : List Byte :=
  let m := newestMap s h
  let orbit := match (macHead s h).next with
    | none => orbitNow s
    | some x => x.2
  let cs := (headOfRh s h).chans
  let body := leBytes 1 h ++ leBytes 1 m.version ++ leBytes 2 (orbitL s) ++ leBytes 4 orbit ++ leBytes 1 m.joinMcs ++ leBytes 1 m.bcastMcs
    ++ leBytes 1 cs.length ++ zeros 1 ++ cs.flatMap (fun c => leBytes 4 c.centre)
    ++ (List.range ((m.types.length + 1) / 2)).flatMap (fun i => leBytes 1 (nth m.types (2 * i) 0 + 16 * nth m.types (2 * i + 1) 0))
  leBytes 1 2 ++ zeros 1 ++ leBytes 2 body.length ++ body

/-- Whether a head's MAP item is due (R349). -/
def mapDue (s : State) (h : Nat) : Bool :=
  (macHead s h).next.isSome || (macHead s h).nextChan.isSome ||
    decide (s.repl.mac.cfg.mapInterval ≤ (orbitNow s + 2 ^ 32 - nth s.mac.mapSent h 0) % 2 ^ 32)

/-- Whether a BCAST frame with `n` bytes of body fits a run of `units` (R304, R334). -/
def bcastFits (s : State) (h units n : Nat) : Bool :=
  let us := frameUs (headOfRh s h).set.n1 (macHead s h).map.bcastMcs (frameLength 2 n)
  decide (unitsOf us ≤ units) && decide (us ≤ 4000) && decide (frameLength 2 n ≤ 4095)

/-- The messages that a head has still to send, oldest first. -/
def airWaiting (s : State) (h : Nat) : List AirMsg := s.corr.air.filter (fun m => !bit m.sent h)

/-- Packs RTCM messages into items by their epoch, as far as they fit: the bytes so far, the items, the messages taken (R349). -/
def packRtcm (s : State) (h units room : Nat) (l : List AirMsg) (items : List (Nat × List Byte)) (size : Nat) :
    List (Nat × List Byte) :=
  match l with
  | [] => items
  | m :: r =>
    match items.getLast? with
    | some (e, b) =>
      if e = m.epoch then
        if bcastFits s h units (size + m.frame.length + room) then
          packRtcm s h units room r (items.dropLast ++ [(e, b ++ m.frame)]) (size + m.frame.length)
        else items
      else if items.length < 7 ∧ bcastFits s h units (size + 8 + m.frame.length + room) = true then
        packRtcm s h units room r (items ++ [(m.epoch, m.frame)]) (size + 8 + m.frame.length)
      else items
    | none =>
      if bcastFits s h units (size + 8 + m.frame.length + room) then
        packRtcm s h units room r [(m.epoch, m.frame)] (size + 8 + m.frame.length)
      else items

/-- How many of the messages the items hold, counted by their bytes. -/
def packedCount (l : List AirMsg) (bytes : Nat) : Nat :=
  match l with
  | [] => 0
  | m :: r => if m.frame.length ≤ bytes ∧ m.frame.length ≠ 0 then packedCount r (bytes - m.frame.length) + 1 else 0

/-- The BCAST frame of a run of `units` (R333, R349): the MAP item goes last, and its room is kept free. -/
def bcastStep (h units : Nat) (s : State) : State :=
  let mi := mapItem s h
  let withMap := mapDue s h && bcastFits s h units (4 + mi.length)
  let msgs := airWaiting s h
  let items := packRtcm s h units (if withMap then mi.length else 0) msgs [] 4
  let taken := msgs.take (packedCount msgs ((items.map (fun x => x.2.length)).sum))
  let count := items.length + (if withMap then 1 else 0)
  if count = 0 then s
  else
    let body := leBytes 2 s.corr.word ++ leBytes 1 count ++ zeros 1
      ++ items.flatMap (fun x => leBytes 1 1 ++ zeros 1 ++ leBytes 2 (4 + x.2.length) ++ leBytes 4 x.1 ++ x.2)
      ++ (if withMap then mi else [])
    let r := sendBroadcast (macFrame h 2 0xFFFF (macHead s h).map.bcastMcs broadcastEirp body) s
    if r.1 = 0 then
      let s1 := if withMap then modOwn (fun m => { m with mapSent := modNth m.mapSent h (fun _ => orbitNow s) }) r.2 else r.2
      modCorr (fun c => { c with air := c.air.map (fun m =>
        if taken.any (fun t => t.number == m.number && t.sat == m.sat && t.epoch == m.epoch) then { m with sent := putBit m.sent h true }
        else m) }) s1
    else r.2

/-! ### Down units (R350 to R353) -/

/-- A frame that could go out in a DOWN unit: class (R350), the GTC at which it became ready, berth, and what it is: 0 the recurring STOP,
1 CHALLENGE, 2 a frame of the queue, 3 the frame that awaits its acknowledgement, 4 CLOSE to a CLOSED berth. -/
structure Cand where
  cls : Nat
  ready : Nat
  berth : Nat
  what : Nat
  frame : DownFrame
deriving DecidableEq, Repr

/-- A frame that carries nothing of a queue. -/
def DownFrame.none : DownFrame := ⟨0, 0, 0, [], 0, 0, true, [], 0, true⟩

/-- The class of a frame type (R350). -/
def frameClass (ftype : Nat) : Nat := if ftype = 6 then 2 else if ftype = 5 then 3 else 4

/-- ACCEPT goes out immediately before ALLOT, each time ALLOT does (R352). -/
def acceptFirst (x : Berth) (f : DownFrame) : Option DownFrame :=
  if f.ftype = 6 ∧ f.kind = 2 then x.queue.find? (fun q => q.ftype == 6 && q.kind == 1 && q.released && decide (q.sends ≤ f.sends))
  else Option.none

/-- A frame as a candidate, or the ACCEPT that goes before it. -/
def asCand (b : Nat) (x : Berth) (what : Nat) (f : DownFrame) : Cand :=
  match acceptFirst x f with
  | Option.none => ⟨frameClass f.ftype, f.ready.toNat, b, what, f⟩
  | some q => ⟨2, q.ready.toNat, b, 2, q⟩

/-- The TASK and CONTROL frames of a berth that may go out: the one that awaits, when it is due again, or else the oldest of each kind
(R352); no TASK while the Eclipse state is not CLEAR (R391). -/
def orderFrames (s : State) (b : Nat) (x : Berth) : List Cand :=
  let clear := eclShown s == 0
  match x.awaiting with
  | some f => if f.due = true ∧ (f.ftype ≠ 5 ∨ clear = true) then [asCand b x 3 f] else []
  | Option.none =>
    (match x.queue.find? (fun q => q.ftype == 6 && q.kind != 1 && q.released) with
     | Option.none => []
     | some f => [asCand b x 2 f]) ++
    (match x.queue.find? (fun q => q.ftype == 5 && q.released) with
     | Option.none => []
     | some f => if clear = true ∧ x.state ≠ 1 then [asCand b x 2 f] else [])

/-- What a berth has for a DOWN unit of its head in orbit `k`. -/
def berthCands (s : State) (k b : Nat) (x : Berth) : List Cand :=
  let sp := spotOf s b
  (if sp.inForce = true ∧ sp.left = 0 ∧ x.state ≠ 0 ∧ look s.mac.stopSent b ≠ some k then [⟨0, 0, b, 0, DownFrame.none⟩] else []) ++
  (if x.state = 5 ∧ x.closeLeft ≠ 0 then [⟨2, x.since.toNat, b, 4, DownFrame.none⟩] else []) ++
  (if within x.state 1 3 = false ∨ (x.resting = true ∧ s.mac.listed.contains b = false) then []
   else orderFrames s b x ++ (match x.queue.find? (fun q => q.ftype == 4) with
     | Option.none => []
     | some f => if x.state = 1 then [] else [asCand b x 2 f]))

/-- The candidates of a head. -/
def headCands (s : State) (h k : Nat) : List Cand :=
  (s.mac.joins.filter (fun j => j.head == h && !j.sent && !j.verified)).map (fun j => ⟨1, j.ready.toNat, j.berth, 1, DownFrame.none⟩) ++
  s.repl.mac.berths.flatMap (fun e => if e.2.head = h then berthCands s k e.1 e.2 else [])

/-- Whether one candidate goes before another (R350, R17). -/
def candBefore (a b : Cand) : Bool :=
  decide (a.cls < b.cls) || (a.cls == b.cls && (decide (a.ready < b.ready) || (a.ready == b.ready && decide (a.berth < b.berth))))

/-- Inserts a candidate in its order. -/
def insertCand (a : Cand) (l : List Cand) : List Cand :=
  match l with
  | [] => [a]
  | b :: r => if candBefore a b then a :: b :: r else b :: insertCand a r

/-- The MCS of a frame to a berth (R350). -/
def berthMcs (s : State) (x : Berth) : Nat :=
  if x.linkDelivered then (clampInt 0 7 x.mcs).toNat else (macHead s x.head).map.joinMcs

/-- The reply run that a CHALLENGE names: the first unallotted UP units of the next orbit that hold a JOIN_AUTH, or else a JOIN run
(9, Join and authentication). -/
def replyRun (s : State) (h k : Nat) : Option Nat :=
  let m := (macHead s h).map
  let need := frameUnits s h m.joinMcs 40
  let taken := usesOnHead s h 256 ++ (s.mac.joins.filter (fun j => j.sent && j.head == h && j.orbit == k)).flatMap
    (fun j => (List.range need).map (fun i => (j.unit + i, 1, 0)))
  match (List.range (orbitL s)).find? (fun u => (List.range need).all (fun i => nth m.types (u + i) 0 == 5 &&
      !(taken.any (fun x => x.1 == u + i && k % max x.2.1 1 == x.2.2)))) with
  | some u => some u
  | Option.none => ((runsOf m.types 6).find? (fun r => decide (need ≤ r.2))).map (fun r => r.1)

/-- The frame of a candidate. -/
def candFrame (s : State) (h : Nat) (c : Cand) : Frame :=
  let x := berthOf s c.berth
  match c.what with
  | 0 => macFrame h 3 (shortAddress c.berth) (nth s.ecl.mcs h 0) x.eirp (stopBody (spotOf s c.berth) false)
  | 1 =>
    match s.mac.joins.find? (fun j => j.berth == c.berth && j.head == h && !j.sent) with
    | Option.none => macFrame h 7 0xFFFF 0 broadcastEirp []
    | some j => macFrame h 7 0xFFFF (macHead s h).map.joinMcs broadcastEirp
        (leBytes 8 j.machine ++ j.stationNonce ++ leBytes 2 ((replyRun s h ((orbitNow s + 1) % 2 ^ 32)).getD 0)
          ++ leBytes 1 (orbitNow s + 1) ++ zeros 1)
  | 4 => macFrame h 6 (shortAddress c.berth) (berthMcs s x) x.eirp (leBytes 1 5 ++ leBytes 1 x.ctrlSeq ++ leBytes 1 1 ++ zeros 1)
  | _ => macFrame h c.frame.ftype (shortAddress c.berth) (berthMcs s x) x.eirp c.frame.body

/-- A frame of the queue has gone on air under a counter. -/
def queueSent (c : Cand) (counter : Nat) (s : State) : State :=
  let f := c.frame
  let g := { f with
    sends := f.sends + 1
    counters := f.counters ++ [counter]
    slots := 0
    due := false }
  let s1 := modBerth c.berth (fun x =>
    if f.ftype = 4 then { x with queue := x.queue.filter (fun q => q != f) }
    else if f.ftype = 6 ∧ f.kind = 1 then { x with queue := x.queue.map (fun q => if q = f then g else q) }
    else { x with
      queue := x.queue.filter (fun q => q != f)
      awaiting := some g
      timingSent := x.timingSent || (f.ftype == 6 && f.kind == 3 && 8 ≤ f.body.length && u16 f.body 6 != 0) }) s
  if f.ftype = 5 ∧ f.kind = 0 then modTask f.seq (fun t => { t with onAir := true }) s1 else s1

/-- A candidate that the head sent. -/
def candSent (h k : Nat) (c : Cand) (counter : Nat) (s : State) : State :=
  match c.what with
  | 0 => modOwn (fun m => { m with stopSent := upsert m.stopSent c.berth k }) s
  | 1 =>
    let o := (k + 1) % 2 ^ 32
    let u := (replyRun s h o).getD 0
    modOwn (fun m => { m with joins := m.joins.map (fun j => if j.berth = c.berth ∧ j.head = h ∧ j.sent = false then { j with
      sent := true
      unit := u
      orbit := o } else j) }) s
  | 4 => modBerth c.berth (fun x => { x with
      closeLeft := x.closeLeft - 1
      ctrlSeq := if x.closeLeft ≤ 1 then (x.ctrlSeq + 1) % 256 else x.ctrlSeq }) s
  | _ => queueSent c counter s

/-- A frame that no run of the map can hold is dropped and counted (R334). -/
def candDrop (c : Cand) (s : State) : State :=
  let s1 := modOwn (fun m => { m with tooLong := m.tooLong + 1 }) s
  match c.what with
  | 1 => modOwn (fun m => { m with joins := m.joins.filter (fun j => !(j.berth == c.berth && !j.sent)) }) s1
  | 2 => modBerth c.berth (fun x => { x with queue := x.queue.filter (fun q => q != c.frame) }) s1
  | 3 => modBerth c.berth (fun x => { x with awaiting := Option.none }) s1
  | 4 => modBerth c.berth (fun x => { x with closeLeft := 0 }) s1
  | _ => modOwn (fun m => { m with stopSent := upsert m.stopSent c.berth (orbitNow s) }) s1

/-- Sends the frame of a candidate. -/
def sendCand (h k : Nat) (c : Cand) (s : State) : State :=
  let f := candFrame s h c
  if c.what = 1 then
    let r := sendPlain f s
    if r.1 = 0 then candSent h k c 0 r.2 else r.2
  else if c.what = 0 then
    let r := sendStop h c.berth false s
    if r.1 = 0 ∨ r.1 = 2 then candSent h k c 0 r.2 else r.2
  else
    let r := sendSession c.berth f s
    if r.1 = 0 then candSent h k c r.2.1 r.2.2 else r.2.2

/-- The first candidate whose frame fits what is left of the run; one that fits no DOWN run of the map is dropped (R334, R350). -/
def downFill (h k left : Nat) (runs : List (Nat × Nat)) (l : List Cand) (s : State) : State :=
  match l with
  | [] => s
  | c :: r =>
    let u := unitsOf (frameTime (candFrame s h c) s)
    if u ≤ left then sendCand h k c s
    else if runs.any (fun x => decide (u ≤ x.2)) then downFill h k left runs r s
    else downFill h k left runs r (candDrop c s)

/-! ### One head at a unit boundary -/

/-- The type of a unit: the last one before a channel change is IDLE (R368). -/
def unitType (s : State) (h k u : Nat) : Nat :=
  match (macHead s h).nextChan with
  | some (_, o, _) => if u + 1 = orbitL s ∧ o = (k + 1) % 2 ^ 32 then 0 else nth (macHead s h).map.types u 0
  | Option.none => nth (macHead s h).map.types u 0

/-- Eclipse traffic after the burst: at the first boundary after the beacon run, and in every ECLIPSE run (R391). -/
def eclipseDue (s : State) (h k u : Nat) : Bool :=
  eclAtDecision s h != 0 && (u == beaconRun s h (macHead s h).map.beaconMcs || (unitType s h k u == 2 && runStarts (macHead s h).map.types 2 u))

/-- Whether an UP unit begins a slot or the status unit of the berth that it is allotted to; a unit of no berth may begin a reply
run. -/
def slotBegins (s : State) (h k u : Nat) : Bool :=
  match berthAt s h k u with
  | Option.none => true
  | some b => (berthOf s b).allot.any (fun a => (slotsIn (orbitL s) k a).contains u || u == a.statusUnit)

/-- The gain for the receive window that opens at a unit: slots and status units of a berth, reply runs, JOIN runs (R306). -/
def gainStep (h k u t : Nat) (s : State) : State :=
  if t = 5 ∧ slotBegins s h k u = true then windowGain h (berthAt s h k u) s
  else if t = 6 ∧ runStarts (macHead s h).map.types 6 u = true then windowGain h Option.none s
  else s

/-- Normal traffic of a unit: BCAST and DOWN (R333); NAP sends beacons and ECLIPSE frames only (R376). -/
def trafficStep (h k u : Nat) (s : State) : State :=
  let types := (macHead s h).map.types
  let t := unitType s h k u
  if s.pwr.state = 2 then s
  else if t = 3 ∧ runStarts types 3 u = true then bcastStep h (runLeft types u) s
  else if t = 4 then downFill h k (runLeft types u) (runsOf types 4) ((headCands s h k).foldl (fun a c => insertCand c a) []) s
  else gainStep h k u t s

/-- Whether a switchover keeps the member silent: it has handed over, or the ACK plus 1 ms has not passed (R504). -/
def airQuiet (s : State) : Bool :=
  s.pair.handing || (match s.pair.quietUntil with
    | Option.none => false
    | some t => decide (0 < elapsed t s.tb.gtc) && decide (elapsed t s.tb.gtc < 2 ^ 63))

/-- A takeover gap ends at the first unit boundary at which the member may transmit (R497, R504). -/
def gapEnd (s : State) : State :=
  if airQuiet s then s
  else { s with pair := { s.pair with
    gap := false
    quietUntil := Option.none } }

/-- One head in SERVE at a boundary other than that of unit 0, which ORBIT_START serves. -/
def serveUnit (h n k u : Nat) (s : State) : State :=
  if u = 0 ∨ airQuiet s = true then s
  else if inBurst s h then burstStep h n s
  else if eclipseDue s h k u = true ∧ headFree s h n = true then sendEclipse h s
  else if s.pwr.state ≤ 1 ∧ beaconRun s h (macHead s h).map.beaconMcs ≤ u ∧ (stopWaiting s h k u).isEmpty = false ∧
      (headFree s h n = true ∨ ((macLocal s h).ftype ≠ 1 ∧ (macLocal s h).ftype ≠ 3)) then stopStep h k u s
  else if headFree s h n then trafficStep h k u s
  else s

/-- A head in LISTEN that runs RH_TEST sends its next frame, one unit free between frames; the test ends with the budget (R328). -/
def testUnit (h n : Nat) (s : State) : State :=
  match (headOfRh s h).test with
  | Option.none => s
  | some x =>
    if headFree s h n = false ∨ (headOfRh s h).chan ≠ some x.chan then s
    else
      let full := match headChan s h with
        | Option.none => 0
        | some c => interpolate (calPoints s h) c.centre
      let d := freshBytes 760 s
      let r := sendPlain ⟨h, 255, 0xFFFF, x.mcs, full - (x.backoff : Int) * 25, d.1, 764⟩ d.2
      if r.1 = 0 then
        modLocal h (fun l => { l with occupied := l.occupied + 1 })
          (modHead h (fun y => { y with test := some { x with sent := x.sent + 1 } }) r.2)
      else if r.1 = 2 then endTest h 2 r.2 else r.2

/-- Transmission has ended where no frame goes on; at unit 0 of an orbit in SERVE the beacon decides (R303). -/
def transmitEnds (h n u : Nat) (s : State) : State :=
  let x := headOfRh s h
  if (x.tr = true ∨ x.paen = true) ∧ headFree s h n = true ∧ (u ≠ 0 ∨ s.modes.radio ≠ 2) then releaseHead h s else s

/-- A head at a unit boundary: the scheduled channel is tuned, the mode in force acts, and transmission ends (R303, R310, R628). -/
def headUnit (n k u : Nat) (s : State) (h : Nat) : State :=
  let x := headOfRh s h
  let want := (macHead s h).chan
  let s2 := if x.set.enable = true ∧ x.test.isNone = true ∧ x.want ≠ some want ∧ headFree s h n = true then tune h want s else s
  transmitEnds h n u (if s2.modes.radio = 2 then serveUnit h n k u s2
    else testUnit h n (if x.test.isNone then gainStep h k u (unitType s2 h k u) s2 else s2))

/-! ### Slots that pass (R352, R357) -/

/-- Whether a slot or the status unit of an allotment ends at the boundary before unit `u` of orbit `k`. -/
def slotEnds (l k u : Nat) (a : Allotment) : Bool :=
  let k0 := if u = 0 then (k + 2 ^ 32 - 1) % 2 ^ 32 else k
  let u0 := if u = 0 then l else u
  (slotsIn l k0 a).any (fun f => f + a.size == u0)

/-- Whether the slot of a berth that has passed brought no accepted UP frame. -/
def slotEmpty (s : State) (x : Berth) : Bool :=
  decide (((x.allot.map (fun a => a.size)).getD 0) * 250000 + 250000 < sinceNs s x.lastUp)

/-- A slot of a SERVED berth counts for the loss of its head (R368). -/
def slotCount (x : Berth) (empty : Bool) (s : State) : State :=
  if x.state ≠ 2 then s
  else modLocal x.head (fun l => { l with slots := modNth l.slots 0 (fun c => (c.1 + 1, c.2 + flag empty)) }) s

/-- A slot of a berth has passed: missed where no UP frame was accepted in it, and counted for the frame that awaits delivery. -/
def slotPassed (s : State) (e : Nat × Berth) : State :=
  let empty := slotEmpty s (berthOf s e.1)
  slotCount (berthOf s e.1) empty (modBerth e.1 (fun x => { x with
    missed := if empty then x.missed + 1 else x.missed
    missedTotal := if empty then satAdd 32 x.missedTotal 1 else x.missedTotal
    awaiting := x.awaiting.map (fun f => if f.due then f else { f with slots := f.slots + 1 }) }) s)

/-- The slots that end at this boundary. -/
def slotsPass (k u : Nat) (s : State) : State :=
  if s.pair.role = 2 ∨ s.modes.radio ≠ 2 ∨ 2 ≤ s.pwr.state then s
  else (s.repl.mac.berths.filter (fun e => within e.2.state 1 3 && e.2.allot.any (fun a => slotEnds (orbitL s) k u a))).foldl slotPassed s

/-- Eclipse in a radio mode other than SERVE: every enabled head is reported once per entry (R403). -/
def eclNoAir (s : State) : State :=
  if eclShown s = 0 ∨ s.modes.radio = 2 ∨ s.pair.role = 2 then s
  else (List.range 4).foldl (fun t h => if (headOfRh t h).set.enable then eclAirReport h 3 1 (eclCoreShown t).seq t else t) s

/-- UNIT_BOUNDARY (R331): once per unit; power-state changes act, slots pass, every head is served, the dispatcher passes. -/
def execUnitBoundary (s0 : State) : Result :=
  let s := gapEnd s0
  let n := unitNow s
  let u := n % orbitL s
  let k := orbitNow s
  done (if s.pwr.state ≥ 3 ∨ domOn s 9 = false then s
    else if s.modes.radio = 0 then eclNoAir (sleepStep ([0, 1, 2, 3].foldl (fun t h => transmitEnds h n u t) s))
    else if s.mac.lastUnit = some n then s
    else
      let s1 := sleepStep (powerChange (modOwn (fun m => { m with lastUnit := some n }) s))
      let s2 := slotsPass k u (eclNoAir s1)
      selectionPass ([0, 1, 2, 3].foldl (headUnit n k u) s2))

/-! ### Beacons (R344 to R348) -/

/-- The go-lease of a head's beacon (R345). -/
def goLease (s : State) (h : Nat) : Nat :=
  if eclAtDecision s h ≠ 0 ∨ s.pwr.state = 2 ∨ (macLocal s h).first = true then 0 else s.repl.mac.cfg.lease

/-- The resting berths of a head with held frames, from the one after the last listed on (R353). -/
def restingOf (s : State) (h : Nat) : List Nat :=
  let l := (s.repl.mac.berths.filter (fun e => e.2.head == h && e.2.resting && within e.2.state 2 3 &&
    (!e.2.queue.isEmpty || e.2.awaiting.any (fun f => f.due)))).map (fun e => e.1)
  let t := (macLocal s h).restTurn
  ((l.filter (fun b => decide (t < b))) ++ l.filter (fun b => decide (b ≤ t))).take 3

/-- The body of a beacon (Table 9-4). -/
def beaconBody (s : State) (h : Nat) (rest : List Nat) : List Byte :=
  let st0 := (((unitNow s * 250000 : Nat) : Int) + s.mac.airOffset).toNat
  let x := macHead s h
  let next := match x.nextChan with
    | Option.none => (0xFF, 0)
    | some (i, o, _) => (i, (o + 2 ^ 32 - orbitNow s) % 2 ^ 32)
  let flags := bitsOf [eclAtDecision s h != 0, eclAtDecision s h == 2, s.pwr.state == 2, s.repl.ecl.spots.any (fun e => e.2.inForce),
    bit s.repl.mac.cfg.flags 0]
  leBytes 4 (orbitNow s) ++ leBytes 6 (st0 / sec) ++ leBytes 4 (st0 % sec) ++ leBytes 2 (orbitL s) ++ leBytes 1 (goLease s h)
    ++ leBytes 1 flags ++ leBytes 2 s.corr.word ++ leBytes 1 x.map.version ++ leBytes 1 x.chan ++ leBytes 1 next.1
    ++ leBytes 1 (min next.2 50) ++ leBytes 1 rest.length ++ (List.range 3).flatMap (fun i => leBytes 1 (nth rest i 0))
    ++ leBytes 2 s.repl.mac.cfg.guard ++ zeros 2

/-- OR_BEACON_MISS (R348): at most one report per second per head. -/
def beaconMiss (h cause : Nat) (s : State) : State :=
  let l := macLocal s h
  let n := satAdd 16 l.misses 1
  let s1 := modLocal h (fun l => { l with misses := n }) s
  if l.reported = true ∧ sinceNs s l.lastReport < sec then
    modLocal h (fun l => { l with suppressed := satAdd 16 l.suppressed 1 }) s1
  else
    emit 0xC803 (20 + h) (leBytes 1 h ++ leBytes 1 cause ++ leBytes 2 n ++ leBytes 2 l.suppressed
      ++ leBytes 1 (flag (decide (s.repl.mac.cfg.lease ≤ n))) ++ zeros 1)
      (modLocal h (fun l => { l with
        reported := true
        lastReport := s.tb.gtc
        suppressed := 0 }) s1)

/-- The cause of OR_BEACON_MISS for a code of `sendBroadcast`. -/
def missCause (code : Nat) : Nat := if code = 2 then 2 else if code = 4 then 4 else if code = 6 then 5 else 1

/-- A head's beacon at the start of an orbit; it cuts off a frame in progress and takes the boundary of a burst (R344, R389). -/
def beaconStep (s : State) (h : Nat) : State :=
  if (headOfRh s h).set.enable = false ∨ airQuiet s = true then s
  else if s.modes.radio ≠ 2 then beaconMiss h 3 s
  else
    let rest := restingOf s h
    let r := sendBroadcast (macFrame h 0 0xFFFF (macHead s h).map.beaconMcs broadcastEirp (beaconBody s h rest)) s
    let s1 := if r.1 = 0 then
        modOwn (fun m => { m with listed := m.listed ++ rest })
          (modLocal h (fun l => { l with
            misses := 0
            first := false
            restTurn := (rest.getLast?).getD l.restTurn }) r.2)
      else beaconMiss h (missCause r.1) r.2
    if inBurst s h then modLocal h (fun l => { l with burst := l.burst - 1 }) s1 else s1

/-! ### The start of an orbit -/

/-- Whether orbit `k` has reached orbit `o`, on the count that wraps at 2^32. -/
def orbitReached (k o : Nat) : Bool := decide ((k + 2 ^ 32 - o) % 2 ^ 32 < 2 ^ 31)

/-- RADIO_CHANNEL (Table 9-16). -/
def radioChannel (h old new cause orbit : Nat) (s : State) : State :=
  emit 0xC705 (20 + h) (leBytes 1 h ++ leBytes 1 old ++ leBytes 1 new ++ leBytes 1 cause ++ leBytes 4 orbit) s

/-- Pending maps, channels and allotments whose orbit has come apply (R362, R368). -/
def applyPending (k : Nat) (s : State) : State :=
  modMac (fun m => { m with
    heads := m.heads.map (fun h =>
      let h1 := match h.next with
        | Option.none => h
        | some (x, o) => if orbitReached k o then { h with
            map := x
            next := Option.none } else h
      match h1.nextChan with
      | Option.none => h1
      | some (i, o, _) => if orbitReached k o then { h1 with
          chan := i
          nextChan := Option.none } else h1)
    berths := m.berths.map (fun e => match e.2.pending with
      | Option.none => e
      | some (a, o) => if orbitReached k o then (e.1, { e.2 with
          allot := some a
          pending := Option.none
          head := a.head }) else e) }) s

/-- The broadcast epoch advances at an orbit that is a multiple of E (R338, R342). -/
def epochStep (k : Nat) (s : State) : State :=
  if k % max s.repl.mac.cfg.epochLen 1 = 0 then
    let e := (s.repl.mac.bepoch + 1) % 2 ^ 32
    epochNodes (modOwn (fun m => { m with reservedEpoch := if e < m.reservedEpoch then m.reservedEpoch else max m.reservedEpoch e + 64 })
      (modMac (fun m => { m with
        bepoch := e
        bcounter := 1 }) s))
  else s

/-- KEY goes to the SERVED berths ahead of an advance (R338). -/
def keyStep (k : Nat) (s : State) : State :=
  let n := max s.repl.mac.cfg.epochLen 1
  let next := (s.repl.mac.bepoch + 1) % 2 ^ 32
  if n - k % n ≤ 1200 then
    (s.repl.mac.berths.filter (fun e => e.2.state == 2 && e.2.keyEpoch != next)).foldl (fun t e =>
      modBerth e.1 (fun x => { x with keyEpoch := next }) (queueControl e.1 4 (leBytes 4 next ++ epochKey s next) true t)) s
  else s

/-- The fence of a berth's link adaptation. -/
def linkFenceOf (s : State) (b : Nat) : LinkFence := (look s.repl.mac.fences b).getD LinkFence.default

/-- The machine's commanded EIRP of a berth in 0.25 dBm (R367). -/
def commandedEirp (s : State) (x : Berth) : Int := roundDiv x.eirp 25 + (macHead s x.head).map.uplink

/-- LINK is queued for a berth: it replaces one that has not gone on air and keeps its timing correction; air version 2 carries none
(R365, R367, R373). -/
def queueLink (b : Nat) (timing : Option Int) (s : State) : State :=
  let x := berthOf s b
  let old := x.queue.filter (fun f => f.ftype == 6 && f.kind == 3)
  let kept := ((old.filter (fun f => decide (8 ≤ f.body.length))).map (fun f => iN 2 f.body 6)).headD 0
  let fields := leBytes 1 x.mcs.toNat ++ zeros 1 ++ leInt 2 (commandedEirp s x)
    ++ (if x.air = 2 then [] else leInt 2 (clampInt (-32768) 32767 (timing.getD kept)))
  queueControl b 3 fields true (modBerth b (fun y => { y with
    queue := y.queue.filter (fun f => !(f.ftype == 6 && f.kind == 3))
    linkSent := some (x.mcs, commandedEirp s x) }) s)

/-- The highest MCS that the SNR carries with the margin, else 0 (R367); levels in 0.01 dB. -/
def bestMcs (margin snr : Int) : Nat := ((List.range 8).filter (fun m => decide (snrReq m + margin ≤ snr))).getLast?.getD 0

/-- One update of link adaptation for a berth (loop 3, R367). -/
def linkAdapt (s : State) (b : Nat) : State :=
  let x := berthOf s b
  let f := linkFenceOf s b
  let margin := (s.repl.mac.cfg.margin : Int) * 25
  match x.snr with
  | [] => s
  | v :: vs =>
    let snr := (vs.foldl min v) * 25
    let best := (bestMcs margin snr : Int)
    let lo := f.mcsFixed.getD f.mcsLo
    let hi := f.mcsFixed.getD f.mcsHi
    let m := clampInt lo hi best
    let req := snrReq m.toNat + margin
    let want := if m = hi ∧ req + 600 ≤ snr then x.eirp - 100 else if snr < req + 300 then x.eirp + 100 else x.eirp
    let p := clampInt (f.pwrFixed.getD f.pwrLo) (f.pwrFixed.getD f.pwrHi) want
    let s1 := modBerth b (fun y => { y with
      mcs := m
      eirp := p
      fresh := false }) s
    let s2 := if f.mcsFixed.isNone then
        (if best < lo then policyLimit (20 + x.head) 3 b 0 0 lo best s1
         else if hi < best then policyLimit (20 + x.head) 3 b 1 0 hi best s1 else s1) else s1
    let s3 := if f.pwrFixed.isNone then
        (if want < f.pwrLo then policyLimit (20 + x.head) 3 b 0 1 f.pwrLo want s2
         else if f.pwrHi < want then policyLimit (20 + x.head) 3 b 1 1 f.pwrHi want s2 else s2) else s2
    if (berthOf s3 b).linkSent = some (m, commandedEirp s3 (berthOf s3 b)) then s3 else queueLink b Option.none s3

/-- Joins whose CHALLENGE did not go out within 2 orbits, and those whose reply run has passed, end (R354; log entry 25). -/
def joinsAge (k : Nat) (s : State) : State :=
  modOwn (fun m => { m with joins := m.joins.filter (fun j => j.verified ||
    (if j.sent then !(orbitReached k ((j.orbit + 1) % 2 ^ 32)) else !(orbitReached k ((j.reqOrbit + 3) % 2 ^ 32)))) }) s

/-- What an active or SOLO member does at the start of an orbit besides its beacons. -/
def orbitWork (k : Nat) (s : State) : State :=
  let s1 := keyStep k (joinsAge k s)
  let s2 := ((s1.repl.mac.berths.filter (fun e => e.2.fresh && within e.2.state 2 3)).map (fun e => e.1)).foldl linkAdapt s1
  ((s2.repl.mac.berths.filter (fun e => within e.2.state 1 3 && (newestAllot e.2).isNone)).map (fun e => e.1)).foldl
    (fun t b => reallot b false t) s2

/-- ORBIT_START (R344): once per orbit, at the boundary of unit 0. -/
def execOrbitStart (s0 : State) : Result :=
  let s := gapEnd s0
  let n := unitNow s
  let k := orbitNow s
  done (if s.pwr.state ≥ 3 ∨ domOn s 9 = false ∨ s.modes.radio = 0 ∨ n % orbitL s ≠ 0 ∨ s.mac.lastOrbit = some (n / orbitL s) then s
    else
      let s1 := modOwn (fun m => { m with
        lastOrbit := some (n / orbitL s)
        listed := [] }) s
      let s2 := if s.pair.role = 2 then s1
        else orbitWork k ([0, 1, 2, 3].foldl beaconStep (epochStep k (applyPending k s1)))
      [0, 1, 2, 3].foldl (fun t h => headAgc h t) s2)

end Sys2Proof.Machine
end

