-- ==== Sys2Proof/Machine/Join.lean ====
section
/-!
DEFINITION. Sys2Proof/Machine/Join.lean: what the MAC receives (R339 to R341, R352 to R359, R364, R365), joins and berth states (R354 to
R357), channel selection (R368) and the end of a meter's bucket (R370).
-/
namespace Sys2Proof.Machine
open Sys2Proof

/-! ### Frames received -/

/-- Whether a frame reaches the MAC: acquired (R320, R364), delivered (R320), and long enough for a MAC header. -/
def macReceives (f : AirFrame) (s : State) : Bool := acquired f s && frameDelivered f s && decide (16 ≤ (rxPsdu f).length)

/-- The MAC header of a received frame (Table 9-2). -/
def rxHeader (f : AirFrame) : List Byte := (rxPsdu f).take 12

/-- What a received frame carries between its MAC header and its FCS. -/
def rxContent (f : AirFrame) : List Byte := ((rxPsdu f).take ((rxPsdu f).length - 4)).drop 12

/-- The protection code of a received frame. -/
def rxProt (f : AirFrame) : Nat := u8 (rxHeader f) 0 / 16 % 4

/-- The frame counter of a received frame. -/
def rxCounter (f : AirFrame) : Nat := u32 (rxHeader f) 6

/-- The acknowledgement of a received frame. -/
def rxAck (f : AirFrame) : Nat := u16 (rxHeader f) 10

/-- The body of an UP frame of a berth: none where its MIC fails under the berth's session key, or the vault cannot open it (R337,
R340, R527). UP frames are encrypted (Table 9-3); one that says otherwise carries no MIC that could verify. -/
def upBody (b : Nat) (f : AirFrame) (s : State) : Option (List Byte) :=
  if sessionKeyOk s b = false ∨ rxProt f ≠ 2 then none
  else openBody 2 (berthOf s b).session (sessionKey s b) (rxHeader f) (rxContent f)

/-- The vault opens a frame of a berth with its session key, where it can. -/
def opening (b : Nat) (s : State) : State := if sessionKeyOk s b then useNode (sessionNode s b) s else s

/-- OR_SECURITY (R340): at most once per second per berth, with the counts since the last report. -/
def orSecurity (b : Nat) (s : State) : State :=
  limited 0xC805 b sec (fun _ t =>
    match t.mac.security.find? (fun x => x.1 == b) with
    | none => t
    | some (_, m, d, st) =>
      emit 0xC805 (20 + (berthOf t b).head) (leBytes 1 b ++ zeros 1 ++ leBytes 2 (min m 65535) ++ leBytes 2 (min d 65535)
        ++ leBytes 2 (min st 65535))
        (modOwn (fun o => { o with security := o.security.filter (fun x => x.1 != b) }) t)) s

/-- A frame is dropped for its MIC (0), as a duplicate (1) or as stale (2): counted and reported (R340). -/
def dropUp (b why : Nat) (s : State) : State :=
  let one (i : Nat) : Nat := if why = i then 1 else 0
  let old := (s.mac.security.find? (fun x => x.1 == b)).getD (b, 0, 0, 0)
  let s1 := modOwn (fun o => { o with
    security := o.security.filter (fun x => x.1 != b) ++ [(b, old.2.1 + one 0, old.2.2.1 + one 1, old.2.2.2 + one 2)] }) s
  orSecurity b (modBerth b (fun x => { x with
    mic := if why = 0 then satAdd 32 x.mic 1 else x.mic
    dup := if why = 1 then satAdd 32 x.dup 1 else x.dup
    stale := if why = 2 then satAdd 32 x.stale 1 else x.stale }) s1)

/-- A frame from the short address of a FREE, HELD or CLOSED berth: a disagreement of kind 1 (R359). -/
def foreignBerth (b : Nat) (f : AirFrame) (s : State) : State :=
  let x := berthOf s b
  let id := if x.set.bound = 0 then x.machine else x.set.bound
  disagree (20 + f.head) 1 b (x.state + 65536 * (id % 2 ^ 48))
    (rxType f + 256 * f.head + 65536 * leNat (leInt 2 (rssiOf s f.head f.level)) + 4294967296 * rxCounter f)
    (modOwn (fun o => { o with kind1 := satAdd 32 o.kind1 1 }) s)

/-- The replay window of R340: 0 in order, 1 a duplicate, 2 stale. -/
def replayCheck (high window counter : Nat) : Nat :=
  if counter + 63 < high then 2 else if counter ≤ high ∧ bit window (high - counter) = true then 1 else 0

/-- The window after an accepted counter (R340): its high end and its 64 marks. -/
def replayMark (high window counter : Nat) : Nat × Nat :=
  if high < counter then
    (counter, if counter - high ≥ 64 then 1 else (window * 2 ^ (counter - high) + 1) % 2 ^ 64)
  else (high, putBit window (high - counter) true)

/-- The last eight of a list, newest last. -/
def lastEight (l : List Int) : List Int := l.drop (l.length - 8)

/-- A berth becomes FREE: its session, its allotment and its machine ID are gone. -/
def freeBerth (b cause : Nat) (s : State) : State :=
  modBerth b (fun x => { Berth.free with
    set := x.set
    head := x.head
    session := x.session
    ctrlSeq := x.ctrlSeq
    since := x.since }) (dropSession b (setBerthState b 0 cause s))

/-- A berth becomes HELD: the allotment is released; machine ID, session key and transits stay (R356 to R358). -/
def heldBerth (b cause : Nat) (s : State) : State :=
  modBerth b (fun x => { x with
    allot := none
    pending := none
    queue := []
    awaiting := none }) (setBerthState b 4 cause s)

/-- The frame that awaited its acknowledgement is delivered (R352, R357, R365). -/
def delivered (b : Nat) (f : DownFrame) (s : State) : State :=
  let s1 := modBerth b (fun x => { x with
    awaiting := none
    queue := if f.ftype = 6 ∧ f.kind = 2 then x.queue.filter (fun q => !(q.ftype == 6 && q.kind == 1)) else x.queue
    linkDelivered := x.linkDelivered || (f.ftype == 6 && f.kind == 3) }) s
  if f.ftype = 6 ∧ f.kind = 3 ∧ 8 ≤ f.body.length ∧ u16 f.body 6 ≠ 0 then
    modBerth b (fun x => { x with
      timing := []
      timingSent := false }) s1
  else if f.ftype = 6 ∧ f.kind = 5 ∧ u8 f.body 2 = 2 then freeBerth b 9 s1
  else s1

/-- The acknowledgement field of an accepted frame (R352). -/
def ackStep (b ack : Nat) (s : State) : State :=
  match (berthOf s b).awaiting with
  | none => s
  | some f => if f.counters.any (fun c => c % 65536 == ack) then delivered b f s else s

/-- The mean of the berth's last eight timing offsets, in 10 ns (R365). -/
def timingMean (x : Berth) : Int := roundDiv x.timing.sum (max x.timing.length 1)

/-- A timing correction is sent when the mean of eight frames reaches 1 us (R365); air version 2 has none (R373). -/
def timingStep (b : Nat) (s : State) : State :=
  let x := berthOf s b
  if x.air = 2 ∨ x.timingSent = true ∨ x.timing.length < 8 ∨ (timingMean x).natAbs < 100 then s
  else queueLink b (some (timingMean x)) s

/-- The content of a REPORT: a machine-reported fix for the monitor and the host (R430, R285; absent under air version 2, R373). -/
def reportFrame (b : Nat) (p : List Byte) (s : State) : State :=
  if (berthOf s b).air = 2 ∨ p.length < 24 then s
  else
    let st := u8 p 0 % 16
    let e := (resolveTag (epochNow s) (u16 p 2)).toNat
    let pos : Pt := ⟨iN 4 p 4, iN 4 p 8⟩
    reportRecord b (u16 p 2) st pos (iN 4 p 12) (monitorFix ⟨b, u16 p 2, e, st, pos, (trBerthOf s b).2⟩ s)

/-- The content of a STATUS (R353, R357, R461, R467, R468). -/
def statusFrame (b : Nat) (p : List Byte) (s : State) : State :=
  if p.length < 20 then s
  else
    let fl := u8 p 5
    let x := berthOf s b
    let s1 := modBerth b (fun x => { x with resting := bit fl 1 }) s
    let s2 := if bit fl 0 = true ∧ x.leaving = false then
        hold (20 + x.head) (.release b) (queueControl b 5 (leBytes 1 2 ++ zeros 1) false (modBerth b (fun x => { x with leaving := true }) s1))
      else s1
    claimsFollow (statusPack b (u64 p 8) (u16 p 6) (statusTask b (u32 p 0) (u8 p 4) s2))

/-- What an accepted frame carries (Table 9-3). -/
def upContent (b ftype : Nat) (body : List Byte) (s : State) : State :=
  if ftype = 10 then (if engineOn s then obsArrival b body s else s)
  else if ftype = 11 then reportFrame b body s
  else statusFrame b body s

/-- A frame of a berth is accepted (R340, R352, R357, R365). -/
def acceptUp (b : Nat) (f : AirFrame) (body : List Byte) (s : State) : State :=
  let x := berthOf s b
  let w := replayMark x.up x.window (rxCounter f)
  let s1 := modBerth b (fun x => { x with
    up := w.1
    window := w.2
    accepted := satAdd 32 x.accepted 1
    missed := 0
    lastUp := s.tb.gtc
    fresh := true
    snr := lastEight (x.snr ++ [f.snr])
    timing := lastEight (x.timing ++ [timingOf f s]) }) s
  let s2 := if x.state = 1 ∨ x.state = 3 then setBerthState b 2 1 s1 else s1
  upContent b (rxType f) body (timingStep b (ackStep b (rxAck f) (rejoinAtLimit b s2)))

/-- A STANDBY decrypts UP frames for its shadow engine alone (R374, R289). -/
def standbyUp (b : Nat) (f : AirFrame) (s : State) : State :=
  match upBody b f s with
  | none => opening b s
  | some body =>
    let s1 := modOwn (fun o => { o with heardUp := upsert o.heardUp b (max ((look o.heardUp b).getD 0) (rxCounter f)) }) (opening b s)
    if rxType f = 10 ∧ engineOn s = true then obsArrival b body s1 else s1

/-- UP_FRAME_RX (R340). -/
def execUpFrameRx (f : AirFrame) (s : State) : Result :=
  let b := rxSrc f - 0x0100
  let x := berthOf s b
  done (if macReceives f s = false ∨ within (rxType f) 10 12 = false ∨ within (rxSrc f) 0x0100 0x01FF = false then s
    else if x.state = 0 ∨ x.state = 4 ∨ x.state = 5 then foreignBerth b f s
    else if s.pair.role = 2 then standbyUp b f s
    else if replayCheck x.up x.window (rxCounter f) = 2 then dropUp b 2 s
    else if replayCheck x.up x.window (rxCounter f) = 1 then dropUp b 1 s
    else match upBody b f s with
      | none => dropUp b 0 (opening b s)
      | some body => acceptUp b f body (opening b s))

/-! ### Joins (R354 to R356) -/

/-- OR_JOIN_FAIL (Table 9-16). -/
def joinFail (machine head cause : Nat) (s : State) : State :=
  emit 0xC802 (20 + head) (leBytes 8 machine ++ leBytes 1 cause ++ leBytes 1 head ++ zeros 2)
    (modOwn (fun o => { o with joinsFailed := satAdd 32 o.joinsFailed 1 }) s)

/-- The highest version, 3 or 2, that a machine speaks and the device offers (R354). -/
def version (offered spoken : Nat) : Option Nat := [3, 2].find? (fun v => bit offered v && bit spoken v)

/-- Whether a machine ID is ignored for its failed responses (R356). -/
def lockedOut (s : State) (machine : Nat) : Bool :=
  s.mac.lockouts.any (fun x => x.1 == machine && decide (sinceNs s x.2 < 60 * sec))

/-- Whether another machine's join is pending for a berth. -/
def joinBusy (s : State) (machine b : Nat) : Bool := s.mac.joins.any (fun j => j.berth == b && j.machine != machine)

/-- The berth that a machine takes (R355). -/
def joinBerth (s : State) (machine : Nat) : Option Nat :=
  let can (b : Nat) : Bool := [0, 2, 3, 4].contains (berthOf s b).state && !joinBusy s machine b
  match (List.range 256).find? (fun b => (berthOf s b).set.bound == machine && machine != 0) with
  | some b => if can b then some b else none
  | none =>
    match (List.range 256).find? (fun b => within (berthOf s b).state 2 4 && (berthOf s b).machine == machine && (berthOf s b).set.bound == 0) with
    | some b => if can b then some b else none
    | none =>
      if bit s.repl.mac.cfg.flags 1 then none
      else (List.range 256).find? (fun b => (berthOf s b).state == 0 && (berthOf s b).set.bound == 0 && !joinBusy s machine b)

/-- A JOIN_REQ is checked and answered (R354, R355, R522). -/
def joinRequest (f : AirFrame) (s : State) : State :=
  let p := rxContent f
  let id := u64 p 0
  let cfg := s.repl.mac.cfg
  let others := s.mac.joins.filter (fun j => j.machine != id && !j.verified)
  if bit cfg.flags 0 = false then joinFail id f.head 1 s
  else if lockedOut s id then joinFail id f.head 6 s
  else if 16 ≤ others.length then joinFail id f.head 7 s
  else match version cfg.flags (u8 p 8), version (cfg.flags / 4) (u8 p 9) with
    | some air, some obs =>
      match joinBerth s id with
      | none => joinFail id f.head 2 s
      | some b =>
        if (findAllot s b (berthOf s b).set f.head).isNone then joinFail id f.head 5 s
        else match machineFor id s with
          | (none, t) => joinFail id f.head 4 t
          | (some _, t) =>
            let n := freshBytes 16 t
            modOwn (fun o => { o with joins := o.joins.filter (fun j => !(j.machine == id && !j.verified)) ++
              [⟨id, b, f.head, sub p 12 16, n.1, air, obs, 0, 0, f.snr, false, s.tb.gtc, orbitNow s, false⟩] }) n.2
    | _, _ => joinFail id f.head 3 s

/-- JOIN_REQ_RX (R354): a STANDBY answers none (R374), and only SERVE answers at all (R628). -/
def execJoinReqRx (f : AirFrame) (s : State) : Result :=
  done (if macReceives f s = false ∨ rxType f ≠ 8 ∨ rxProt f ≠ 0 ∨ (rxContent f).length ≠ 28 ∨ s.modes.radio ≠ 2 ∨ s.pair.role = 2 then s else joinRequest f s)

/-- The response that a join must bring (9, Join and authentication, step 4). -/
def joinResponse (s : State) (j : Join) : Option (List Byte) :=
  if s.vault.locked = true ∨ rootHeld s = false then none
  else (machineNode s j.machine).map (fun n =>
    tag16 (material s n.handle) (ascii "GYJOIN" ++ leBytes 8 j.machine ++ j.machineNonce ++ j.stationNonce ++ leBytes 1 s.repl.mac.cfg.colour))

/-- A failed response: the third within 60 s locks the machine ID out (R356). -/
def failedResponse (id head : Nat) (s : State) : State :=
  let l := (s.mac.fails.filter (fun x => decide (sinceNs s x.2 < 60 * sec))) ++ [(id, s.tb.gtc)]
  let n := (l.filter (fun x => x.1 == id)).length
  joinFail id head 4 (modOwn (fun o => { o with
    fails := if n < 3 then l else l.filter (fun x => x.1 != id)
    lockouts := if n < 3 then o.lockouts else o.lockouts.filter (fun x => x.1 != id) ++ [(id, s.tb.gtc)] }) s)

/-- JOIN_AUTH_RX (R355, R356): a verified response waits for the commit. -/
def execJoinAuthRx (f : AirFrame) (s : State) : Result :=
  let id := u64 (rxContent f) 0
  done (if macReceives f s = false ∨ rxType f ≠ 9 ∨ rxProt f ≠ 0 ∨ (rxContent f).length ≠ 24 ∨ s.modes.radio ≠ 2 ∨ s.pair.role = 2 then s
    else match s.mac.joins.find? (fun j => j.machine == id && j.sent && !j.verified && j.head == f.head) with
      | none => s
      | some j =>
        let rest := s.mac.joins.filter (fun x => x != j)
        match joinResponse s j with
        | none => joinFail id f.head 4 (modOwn (fun o => { o with joins := rest }) s)
        | some w =>
          let s := useNode (machineNode s j.machine) s
          if sub (rxContent f) 8 16 = w then
            let j1 := { j with
              verified := true
              snr := f.snr }
            hold (20 + f.head) (.join j1) (modOwn (fun o => { o with joins := rest ++ [j1] }) s)
          else failedResponse id f.head (modOwn (fun o => { o with joins := rest }) s))

/-- The TASK frames of a berth that a join keeps for the new session: the one that awaited goes out again first (R352, R355). -/
def keptTasks (x : Berth) : List DownFrame :=
  let again (f : DownFrame) : DownFrame := { f with
    counters := []
    slots := 0
    due := true }
  ((match x.awaiting with
    | none => []
    | some f => [f]) ++ x.queue).filter (fun f => f.ftype == 5) |>.map again

/-- The fields of ACCEPT (Table 9-8). -/
def acceptFields (s : State) (b : Nat) : List Byte :=
  let x := berthOf s b
  leBytes 1 b ++ leBytes 1 x.air ++ leBytes 1 x.obs ++ zeros 1 ++ leBytes 4 x.session ++ leBytes 4 s.repl.mac.bepoch
    ++ epochKey s s.repl.mac.bepoch

/-- A session starts at a berth (R339, R355, R367): both counters at 1, nothing received, MCS from the SNR of the JOIN_AUTH, EIRP at
the upper fence. -/
def startSession (j : Join) (s : State) : State :=
  let f := linkFenceOf s j.berth
  let m := clampInt (f.mcsFixed.getD f.mcsLo) (f.mcsFixed.getD f.mcsHi) (bestMcs ((s.repl.mac.cfg.margin : Int) * 25) (j.snr * 25))
  modBerth j.berth (fun x => { x with
    from_ := if x.state = 0 then 0 else 4
    machine := j.machine
    session := (x.session + 1) % 2 ^ 32
    machineNonce := j.machineNonce
    stationNonce := j.stationNonce
    hasSession := true
    air := j.air
    obs := j.obs
    head := j.head
    down := 1
    up := 0
    window := 0
    allot := none
    pending := none
    mcs := m
    eirp := f.pwrFixed.getD f.pwrHi
    snr := [j.snr]
    timing := []
    timingSent := false
    awaiting := none
    queue := keptTasks x
    missed := 0
    resting := false
    leaving := false
    joinOrbit := orbitNow s
    linkDelivered := false
    rejoinSent := false
    closeLeft := 0
    fresh := false
    linkSent := none
    keyEpoch := s.repl.mac.bepoch }) s

/-- The commit of a join: JOINING with cause 0, or 10 for a rejoin, then ACCEPT, ALLOT and one STOP frame (R355, R398). -/
def commitJoin (j : Join) (s0 : State) : State :=
  let s := modOwn (fun o => { o with joins := o.joins.filter (fun x => x != j) }) s0
  let old := (berthOf s j.berth).state
  if [0, 2, 3, 4].contains old = false then s
  else
    let s1 := addSession j.machine (j.machineNonce ++ j.stationNonce) (startSession j (dropSession j.berth s))
    let s2 := setBerthState j.berth 1 (if old = 2 ∨ old = 3 then 10 else 0) s1
    let s3 := queueControl j.berth 1 (acceptFields s2 j.berth) true s2
    let s4 := match findAllot s3 j.berth (berthOf s3 j.berth).set j.head with
      | none => s3
      | some a => decideAllot j.berth a true s3
    let sp := spotOf s4 j.berth
    modOwn (fun o => { o with joinsOk := satAdd 32 o.joinsOk 1 })
      (setSpot j.berth { sp with
        left := 1
        release := !sp.inForce } s4)

/-! ### Delivery and the timers of the berth states (R352, R356, R357) -/

/-- OR_DELIVERY_FAIL (Table 9-16). -/
def deliveryFail (b : Nat) (f : DownFrame) (s : State) : State :=
  emit 0xC804 (20 + (berthOf s b).head) (leBytes 1 b ++ leBytes 1 f.ftype ++ leBytes 1 (if f.ftype = 6 then f.kind else 0) ++ zeros 1
    ++ leBytes 4 f.seq) s

/-- DELIVERY_RESEND (R352): after two slots without delivery; a TASK waits while the Eclipse state is not CLEAR (R391), and ends LOST
with cause 5 at the report (R464). -/
def execDeliveryResend (b : Nat) (s : State) : Result :=
  done (match (berthOf s b).awaiting with
    | none => s
    | some f =>
      if f.due = true ∨ f.slots < 2 ∨ s.pair.role = 2 ∨ (f.ftype = 5 ∧ eclShown s ≠ 0) then s
      else if f.sends < 5 then modBerth b (fun x => { x with awaiting := some { f with due := true } }) s
      else
        let s1 := deliveryFail b f (modBerth b (fun x => { x with awaiting := none }) s)
        if f.ftype = 5 ∧ f.kind = 0 then endTask f.seq 9 5 s1 else s1)

/-- JOIN_TIMEOUT (R356). -/
def execJoinTimeout (b : Nat) (s : State) : Result :=
  let x := berthOf s b
  done (if x.state ≠ 1 ∨ s.pair.role = 2 ∨ (orbitNow s + 2 ^ 32 - x.joinOrbit) % 2 ^ 32 < s.repl.mac.cfg.joinTimeout then s
    else if x.from_ = 0 then freeBerth b 2 s else heldBerth b 2 s)

/-- JOIN_LOCKOUT_EXPIRY (R356). -/
def execJoinLockoutExpiry (machine : Nat) (s : State) : Result :=
  done (modOwn (fun o => { o with lockouts := o.lockouts.filter (fun x => !(x.1 == machine && decide (60 * sec ≤ sinceNs s x.2))) }) s)

/-- ADRIFT_ENTRY (R357). -/
def execAdriftEntry (b : Nat) (s : State) : Result :=
  let x := berthOf s b
  done (if x.state = 2 ∧ s.pair.role ≠ 2 ∧ s.repl.mac.cfg.adrift ≤ x.missed then setBerthState b 3 3 s else s)

/-- ADRIFT_LIMIT (R357): the allotment is released. -/
def execAdriftLimit (b : Nat) (s : State) : Result :=
  let x := berthOf s b
  done (if x.state = 3 ∧ s.pair.role ≠ 2 ∧ s.repl.mac.cfg.adriftLimit * sec ≤ sinceNs s x.since then heldBerth b 4 s else s)

/-- HOLD_TIME_EXPIRY (R357): only while 0x0E is armed. -/
def execHoldTimeExpiry (b : Nat) (s : State) : Result :=
  let x := berthOf s b
  done (if x.state = 4 ∧ s.pair.role ≠ 2 ∧ armed s 14 = true ∧ s.repl.mac.cfg.holdTime * sec ≤ sinceNs s x.since then freeBerth b 8 s else s)

/-! ### Channel selection and duty buckets (R368, R370) -/

/-- Whether a channel index of a head is eligible: inside a loaded sub-band entry whose budget still admits beacons, and overlapping
no other head (R322, R368). -/
def eligibleChan (s : State) (h i : Nat) : Bool :=
  match chanOf (headOfRh s h) i with
  | none => false
  | some c =>
    let es := subbandsOf s h c
    let d := frameUs (headOfRh s h).set.n1 (macHead s h).map.beaconMcs 56
    !es.isEmpty && es.all (fun e => dutyAdmits s 0 d e) && !overlapsOther s h c

/-- The next eligible index in cyclic order from the present one, inside a range. -/
def nextChannel (s : State) (h cur lo hi : Nat) : Option Nat :=
  ((List.range 15).map (fun k => (cur + k + 1) % 16)).find? (fun i => within i lo hi && eligibleChan s h i)

/-- A channel change waits for the commit. -/
def wantChannel (h idx cause : Nat) (s : State) : State := hold (20 + h) (.channel h idx cause) s

/-- The commit of a channel change: it applies at the first orbit after the change countdown (R368). -/
def commitChannel (h idx cause : Nat) (s : State) : State :=
  let o := (orbitNow s + s.repl.mac.cfg.countdown + 1) % 2 ^ 32
  radioChannel h (macHead s h).chan idx cause o
    (modLocal h (fun l => { l with
      lastChange := s.tb.gtc
      changed := true }) (modMacHead h (fun x => { x with nextChan := some (idx, o, cause) }) s))

/-- No index inside the fence is eligible but one outside is (R29, R368). -/
def channelLimit (h : Nat) (s : State) : State :=
  let x := macHead s h
  match nextChannel s h x.chan 0 15 with
  | none => s
  | some i =>
    if i < x.fenceLo then policyLimit (20 + h) 4 h 0 0 x.fenceLo i s
    else policyLimit (20 + h) 4 h 1 0 x.fenceHi i s

/-- The 10th percentile of levels, by nearest rank (R368). -/
def tenthPercentile (l : List Int) : Int :=
  let sorted := l.foldl (fun a v => (a.filter (fun x => decide (x ≤ v))) ++ [v] ++ a.filter (fun x => decide (v < x))) []
  nth sorted ((l.length + 9) / 10 - 1) 0

/-- Whether more than 20 % of the quiet units of the last 10 s exceed the floor of the last 60 s by 10 dB (R368). -/
def channelBusy (l : MacLocal) : Bool :=
  let floor := tenthPercentile l.quiet.flatten
  let last := (l.quiet.take 10).flatten
  decide (last.length < 5 * (last.filter (fun v => decide (floor + 40 < v))).length)

/-- Whether more than 20 % of the allotted slots of SERVED berths in the last 10 s delivered no frame (R368). -/
def channelLoss (l : MacLocal) : Bool :=
  let last := l.slots.take 10
  decide ((last.map (fun c => c.1)).sum < 5 * (last.map (fun c => c.2)).sum)

/-- A second's measurements of a head join those of the seconds before, and the count of its slots begins anew (R368). -/
def channelSecond (h : Nat) (quiet : List Int) (s : State) : State :=
  modLocal h (fun l => { l with
    quiet := (quiet :: l.quiet).take 60
    slots := l.slots.take 10 }) s

/-- One evaluation of channel selection (loop 4, R368). -/
def selectChannel (h : Nat) (busy loss : Bool) (s : State) : State :=
  let x := macHead s h
  let l := macLocal s h
  let move (cause : Nat) : State := match nextChannel s h x.chan x.fenceLo x.fenceHi with
    | none => channelLimit h s
    | some i => wantChannel h i cause s
  if x.nextChan.isSome ∨ s.pair.decisions.any (fun d => match d.what with
      | .channel k _ _ => k == h
      | _ => false) then s
  else match x.fixedIdx with
    | some i => if i = x.chan then s else wantChannel h i 0 s
    | none =>
      if within x.chan x.fenceLo x.fenceHi = false then move 0
      else if l.changed = true ∧ sinceNs s l.lastChange < 60 * sec then s
      else if busy then move 1
      else if loss then move 2
      else s

/-- CHANNEL_SELECTION (R368): once per second; `quiet` holds the RSSI of the head's quiet units since the last evaluation. -/
def execChannelSelection (h : Nat) (quiet : List Int) (s : State) : Result :=
  let s1 := channelSecond h quiet s
  let l := macLocal s1 h
  let next (t : State) : State := modLocal h (fun l => { l with slots := (0, 0) :: l.slots }) t
  done (if 3 < h then s
    else if (headOfRh s h).set.enable = false ∨ s.modes.radio ≠ 2 ∨ s.pair.role = 2 then next s1
    else next (selectChannel h (channelBusy l) (channelLoss l) s1))

/-- DUTY_BUCKET_END (R370): the next bucket of the entry begins. -/
def execDutyBucketEnd (i : Nat) (s : State) : Result :=
  done (if i < s.repl.mac.subs.length then modMac (fun m => { m with meters := m.meters.set i (meterNow s i) }) s else s)

end Sys2Proof.Machine
end

