-- ==== Sys2Proof/Machine/Orbits.lean ====
section
/-!
DEFINITION. Sys2Proof/Machine/Orbits.lean: the MAC's commands: the radio mode, sub-bands and fences of group 0x07, and group 0x08
(chapter 9, Tables 9-14 and 9-15).
-/
namespace Sys2Proof.Machine
open Sys2Proof

/-! ### Radio mode (R47, R378) -/

/-- RADIO_MODE_SET (R378): a request that another dimension forces is recorded and answered 0x0101 (R46, R47). -/
def execRadioModeSet (r : Req) (s : State) : Result :=
  let p := r.payload
  let n := u8 p 0
  done (runCommand 0x0709 true r (fun s =>
    checked (p.length == 4) (zeroAt p 1 3) (n ≤ 2) true (failIf (n == 2 && (s.vault.life == 0 || s.vault.life == 2)) 0x2001) s (fun s =>
      let s1 := radioStep true true (modOwn (fun m => { m with requested := n }) s)
      .reply (if s1.modes.radio = n then changed (s.mac.requested == n) else 0x0101) (leBytes 1 s1.modes.radio ++ zeros 3) s1)) s)

/-! ### Sub-bands (R369 to R371) -/

/-- Entry `i` of a RADIO_SUBBAND_SET request. -/
def subEntry (p : List Byte) (i : Nat) : SubBand :=
  let o := 4 + 20 * i
  ⟨u32 p o, u32 p (o + 4), u32 p (o + 8), u32 p (o + 12), iN 2 p (o + 16), bit (u8 p (o + 18)) 0, u8 p (o + 19)⟩

/-- The entries of a RADIO_SUBBAND_SET request. -/
def subEntries (p : List Byte) : List SubBand := (List.range (u8 p 0)).map (subEntry p)

/-- Whether two entries share a meter (R371). -/
def sameSpan (a b : SubBand) : Bool := a.lo == b.lo && a.hi == b.hi && a.window == b.window

/-- The old index of an entry whose meter a reload keeps: its own place first (R371). -/
def keptIndex (olds : List SubBand) (i : Nat) (e : SubBand) : Option Nat :=
  (i :: List.range olds.length).find? (fun k => decide (k < olds.length) && sameSpan (nth olds k e) e)

/-- The commit of RADIO_SUBBAND_SET (R371). -/
def commitSubbands (r : Req) (s : State) : State :=
  let es := subEntries r.payload
  let olds := meterSubs s.repl.mac
  if es = s.repl.mac.subs then reply r 0x070A 0x0102 r.payload s
  else
    let meters := (List.range es.length).map (fun i =>
      let e := nth es i ⟨0, 0, 0, 60, 0, false, 0⟩
      match keptIndex olds i e with
      | none => (⟨[0], bucketNum e (airTime s), 0, 0⟩ : Meter)
      | some k => nth s.repl.mac.meters k ⟨[], 0, 0, 0⟩)
    let s1 := modOwn (fun o => { o with dutyReport := [] }) (modMac (fun m => { m with
      subs := es
      oldSubs := []
      meters := meters }) s)
    let s2 := (List.range es.length).foldl (fun t i =>
      if (keptIndex olds i (nth es i ⟨0, 0, 0, 60, 0, false, 0⟩)).isNone then radioDuty i 1 0xFF 0xFF t else t) s1
    reply r 0x070A 0 r.payload s2

/-- RADIO_SUBBAND_SET (R371). -/
def execRadioSubbandSet (r : Req) (s : State) : Result :=
  let p := r.payload
  let k := u8 p 0
  let es := subEntries p
  done (runCommand 0x070A true r (fun s =>
    checked (p.length == 4 + 20 * k) (zeroAt p 1 3 && (List.range k).all (fun i => u8 p (22 + 20 * i) ≤ 1))
      (k ≤ 32 && es.all (fun e => within e.duty 1 100000 && within e.window 60 86400 && e.reserve ≤ 50)) true
      (notStandby s ++ failIf (es.any (fun e => decide (e.hi ≤ e.lo))) 0x4003) s (fun s =>
      .later (hold r.master (.command 0x070A r) s))) s)

/-- RADIO_DUTY_GET (R370). -/
def execRadioDutyGet (r : Req) (s : State) : Result :=
  done (runCommand 0x070D false r (fun s =>
    checked (r.payload.length == 0) true true true [] s (fun s =>
      .reply 0 ((List.range s.repl.mac.subs.length).flatMap (fun i =>
        leBytes 4 (usedUs s i / 1000) ++ leBytes 4 (budgetUs (subOf s i) / 1000) ++ leBytes 4 (meterNow s i).refused
          ++ leBytes 4 (meterNow s i).exemptOver)) s)) s)

/-! ### Fences of loops 3 and 4 (R366) -/

/-- The fence of a berth with the values of RADIO_LINK_FENCE_SET. -/
def linkFenceWith (p : List Byte) (f : LinkFence) : LinkFence :=
  let fixed := if u8 p 3 = 1 then some (iN 4 p 12) else none
  if u8 p 2 = 0 then { f with
    mcsLo := iN 4 p 4
    mcsHi := iN 4 p 8
    mcsFixed := fixed }
  else { f with
    pwrLo := iN 4 p 4
    pwrHi := iN 4 p 8
    pwrFixed := fixed }

/-- The berths that a berth number 0xFFFF or 0 to 255 names. -/
def namedBerths (b : Nat) : List Nat := if b = 0xFFFF then List.range 256 else [b]

/-- The commit of RADIO_LINK_FENCE_SET (R366). -/
def commitLinkFence (r : Req) (s : State) : State :=
  let p := r.payload
  let bs := namedBerths (u16 p 0)
  let fs := bs.foldl (fun l b => upsert l b (linkFenceWith p (linkFenceOf s b))) s.repl.mac.fences
  reply r 0x070B (changed (bs.all (fun b => linkFenceOf s b == linkFenceWith p (linkFenceOf s b)))) p
    (modMac (fun m => { m with fences := fs }) s)

/-- RADIO_LINK_FENCE_SET (R366, R28 to R31). -/
def execRadioLinkFenceSet (r : Req) (s : State) : Result :=
  let p := r.payload
  let ok (v : Int) : Bool := if u8 p 2 = 0 then withinI v 0 7 else withinI v (-1000) 3600
  done (runCommand 0x070B true r (fun s =>
    checked (p.length == 16) true
      ((u16 p 0 ≤ 255 || u16 p 0 == 0xFFFF) && u8 p 2 ≤ 1 && u8 p 3 ≤ 1 && ok (iN 4 p 4) && ok (iN 4 p 8)
        && (u8 p 3 == 0 || ok (iN 4 p 12))) true
      (notStandby s ++ failIf (decide (iN 4 p 8 < iN 4 p 4)) 0x4003) s (fun s =>
      .later (hold r.master (.command 0x070B r) s))) s)

/-- The commit of RADIO_CHAN_FENCE_SET (R368): the loop moves the head at its next evaluation. -/
def commitChanFence (r : Req) (s : State) : State :=
  let p := r.payload
  let fixed := if u8 p 1 = 1 then some (u8 p 4) else none
  let x := macHead s (u8 p 0)
  reply r 0x070C (changed (x.fenceLo == u8 p 2 && x.fenceHi == u8 p 3 && x.fixedIdx == fixed)) p
    (modMacHead (u8 p 0) (fun x => { x with
      fenceLo := u8 p 2
      fenceHi := u8 p 3
      fixedIdx := fixed }) s)

/-- RADIO_CHAN_FENCE_SET (R366, R368). -/
def execRadioChanFenceSet (r : Req) (s : State) : Result :=
  let p := r.payload
  done (runCommand 0x070C true r (fun s =>
    checked (p.length == 8) (zeroAt p 5 3)
      (u8 p 0 ≤ 3 && u8 p 1 ≤ 1 && u8 p 2 ≤ 15 && u8 p 3 ≤ 15 && (u8 p 1 == 0 || u8 p 4 ≤ 15)) true
      (notStandby s ++ failIf (decide (u8 p 3 < u8 p 2)) 0x4003) s (fun s =>
      .later (hold r.master (.command 0x070C r) s))) s)

/-! ### OR_CONFIG_SET (R332, R343, R346, R499) -/

/-- The settings that OR_CONFIG_SET carries. -/
def orConfigOf (p : List Byte) : OrConfig :=
  ⟨u16 p 0, u8 p 2, u8 p 3, u16 p 4, u8 p 6, u8 p 7, u8 p 8, u8 p 9, u16 p 10, u32 p 12, u32 p 16, u16 p 20, u8 p 22, u8 p 23⟩

/-- Whether the ranges of OR_CONFIG_SET hold (Table 9-15, R343). -/
def orConfigOk (c : OrConfig) : Bool :=
  within c.l 80 4000 && within c.lease 2 8 && c.colour ≤ 63 && within c.guard 10 1000 && within c.window 2 12 && within c.adrift 2 50
    && within c.joinTimeout 5 200 && within c.adriftLimit 5 600 && within c.holdTime 60 86400 && within c.epochLen 600 1000000
    && within c.mapInterval 1 100 && within c.countdown 2 50 && c.margin ≤ 40 && decide (4 * c.l * c.epochLen ≤ 0xE0000000)

/-- Whether a lease of `g` orbits of `l` units is too short for a pair with cycles of `t` units: 50 ms (R346), and the takeover time
of four cycles besides (R499); in us. -/
def leaseShort (g l t : Nat) : Bool :=
  decide ((g - 1) * l * 250 ≤ 50000) || decide ((g - 1) * l * 250 ≤ 4 * t * 250 + 50000)

/-- What refuses an OR_CONFIG_SET for the state of the device (R332, R346, R499). -/
def orConfigFails (c : OrConfig) (s : State) : List Nat :=
  failIf (c.l != orbitL s && s.modes.radio != 0) 0x2002 ++
    failIf (s.pair.mode == 1 && leaseShort c.lease c.l s.repl.cycleT) 0x8804

/-- The default map of a head for an orbit of `l` units (R332, Table 9-15): the beacon run at the default beacon MCS. -/
def defaultMapOf (s : State) (h l : Nat) : UnitMap :=
  let n1 := (headOfRh s h).set.n1
  let m := if n1 then 1 else 3
  ⟨defaultMap l (frameUnits s h m 56), m, if n1 then 1 else 2, 3, 0, 0⟩

/-- Every head takes the default map of a new orbit length, and every allotment is released (R332). -/
def newLength (l : Nat) (s : State) : State :=
  modMac (fun m => { m with
    heads := (List.range 4).map (fun h => { macHead s h with
      map := defaultMapOf s h l
      next := none })
    berths := m.berths.map (fun e => (e.1, { e.2 with
      allot := none
      pending := none })) }) s

/-- The commit of OR_CONFIG_SET (R332, R374): refused where the state of the device has come to refuse it. -/
def commitOrConfig (r : Req) (s : State) : State :=
  let c := orConfigOf r.payload
  match orConfigFails c s with
  | st :: _ => reply r 0x0801 st [] s
  | [] =>
    let s1 := if c.l = orbitL s then s else newLength c.l s
    reply r 0x0801 (changed (s.repl.mac.cfg == c)) r.payload (modMac (fun m => { m with cfg := c }) s1)

/-- OR_CONFIG_SET (R332). -/
def execOrConfigSet (r : Req) (s : State) : Result :=
  let p := r.payload
  done (runCommand 0x0801 true r (fun s =>
    checked (p.length == 24) (bitsBelow (u8 p 7) 6) (orConfigOk (orConfigOf p)) true (notStandby s ++ orConfigFails (orConfigOf p) s) s (fun s =>
      .later (hold r.master (.command 0x0801 r) s))) s)

/-! ### OR_SCHEDULE_SET (R335, R362) -/

/-- The unit types of an OR_SCHEDULE_SET request. -/
def scheduleTypes (p : List Byte) : List Nat :=
  (List.range (u16 p 6)).map (fun i => u8 p (8 + i / 2) / (if i % 2 = 0 then 1 else 16) % 16)

/-- What refuses a map for the state of the device: R335, and the units allotted on the head (R362). -/
def scheduleFails (p : List Byte) (s : State) : List Nat :=
  let h := u8 p 0
  let types := scheduleTypes p
  failIf (!mapOk s h types (u8 p 1) (u8 p 2)) 0x8801 ++
    failIf ((usesOnHead s h 256).any (fun x => nth types x.1 0 != 5)) 0x8802

/-- The commit of OR_SCHEDULE_SET: the map applies after the change countdown (R351, R362). -/
def commitSchedule (r : Req) (s : State) : State :=
  let p := r.payload
  let h := u8 p 0
  match scheduleFails p s with
  | st :: _ => reply r 0x0802 st [] s
  | [] =>
    let old := newestMap s h
    let x : UnitMap := ⟨scheduleTypes p, u8 p 1, u8 p 2, u8 p 3, iN 2 p 4, old.version⟩
    let b := beaconRun s h (u8 p 1)
    if x = old then
      let o := match (macHead s h).next with
        | none => orbitNow s
        | some y => y.2
      reply r 0x0802 0x0102 (leBytes 1 old.version ++ leBytes 1 b ++ leBytes 4 o ++ zeros 2) s
    else
      let v := (old.version + 1) % 256
      let o := (orbitNow s + s.repl.mac.cfg.countdown + 1) % 2 ^ 32
      reply r 0x0802 0 (leBytes 1 v ++ leBytes 1 b ++ leBytes 4 o ++ zeros 2)
        (modMacHead h (fun y => { y with next := some ({ x with version := v }, o) }) s)

/-- OR_SCHEDULE_SET (R335). -/
def execOrScheduleSet (r : Req) (s : State) : Result :=
  let p := r.payload
  let types := scheduleTypes p
  let mcs := [u8 p 1, u8 p 2, u8 p 3]
  done (runCommand 0x0802 true r (fun s =>
    checked (p.length == 8 + (u16 p 6 + 1) / 2)
      (types.all (fun t => decide (t ≤ 6)) && (u16 p 6 % 2 == 0 || decide (u8 p (p.length - 1) < 16)) && mcs.all (fun m => !within m 8 15))
      (u8 p 0 ≤ 3 && mcs.all (fun m => decide (m ≤ 7)) && withinI (iN 2 p 4) (-80) 80 && within (u16 p 6) 80 4000) true
      (notStandby s ++ scheduleFails p s) s (fun s =>
      .later (hold r.master (.command 0x0802 r) s))) s)

/-! ### OR_BERTH_SET (R357, R358, R360 to R362) -/

/-- The berth of entry `i` of an OR_BERTH_SET request. -/
def entryBerth (p : List Byte) (i : Nat) : Nat := u8 p (4 + 16 * i)

/-- The action of entry `i`: 0 configure, 1 close, 2 open, 3 release. -/
def entryAction (p : List Byte) (i : Nat) : Nat := u8 p (5 + 16 * i)

/-- The settings that entry `i` gives a berth. -/
def entrySet (p : List Byte) (i : Nat) (old : BerthSet) : BerthSet :=
  let o := 4 + 16 * i
  ⟨u8 p (o + 2), u8 p (o + 3), u8 p (o + 4), u8 p (o + 5), u64 p (o + 8), old.closed⟩

/-- Whether the settings of entry `i` lie in their ranges; those of another action than configure are ignored (R377). -/
def entryOk (p : List Byte) (i : Nat) : Bool :=
  let x := entrySet p i BerthSet.default
  entryAction p i ≤ 3 && (entryAction p i != 0 ||
    ([1, 2, 5, 10, 20].contains x.cadence && within x.size 1 16 && within x.period 1 100 && within x.heads 1 15))

/-- The settings of an entry are tried on a berth: false, and the state with the allotment that they ask for (R362). -/
def tryEntry (p : List Byte) (a : Bool × State) (i : Nat) : Bool × State :=
  let b := entryBerth p i
  if entryAction p i ≠ 0 then a
  else
    let s1 := modBerth b (fun x => { x with set := entrySet p i x.set }) a.2
    let x := berthOf s1 b
    match newestAllot x with
    | none => (a.1, s1)
    | some al =>
      if within x.state 1 3 = false ∨ allotFits s1 b al = true then (a.1, s1)
      else match findAllot s1 b x.set x.head with
        | none => (false, s1)
        | some n => (a.1, modBerth b (fun y => { y with pending := some (n, 0) }) s1)

/-- What refuses an OR_BERTH_SET for the state of the device: an action not allowed from the berth's state, a machine ID bound to two
berths, an allotment that does not fit (R378, R362). -/
def berthSetFails (p : List Byte) (s : State) : List Nat :=
  let is := List.range (u8 p 0)
  let t := is.foldl (tryEntry p) (true, s)
  let bound := ((t.2.repl.mac.berths.map (fun e => e.2.set.bound)).filter (fun v => v != 0))
  failIf (is.any (fun i => (entryAction p i == 2 && (berthOf s (entryBerth p i)).state != 5) ||
      (entryAction p i == 3 && (berthOf s (entryBerth p i)).state != 4))) 0x8805 ++
    failIf (!noRepeat bound) 0x8806 ++ failIf (!t.1) 0x8802

/-- A berth is closed (R358): its session ends, and CLOSE with cause 1 goes out three times where it had one. -/
def closeBerth (b : Nat) (s : State) : State :=
  if (berthOf s b).state = 5 then s
  else modBerth b (fun x => { x with
      allot := none
      pending := none
      queue := []
      awaiting := none
      resting := false
      closeLeft := if x.hasSession then 3 else 0
      set := { x.set with closed := true } }) (setBerthState b 5 5 s)

/-- One entry of OR_BERTH_SET takes effect. -/
def applyEntry (p : List Byte) (s : State) (i : Nat) : State :=
  let b := entryBerth p i
  match entryAction p i with
  | 0 => reallot b true (modBerth b (fun x => { x with set := entrySet p i x.set }) s)
  | 1 => closeBerth b s
  | 2 => freeBerth b 6 (modBerth b (fun x => { x with set := { x.set with closed := false } }) s)
  | _ => freeBerth b 7 s

/-- Entry `i` with the settings in force. -/
def echoEntry (p : List Byte) (s : State) (i : Nat) : List Byte :=
  let x := (berthOf s (entryBerth p i)).set
  leBytes 1 (entryBerth p i) ++ leBytes 1 (entryAction p i) ++ leBytes 1 x.cadence ++ leBytes 1 x.size ++ leBytes 1 x.period
    ++ leBytes 1 x.heads ++ zeros 2 ++ leBytes 8 x.bound

/-- Whether an entry changes nothing. -/
def entrySame (p : List Byte) (s : State) (i : Nat) : Bool :=
  let x := berthOf s (entryBerth p i)
  (entryAction p i == 0 && entrySet p i x.set == x.set) || (entryAction p i == 1 && x.state == 5)

/-- The commit of OR_BERTH_SET (R357, R358, R362, R374). -/
def commitOrBerth (r : Req) (s : State) : State :=
  let p := r.payload
  let is := List.range (u8 p 0)
  match berthSetFails p s with
  | st :: _ => reply r 0x0803 st [] s
  | [] =>
    let s1 := is.foldl (applyEntry p) s
    reply r 0x0803 (changed (is.all (entrySame p s))) (leBytes 1 (u8 p 0) ++ zeros 3 ++ is.flatMap (echoEntry p s1)) s1

/-- OR_BERTH_SET (R362). -/
def execOrBerthSet (r : Req) (s : State) : Result :=
  let p := r.payload
  let is := List.range (u8 p 0)
  done (runCommand 0x0803 true r (fun s =>
    checked (p.length == 4 + 16 * u8 p 0) (zeroAt p 1 3 && is.all (fun i => zeroAt p (10 + 16 * i) 2))
      (within (u8 p 0) 1 32 && is.all (entryOk p)) (noRepeat (is.map (entryBerth p))) (notStandby s ++ berthSetFails p s) s (fun s =>
      .later (hold r.master (.command 0x0803 r) s))) s)

/-! ### OR_BERTH_GET, OR_STATUS (R377) -/

/-- First slot unit, slots per orbit and m of a berth's allotment (Table 9-15). -/
def allotShown (x : Berth) : List Byte :=
  match x.allot with
  | none => leBytes 2 0xFFFF ++ zeros 2
  | some a =>
    let y := a.series.headD ⟨0xFFFF, 0, 0, 0⟩
    leBytes 2 y.first ++ leBytes 1 (a.series.map (fun z => z.n)).sum ++ leBytes 1 y.m

/-- OR_BERTH_GET (R377). -/
def execOrBerthGet (r : Req) (s : State) : Result :=
  let p := r.payload
  let b := u8 p 0
  done (runCommand 0x0804 false r (fun s =>
    let x := berthOf s b
    checked (p.length == 4) (zeroAt p 1 3) true true [] s (fun s =>
      .reply 0 (leBytes 1 b ++ leBytes 1 x.state ++ leBytes 1 x.head ++ leBytes 1 x.air ++ leBytes 8 x.machine ++ leBytes 4 x.session
        ++ leBytes 4 x.up ++ leBytes 4 x.down ++ leBytes 1 x.mcs.toNat ++ leBytes 1 x.set.size ++ leInt 2 x.eirp
        ++ leInt 2 ((x.snr.getLast?).getD 0) ++ leInt 2 (timingMean x) ++ allotShown x ++ leBytes 4 x.accepted ++ leBytes 4 x.mic
        ++ leBytes 4 (min (x.dup + x.stale) 0xFFFFFFFF) ++ leBytes 4 x.missedTotal) s)) s)

/-- The go-lease of the present beacons: 0 where no head in SERVE sends one above it. -/
def leaseShown (s : State) : Nat :=
  if s.modes.radio ≠ 2 then 0
  else ((List.range 4).map (fun h => if (headOfRh s h).set.enable then goLease s h else 0)).foldl max 0

/-- The berths in a state; those that nothing has been said of are FREE. -/
def berthsIn (s : State) (st : Nat) : Nat := ((List.range 256).filter (fun b => (berthOf s b).state == st)).length

/-- The reply payload of OR_STATUS. -/
def orStatusBytes (s : State) : List Byte :=
  leBytes 4 (orbitNow s) ++ leBytes 2 (orbitL s) ++ leBytes 1 (leaseShown s) ++ leBytes 1 s.modes.radio
    ++ (List.range 6).flatMap (fun k => leBytes 2 (berthsIn s k))
    ++ (List.range 4).flatMap (fun h => leBytes 2 (macLocal s h).misses ++ leBytes 1 (macHead s h).map.version
      ++ leBytes 1 (macHead s h).chan)
    ++ leBytes 4 s.mac.joinsOk ++ leBytes 4 s.mac.joinsFailed ++ leBytes 4 s.mac.kind1

/-- OR_STATUS (R377). -/
def execOrStatus (r : Req) (s : State) : Result :=
  done (runCommand 0x0805 false r (fun s =>
    checked (r.payload.length == 0) true true true [] s (fun s =>
      .reply 0 (orStatusBytes s) s)) s)

end Sys2Proof.Machine
end

