-- ==== Sys2Proof/Machine/Can.lean ====
section
/-!
DEFINITION. Sys2Proof/Machine/Can.lean: the four CAN FD controllers with the commands of group 0x0E (chapter 15).
-/
namespace Sys2Proof.Machine
open Sys2Proof

/-- A controller. -/
def ctlOf (s : State) (c : Nat) : CanCtl := nth s.can.ctls c CanCtl.zero

/-- Changes a controller. -/
def modCtl (c : Nat) (f : CanCtl → CanCtl) (s : State) : State := { s with can := { s.can with ctls := modNth s.can.ctls c f } }

/-- Whether the controllers run (R562). -/
def canRuns (s : State) : Bool := decide (s.pwr.state ≤ 2) && domOn s 13

/-! ### Frames (R553) -/

/-- The data length of a DLC code (R553). -/
def dlcLength (fd : Bool) (dlc : Nat) : Nat :=
  if dlc ≤ 8 then dlc else if fd then nth [12, 16, 20, 24, 32, 48, 64] (dlc - 9) 64 else 8

/-- Whether an identifier word is extended. -/
def wordExt (w : Nat) : Bool := bit w 29

/-- Whether an identifier word is that of a remote frame. -/
def wordRemote (w : Nat) : Bool := bit w 30

/-- The identifier of an identifier word. -/
def wordIdent (w : Nat) : Nat := w % 2 ^ 29

/-- A frame record (Table 15-3). -/
def canRecord (c : Nat) (ext : Bool) (index : Nat) (f : CanFrame) (new lost : Bool) : List Byte :=
  leBytes 8 f.gtc.toNat ++ leBytes 4 f.word ++ leBytes 1 f.dlc ++ leBytes 1 (f.flags % 8 + 8 * flag new + 16 * flag lost)
    ++ leBytes 2 (c + 4 * flag ext + 16 * index) ++ ((f.data.take (dlcLength (bit f.flags 0) f.dlc)) ++ zeros 64).take 64

/-- The arbitration field as a number: the lower one wins (R557, ISO 11898-1:2015). -/
def arbitration (w : Nat) : Nat :=
  if wordExt w then wordIdent w / 2 ^ 18 * 2 ^ 21 + 2 ^ 20 + 2 ^ 19 + wordIdent w % 2 ^ 18 * 2 + flag (wordRemote w)
  else wordIdent w * 2 ^ 21 + flag (wordRemote w) * 2 ^ 20

/-! ### States (R548 to R550, R561) -/

/-- CAN_TX_DONE for a buffer whose flag asks for it (Table 15-7). -/
def canTxDone (c : Nat) (b : CanBuf) (result : Nat) (start : Gtc) (s : State) : State :=
  if b.report then
    emit 0xCE03 (16 + c) (leBytes 1 c ++ leBytes 1 b.index ++ leBytes 1 result ++ zeros 1 ++ leBytes 4 b.frame.word
      ++ leBytes 8 start.toNat) s
  else s

/-- Every pending buffer of a controller ends with result 3 (R550). -/
def canFlush (c : Nat) (s : State) : State :=
  (ctlOf s c).bufs.foldl (fun t b => canTxDone c b 3 0 t) (modCtl c (fun x => { x with bufs := [] }) s)

/-- A controller changes its state: its report (R549), its buffers (R550), its stop identifiers (R561). -/
def canState (c new cause : Nat) (s : State) : State :=
  let old := (ctlOf s c).state
  if new = old then s
  else
    let s1 := modCtl c (fun x => { x with state := new }) s
    let x := ctlOf s1 c
    let s2 := limited 0xCE01 c 100000000 (fun n t =>
      emit 0xCE01 (16 + c) (leBytes 1 c ++ leBytes 1 old ++ leBytes 1 new ++ leBytes 1 cause ++ leBytes 1 (min x.txErr 255)
        ++ leBytes 1 (min x.rxErr 255) ++ leBytes 2 n) t) s1
    let s3 := if new = 0 ∨ new = 1 ∨ new = 5 then canFlush c s2 else s2
    if within new 3 4 = true ∧ within old 3 4 = true then s3 else dropStopFrames c s3

/-- The state that the error counters ask for; BUS_OFF recovers at once while 0x0B is armed (R549). -/
def canErrorState (c : Nat) (s : State) : State :=
  let x := ctlOf s c
  if within x.state 3 4 = false then s
  else if 255 < x.txErr then
    let s1 := canState c 5 1 (modCtl c (fun y => { y with cBusOff := satAdd 32 y.cBusOff 1 }) s)
    if armed s 11 then canState c 6 1 s1 else s1
  else canState c (if 127 < x.txErr ∨ 127 < x.rxErr then 4 else 3) 1 s

/-! ### Rate detection (R559) -/

/-- The next entry of a running detection is tried, from the first again after the last. -/
def detectNext (c : Nat) (s : State) : State :=
  modCtl c (fun x => { x with
    sync := x.sync || x.detect.isSome
    detect := x.detect.map (fun d => { d with
      entry := (d.entry + 1) % max d.table.length 1
      entrySince := s.tb.gtc
      good := 0
      brs := false }) }) s

/-- CAN_RATE (Table 15-7). -/
def canRate (c result : Nat) (d : CanDetect) (s : State) : State :=
  emit 0xCE02 (16 + c) (leBytes 1 c ++ leBytes 1 result ++ leBytes 1 d.entry ++ leBytes 1 (flag (result == 0 && d.brs)) ++ leBytes 4 d.seen) s

/-- A detection ends: with its entry adopted, or in LISTEN with the previous timing. -/
def detectEnd (c result : Nat) (d : CanDetect) (s : State) : State :=
  let normal := result == 0 && d.normal
  let s1 := modCtl c (fun x => { x with
    detect := none
    sync := true
    timing := if result = 0 then nth d.table d.entry x.timing else x.timing
    mode := if normal then 2 else 1
    txErr := 0
    rxErr := 0 }) s
  canRate c result d (canState c (if normal then 3 else 1) 3 s1)

/-- A frame without error counts for the entry that is tried; the eighth in a row is success. -/
def detectFrame (c : Nat) (f : CanFrame) (s : State) : State :=
  match (ctlOf s c).detect with
  | none => s
  | some d =>
    let n := { d with
      good := d.good + 1
      brs := d.brs || bit f.flags 1
      seen := d.seen + 1
      entrySince := s.tb.gtc }
    if 8 ≤ n.good then detectEnd c 0 n s else modCtl c (fun x => { x with detect := some n }) s

/-- CAN_RATE_DWELL (R559): the dwell time has passed without a frame. -/
def execCanRateDwell (c : Nat) (s : State) : Result :=
  done (match (ctlOf s c).detect with
    | none => s
    | some d => if canRuns s = true ∧ d.dwell * 100000000 ≤ sinceNs s d.entrySince then detectNext c s else s)

/-- CAN_RATE_TIMEOUT (R559). -/
def execCanRateTimeout (c : Nat) (s : State) : Result :=
  done (match (ctlOf s c).detect with
    | none => s
    | some d => if canRuns s = true ∧ d.timeout * sec ≤ sinceNs s d.start then detectEnd c 1 d s else s)

/-! ### The bus (R549, R551 to R557) -/

/-- Whether a controller takes part in bus traffic (R548). -/
def canOnBus (s : State) (c : Nat) : Bool := canRuns s && within (ctlOf s c).state 1 4 && !(ctlOf s c).sync

/-- How an error of a kind moves the error counter of its role: the receiver's by 1, the transmitter's by 8, and 8 more for each
further dominant bit or bit error in a flag that ISO 11898-1 punishes; the exempt errors are a transmitter's stuff error in
arbitration and the missing acknowledgement of an error-passive one (log entry 26). -/
def errorStep (x : CanCtl) (kind : Nat) (tx : Bool) (extra : Nat) (exempt : Bool) : Nat :=
  if kind = 5 ∨ within x.state 3 4 = false then 0
  else if tx then (if exempt = true ∧ (kind = 0 ∨ (kind = 4 ∧ x.state = 4)) then 0 else 8) + 8 * extra
  else 1 + 8 * extra

/-- A bus error or lost arbitration of a controller: counted by its kind (0 stuff, 1 form, 2 CRC, 3 bit, 4 ACK, 5 arbitration lost),
with an error flag where the controller sends one; a receive error moves a detection on; the error counters follow ISO 11898-1
(R549, R559). -/
def canError (c kind : Nat) (tx : Bool) (extra : Nat) (exempt : Bool) (s : State) : State :=
  let x := ctlOf s c
  let n := errorStep x kind tx extra exempt
  let s1 := modCtl c (fun x => { x with
    cStuff := if kind = 0 then satAdd 32 x.cStuff 1 else x.cStuff
    cForm := if kind = 1 then satAdd 32 x.cForm 1 else x.cForm
    cCrc := if kind = 2 then satAdd 32 x.cCrc 1 else x.cCrc
    cBit := if kind = 3 then satAdd 32 x.cBit 1 else x.cBit
    cAck := if kind = 4 then satAdd 32 x.cAck 1 else x.cAck
    cArb := if kind = 5 then satAdd 32 x.cArb 1 else x.cArb
    txErr := if tx then x.txErr + n else x.txErr
    rxErr := if tx then x.rxErr else x.rxErr + n }) s
  let s2 := if kind ≤ 4 ∧ within x.state 3 4 = true then put (.canErrorFlag c (x.state == 3)) s1 else s1
  canErrorState c (if kind ≤ 2 then detectNext c s2 else s2)

/-- CAN_BUS_ERROR (R549): `tx`: the controller was the transmitter; `extra` and `exempt`: what the bus showed after the error. -/
def execCanBusError (c kind : Nat) (tx : Bool) (extra : Nat) (exempt : Bool) (s : State) : Result :=
  done (if canOnBus s c = true ∧ kind ≤ 5 then canError c kind tx extra exempt s else s)

/-- CAN_BUS_IDLE_SYNC (R548). -/
def execCanBusIdleSync (c : Nat) (s : State) : Result :=
  done (if canRuns s then modCtl c (fun x => { x with sync := false }) s else s)

/-- CAN_RECOVERY_COMPLETE (R549). -/
def execCanRecoveryComplete (c : Nat) (s : State) : Result :=
  done (if canRuns s = true ∧ (ctlOf s c).state = 6 then
      canState c 3 2 (modCtl c (fun x => { x with
        txErr := 0
        rxErr := 0 }) s)
    else s)

/-- The extended entries that a frame which began at a GTC is matched against (R555). -/
def extAt (x : CanCtl) (start : Gtc) : List CanExt :=
  match x.extHist.find? (fun h => decide (elapsed h.1 start < 2 ^ 63) && h.1 != start) with
  | none => x.ext
  | some h => h.2

/-- The object that a frame is stored in (R551): whether extended, and its index. -/
def objectFor (x : CanCtl) (f : CanFrame) : Option (Bool × Nat) :=
  if wordExt f.word then
    ((extAt x f.gtc).find? (fun e => e.enable && Nat.land (Nat.xor (wordIdent f.word) e.ident) e.mask == 0)).map (fun e => (true, e.index))
  else if x.rejects.contains (wordIdent f.word) then none
  else some (false, wordIdent f.word)

/-- Whether an object is the one named. -/
def isObj (ext : Bool) (index : Nat) (o : CanObj) : Bool := o.ext == ext && o.index == index

/-- A valid frame is stored or rejected (R551, R552), and streamed where it is stored (R555). -/
def canStore (c : Nat) (f : CanFrame) (s : State) : State :=
  let x := ctlOf s c
  match objectFor x f with
  | none => modCtl c (fun y => { y with cRejected := satAdd 32 y.cRejected 1 }) s
  | some (ext, i) =>
    let lost := x.objs.any (fun o => isObj ext i o && o.new)
    let s1 := modCtl c (fun y => { y with
      objs := ⟨ext, i, f, true, lost⟩ :: y.objs.filter (fun o => !isObj ext i o)
      cLost := if lost then satAdd 32 y.cLost 1 else y.cLost }) s
    if s.can.queue ≤ 63 ∧ bit s.can.streamMask c = true then (sqDevice s.can.queue [canRecord c ext i f false false] s1).2 else s1

/-- The stop identifiers see a valid frame (R560): only byte 0 of 0x5A leaves no demand. -/
def canStopIds (c : Nat) (f : CanFrame) (s : State) : State :=
  if wordRemote f.word = true ∨ within (ctlOf s c).state 3 4 = false then s
  else
    let ok := decide (1 ≤ dlcLength (bit f.flags 0) f.dlc) && u8 f.data 0 == 0x5A
    evalStopIds c { s with ecl := { s.ecl with ids := s.ecl.ids.map (fun x =>
      if x.enabled = true ∧ x.ctl = c ∧ x.ext = wordExt f.word ∧ x.ident = wordIdent f.word then
        { x with good := if ok then some s.tb.gtc else none } else x) } }

/-- The receive error counter after a frame received without error: one less, and from above 127 a value of 119 to 127 that ISO 11898-1
leaves open (log entry 26). -/
def rxErrorAfter (free n : Nat) : Nat := if n ≤ 127 then n - 1 else 119 + free % 9

/-- CAN_FRAME_VALID (R552): a frame received up to the last bit but one of its end; with FDF set where FD is off it is a form error
(R545). -/
def execCanFrameValid (c : Nat) (f : CanFrame) (s : State) : Result :=
  let x := ctlOf s c
  let live := within x.state 3 4
  done (if canOnBus s c = false then s
    else if bit f.flags 0 = true ∧ bit x.flags 0 = false then canError c 1 false 0 false s
    else
      let s1 := modCtl c (fun y => { y with
        cReceived := satAdd 32 y.cReceived 1
        rxErr := if live then rxErrorAfter (fresh s).1 y.rxErr else y.rxErr })
        (let s0 := if live ∧ 127 < x.rxErr then (fresh s).2 else s
         if live then put (.canAck c) s0 else s0)
      detectFrame c f (canStopIds c f (canStore c f (canErrorState c s1))))

/-- CAN_HEARTBEAT_TIMEOUT (R560): stop identifier `i` has had no frame for its heartbeat. -/
def execCanHeartbeatTimeout (i : Nat) (s : State) : Result :=
  done (match s.ecl.ids[i]? with
    | none => s
    | some x => if x.enabled then evalStopIds x.ctl s else s)

/-- Whether a buffer enters arbitration before another (R557). -/
def bufBefore (a b : CanBuf) : Bool :=
  decide (arbitration a.frame.word < arbitration b.frame.word) ||
    (arbitration a.frame.word == arbitration b.frame.word && decide (a.index < b.index))

/-- Whether a buffer is the one that arbitration takes among those pending at a GTC (R557). -/
def bufWins (bufs : List CanBuf) (b : CanBuf) (t : Gtc) : Bool :=
  bufs.all (fun x => !bufBefore x b || decide (2 ^ 63 ≤ elapsed t x.frame.gtc))

/-- A buffer leaves with a result. -/
def bufEnds (c : Nat) (b : CanBuf) (result : Nat) (start : Gtc) (s : State) : State :=
  canTxDone c b result start (modCtl c (fun x => { x with bufs := x.bufs.filter (fun y => y.index != b.index) }) s)

/-- The offset of the secondary sample point in CK_CAN cycles: fixed, or the sample point of the data phase (R547). -/
def tdcOffset (x : CanCtl) : Nat := if bit x.flags 1 then x.tdc else (1 + x.timing.dseg1) * x.timing.dpre

/-- The secondary sample point: the measured delay plus the offset (R547). -/
def secondaryPoint (x : CanCtl) (delay : Nat) : Nat := delay + tdcOffset x

/-- CAN_TX_COMPLETE (R557, R558): a buffer's frame that began at `start` was sent, or lost arbitration or failed; `delay` is the
transmitter delay measured in an FD frame (R547). -/
def execCanTxComplete (c b : Nat) (ok : Bool) (start : Gtc) (delay : Nat) (s : State) : Result :=
  let x := ctlOf s c
  done (match x.bufs.find? (fun y => y.index == b) with
    | none => s
    | some y =>
      if canOnBus s c = false ∨ within x.state 3 4 = false ∨ bufWins x.bufs y start = false ∨ 2 ^ 63 ≤ elapsed start y.frame.gtc then s
      else if ok then
        let fd := bit y.frame.flags 0
        let noBrs := fd && bit y.frame.flags 1 && decide (127 < delay)
        let s1 := modCtl c (fun z => { z with
          cSent := satAdd 32 z.cSent 1
          txErr := z.txErr - 1
          delay := if fd then delay else z.delay
          cNoBrs := if noBrs then satAdd 32 z.cNoBrs 1 else z.cNoBrs }) s
        let f := { y.frame with
          gtc := start
          flags := flag fd + 2 * flag (fd && bit y.frame.flags 1 && !noBrs) + 4 * flag (fd && x.state == 4) }
        canErrorState c (bufEnds c y 0 start (put (.can c f (if bit f.flags 1 then secondaryPoint x delay else 0)) s1))
      else if y.abort then bufEnds c y 1 start s
      else if y.single then bufEnds c y 2 start s
      else s)

/-! ### CAN_CONFIG_SET (R546, R548, R550, R563) -/

/-- A timing as CAN_CONFIG_SET carries it from an offset. -/
def timingAt (p : List Byte) (o : Nat) : CanTiming :=
  ⟨u16 p o, u16 p (o + 2), u8 p (o + 4), u8 p (o + 5), u8 p (o + 6), u8 p (o + 7), u8 p (o + 8), u8 p (o + 9)⟩

/-- A timing in bytes. -/
def timingBytes (t : CanTiming) : List Byte :=
  leBytes 2 t.pre ++ leBytes 2 t.seg1 ++ leBytes 1 t.seg2 ++ leBytes 1 t.sjw ++ leBytes 1 t.dpre ++ leBytes 1 t.dseg1 ++ leBytes 1 t.dseg2
    ++ leBytes 1 t.dsjw

/-- Whether the fields of a timing lie in the ranges of Table 15-1. -/
def timingRange (t : CanTiming) : Bool :=
  within t.pre 1 256 && within t.seg1 2 256 && within t.seg2 2 128 && within t.sjw 1 128 && within t.dpre 1 32 && within t.dseg1 1 32
    && within t.dseg2 1 16 && within t.dsjw 1 16

/-- Whether a timing is valid (R546): SJW within TSEG2, the nominal rate 10 kbit/s to 1 Mbit/s, the data rate from there to 8 Mbit/s. -/
def timingValid (t : CanTiming) : Bool :=
  let n := t.pre * (1 + t.seg1 + t.seg2)
  let d := t.dpre * (1 + t.dseg1 + t.dseg2)
  decide (t.sjw ≤ t.seg2) && decide (t.dsjw ≤ t.dseg2) && decide (80 ≤ n) && decide (n ≤ 8000) && decide (10 ≤ d) && decide (d ≤ n)

/-- The settings of a controller as CAN_CONFIG_SET replies them, with its state. -/
def canConfigBytes (c : Nat) (s : State) : List Byte :=
  let x := ctlOf s c
  leBytes 1 c ++ leBytes 1 x.mode ++ leBytes 1 x.flags ++ leBytes 1 x.tdc ++ timingBytes x.timing ++ zeros 2 ++ leBytes 1 x.state ++ zeros 3

/-- The settings of CAN_CONFIG_SET come into force: a change of mode or timing waits for an idle bus (R548), a change into NORMAL starts
the controller, and a detection ends (R559, R563). -/
def applyCanConfig (c mode flags tdc : Nat) (t : CanTiming) (s : State) : State :=
  let x := ctlOf s c
  let restart := x.mode != mode || x.detect.isSome
  let s1 := modCtl c (fun y => { y with
    mode := mode
    flags := flags
    tdc := tdc
    timing := t
    sync := if mode = 0 then false else y.sync || restart || y.timing != t
    detect := none
    txErr := if restart then 0 else y.txErr
    rxErr := if restart then 0 else y.rxErr }) s
  if restart then canState c (if mode = 2 then 3 else mode) 0 s1 else s1

/-- CAN_CONFIG_SET (R548, R563). -/
def execCanConfigSet (r : Req) (s : State) : Result :=
  let p := r.payload
  let c := u8 p 0
  let t := timingAt p 4
  done (runCommand 0x0E01 true r (fun s =>
    checked (p.length == 16) (bitsBelow (u8 p 2) 3 && zeroAt p 14 2) (c ≤ 3 && u8 p 1 ≤ 2 && u8 p 3 ≤ 127 && timingRange t) true
      (failIf (!timingValid t) 0x8E04 ++ failIf ((ctlOf s c).state == 6 && (ctlOf s c).timing != t) 0x2003) s (fun s =>
      let x := ctlOf s c
      let same := x.mode == u8 p 1 && x.flags == u8 p 2 && x.tdc == u8 p 3 && x.timing == t && x.detect.isNone
      let s1 := applyCanConfig c (u8 p 1) (u8 p 2) (u8 p 3) t s
      .reply (changed same) (canConfigBytes c s1) s1)) s)

/-! ### Filters and objects (R551, R554, R555) -/

/-- An extended entry as CAN_FILTER_SET carries it. -/
def canExtOf (p : List Byte) (i : Nat) : CanExt :=
  ⟨u16 p 2 + i, u32 p (8 + 12 * i), u32 p (12 + 12 * i), bit (u8 p (16 + 12 * i)) 0⟩

/-- The extended entries of CAN_FILTER_SET. -/
def canExts (p : List Byte) : List CanExt := (List.range (u16 p 4)).map (canExtOf p)

/-- Inserts or replaces an extended entry, the indices rising; one that is not enabled and all zero is as after reset. -/
def putExt (l : List CanExt) (e : CanExt) : List CanExt :=
  let rest := l.filter (fun x => x.index != e.index)
  if e.enable = false ∧ e.ident = 0 ∧ e.mask = 0 then rest
  else rest.filter (fun x => decide (x.index < e.index)) ++ [e] ++ rest.filter (fun x => decide (e.index < x.index))

/-- The standard identifiers rejected after a range is accepted or rejected. -/
def rejectsAfter (old : List Nat) (first last : Nat) (accept : Bool) : List Nat :=
  (List.range 2048).filter (fun i => if within i first last then !accept else old.contains i)

/-- The extended entry of an index; after reset each is disabled and all zero. -/
def extEntry (x : CanCtl) (i : Nat) : CanExt := (x.ext.find? (fun e => e.index == i)).getD ⟨i, 0, 0, false⟩

/-- The entries of an extended request take their place: the objects of those that change are cleared, and a frame in reception keeps the
old entries (R555). -/
def applyExts (c : Nat) (es : List CanExt) (s : State) : State :=
  modCtl c (fun x => { x with
    ext := es.foldl putExt x.ext
    extHist := x.extHist.filter (fun h => decide (sinceNs s h.1 < sec)) ++ [(s.tb.gtc, x.ext)]
    objs := x.objs.filter (fun o => !(o.ext && es.any (fun e => e.index == o.index && extEntry x o.index != e))) }) s

/-- CAN_FILTER_SET (R555). -/
def execCanFilterSet (r : Req) (s : State) : Result :=
  let p := r.payload
  let c := u8 p 0
  let first := u16 p 2
  let n := u16 p 4
  let es := canExts p
  done (runCommand 0x0E02 true r (fun s =>
    checked (if u8 p 1 = 1 then p.length == 8 + 12 * n else p.length == 8)
      (zeroAt p 7 1 && (u8 p 1 != 1 || (zeroAt p 6 1 && (List.range n).all (fun i => u8 p (16 + 12 * i) ≤ 1 && zeroAt p (17 + 12 * i) 3))))
      (c ≤ 3 && u8 p 1 ≤ 1 &&
        (if u8 p 1 = 0 then first ≤ n && n ≤ 2047 && u8 p 6 ≤ 1
         else within n 1 64 && first + n ≤ 1024 && es.all (fun e => decide (e.ident < 2 ^ 29) && decide (e.mask < 2 ^ 29))))
      true [] s (fun s =>
      let x := ctlOf s c
      if u8 p 1 = 0 then
        let l := rejectsAfter x.rejects first n (u8 p 6 == 1)
        .reply (changed (l == x.rejects)) p (modCtl c (fun y => { y with rejects := l }) s)
      else
        let s1 := applyExts c es s
        if (ctlOf s1 c).ext = x.ext then .reply 0x0102 p s else .reply 0 p s1)) s)

/-- The record of an object: one that holds no frame reads as zeros. -/
def objectRecord (c : Nat) (x : CanCtl) (ext : Bool) (i : Nat) : List Byte :=
  match x.objs.find? (isObj ext i) with
  | none => canRecord c ext i ⟨0, 0, 0, 0, []⟩ false false
  | some o => canRecord c ext i o.frame o.new o.lost

/-- CAN_RX_READ (R554): the objects read lose NEW and LOST. -/
def execCanRxRead (r : Req) (s : State) : Result :=
  let p := r.payload
  let c := u8 p 0
  let ext := u8 p 1 == 1
  let first := u16 p 2
  let n := u8 p 4
  done (runCommand 0x0E03 false r (fun s =>
    checked (p.length == 8) (bitsBelow (u8 p 5) 1 && zeroAt p 6 2)
      (c ≤ 3 && u8 p 1 ≤ 1 && within n 1 48 && first + n ≤ (if ext then 1024 else 2048)) true [] s (fun s =>
      let x := ctlOf s c
      let idx := ((List.range n).map (fun i => first + i)).filter (fun i =>
        u8 p 5 == 0 || x.objs.any (fun o => isObj ext i o && o.new))
      .reply 0 (leBytes 2 idx.length ++ zeros 2 ++ idx.flatMap (objectRecord c x ext))
        (modCtl c (fun y => { y with objs := y.objs.map (fun o =>
          if o.ext = ext ∧ idx.contains o.index = true then { o with
            new := false
            lost := false } else o) }) s))) s)

/-- CAN_STREAM (R555). -/
def execCanStream (r : Req) (s : State) : Result :=
  let p := r.payload
  done (runCommand 0x0E09 false r (fun s =>
    checked (p.length == 4) (zeroAt p 2 2) ((u8 p 0 ≤ 63 || u8 p 0 == 0xFF) && within (u8 p 1) 1 15) true
      (failIf (u8 p 0 != 0xFF && !sqDeviceBound s (u8 p 0)) 0x8E05) s (fun s =>
      .reply 0 p { s with can := { s.can with
        queue := u8 p 0
        streamMask := u8 p 1 } })) s)

/-! ### Transmission and recovery (R549, R550, R557, R558) -/

/-- The buffer that CAN_TX names: itself, or the lowest free one. -/
def txBuffer (x : CanCtl) (b : Nat) : Option Nat :=
  let busy (i : Nat) : Bool := x.bufs.any (fun y => y.index == i)
  if b = 0xFF then (List.range 64).find? (fun i => !busy i) else if busy b then none else some b

/-- Whether an identifier word equals an enabled stop identifier of a controller (R558). -/
def isStopWord (s : State) (c w : Nat) : Bool :=
  s.ecl.ids.any (fun x => x.enabled && x.ctl == c && x.ext == wordExt w && x.ident == wordIdent w)

/-- CAN_TX (R557, R558). -/
def execCanTx (r : Req) (s : State) : Result :=
  let p := r.payload
  let c := u8 p 0
  let fl := u8 p 2
  let w := u32 p 4
  let fd := bit fl 3
  done (runCommand 0x0E04 true r (fun s =>
    checked (p.length == 8 + dlcLength fd (u8 p 3)) (bitsBelow fl 4 && bitsBelow w 31)
      (c ≤ 3 && (u8 p 1 ≤ 63 || u8 p 1 == 0xFF) && u8 p 3 ≤ 15 && (wordExt w || decide (wordIdent w < 2048))) true
      (failIf ((ctlOf s c).state ≤ 2) 0x8E01 ++ failIf (txBuffer (ctlOf s c) (u8 p 1)).isNone 0x8E02 ++ failIf (isStopWord s c w) 0x8E03) s
      (fun s =>
        let i := (txBuffer (ctlOf s c) (u8 p 1)).getD 0
        let f : CanFrame := ⟨s.tb.gtc, w, u8 p 3, flag fd + 2 * flag (bit fl 2), p.drop 8⟩
        .reply 0 (leBytes 1 i ++ zeros 3) (modCtl c (fun x => { x with bufs := x.bufs ++ [⟨i, f, bit fl 0, bit fl 1, false⟩] }) s))) s)

/-- One buffer is aborted: the one that arbitration takes runs to its end first (R558; log entry 26). -/
def abortBuffer (c : Nat) (s : State) (b : CanBuf) : State :=
  let x := ctlOf s c
  if canOnBus s c = true ∧ within x.state 3 4 = true ∧ bufWins x.bufs b s.tb.gtc = true then
    modCtl c (fun y => { y with bufs := y.bufs.map (fun z => if z.index = b.index then { z with abort := true } else z) }) s
  else bufEnds c b 1 0 s

/-- CAN_TX_ABORT (R558). -/
def execCanTxAbort (r : Req) (s : State) : Result :=
  let p := r.payload
  let c := u8 p 0
  done (runCommand 0x0E05 true r (fun s =>
    checked (p.length == 4) (zeroAt p 2 2) (c ≤ 3 && (u8 p 1 ≤ 63 || u8 p 1 == 0xFF)) true [] s (fun s =>
      let bs := (ctlOf s c).bufs.filter (fun b => u8 p 1 == 0xFF || b.index == u8 p 1)
      let wins := bs.filter (fun b => bufWins (ctlOf s c).bufs b s.tb.gtc)
      let rest := bs.filter (fun b => !bufWins (ctlOf s c).bufs b s.tb.gtc)
      .reply (changed bs.isEmpty) [] ((rest ++ wins).foldl (abortBuffer c) s))) s)

/-- CAN_RATE_DETECT (R559). -/
def execCanRateDetect (r : Req) (s : State) : Result :=
  let p := r.payload
  let c := u8 p 0
  let k := u8 p 1
  let ts := (List.range k).map (fun i => timingAt p (8 + 12 * i))
  done (runCommand 0x0E06 true r (fun s =>
    checked (p.length == 8 + 12 * k) (bitsBelow (u8 p 2) 1 && zeroAt p 6 2 && (List.range k).all (fun i => zeroAt p (18 + 12 * i) 2))
      (c ≤ 3 && within k 1 16 && within (u8 p 3) 1 100 && within (u16 p 4) 1 600 && ts.all timingRange) true
      (failIf (ts.any (fun t => !timingValid t)) 0x8E04) s (fun s =>
      .reply 0 [] (canState c 2 0 (modCtl c (fun x => { x with
        sync := true
        detect := some ⟨ts, 0, bit (u8 p 2) 0, u8 p 3, u16 p 4, s.tb.gtc, s.tb.gtc, 0, false, 0⟩ }) s)))) s)

/-- CAN_RECOVER (R549). -/
def execCanRecover (r : Req) (s : State) : Result :=
  let p := r.payload
  let c := u8 p 0
  done (runCommand 0x0E07 true r (fun s =>
    checked (p.length == 4) (zeroAt p 1 3) (c ≤ 3) true (failIf ((ctlOf s c).state != 5) 0x8E06) s (fun s =>
      .reply 0 [] (canState c 6 0 s))) s)

/-- The reply payload of CAN_STATUS for a controller. -/
def canStatusBytes (s : State) (c : Nat) : List Byte :=
  let x := ctlOf s c
  leBytes 1 x.state ++ leBytes 1 (min x.txErr 255) ++ leBytes 1 (min x.rxErr 255) ++ zeros 1
    ++ [x.cReceived, x.cSent, x.cRejected, x.cLost, x.cStuff, x.cForm, x.cCrc, x.cBit, x.cAck, x.cArb, x.cBusOff].flatMap (leBytes 4)
    ++ leBytes 8 (x.bufs.map (fun b => 2 ^ b.index)).sum

/-- CAN_STATUS (R563). -/
def execCanStatus (r : Req) (s : State) : Result :=
  let p := r.payload
  done (runCommand 0x0E08 false r (fun s =>
    checked (p.length == 4) (zeroAt p 1 3) (u8 p 0 ≤ 3) true [] s (fun s => .reply 0 (canStatusBytes s (u8 p 0)) s)) s)

end Sys2Proof.Machine
end

