-- ==== Sys2Proof/Machine/Commit.lean ====
section
/-!
DEFINITION. Sys2Proof/Machine/Commit.lean: the commit of the decisions that a cycle holds (R13, R17, R22, R484, R485; log entry 11).
-/
namespace Sys2Proof.Machine
open Sys2Proof

/-! ### Arming (R19 to R27, R92) -/

/-- The entries that an ARM_SET carries: reaction ID and value. -/
def armEntries (p : List Byte) : List (Nat × Nat) := (List.range (u8 p 0)).map (fun i => (u8 p (4 + 2 * i), u8 p (5 + 2 * i)))

/-- The arming table after an ARM_SET. -/
def armAfter (p : List Byte) (table : Nat) : Nat := (armEntries p).foldl (fun v e => putBit v e.1 (e.2 == 1)) table

/-- Whether an entry may not take a value now (R21, R92): 0x01 disarmed in MISSION, 0x0D armed in SOLO. -/
def armBarred (s : State) (e : Nat × Nat) : Bool :=
  (e.1 == 1 && e.2 == 0 && s.vault.life == 1) || (e.1 == 13 && e.2 == 1 && s.pair.role == 0)

/-- ARM_CHANGED after an ARM_SET, to every session but the sender's (Table 2-18, cause 0). -/
def armChanged (m0 cause master : Nat) (s : State) : State :=
  emitExcept m0 0xC105 master (leBytes 2 s.repl.armed ++ leBytes 1 cause ++ leBytes 1 master) s

/-- ARM_CHANGED of another cause, to every session (Table 2-18). -/
def armReport (cause master : Nat) (s : State) : State :=
  emit 0xC105 (if master ≤ 4 then master else 32) (leBytes 2 s.repl.armed ++ leBytes 1 cause ++ leBytes 1 master) s

/-- Trigger 9 holds for every input that the tamper latch records (R539, Table 10-2). -/
def evalTamper (s : State) : State :=
  (List.range 4).foldl (fun t n => evalLasting 9 (10 + n) (s.vault.latch && bit s.vault.inputs n) t) s

/-- The pins that are sampled all the time, and the tamper latch, are evaluated at once under a changed table (R23, R539). -/
def evalSampled (s : State) : State :=
  evalTamper <| evalLasting 7 4 (s.ecl.active.contains (7, 4))
    (evalLasting 3 8 s.ecl.fault (evalLasting 2 9 (bDemands s) (evalLasting 1 8 (aDemands s) s)))

/-- The commit of an ARM_SET without its reply: the status and the state. -/
def commitArm (r : Req) (s : State) : Nat × State :=
  if (armEntries r.payload).any (armBarred s) then (0x2005, s)
  else
    let t := armAfter r.payload s.repl.armed
    if t = s.repl.armed then (0x0102, s)
    else (0, evalSampled (forgetReactions (armChanged r.master 0 r.master { s with repl := { s.repl with armed := t } })))

/-! ### Frames that wait for their decision (R351) -/

/-- The frames of a berth that were made up to a decision's GTC are free to go on air. -/
def releaseFrames (b : Nat) (g : Gtc) (s : State) : State :=
  let free (f : DownFrame) : DownFrame := if sinceNs s g ≤ sinceNs s f.ready then { f with released := true } else f
  modBerth b (fun x => { x with
    queue := x.queue.map free
    awaiting := x.awaiting.map free }) s

/-! ### One decision -/

/-- The commit of BL_BERTH_SET; a berth whose cadence changed is allotted again (R252, R361). -/
def commitBerthRates (r : Req) (s : State) : State :=
  ((blEntries r.payload).map (fun e => e.1)).foldl (fun t b => reallot b true t) (commitBlBerth r s)

/-- The commit of the commit cycle length and the ack limit of an ACTIVE member (R505). -/
def commitCycleSettings (p : List Byte) (s : State) : State :=
  { s with repl := { s.repl with
    cycleT := u16 p 2
    ackLimit := u16 p 4 } }

/-- The settings of PAIR_CONFIG_SET in force, with role and link state (Table 13-9). -/
def pairConfigBytes (s : State) : List Byte :=
  leBytes 1 s.pair.mode ++ leBytes 1 (flag s.pair.airEvidence) ++ leBytes 2 s.repl.cycleT ++ leBytes 2 s.repl.ackLimit
    ++ leBytes 2 s.pair.joinWait ++ leBytes 4 s.pair.timeTh ++ leBytes 1 s.pair.role ++ leBytes 1 s.pair.link ++ zeros 2

/-- The commit of a setting command by its opcode; `g` is the GTC of the decision, `cancelled` whether a cancel of the same batch
prevails over a DP_TASK_READY (R465). -/
def commitCommand (op : Nat) (r : Req) (g : Gtc) (cancelled : Bool) (s : State) : State :=
  match op with
  | 0x0501 => commitCorrMode r s
  | 0x0502 => commitCorrPosition r s
  | 0x0503 => commitCorrOrigin r s
  | 0x0504 => commitCorrMsg r s
  | 0x0505 => commitCorrStation r s
  | 0x0601 => commitBerthRates r s
  | 0x0602 => commitBlParam r s
  | 0x070A => commitSubbands r s
  | 0x070B => commitLinkFence r s
  | 0x070C => commitChanFence r s
  | 0x0801 => commitOrConfig r s
  | 0x0802 => commitSchedule r s
  | 0x0803 => commitOrBerth r s
  | 0x0A08 => commitTrConfig r s
  | 0x0A09 => commitTrBerth r s
  | 0x0B01 => commitTaskAdd r g s
  | 0x0B02 => commitTaskReady r g cancelled s
  | 0x0B05 => commitDpConfig r s
  | 0x0B06 => commitDpBerth r s
  | 0x0B09 => commitPackSet r s
  | 0x0B0A => commitPackBind r s
  | _ =>
    let s1 := commitCycleSettings r.payload s
    reply r 0x0C01 0 (pairConfigBytes s1) s1

/-- Whether a batch holds a cancel of a task, which prevails over its other changes (R465). -/
def cancelled (cancels : List Nat) (id : Nat) : Bool := cancels.contains id

/-- The commit of one decision; an ARM_SET is left to its own pass. -/
def commitOne (cancels : List Nat) (d : Held) (s : State) : State :=
  match d.what with
  | .command op r => commitCommand op r d.gtc (cancelled cancels (u32 r.payload 0)) s
  | .join j => commitJoin j s
  | .release b => releaseFrames b d.gtc s
  | .assign slot gen b => if cancelled cancels (gen * 8192 + slot) then s else commitAssign (gen * 8192 + slot) b s
  | .taskEnd slot gen st cause =>
    if cancelled cancels (gen * 8192 + slot) then s else commitTaskEnd (gen * 8192 + slot) st cause s
  | .taskActive slot gen => if cancelled cancels (gen * 8192 + slot) then s else commitTaskActive (gen * 8192 + slot) s
  | .rebind b idx => commitRebind b idx s
  | .channel h idx cause => commitChannel h idx cause s
  | .cancel r task p => commitCancel r task p s
  | .void => s
  | .eclRelease r n => commitRelease r n s
  | .answer r op st p => reply r op st p s
  | .spotRelease r q => commitSpotRelease r q s

/-! ### A batch -/

/-- Whether a decision comes before another (R17). -/
def heldBefore (now : Gtc) (a b : Held) : Bool :=
  decide (elapsed now b.gtc < elapsed now a.gtc) || (a.gtc == b.gtc && decide (a.source ≤ b.source))

/-- Inserts a decision before those it comes before. -/
def insertHeld (now : Gtc) (a : Held) (l : List Held) : List Held :=
  match l with
  | [] => [a]
  | b :: r => if heldBefore now a b then a :: b :: r else b :: insertHeld now a r

/-- The waiting decisions in the order of R17. -/
def sortDecisions (s : State) : State :=
  { s with pair := { s.pair with decisions := s.pair.decisions.foldr (insertHeld s.tb.gtc) [] } }

/-- How many of the decisions belong to the cycle that ends now: one stamped with the GTC of the end belongs to the next (R484). -/
def batchSize (s : State) : Nat := (s.pair.decisions.filter (fun d => d.gtc != s.tb.gtc)).length

/-- The tasks that the first `n` decisions cancel. -/
def cancelsOf (n : Nat) (s : State) : List Nat :=
  (s.pair.decisions.take n).filterMap (fun d => match d.what with
    | .cancel _ id _ => some id
    | _ => none)

/-- A decision that is not waiting. -/
def Held.none : Held := ⟨0, 0, .void⟩

/-- Commits decision `i`: it is read as it stands now, since a withdrawal may have voided it (R463). An ARM_SET leaves its status for
its reply, which carries the table after the whole commit (R92). -/
def commitAt (cancels : List Nat) (a : State × List (Req × Nat)) (i : Nat) : State × List (Req × Nat) :=
  let d := nth a.1.pair.decisions i Held.none
  let s := { a.1 with pair := { a.1.pair with decisions := modNth a.1.pair.decisions i (fun h => { h with what := .void }) } }
  match d.what with
  | .command 0x0110 r => let x := commitArm r s; (x.2, a.2 ++ [(r, x.1)])
  | _ => (commitOne cancels d s, a.2)

/-- Commits the first `n` decisions in order, then the replies of ARM_SET (R92, R485). -/
def commitBatch (n : Nat) (s : State) : State :=
  let x := (List.range n).foldl (commitAt (cancelsOf n s)) (s, [])
  let s1 := { x.1 with pair := { x.1.pair with decisions := x.1.pair.decisions.drop n } }
  x.2.foldl (fun t e => reply e.1 0x0110 e.2 (if e.2 = 0x2005 then [] else leBytes 2 t.repl.armed ++ zeros 2) t) s1

end Sys2Proof.Machine
end

