-- ==== Sys2Proof/Machine/Pair.lean ====
section
/-!
DEFINITION. Sys2Proof/Machine/Pair.lean: chapter 13: the link to the partner, roles and qualification, the commit cycle, Eclipse across
the pair, takeover, the planned switchover and the commands of group 0x0C (log entry 27).
-/
namespace Sys2Proof.Machine
open Sys2Proof

/-! ### Times (R484, R487, R496) -/

/-- The commit cycle length in ns. -/
def cycleNs (s : State) : Nat := s.repl.cycleT * 250000

/-- The lease time (R487). -/
def leaseNs (s : State) : Nat := 3 * cycleNs s

/-- The detection time (R496). -/
def detectNs (s : State) : Nat := 4 * cycleNs s

/-- Whether a stamp lies within a time. -/
def lately (s : State) (t : Option Gtc) (ns : Nat) : Bool := t.any (fun g => decide (sinceNs s g < ns))

/-- Device ID of the partner, 0 for none. -/
def partnerId (s : State) : Nat := (s.pair.partner.map (fun p => p.devId)).getD 0

/-- Whether the link shows an ACTIVE partner (R480). -/
def partnerActive (s : State) : Bool := linkUp s && s.pair.helloed && s.pair.partner.any (fun p => p.role == 1)

/-! ### Messages (R477, Table 13-3; layouts: log entry 10) -/

/-- Sends a link message under a cycle number of its own. -/
def sendLinkOf (cycle type : Nat) (prio : Bool) (payload : List Byte) (s : State) : State :=
  let c := s.pair.cycle
  modPair (fun p => { p with cycle := c })
    (sendLink type prio payload (modPair (fun p => { p with cycle := cycle }) s))

/-- What a LINK_HELLO shows of the partner, and its nonce. -/
def helloOf (p : List Byte) : Partner × List Byte :=
  (⟨u64 p 2, u8 p 0, u8 p 1, u8 p 10, u8 p 11 == 1, u8 p 12 == 1, u32 p 14⟩, sub p 18 16)

/-- A delta or a full copy goes out. -/
def sendContent (cycle : Nat) (full : Bool) (content : Repl) (s : State) : State :=
  if linkUp s = true ∧ s.pair.helloed = true ∧ (linkKeyNow s).isSome = true then put (.delta cycle full content) (nextLinkSeq s) else s

/-- A pulse on PAIR_LEASE_OUT (Table 13-1). -/
def leasePulse (us : Nat) (s : State) : State := put (.lease us) s

/-- The digest of a replicated group of Table 13-5: SHA-256 over the digests of its entries in ascending index, which the device keeps (R489). -/
def groupDigest (r : Repl) (g : Nat) : List Byte := sha256 ((Config.entryCodes g r).flatMap sha256)

/-- The state digest: SHA-256 over the digests of the seven replicated groups, in table order (R489). -/
def stateDigest (r : Repl) : List Byte := sha256 ((List.range 7).flatMap (groupDigest r))

/-- One entry of FIXSUM. -/
def fixSumBytes (x : FixSum) : List Byte :=
  leBytes 1 x.berth ++ leBytes 4 x.tag ++ leBytes 1 x.state ++ leInt 4 x.e ++ leInt 4 x.n ++ leInt 4 x.u

/-- The entries of FIXSUM. -/
def fixSumsOf (p : List Byte) : List FixSum :=
  (List.range (p.length / 18)).map (fun i =>
    let o := 18 * i
    ⟨u8 p o, u32 p (o + 1), u8 p (o + 5), iN 4 p (o + 6), iN 4 p (o + 10), iN 4 p (o + 14)⟩)

/-- DIGEST and FIXSUM of a committed cycle (R485, R489, R491). -/
def sendDigest (cycle : Nat) (content : Repl) (s : State) : State :=
  let s1 := sendLinkOf cycle 6 false (s.bl.fixSums.flatMap fixSumBytes) (sendLinkOf cycle 5 false (stateDigest content) s)
  modBl (fun l => { l with fixSums := [] }) s1

/-! ### Events (Table 13-11) -/

/-- PAIR_ROLE; a change that no command asked for is a MODE_CHANGE as well (R48). -/
def pairRole (old new cause : Nat) (s : State) : State :=
  let s1 := emit 0xCC02 4 (leBytes 1 old ++ leBytes 1 new ++ leBytes 1 cause ++ zeros 1 ++ leBytes 8 (partnerId s)) s
  if cause = 0 then s1 else modeChange 4 2 old new 0 s1

/-- Qualification changes: PAIR_SYNC (R481). -/
def setQualified (q : Bool) (cause : Nat) (s : State) : State :=
  if s.pair.qualified = q then s
  else
    emit 0xCC03 4 (leBytes 1 (flag q) ++ leBytes 1 cause ++ zeros 2 ++ leBytes 4 s.pair.lastCommitted)
      (modPair (fun p => { p with
        qualified := q
        fullDone := p.fullDone && q }) s)

/-- The alone state changes: PAIR_ALONE (R487). -/
def setAlone (a : Bool) (s : State) : State :=
  if s.pair.alone = a then s
  else
    emit 0xCC04 4 (leBytes 1 (flag a) ++ leBytes 1 (if a then 1 + 2 * flag (!lately s s.pair.lastPin (leaseNs s)) else 0) ++ zeros 2
      ++ leBytes 4 s.pair.lastCommitted) (modPair (fun p => { p with alone := a }) s)

/-- PAIR_SPLIT. -/
def pairSplit (cause head counter : Nat) (s : State) : State :=
  emit 0xCC07 4 (leBytes 1 cause ++ leBytes 1 head ++ zeros 2 ++ leBytes 4 counter) s

/-! ### Link state (R476) -/

/-- The link state that the lanes give. -/
def laneState (lanes : List Bool) : Nat := (lanes.filter (fun l => l)).length

/-- The lanes change: INCOMPATIBLE and AUTH_FAILED hold while lanes are up. -/
def setLanes (lanes : List Bool) (cause : Nat) (s : State) : State :=
  let base := laneState lanes
  let s1 := modPair (fun p => { p with lanes := lanes }) s
  let new := if base = 0 then 0 else if 3 ≤ s.pair.link then s.pair.link else base
  let s2 := setLinkState new cause s1
  if base = 0 ∧ s.pair.link ≠ 0 then linkDown s2
  else if s.pair.link = 0 ∧ base ≠ 0 then (if (linkKeyNow s2).isSome then sendHello s2 else authFailed s2) else s2

/-- PAIR_LANE_CHANGE (R476). -/
def execPairLaneChange (lane : Nat) (up : Bool) (s : State) : Result :=
  done (if domOn s 12 = false ∨ nth s.pair.lanes lane up = up then s
    else setLanes (s.pair.lanes.set lane up) (if up then 2 else 1) s)

/-- Whether a link message is of its type and its length and CRC are right (Table 13-2). -/
def linkFramed (type : Nat) (m : LinkMsg) : Bool :=
  m.type == type && decide (m.payload.length ≤ 8192) && m.crc == crc32c (linkBody m)

/-- Whether the tag of a link message verifies under a key. -/
def linkTagOk (key : Option (List Byte)) (m : LinkMsg) : Bool := key.any (fun k => m.tag == linkTag k m)

/-- What becomes of a link message of a type: 0 nothing, 1 its tag fails, 2 it is acted on. A copy whose CRC fails is dropped, and so is
the second copy, by its sequence (R476). -/
def linkVerdict (type : Nat) (m : LinkMsg) (s : State) : Nat :=
  if domOn s 12 = false ∨ s.pair.link = 0 ∨ linkFramed type m = false then 0
  else if linkTagOk (linkKeyNow s) m = false ∨ linkUp s = false ∨ s.pair.helloed = false then 1
  else if s.pair.seqSeen.contains m.seq then 0 else 2

/-- A message whose tag fails is dropped and counted (R478). -/
def tagDrop (s : State) : State := modPair (fun p => { p with tagDrops := satAdd 32 p.tagDrops 1 }) s

/-- A message with a valid tag has arrived. -/
def linkSeen (m : LinkMsg) (s : State) : State :=
  modPair (fun p => { p with
    seqSeen := (m.seq :: p.seqSeen).take 64
    lastEvidence := s.tb.gtc }) s

/-- Acts on a link message with a valid tag; drops and counts one without (R477, R478). -/
def onLink (type : Nat) (m : LinkMsg) (f : State → State) (s : State) : State :=
  match linkVerdict type m s with
  | 0 => s
  | 1 => tagDrop s
  | _ => f (linkSeen m s)

/-! ### Eclipse views and roles (R495, R497, R627) -/

/-- Reports a change of the Eclipse state that a STANDBY shows (R381, R495). -/
def viewsChanged (old : Nat) (s : State) : State :=
  let new := eclShown s
  if s.pair.role ≠ 2 ∨ new = old then s
  else
    let c := eclCoreShown s
    let s1 := if new = 1 then { s with ecl := { s.ecl with
        entry := s.tb.gtc
        entries := satAdd 32 s.ecl.entries 1 } } else s
    let s2 := emit 0xC901 4 (leBytes 1 old ++ leBytes 1 new ++ leBytes 1 c.cause ++ leBytes 1 4 ++ leBytes 2 c.seq ++ leBytes 1 0xFF
      ++ zeros 1 ++ leBytes 4 0) s1
    if new = 2 then s2 else modeChange 4 3 old new 0 s2

/-- The view that a STANDBY takes its Eclipse state from when it becomes ACTIVE or SOLO (R497 step 3, R627). -/
def adoptedCore (s : State) : EclCore :=
  if s.pair.viewPrio.state = 1 then s.pair.viewPrio
  else if s.pair.viewCommitted.state = 1 then s.pair.viewCommitted
  else if s.pair.viewPin then { s.repl.ecl with
    state := 1
    cause := 7
    seq := nextEclSeq (max s.pair.viewPrio.seq s.pair.viewCommitted.seq) }
  else if s.pair.viewPrio.state = 2 then s.pair.viewPrio
  else if s.pair.viewCommitted.state = 2 then s.pair.viewCommitted
  else if s.pair.viewPrio.seq = 0 then s.pair.viewCommitted else s.pair.viewPrio

/-- The Eclipse state follows the views (R497 step 3, R627): an entry withdraws assignments that have not gone on air (R463), RELEASING
starts its delay again. -/
def adoptEclipse (s : State) : State :=
  let c := adoptedCore s
  let s1 := modEcl (fun e => { e with
    state := c.state
    seq := c.seq
    cause := c.cause }) s
  if c.state = 1 then
    withdrawAll { s1 with ecl := { s1.ecl with
      latched := putBit s1.ecl.latched c.cause true
      burstHeads := 0 } }
  else if c.state = 2 then { s1 with ecl := { s1.ecl with releaseAt := s.tb.gtc } }
  else s1

/-- Trigger 7 of an ACTIVE member (R494). -/
def evalPartner (s : State) : State :=
  if s.pair.role = 1 then evalLasting 7 4 (s.pair.pinIn || s.pair.partnerTrigger) s else s

/-- Commands that a member can no longer carry out are refused with 0x2004: those that wait for a commit, and a switchover. -/
def refuseHeld (s : State) : State :=
  let rs := s.pair.decisions.filterMap (fun d => match d.what with
    | .command op r => some (r, op)
    | .cancel r _ _ => some (r, 0x0B03)
    | .eclRelease r _ => some (r, 0x0902)
    | .answer r op _ _ => some (r, op)
    | .spotRelease r _ => some (r, 0x0904)
    | _ => none)
  let rs2 := rs ++ (match s.pair.switchover with
    | none => []
    | some x => [(x.2, 0x0C03)])
  rs2.foldl (fun t x => reply x.1 x.2 0x2004 [] t) (modPair (fun p => { p with
    decisions := []
    switchover := none }) s)

/-- The member becomes ACTIVE. -/
def becomeActive (cause : Nat) (s : State) : State :=
  let old := s.pair.role
  let s1 := setQualified false 4 s
  let s2 := refuseForwards (modPair (fun p => { p with
    role := 1
    lastAck := s.tb.gtc
    lastPin := none
    ackWait := none
    proposed := none
    hold := none
    partnerTrigger := false
    handover := none
    fullDone := false
    fullRunning := false }) s1)
  sendHello (evalSampled (evalPartner (pairRole old 1 cause s2)))

/-- The member's role is STANDBY, unqualified. -/
def toStandby (cause : Nat) (s : State) : State :=
  let old := s.pair.role
  let s1 := refuseHeld (setAlone false (setQualified false 4 (if old = 1 then evalLasting 7 4 false s else s)))
  let s2 := modPair (fun p => { p with
    role := 2
    ackWait := none
    proposed := none
    handing := false
    handover := none
    partnerTrigger := false
    lastRenew := s.tb.gtc
    lastPin := none
    lastDelta := s.tb.gtc
    lastEvidence := s.tb.gtc
    deltaNext := none
    fullDone := false
    fullRunning := false
    committed := none
    airHead := 255
    viewPrio := { s.repl.ecl with
      state := 0
      spots := [] }
    viewCommitted := s.repl.ecl
    viewPin := p.pinIn
    pinSince := s.tb.gtc }) s1
  pairRole old 2 cause s2

/-- The member becomes STANDBY and tells the partner. -/
def becomeStandby (cause : Nat) (s : State) : State := sendHello (toStandby cause s)

/-- The member becomes ACTIVE under R480, from its Eclipse views where it was STANDBY (R627). -/
def activeByRole (cause : Nat) (s : State) : State :=
  becomeActive cause (if s.pair.role = 2 then
      modCorr (fun c => { c with modeReq := s.repl.corr.mode }) (adoptEclipse s)
    else s)

/-- The roles that a LINK_HELLO decides (R480). -/
def decideRole (p : Partner) (s : State) : State :=
  if s.pair.mode ≠ 1 ∨ s.vault.life ≠ 1 ∨ linkUp s = false then s
  else if p.role = 1 then (if s.pair.role = 2 then s else becomeStandby 3 s)
  else if s.pair.role ≠ 2 then s
  else if s.pair.strapHigh = false ∧ p.strapHigh = true then activeByRole 1 s
  else if s.pair.strapHigh = p.strapHigh ∧ s.vault.devId < p.devId then activeByRole 2 s
  else s

/-- A full copy goes to the partner (R481); its cycle number is the last committed one. -/
def sendFull (s : State) : State := sendContent s.pair.lastCommitted true ((s.pair.committed).getD s.repl) s

/-- Whether the tag of a LINK_HELLO verifies: under the key of both nonces, or of the partner's alone where the partner does not know the
member's yet (R476; log entry 10). -/
def helloTagOk (m : LinkMsg) (s : State) : Bool :=
  let h := helloOf m.payload
  linkTagOk (linkKey s (noncePair s.vault.devId h.1.devId (s.pair.nonce.getD (zeros 16)) h.2)) m ||
    linkTagOk (linkKey s (zeros 16 ++ h.2)) m

/-- A LINK_HELLO whose tag verifies and whose major is the member's own: the exchange has passed, roles are decided, and a partner that lacks
a copy gets one (R480, R481, R487). -/
def helloPassed (m : LinkMsg) (s : State) : State :=
  let p := (helloOf m.payload).1
  let first := s.pair.helloed == false || s.pair.peerNonce != some (helloOf m.payload).2
  let s1 := modPair (fun x => { x with
    helloed := true
    partner := some p
    peerNonce := some (helloOf m.payload).2
    seqSeen := if first then [m.seq] else x.seqSeen
    lastEvidence := s.tb.gtc }) s
  let s2 := setLinkState (laneState s.pair.lanes) (if s.pair.link = 3 then 3 else 4) s1
  let s3 := decideRole p (if first then sendHello s2 else s2)
  let s4 := if s3.pair.role = 1 ∧ p.qualified = true then setAlone false s3 else s3
  if s4.pair.role = 1 ∧ p.role = 2 ∧ p.qualified = false then sendFull s4 else s4

/-- LINK_HELLO_RX (R476, R480, R483, R487). -/
def execLinkHelloRx (m : LinkMsg) (s : State) : Result :=
  let p := (helloOf m.payload).1
  done (if domOn s 12 = false ∨ s.pair.link = 0 ∨ linkFramed 1 m = false then s
    else if helloTagOk m s = false then authFailed (tagDrop s)
    else if p.major ≠ (ownProto s).1 then
      setLinkState 3 3 (modPair (fun x => { x with
        helloed := false
        partner := some p }) s)
    else helloPassed m (useKey (((pairNode s).map (fun n => n.handle)).getD 0) s))

/-- PAIR_JOIN_WAIT (R480). -/
def execPairJoinWait (s : State) : Result :=
  done (if s.pair.role = 2 ∧ s.pair.mode = 1 ∧ s.vault.life = 1 ∧ s.pair.joinWait * 100000000 ≤ sinceNs s s.pair.lastEvidence then
      activeByRole 4 s
    else s)

/-- PAIR_LEAVE_RX (R505). -/
def execPairLeaveRx (m : LinkMsg) (s : State) : Result :=
  done (onLink 11 m (fun s =>
    let s1 := modPair (fun p => { p with partner := p.partner.map (fun x => { x with
      role := 0
      qualified := false }) }) s
    pairLink s.pair.link s.pair.link 5 (if s.pair.role = 2 then setQualified false 5 s1 else s1)) s)

/-! ### The commit cycle (R484 to R487) -/

/-- The largest number of decisions, at most `n`, whose delta stays within 512 KiB (R486). -/
def fitBatch (n : Nat) (s : State) : Nat :=
  match n with
  | 0 => 0
  | k + 1 => if Config.deltaSize s.repl (commitBatch (k + 1) s).repl ≤ 524288 then k + 1 else fitBatch k s

/-- A cycle of an ACTIVE member commits (R485 step 3). -/
def commitCycle (cycle n : Nat) (content : Repl) (s : State) : State :=
  let s1 := commitBatch n s
  sendDigest cycle content (modPair (fun p => { p with
    cyclesOk := satAdd 32 p.cyclesOk 1
    lastCommitted := cycle
    committed := some content
    ackWait := none
    proposed := none }) s1)

/-- The awaited ACK has not come: the cycle stays uncommitted (R485 step 4). -/
def missCycle (s : State) : State :=
  if s.pair.ackWait.isSome then modPair (fun p => { p with
    cyclesMissed := satAdd 32 p.cyclesMissed 1
    ackWait := none
    proposed := none }) s
  else s

/-- The member has received no ACK for the lease time (R487). -/
def aloneStep (s : State) : State :=
  if s.pair.role = 1 ∧ s.pair.handing = false ∧ leaseNs s ≤ sinceNs s s.pair.lastAck then setAlone true s else s

/-- Whether a pulse output has a programmed instant in [`a`, `b`) of ST. -/
def instantIn (a b : Nat) (p : Pulse) : Bool :=
  let k := if a ≤ p.start then 0 else (a - p.start + p.period - 1) / max p.period 1
  p.enable && (p.count == 0 || decide (k < p.count)) && decide (p.start + k * p.period < b)

/-- Whether this cycle end passes service on (R504): at least two cycles after acceptance, no orbit boundary, no time-pulse instant
until the gap has passed. -/
def switchNow (n : Nat) (s : State) : Bool :=
  match s.pair.switchover with
  | none => false
  | some x => decide (x.1 ≤ n) && n % orbitL s != 0 &&
      !s.tb.pulses.any (instantIn s.tb.st (s.tb.st + s.repl.ackLimit * 100000 + 1250000))

/-- RENEW: the GTC of the cycle end, and the sender's air time and ST (Table 13-3). -/
def renewBytes (s : State) : List Byte := gtcBytes s ++ leBytes 8 (airTime s) ++ leBytes 8 s.tb.st

/-- The end of a cycle on an ACTIVE member (R485, R487, R504). -/
def activeEnd (n : Nat) (s : State) : State :=
  let s1 := sortDecisions (aloneStep (missCycle s))
  let c := s1.pair.cycle
  let k := if linkUp s1 then fitBatch (batchSize s1) s1 else batchSize s1
  let content := (commitBatch k s1).repl
  let s2 := leasePulse 2 (sendLink 2 false (renewBytes s) s1)
  let sent := linkUp s2 && s2.pair.helloed
  let size := Config.deltaSize (s.pair.committed.getD s.repl) content
  let s3 := sendContent c false content (modPair (fun p => { p with
    deltas := lastSecond s.tb.gtc (p.deltas ++ (if sent then [(s.tb.gtc, min size 524288)] else [])) }) s2)
  let s4 := if switchNow n s then modPair (fun p => { p with handing := true }) (sendLink 12 false [] s3) else s3
  let s5 := if s4.pair.alone = true ∧ s4.pair.handing = false then commitCycle c k content s4
    else modPair (fun p => { p with
      ackWait := some (c, s.tb.gtc, k)
      proposed := some content }) s4
  modPair (fun p => { p with cycle := (c + 1) % 2 ^ 32 }) s5

/-- The end of a cycle in SOLO: it commits without waiting (R13). -/
def soloEnd (s : State) : State :=
  let s1 := sortDecisions s
  modPair (fun p => { p with
    lastCommitted := p.cycle
    cycle := (p.cycle + 1) % 2 ^ 32 }) (commitBatch (batchSize s1) s1)

/-! ### Takeover (R496 to R498, R504) -/

/-- The renewal from which the detection time counts. -/
def lastRenewal (s : State) : Gtc :=
  match s.pair.lastPin with
  | none => s.pair.lastRenew
  | some t => if sinceNs s t < sinceNs s s.pair.lastRenew then t else s.pair.lastRenew

/-- Whether the air evidence holds (R496). -/
def airEvidenceHolds (s : State) : Bool := s.pair.airHead != 255 && decide (sinceNs s s.pair.airHeard < cycleNs s)

/-- A DOWN frame that awaits its acknowledgement is sent again (R497 step 5). -/
def resendAwaiting (x : Berth) : Berth :=
  { x with awaiting := x.awaiting.map (fun f => { f with
    due := true
    released := true }) }

/-- The counters of a berth at a takeover (R497 step 2). -/
def jumpBerth (heard : List (Nat × Nat)) (e : Nat × Berth) : Nat × Berth :=
  let x := { e.2 with down := e.2.down + 2 ^ 20 }
  match look heard e.1 with
  | none => (e.1, resendAwaiting x)
  | some c =>
    if x.up < c then
      let w := replayMark x.up x.window c
      (e.1, resendAwaiting { x with
        up := w.1
        window := w.2 })
    else (e.1, resendAwaiting x)

/-- The conformance states and their counts restart at a takeover; a watch goes on (R440). -/
def restartConform (e : Nat × Conform) : Nat × Conform :=
  (e.1, { Conform.zero with
    lastKnown := e.2.lastKnown
    watchSince := e.2.watchSince
    watching := e.2.watching
    lastEpoch := e.2.lastEpoch
    fix := e.2.fix })

/-- The committed state in force, with the counters of a takeover (R497 steps 1, 2 and 5). The spot stops stay as the ECLIPSE messages
left them (R495). -/
def committedInForce (s : State) : State :=
  let base := s.pair.committed.getD s.repl
  let repl := { base with
    ecl := { base.ecl with spots := s.repl.ecl.spots }
    mac := { base.mac with
      berths := base.mac.berths.map (jumpBerth s.mac.heardUp)
      bcounter := base.mac.bcounter + 2 ^ 20 } }
  { s with
    repl := repl
    pair := { s.pair with
      decisions := []
      cycle := (s.pair.lastCommitted + 1) % 2 ^ 32 }
    mac := { s.mac with heardUp := [] }
    trown := { s.trown with
      takeover := s.tb.gtc
      berths := s.trown.berths.map restartConform } }

/-- Microseconds to the first unit boundary. -/
def boundaryUs (s : State) : Nat := (250000 - airTime s % 250000 + 999) / 1000

/-- The committed station mode becomes the request of the member that goes on from it (R43, R46, R497; log entry 27). -/
def keepStation (s : State) : State := modCorr (fun c => { c with modeReq := s.repl.corr.mode }) s

/-- Takeover, or the part of a STANDBY in a switchover (R497, R504). -/
def takeover (switch : Bool) (s : State) : State :=
  let views := flag (s.pair.viewCommitted.state != 0) + 2 * flag (s.pair.viewPrio.state != 0) + 4 * flag s.pair.viewPin
  let silence := min (sinceNs s (lastRenewal s) / 1000) 0xFFFFFFFF
  let s1 := keepStation (adoptEclipse (committedInForce s))
  let s2 := radioStep false false (becomeActive (if switch then 6 else 5) s1)
  let s3 := modPair (fun p => { p with
    gap := true
    quietUntil := if switch then some (s.tb.gtc + 1000000) else none
    takeovers := if switch then p.takeovers else satAdd 32 p.takeovers 1 }) s2
  emit 0xCC05 4 (leBytes 4 s.pair.lastCommitted ++ leBytes 4 silence ++ leBytes 4 (boundaryUs s + (if switch then 1000 else 0))
    ++ leBytes 1 views ++ leBytes 1 s1.repl.ecl.state ++ zeros 2) s3

/-- The decision of R496. -/
def takeoverStep (s : State) : State :=
  if s.pair.role ≠ 2 ∨ domOn s 9 = false ∨ 3 ≤ s.pwr.state ∨ armed s 13 = false ∨ s.pair.qualified = false ∨
      sinceNs s (lastRenewal s) < detectNs s then s
  else if s.pair.airEvidence = true ∧ airEvidenceHolds s = true then pairSplit 1 s.pair.airHead s.pair.heardCounter s
  else takeover false s

/-- PAIR_TAKEOVER_DETECT (R496). -/
def execPairTakeoverDetect (s : State) : Result := done (takeoverStep s)

/-- No DELTA has arrived for the lease time while pulses have gone on arriving (R482). -/
def deltaTimeout (s : State) : State :=
  if s.pair.role = 2 ∧ leaseNs s ≤ sinceNs s s.pair.lastDelta ∧ lately s s.pair.lastPin (cycleNs s + 1) = true then
    sendHello (setQualified false 1 s)
  else s

/-- PAIR_DELTA_TIMEOUT (R482). -/
def execPairDeltaTimeout (s : State) : Result := done (if s.pair.qualified then deltaTimeout s else s)

/-- COMMIT_CYCLE_END (R484, R485, R487, R496, R504): once at unit 0 and every T units after it while the fleet block runs. -/
def execCommitCycleEnd (s : State) : Result :=
  let n := unitNow s
  done (if domOn s 9 = false ∨ 3 ≤ s.pwr.state ∨ n % orbitL s % max s.repl.cycleT 1 ≠ 0 ∨ s.pair.lastCycleEnd = some n ∨
      s.pair.handing = true then s
    else
      let s1 := modPair (fun p => { p with lastCycleEnd := some n }) s
      if s.pair.role = 0 then soloEnd s1
      else if s.pair.role = 1 then activeEnd n s1
      else takeoverStep s1)

/-- PAIR_ALONE_TIMEOUT (R487). -/
def execPairAloneTimeout (s : State) : Result := done (aloneStep s)

/-! ### The end of a switchover on the member that hands over (R504) -/

/-- The former ACTIVE member becomes STANDBY and its reply leaves: with the cycle and the gap after the ACK, with 0x8C02 without it. -/
def endSwitchover (cycle gap : Nat) (ok : Bool) (s : State) : State :=
  let r := s.pair.switchover
  let s1 := becomeStandby 6 (modPair (fun p => { p with
    handing := false
    switchover := none }) s)
  match r with
  | none => s1
  | some x => reply x.2 0x0C03 (if ok then 0 else 0x8C02) (if ok then leBytes 4 cycle ++ leBytes 4 gap else []) s1

/-- Microseconds from the end of the cycle to the first unit boundary that lies 1 ms after now. -/
def gapUs (s : State) (end_ : Gtc) : Nat :=
  (sinceNs s end_ + 1000000 + (250000 - (airTime s + 1000000) % 250000)) / 1000

/-- PAIR_ACK_RX (R485, R487). -/
def execPairAckRx (m : LinkMsg) (s : State) : Result :=
  done (onLink 4 m (fun s =>
    if s.pair.role ≠ 1 then s
    else
      let s1 := modPair (fun p => { p with lastAck := s.tb.gtc }) s
      match s.pair.ackWait with
      | none => s1
      | some (c, e, n) =>
        if u32 m.payload 0 ≠ c ∨ s.repl.ackLimit * 100000 < sinceNs s e then s1
        else
          let s2 := commitCycle c n (s.pair.proposed.getD s.repl) (modPair (fun p => { p with ackLatency := sinceNs s e / 1000 }) s1)
          if s.pair.handing then endSwitchover c (gapUs s e) true s2 else s2) s)

/-- PAIR_ACK_LIMIT (R485 step 4, R504). -/
def execPairAckLimit (s : State) : Result :=
  done (match s.pair.ackWait with
    | none => s
    | some (c, e, _) =>
      if s.repl.ackLimit * 100000 < sinceNs s e then
        let s1 := missCycle s
        if s.pair.handing then endSwitchover c 0 false s1 else s1
      else s)

/-! ### What a STANDBY receives (R481, R482, R485, R490 to R492, R495) -/

/-- Whether a stop sequence is newer than another, on the count that wraps. -/
def newerSeq (a b : Nat) : Bool := decide (0 < (a + 65536 - b) % 65536) && decide ((a + 65536 - b) % 65536 < 32768)

/-- Spot stops received, each kept where the member knows a newer one. -/
def mergeSpots (own got : List (Nat × Spot)) : List (Nat × Spot) :=
  own.foldl (fun l e => match look l e.1 with
    | none => upsert l e.1 e.2
    | some x => if newerSeq e.2.seq x.seq then upsert l e.1 e.2 else l) got

/-- Filters follow the berths that left or entered SERVED with the content (R280). -/
def followFilters (old : List (Nat × Berth)) (s : State) : State :=
  s.repl.mac.berths.foldl (fun t e =>
    let was := ((look old e.1).map (fun x => x.state)).getD 0
    if was = e.2.state then t else retainFilter e.1 was e.2.state t) s

/-- A STANDBY keeps its reserved epoch ahead of the committed count (R338). -/
def reserveAhead (s : State) : State :=
  let e := s.repl.mac.bepoch
  { s with mac := { s.mac with
    reservedEpoch := if e < s.mac.reservedEpoch then s.mac.reservedEpoch else max s.mac.reservedEpoch e + 64 } }

/-- A STANDBY runs the station mode and the reference position that the active member has committed (R216): a change of mode is reported with
the pair role as what forces it (R48), a change of position is noted for the epoch (R224). -/
def stationFollows (was : CorrSet6) (s : State) : State :=
  let s1 := if was.refPos = s.repl.corr.refPos then s else modCorr (fun c => { c with refWas := noteWas s c.refWas was.refPos }) s
  if was.mode = s.repl.corr.mode then s1 else modeChange 40 7 was.mode s.repl.corr.mode 2 s1

/-- A STANDBY puts the content of a committed cycle in force. -/
def adopt (content : Repl) (s : State) : State :=
  let old := eclShown s
  let armedOld := s.repl.armed
  let s1 := { s with
    repl := { content with ecl := { content.ecl with spots := mergeSpots s.repl.ecl.spots content.ecl.spots } }
    pair := { s.pair with
      committed := some content
      viewCommitted := content.ecl } }
  let s2 := stationFollows s.repl.corr (reserveAhead (epochNodes (deriveSessions (followFilters s.repl.mac.berths s1))))
  viewsChanged old (if armedOld = content.armed then s2 else evalSampled s2)

/-- ACK of a cycle with its pulse (R485 step 2). -/
def sendAck (cycle : Nat) (s : State) : State :=
  leasePulse 6 (sendLinkOf cycle 4 false (leBytes 4 cycle ++ gtcBytes s) (modPair (fun p => { p with ackAt := s.tb.gtc }) s))

/-- A STANDBY asks for a full copy (R481, R482). -/
def askFull (s : State) : State :=
  if s.pair.fullRunning then s else sendHello (modPair (fun p => { p with fullRunning := true }) s)

/-- After its ACK of the named cycle, the STANDBY takes over service (R504). -/
def handOn (s : State) : State :=
  if s.pair.handover = some s.pair.lastCommitted ∧ s.pair.qualified = true then takeover true s else s

/-- PAIR_DELTA_RX (R481, R482, R485). -/
def execPairDeltaRx (m : LinkMsg) (size : Nat) (content : Repl) (s : State) : Result :=
  done (onLink 3 m (fun s =>
    if s.pair.role ≠ 2 ∨ 524288 < size then s
    else if s.pair.fullDone = false then askFull s
    else
      let s1 := modPair (fun p => { p with lastDelta := s.tb.gtc }) s
      let next := s.pair.deltaNext.getD m.cycle
      if next < m.cycle then askFull (modPair (fun p => { p with fullDone := false }) (setQualified false 2 s1))
      else if m.cycle < next then sendAck m.cycle s1
      else
        let s2 := adopt content (modPair (fun p => { p with
          lastCommitted := m.cycle
          cycle := (m.cycle + 1) % 2 ^ 32
          deltaNext := some ((m.cycle + 1) % 2 ^ 32) }) s1)
        handOn (sendAck m.cycle s2)) s)

/-- PAIR_HANDOVER_RX (R504). -/
def execPairHandoverRx (m : LinkMsg) (s : State) : Result :=
  done (onLink 12 m (fun s =>
    if s.pair.role = 2 ∧ s.pair.qualified = true then handOn (modPair (fun p => { p with handover := some m.cycle }) s) else s) s)

/-- PAIR_FULL_RX (R481, R482): one fragment; the copy is whole with the one that no more follow. -/
def execPairFullRx (m : LinkMsg) (content : Repl) (s : State) : Result :=
  done (onLink 10 m (fun s =>
    if s.pair.role ≠ 2 then s
    else
      let s1 := modPair (fun p => { p with
        fullRunning := true
        fullDone := false }) (setQualified false 3 s)
      if bit m.flags 1 = false then
        sendAck m.cycle (adopt content (modPair (fun p => { p with
          fullRunning := false
          fullDone := true
          digestSeen := false
          deltaNext := none
          lastDelta := s.tb.gtc
          lastCommitted := m.cycle }) s1))
      else s1) s)

/-- A view of a disagreement of kind 3 (R490). -/
def digestView (cycle : Nat) (d : List Byte) : Nat := cycle % 2 ^ 32 + 2 ^ 32 * leNat (d.take 4)

/-- Half the round trip of the RENEW and the ACK of a cycle, from the stamps of its RENEW and its DIGEST, which leaves on the ACK's arrival
(R485, R492; log entry 27). -/
def tripOf (m : LinkMsg) (s : State) : Nat :=
  (elapsed m.gtc s.pair.renewSent - elapsed s.pair.ackAt s.pair.renewAt) / 2

/-- PAIR_DIGEST_RX (R481, R490, R492). -/
def execPairDigestRx (m : LinkMsg) (s : State) : Result :=
  done (onLink 5 m (fun s =>
    match s.pair.committed with
    | none => s
    | some c =>
      if s.pair.role ≠ 2 ∨ s.pair.fullDone = false ∨ s.pair.deltaNext.isNone ∨ m.cycle ≠ s.pair.lastCommitted then s
      else
        let first := !s.pair.digestSeen
        let s1 := modPair (fun p => { p with
          digestSeen := true
          halfTrip := tripOf m s }) s
        if stateDigest c = m.payload then
          if first = true ∧ s.pair.qualified = false then sendHello (setQualified true 0 s1) else s1
        else
          disagree 4 3 0 (digestView m.cycle (stateDigest c)) (digestView m.cycle m.payload)
            (modPair (fun p => { p with mismatches := satAdd 32 p.mismatches 1 }) s1)) s)

/-- PAIR_FIXSUM_RX (R290, R491). -/
def execPairFixsumRx (m : LinkMsg) (s : State) : Result :=
  done (onLink 6 m (fun s =>
    if s.pair.role = 2 ∧ s.bl.shadowOn = true then (fixSumsOf m.payload).foldl (fun t x => shadowCompare x t) s else s) s)

/-- PAIR_TIME (R492): at most once per minute. -/
def pairTime (d : Int) (s : State) : State :=
  if d.natAbs ≤ s.pair.timeTh then s
  else limited 0xCC06 0 (60 * sec) (fun _ t => emit 0xCC06 4 (leInt 8 d ++ leBytes 4 s.pair.timeTh ++ zeros 4) t) s

/-- The air offset follows the ACTIVE member's air time to within 100 ns (R492). -/
def alignAir (air : Int) (s : State) : State :=
  let d := ((airTime s : Nat) : Int) - air
  if d.natAbs ≤ 100 then s
  else jumpMeters (airTime s) air.toNat { s with mac := { s.mac with airOffset := s.mac.airOffset + d } }

/-- PAIR_RENEW_RX (R492): air time and ST of the ACTIVE member, corrected for half the round trip. -/
def execPairRenewRx (m : LinkMsg) (s : State) : Result :=
  done (onLink 2 m (fun s =>
    if s.pair.role ≠ 2 then s
    else
      let d := ((u64 m.payload 16 + s.pair.halfTrip : Nat) : Int) - (s.tb.st : Int)
      pairTime d (alignAir ((u64 m.payload 8 + s.pair.halfTrip : Nat) : Int) (modPair (fun p => { p with
        lastRenew := s.tb.gtc
        renewSent := m.gtc
        renewAt := s.tb.gtc
        stDiff := d }) s))) s)

/-- PAIR_LEASE_PULSE_RX (R475, R501, R621): 1.0 to 3.5 us is a renewal, 4.5 to 8.0 us an acknowledgement, anything else is
ignored. -/
def execPairLeasePulseRx (us : Nat) (s : State) : Result :=
  let renewal := within us 1 3
  done (if s.pwr.state = 4 ∨ (renewal = false ∧ within us 5 8 = false) then s
    else
      let s1 := modPair (fun p => { p with
        lastEvidence := s.tb.gtc
        lastPin := if s.pair.role = 1 ∨ renewal = true then some s.tb.gtc else p.lastPin }) s
      if s.pair.role = 1 ∧ renewal = true then pairSplit 3 0xFF 0 s1 else s1)

/-! ### Eclipse across the pair (R478, R493 to R495) -/

/-- A STANDBY drops the stop level it holds for a momentary trigger (R493): an ECLIPSE message has shown a sequence entered after the
latch, and 1 s has passed. -/
def holdStep (s : State) : State :=
  match s.pair.hold with
  | none => s
  | some (t, q) => if s.pair.viewPrio.seq ≠ q ∧ sec ≤ sinceNs s t then modPair (fun p => { p with hold := none }) s else s

/-- STANDBY_STOP_LEVEL_HOLD_END (R493). -/
def execStandbyStopLevelHoldEnd (s : State) : Result := done (holdStep s)

/-- The Eclipse state that an ECLIPSE message shows (Table 13-3; layout: log entry 10). -/
def eclipseOf (p : List Byte) : EclCore :=
  { EclCore.clear with
    state := u8 p 0
    seq := u16 p 1
    cause := u8 p 3 }

/-- The spot stops that an ECLIPSE message shows: the bitmap of those in force, and a stop sequence for each berth that had one. -/
def spotsOf (old : List (Nat × Spot)) (p : List Byte) : List (Nat × Spot) :=
  (List.range ((p.length - 36) / 3)).map (fun i =>
    let b := u8 p (36 + 3 * i)
    let was := (look old b).getD ⟨false, 0, 0, 0, false⟩
    (b, { was with
      inForce := bit (leNat (sub p 4 32)) b
      seq := u16 p (37 + 3 * i) }))

/-- PAIR_ECLIPSE_MSG_RX (R478, R495): a message whose tag fails counts as a view of stop alone. One that shows CLEAR ends the pin's view where
it was sent after the level began. -/
def execPairEclipseMsgRx (m : LinkMsg) (s : State) : Result :=
  let old := eclShown s
  let e := eclipseOf m.payload
  let view (s : State) : State := modPair (fun p => { p with viewPrio := e }) s
  done (match linkVerdict 7 m s with
    | 0 => s
    | 1 => let s1 := tagDrop s
           if s.pair.role = 2 ∧ e.state = 1 then viewsChanged old (view s1) else s1
    | _ =>
      let s1 := linkSeen m s
      if s.pair.role ≠ 2 then s1
      else
        let s2 := modEcl (fun x => { x with spots := mergeSpots x.spots (spotsOf x.spots m.payload) }) (view s1)
        let s3 := if e.state = 0 ∧ s.pair.halfTrip ≤ sinceNs s s.pair.pinSince then modPair (fun p => { p with viewPin := false }) s2 else s2
        holdStep (viewsChanged old s3))

/-- A trigger of the partner acts on an ACTIVE member (R494): 5 and 6 need no arming, every other one is trigger 7. -/
def partnerTriggerActs (code : Nat) (active : Bool) (s : State) : State :=
  if s.pair.role ≠ 1 then s
  else if code = 5 ∨ code = 6 then (if active then latchTrigger code 4 4 0 s else s)
  else evalPartner (modPair (fun p => { p with partnerTrigger := active }) s)

/-- PAIR_TRIGGER_MSG_RX (R478, R494). -/
def execPairTriggerMsgRx (m : LinkMsg) (s : State) : Result :=
  let code := u8 m.payload 0
  let active := u8 m.payload 1 == 1
  done (match linkVerdict 8 m s with
    | 0 => s
    | 1 => if active then partnerTriggerActs code true (tagDrop s) else tagDrop s
    | _ => partnerTriggerActs code active (linkSeen m s))

/-- PAIR_ECL_IN_CHANGE (R494, R495): the level of PAIR_ECL_IN, held for t_FILT. -/
def execPairEclInChange (high : Bool) (s : State) : Result :=
  let old := eclShown s
  let s1 := modPair (fun p => { p with
    pinIn := high
    pinSince := if high then s.tb.gtc else p.pinSince
    viewPin := p.viewPin || (high && p.role == 2) }) s
  done (if s.pwr.state = 4 then s else viewsChanged old (evalPartner s1))

/-! ### What the heads hear of the partner (R496, R501) -/

/-- The broadcast epoch that a frame's four bits stand for: the one nearest to the member's own count (log entry 34). -/
def rxEpoch (f : AirFrame) (s : State) : Nat :=
  let d := (u8 (rxHeader f) 1 / 16 + 16 - s.repl.mac.bepoch % 16) % 16
  if d < 8 then (s.repl.mac.bepoch + d) % 2 ^ 32 else (s.repl.mac.bepoch + 2 ^ 32 + d - 16) % 2 ^ 32

/-- The broadcast key of any epoch: of its node where the vault holds one, else derived below the broadcast-key node (R337). -/
def anyEpochKey (s : State) (e : Nat) : List Byte :=
  if (epochNode s e).isSome then epochKey s e
  else match bcastNode s with
    | none => zeros 16
    | some n => kdf (material s n.handle) (leBytes 4 e) [1, 3, 0] 16

/-- Whether a frame is a station frame under the broadcast key with this COLOUR (R496). -/
def stationFrame (f : AirFrame) (s : State) : Bool :=
  acquired f s && headerIntact f.header && rxFcsOk f && rxDir f == 0 && rxColour f == s.repl.mac.cfg.colour &&
    decide (16 ≤ (rxPsdu f).length) && decide (rxType f ≤ 2) && rxProt f == 1 && broadcastKeyOk s &&
    (openBody 1 (rxEpoch f s) (anyEpochKey s (rxEpoch f s)) (rxHeader f) (rxContent f)).isSome

/-- A station frame of another member is heard: air evidence on a STANDBY, deposition of an ACTIVE member (R496, R501). -/
def hearStation (f : AirFrame) (s : State) : State :=
  if stationFrame f s = false then s
  else
    let s1 := modPair (fun p => { p with
      lastEvidence := s.tb.gtc
      airHeard := s.tb.gtc
      airHead := f.head
      heardCounter := rxCounter f }) (useNode (epochNode s (rxEpoch f s)) s)
    let later := decide (s.repl.mac.bepoch < rxEpoch f s) || (rxEpoch f s == s.repl.mac.bepoch && decide (s.repl.mac.bcounter < rxCounter f))
    if s.pair.role = 1 ∧ later = true then pairSplit 2 f.head (rxCounter f) (becomeStandby 7 s1) else s1

/-- RH_FRAME_RX (R320): the head's counters and gain steps, and what it hears of the partner (R496, R501). -/
def execRhFrameRx (f : AirFrame) (s : State) : Result := done (hearStation f (phyReceive f s))

/-! ### Commands of group 0x0C (R505) -/

/-- The arming of 0x0D follows the configuration (R27). -/
def armTakeover (r : Req) (on : Bool) (s : State) : State :=
  if armed s 13 = on then s
  else armReport 2 r.master { s with repl := { s.repl with armed := putBit s.repl.armed 13 on } }

/-- The role no longer forces the station mode: the member's own request is restored (R46, R48). -/
def restoreStation (s : State) : State :=
  if s.corr.modeReq = s.repl.corr.mode then s
  else
    let s1 := modStation (fun c => { c with mode := s.corr.modeReq }) s
    modeChange 40 7 s.repl.corr.mode s.corr.modeReq 2
      (modCorr (fun c => { c with survey := if s.corr.modeReq = 0 then newSurvey s1 else { c.survey with running := false } }) s1)

/-- The pair mode changes (R479, R480, R505, R627). -/
def applyPairMode (r : Req) (mode : Nat) (s : State) : State :=
  if s.pair.mode = mode then s
  else if mode = 1 then
    let s1 := modPair (fun p => { p with
      mode := 1
      lastEvidence := s.tb.gtc }) s
    sleepStep (armTakeover r true (if s.modes.radio = 2 ∧ partnerActive s = false then becomeActive 0 s1 else becomeStandby 0 s1))
  else
    let s1 := sendLink 11 false [] s
    let s2 := setAlone false (setQualified false 4 (if s.pair.role = 2 then adoptEclipse s1 else evalLasting 7 4 false s1))
    let s3 := refuseForwards (modPair (fun p => { p with
      mode := 0
      role := 0
      hold := none
      ackWait := none
      proposed := none
      partnerTrigger := false
      fullDone := false }) s2)
    sendHello (armTakeover r false (pairRole s.pair.role 0 0 (if s.pair.role = 2 then restoreStation s3 else s3)))

/-- The settings of PAIR_CONFIG_SET that are a member's own. -/
def applyPairOwn (p : List Byte) (s : State) : State :=
  modPair (fun x => { x with
    airEvidence := bit (u8 p 1) 0
    joinWait := u16 p 6
    timeTh := u32 p 8 }) s

/-- What refuses a PAIR_CONFIG_SET for the state of the device (R480, R499, R505). -/
def pairConfigStates (p : List Byte) (s : State) : List Nat :=
  let other := (pairConfigBytes s).take 12 != leBytes 1 s.pair.mode ++ (p.drop 1)
  failIf (u8 p 0 == 1 && s.vault.life != 1) 0x2001 ++ failIf (s.pair.role == 2 && other) 0x2004
    ++ failIf (u8 p 0 == 1 && leaseShort s.repl.mac.cfg.lease (orbitL s) (u16 p 2)) 0x8C03
    ++ failIf (partnerActive s && ((u8 p 0 == 1 && s.pair.role == 0 && s.modes.radio == 2) || (u8 p 0 == 0 && s.pair.role == 2))) 0x8C04

/-- PAIR_CONFIG_SET (R479, R505). -/
def execPairConfigSet (r : Req) (s : State) : Result :=
  let p := r.payload
  done (runCommand 0x0C01 true r (fun s =>
    checked (p.length == 12) (bitsBelow (u8 p 1) 1)
      (u8 p 0 ≤ 1 && within (u16 p 2) 20 200 && 10 ≤ u16 p 4 && 4 * u16 p 4 ≤ 5 * u16 p 2 && within (u16 p 6) 10 600
        && within (u32 p 8) 100 1000000) true (pairConfigStates p s) s (fun s =>
      let same := (pairConfigBytes s).take 12 == p
      if s.pair.role = 1 ∧ (u16 p 2 ≠ s.repl.cycleT ∨ u16 p 4 ≠ s.repl.ackLimit) then
        .later (hold r.master (.command 0x0C01 r) (applyPairMode r (u8 p 0) (applyPairOwn p s)))
      else
        let s1 := applyPairMode r (u8 p 0) (applyPairOwn p (commitCycleSettings p s))
        .reply (changed same) (pairConfigBytes s1) s1)) s)

/-- The pair protocol in use: the major, and the lower of the two minors (R483). -/
def protoInUse (s : State) : Nat :=
  let m := match s.pair.partner with
    | none => (ownProto s).2
    | some p => min (ownProto s).2 p.minor
  (ownProto s).1 * 256 + m

/-- The reply payload of PAIR_GET (Table 13-9). -/
def pairGetBytes (s : State) : List Byte :=
  let flags := bitsOf [s.pair.qualified, s.pair.alone, lately s s.pair.lastPin (leaseNs s), airEvidenceHolds s, s.pair.strapHigh,
    armed s 13]
  let partner := match s.pair.partner with
    | none => 0
    | some p => p.major * 256 + p.minor
  let largest := (lastSecond s.tb.gtc s.pair.deltas).foldl (fun v d => max v d.2) 0
  leBytes 1 s.pair.role ++ leBytes 1 s.pair.link ++ leBytes 1 (laneBits s) ++ leBytes 1 flags ++ leBytes 4 s.pair.lastCommitted
    ++ leBytes 2 (protoInUse s) ++ leBytes 2 partner ++ leBytes 8 (partnerId s) ++ leBytes 4 s.pair.cyclesOk
    ++ leBytes 4 s.pair.cyclesMissed ++ leBytes 4 s.pair.mismatches ++ leBytes 4 s.pair.tagDrops ++ leBytes 4 s.pair.ackLatency
    ++ leBytes 4 largest ++ leInt 4 (clampInt (-2147483648) 2147483647 s.pair.stDiff) ++ leBytes 4 s.pair.takeovers

/-- PAIR_GET (R505). -/
def execPairGet (r : Req) (s : State) : Result :=
  done (runCommand 0x0C02 false r (fun s =>
    checked (r.payload.length == 0) true true true [] s (fun s => .reply 0 (pairGetBytes s) s)) s)

/-- PAIR_SWITCHOVER (R504): the earliest unit whose cycle end may pass service on is kept with the request. -/
def execPairSwitchover (r : Req) (s : State) : Result :=
  done (runCommand 0x0C03 true r (fun s =>
    checked (r.payload.length == 0) true true true
      (failIf (s.pair.role != 1) 0x2004 ++ failIf (s.pair.role == 1 && s.pair.switchover.isSome) 0x2003
        ++ failIf (s.pair.role == 1 && !linkUp s) 0x8C01
        ++ failIf (s.pair.role == 1 && linkUp s && !s.pair.partner.any (fun p => p.qualified)) 0x8C02) s (fun s =>
      .later (modPair (fun p => { p with
        switchover := some ((airTime s + 2 * cycleNs s + 249999) / 250000, r) }) s))) s)

/-- PAIR_RESYNC (R482). -/
def execPairResync (r : Req) (s : State) : Result :=
  done (runCommand 0x0C04 true r (fun s =>
    checked (r.payload.length == 0) true true true
      (failIf (s.pair.role == 0) 0x2004 ++ failIf (s.pair.role != 0 && !linkUp s) 0x8C01) s (fun s =>
      let s1 := if s.pair.role = 1 then sendFull s
        else askFull (modPair (fun p => { p with fullDone := false }) (setQualified false 3 s))
      .reply 0 (leBytes 4 s.pair.cycle) s1)) s)

end Sys2Proof.Machine
end

