-- ==== Sys2Proof/Machine/Ptp.lean ====
section
/-!
DEFINITION. Sys2Proof/Machine/Ptp.lean: the PTP ports of chapter 4 (R158 to R161): the messages of IEEE 1588-2019 that Table 4-5 supports, their
time stamps, the delay mechanisms, the best master clock algorithm, and the commands TB_SOURCE_SET and PTP_SET. The message
layouts and the algorithm are PRESUMED from IEEE 1588-2019 and IEEE 802.1AS-2020, which R158 names (log entry 15). Times on the
wire and between the exchanges are held in 2^-16 ns, the unit of a correction field.
-/
namespace Sys2Proof.Machine
open Sys2Proof

/-- A PTP port. -/
def ptpOf (s : State) (p : Nat) : PtpPort := nth s.tb.ptp p PtpPort.zero

/-- Changes a PTP port. -/
def modPtp (p : Nat) (f : PtpPort → PtpPort) (s : State) : State := modTb (fun b => { b with ptp := modNth b.ptp p f }) s

/-- The port identity of the device's own port. -/
def ownPort (p : Nat) : PortId := ⟨Config.ptpIdentity % 2 ^ 64, p + 1⟩

/-! ### Messages -/

/-- A received message as its bytes spell it. -/
structure PtpMsg where
  kind : Nat
  sdo : Nat
  version : Nat
  domain : Nat
  /-- flagField as a 16-bit number, the first octet the more significant -/
  flags : Nat
  /-- correctionField, 2^-16 ns -/
  corr : Int
  src : PortId
  seq : Nat
  body : List Byte
  /-- the types of its TLVs -/
  tlvs : List Nat
deriving DecidableEq, Repr

/-- The big-endian field of `n` bytes at offset `o`. -/
def beField (n : Nat) (p : List Byte) (o : Nat) : Nat := beNat (sub p o n)

/-- A port identity of ten bytes. -/
def portIdAt (p : List Byte) (o : Nat) : PortId := ⟨beField 8 p o, beField 2 p (o + 8)⟩

/-- A timestamp of ten bytes, seconds and nanoseconds, in 2^-16 ns. -/
def stampAt (p : List Byte) (o : Nat) : Int := (((beField 6 p o * sec + beField 4 p (o + 6)) * 65536 : Nat) : Int)

/-- The length of a message's body behind the header of 34 bytes. -/
def ptpBodyLength (kind : Nat) : Nat :=
  if kind = 2 ∨ kind = 3 ∨ kind = 9 ∨ kind = 10 then 20 else if kind = 11 then 30 else 10

/-- The types of the TLVs that bytes spell. -/
def tlvTypes (fuel : Nat) (bs : List Byte) : List Nat :=
  match fuel with
  | 0 => []
  | k + 1 => if bs.length < 4 then [] else beField 2 bs 0 :: tlvTypes k (bs.drop (4 + beField 2 bs 2))

/-- A message read from its bytes; none where they are too short for their message type. -/
def ptpParse (bs : List Byte) : Option PtpMsg :=
  let kind := beField 1 bs 0 % 16
  let n := ptpBodyLength kind
  if bs.length < 34 + n ∨ beField 2 bs 2 < 34 + n ∨ bs.length < beField 2 bs 2 then none
  else some
    { kind := kind
      sdo := beField 1 bs 0 / 16
      version := beField 1 bs 1 % 16
      domain := beField 1 bs 4
      flags := beField 2 bs 6
      corr := toSigned 8 (beField 8 bs 8)
      src := portIdAt bs 20
      seq := beField 2 bs 30
      body := sub bs 34 n
      tlvs := tlvTypes 64 (sub bs (34 + n) (beField 2 bs 2 - 34 - n)) }

/-- Whether a message keeps to Table 4-5 (R158). Unsupported: another version, management, signaling and reserved types, alternate-master,
unicast and security flags, domains above 127, gPTP over UDP, and every TLV but gPTP's path trace and Follow_Up information. -/
def ptpSupported (l2 : Bool) (m : PtpMsg) : Bool :=
  m.version == 2 && [0, 1, 2, 3, 8, 9, 10, 11].contains m.kind && decide (m.sdo ≤ 1) && (m.sdo == 0 || l2)
    && !bit m.flags 8 && !bit m.flags 10 && !bit m.flags 15 && decide (m.domain ≤ 127)
    && m.tlvs.all (fun t => m.sdo == 1 && (t == 3 || (t == 8 && m.kind == 11)))

/-- Whether a message is for this port: its profile's sdoId, its transport, its domain, and not the device's own (R158). -/
def ptpForPort (q : PtpPort) (l2 : Bool) (m : PtpMsg) : Bool :=
  (m.sdo == 1) == (q.profile == 3) && l2 == bit q.flags 0 && m.domain == q.domain && m.src.clock != (ownPort 0).clock

/-! ### Time stamps (R159) -/

/-- The latency of calibration section 8 for a port and rate (0 10G, 1 5G, 2 2.5G, 3 1G), ingress or egress, in ps. -/
def ptpLatency (port rate : Nat) (egress : Bool) (s : State) : Int :=
  iN 4 (nth s.pwr.calib 7 []) (32 * port + 8 * rate + (if egress then 4 else 0))

/-- The stamp of a message at the PCS: ST less the latency of the active rate, in 2^-16 ns. DEDUCED (log entry 15): R159 says "subtract" of both
directions, so an egress latency that delays the message is recorded as negative. -/
def ptpStamp (port rate : Nat) (egress : Bool) (s : State) : Int :=
  (s.tb.st : Int) * 65536 - roundDiv (ptpLatency port rate egress s * 65536) 1000

/-- Ten bytes of a stamp's whole nanoseconds. -/
def stampBytes (t : Int) : List Byte :=
  let n := (t / 65536).toNat
  beBytes 6 (n / sec) ++ beBytes 4 (n % sec)

/-- The part of a stamp below one nanosecond, which the correction field carries. -/
def stampFraction (t : Int) : Int := t % 65536

/-! ### Sending -/

/-- The bytes of a message that a port sends: the common header, the body and its TLVs. -/
def ptpBytes (port kind flags : Nat) (corr : Int) (seq : Nat) (interval : Int) (body : List Byte) (q : PtpPort) : List Byte :=
  let control := if kind = 0 then 0 else if kind = 1 then 1 else if kind = 8 then 2 else if kind = 9 then 3 else 5
  beBytes 1 ((if q.profile = 3 then 16 else 0) + kind) ++ beBytes 1 0x12 ++ beBytes 2 (34 + body.length) ++ beBytes 1 q.domain ++ zeros 1
    ++ beBytes 2 flags ++ (leInt 8 corr).reverse ++ zeros 4 ++ beBytes 8 (ownPort port).clock ++ beBytes 2 (ownPort port).port
    ++ beBytes 2 seq ++ beBytes 1 control ++ (leInt 1 interval).reverse ++ body

/-- A port sends a message over its transport. -/
def ptpSend (port kind flags : Nat) (corr : Int) (seq : Nat) (interval : Int) (body : List Byte) (s : State) : State :=
  put (.ptp (port + 1) (bit (ptpOf s port).flags 0) (ptpBytes port kind flags corr seq interval body (ptpOf s port))) s

/-- The next sequence number of a kind of message: 0 Sync, 1 Announce, 2 Delay_Req, 3 Pdelay_Req. -/
def ptpSeq (port i : Nat) (s : State) : Nat := nth (ptpOf s port).txSeq i 0

/-- The sequence number of a kind of message rises. -/
def ptpNextSeq (port i : Nat) (s : State) : State :=
  modPtp port (fun q => { q with txSeq := modNth q.txSeq i (fun n => (n + 1) % 65536) }) s

/-! ### Best master clock algorithm -/

/-- Clock class, accuracy and time source advertised (R160, Table 4-6). -/
def advertised (tb : Timebase) : Nat × Nat × Nat :=
  match tb.state with
  | 1 => if tb.source = 1 then (6, 0x21, 0x20) else (248, 0xFE, 0x40)
  | 2 => if tb.source = 1 then (6, 0xFE, 0x20) else (248, 0xFE, 0x40)
  | 3 => (7, 0xFE, 0xA0)
  | 4 => (187, 0xFE, 0xA0)
  | _ => (248, 0xFE, 0xA0)

/-- The device's own clock as an Announce of a port describes it (R160). -/
def ownData (s : State) (p : Nat) : AnnounceData :=
  let a := advertised s.tb
  ⟨(ptpOf s p).priority1, a.1, a.2.1, Config.ptpVariance % 65536, (ptpOf s p).priority2, (ownPort p).clock, 0, a.2.2⟩

/-- A data set with the identities it passed through. -/
structure DataSet where
  data : AnnounceData
  sender : PortId
  receiver : PortId
deriving DecidableEq, Repr

/-- How one data set compares with another. -/
inductive Verdict where
  | better
  | betterTopology
  | same
  | worseTopology
  | worse
deriving DecidableEq, Repr

/-- Lexicographic comparison: the smaller is the better. -/
def keyLt (a b : List Nat) : Bool :=
  match a, b with
  | [], [] => false
  | [], _ => true
  | _, [] => false
  | x :: r, y :: t => if x < y then true else if y < x then false else keyLt r t

/-- A port identity in comparison order. -/
def identKey (i : PortId) : List Nat := [i.clock, i.port]

/-- What an Announce says in comparison order. -/
def announceKey (d : AnnounceData) : List Nat := [d.priority1, d.cls, d.accuracy, d.variance, d.priority2, d.gm]

/-- Comparison of two data sets of one grandmaster: by steps, then by the identities passed through. -/
def compareTopology (a b : DataSet) : Verdict :=
  if a.data.steps + 1 < b.data.steps then .better
  else if b.data.steps + 1 < a.data.steps then .worse
  else if a.data.steps < b.data.steps then
    if keyLt (identKey b.receiver) (identKey b.sender) then .better else if keyLt (identKey b.sender) (identKey b.receiver) then .betterTopology else .same
  else if b.data.steps < a.data.steps then
    if keyLt (identKey a.receiver) (identKey a.sender) then .worse else if keyLt (identKey a.sender) (identKey a.receiver) then .worseTopology else .same
  else if keyLt (identKey a.sender) (identKey b.sender) then .betterTopology
  else if keyLt (identKey b.sender) (identKey a.sender) then .worseTopology
  else if a.receiver.port < b.receiver.port then .betterTopology
  else if b.receiver.port < a.receiver.port then .worseTopology
  else .same

/-- The data set comparison algorithm. -/
def compareSets (a b : DataSet) : Verdict :=
  if a.data.gm = b.data.gm then compareTopology a b
  else if keyLt (announceKey a.data) (announceKey b.data) then .better else .worse

/-- Whether the first is better than the second, by its values or by topology. -/
def isBetter (v : Verdict) : Bool := v == .better || v == .betterTopology

/-- The better of two data sets of which either may be missing. -/
def betterOf (a b : Option DataSet) : Option DataSet :=
  match a, b with
  | none, y => y
  | x, none => x
  | some x, some y => if isBetter (compareSets y x) then some y else some x

/-- The best qualified foreign master that a port hears. -/
def bestAt (s : State) (p : Nat) : Option DataSet :=
  ((ptpOf s p).foreign.filter (fun f => f.qualified && decide (f.data.steps < 255))).foldl
    (fun a f => betterOf a (some ⟨f.data, f.sender, ownPort p⟩)) none

/-- The best foreign master over both ports of the boundary clock. -/
def bestForeign (s : State) : Option DataSet := betterOf (bestAt s 0) (bestAt s 1)

/-- Whether a port may enter SLAVE: its source is not ranked below the source in use (R161). -/
def maySlave (s : State) (p : Nat) : Bool :=
  s.tb.ranking.contains (p + 2) && (s.tb.source == 0 || rankOf s.tb (p + 2) ≤ rankOf s.tb s.tb.source)

/-- What the algorithm gives a port that hears a qualified master `f`: 6 MASTER, 7 PASSIVE, 9 SLAVE. A slave-only port compares as no
grandmaster. -/
def ptpJudge (s : State) (p : Nat) (f : DataSet) : Nat :=
  let slaveOnly := bit (ptpOf s p).flags 2
  let own : DataSet := ⟨ownData s p, ownPort p, ownPort p⟩
  if own.data.cls ≤ 127 ∧ slaveOnly = false then if isBetter (compareSets own f) then 6 else 7
  else match bestForeign s with
    | none => 6
    | some e =>
      if slaveOnly = false ∧ isBetter (compareSets own e) = true then 6
      else if e = f then 9
      else if compareSets e f = .betterTopology then 7 else 6

/-- The portState that a port takes (R161): 3 DISABLED, 4 LISTENING, 6 MASTER, 7 PASSIVE, 9 SLAVE. A slave-only port listens where it would
be MASTER; a port that may not enter SLAVE stays PASSIVE; PRE_MASTER and UNCALIBRATED last no time (log entry 15). `expired`: the announce
receipt timeout has run out. -/
def ptpDecide (expired : Bool) (s : State) (p : Nat) : Nat :=
  let q := ptpOf s p
  let slaveOnly := bit q.flags 2
  if q.profile = 0 then 3
  else match bestAt s p with
    | none => if slaveOnly ∨ ((q.state = 3 ∨ q.state = 4) ∧ expired = false) then 4 else 6
    | some f =>
      let n := ptpJudge s p f
      if n = 6 ∧ slaveOnly = true then 4 else if n = 9 ∧ maySlave s p = false then 7 else n

/-- The parent's clock identity: that of the master a port in SLAVE follows, else the device's own. -/
def ptpParent (s : State) : Nat :=
  match s.tb.ptp.find? (fun q => q.state == 9) with
  | none => (ownPort 0).clock
  | some q => q.parent.clock

/-- A port takes the state that the algorithm gives it, and reports a change (PTP_PORT_STATE). A port in SLAVE follows the best master
it hears; a new master begins a new run of Sync. -/
def ptpUpdate (expired : Bool) (p : Nat) (s : State) : State :=
  let q := ptpOf s p
  let n := ptpDecide expired s p
  let par := if n = 9 then ((bestAt s p).map (fun f => f.sender)).getD q.parent else ⟨0, 0⟩
  let fresh_ := n = 9 ∧ par ≠ q.parent
  let s1 := modPtp p (fun q => { q with
    state := n
    parent := par
    listenSince := if n = 4 ∧ q.state ≠ 4 then s.tb.gtc else q.listenSince
    rxSeq := if n ≠ 9 ∨ fresh_ then none else q.rxSeq
    sync := if n ≠ 9 ∨ fresh_ then none else q.sync
    lastSync := if n ≠ 9 ∨ fresh_ then none else q.lastSync
    delayReq := if n ≠ 9 ∨ fresh_ then none else q.delayReq }) s
  if q.state = n then s1
  else emit 0xC306 31 (leBytes 1 (p + 1) ++ leBytes 1 n ++ zeros 2 ++ beBytes 8 (ptpParent s1)) s1

/-- Both ports take the states that the algorithm gives them. -/
def ptpUpdateBoth (s : State) : State := ptpUpdate false 1 (ptpUpdate false 0 s)

/-- Nanoseconds of the interval 2^l seconds. -/
def logNs (l : Int) : Nat := if 0 ≤ l then sec * 2 ^ l.toNat else sec / 2 ^ (-l).toNat

/-- What an Announce's body says. -/
def announceOf (b : List Byte) : AnnounceData :=
  ⟨beField 1 b 13, beField 1 b 14, beField 1 b 15, beField 2 b 16, beField 1 b 18, beField 8 b 19, beField 2 b 27, beField 1 b 29⟩

/-- An Announce joins the foreign masters of its port: qualified by a second one within four announce intervals, in gPTP at once. -/
def hearAnnounce (now : Gtc) (q : PtpPort) (m : PtpMsg) : PtpPort :=
  let f : Foreign := ⟨m.src, announceOf m.body, now, q.profile == 3⟩
  match q.foreign.find? (fun x => x.sender == m.src) with
  | none => { q with foreign := q.foreign ++ [f] }
  | some x =>
    let ok := x.qualified || f.qualified || decide (elapsed now x.last ≤ 4 * logNs q.logAnnounce)
    { q with foreign := q.foreign.map (fun y => if y.sender = m.src then { f with qualified := ok } else y) }

/-! ### Sync and delay -/

/-- The offset sample of a Sync: ST less the master's time and the path's delay, to the nearest nanosecond (Table 4-2). -/
def ptpSample (port : Nat) (gap : Bool) (t1 t2 : Int) (s : State) : State :=
  awaitSample (port + 2) ⟨true, 0, roundDiv (t2 - t1 - (ptpOf s port).pathDelay) 65536, gap⟩
    (modPtp port (fun q => { q with lastSync := some (t1, t2) }) s)

/-- A Sync at a port in SLAVE from its master: of one step, a sample; of two steps, it waits for its Follow_Up. -/
def ptpSync (port : Nat) (t2 : Int) (m : PtpMsg) (s : State) : State :=
  let q := ptpOf s port
  let gap := q.rxSeq.any (fun x => (x + 1) % 65536 != m.seq)
  let s1 := modPtp port (fun q => { q with rxSeq := some m.seq }) s
  if bit m.flags 9 then modPtp port (fun q => { q with sync := some ⟨m.seq, t2, m.corr, gap⟩ }) s1
  else ptpSample port gap (stampAt m.body 0 + m.corr) t2 s1

/-- A Follow_Up completes the Sync of its sequence. -/
def ptpFollowUp (port : Nat) (m : PtpMsg) (s : State) : State :=
  match (ptpOf s port).sync with
  | none => s
  | some w =>
    if w.seq = m.seq then
      ptpSample port w.gap (stampAt m.body 0 + w.corr + m.corr) w.t2 (modPtp port (fun q => { q with sync := none }) s)
    else s

/-- A Delay_Resp to the port's own Delay_Req gives the mean delay of the path (E2E): ((t2 - t1) + (t4 - t3)) / 2. -/
def ptpDelayResp (port : Nat) (m : PtpMsg) (s : State) : State :=
  let q := ptpOf s port
  match q.delayReq, q.lastSync with
  | some (n, t3), some (t1, t2) =>
    if n = m.seq ∧ portIdAt m.body 10 = ownPort port then
      modPtp port (fun q => { q with
        delayReq := none
        pathDelay := ((t2 - t1) + (stampAt m.body 0 - m.corr - t3)) / 2 }) s
    else s
  | _, _ => s

/-- A Delay_Req at a MASTER with E2E is answered with the time of its receipt. -/
def ptpDelayReq (port : Nat) (t4 : Int) (m : PtpMsg) (s : State) : State :=
  ptpSend port 9 0 (m.corr - stampFraction t4) m.seq (ptpOf s port).logSync
    (stampBytes t4 ++ beBytes 8 m.src.clock ++ beBytes 2 m.src.port) s

/-- A Pdelay_Req at a port with P2P is answered: in one step where the port is set to it and the profile is not gPTP, else in two. -/
def ptpPdelayReq (port rate : Nat) (t2 : Int) (m : PtpMsg) (s : State) : State :=
  let q := ptpOf s port
  let t3 := ptpStamp port rate true s
  let who := beBytes 8 m.src.clock ++ beBytes 2 m.src.port
  if bit q.flags 1 ∧ q.profile = 2 then ptpSend port 3 0 (m.corr + t3 - t2) m.seq 127 (zeros 10 ++ who) s
  else ptpSend port 10 0 (m.corr + stampFraction t3) m.seq 127 (stampBytes t3 ++ who)
    (ptpSend port 3 0x200 (- stampFraction t2) m.seq 127 (stampBytes t2 ++ who) s)

/-- The delay of the path from a Pdelay exchange: ((t4 - t1) - (t3 - t2) - corrections) / 2. The rate ratio of neighbours is taken as 1
(log entry 15). -/
def ptpPdelay (port : Nat) (t1 t4 turn : Int) (s : State) : State :=
  modPtp port (fun q => { q with pdelay := none, pathDelay := (t4 - t1 - turn) / 2 }) s

/-- A Pdelay_Resp to the port's own request. -/
def ptpPdelayResp (port : Nat) (t4 : Int) (m : PtpMsg) (s : State) : State :=
  match (ptpOf s port).pdelay with
  | none => s
  | some w =>
    if w.seq = m.seq ∧ portIdAt m.body 10 = ownPort port then
      if bit m.flags 9 then
        modPtp port (fun q => { q with pdelay := some { w with resp := some (t4, stampAt m.body 0, m.corr) } }) s
      else ptpPdelay port w.t1 t4 m.corr s
    else s

/-- A Pdelay_Resp_Follow_Up completes the exchange. -/
def ptpPdelayFollowUp (port : Nat) (m : PtpMsg) (s : State) : State :=
  match (ptpOf s port).pdelay with
  | none => s
  | some w =>
    match w.resp with
    | none => s
    | some (t4, t2, c) =>
      if w.seq = m.seq ∧ portIdAt m.body 10 = ownPort port then ptpPdelay port w.t1 t4 (stampAt m.body 0 - t2 + c + m.corr) s
      else s

/-- A message for the port acts by its type: E2E messages at a port with E2E, P2P messages at one with P2P (Table 4-5). -/
def ptpHandle (port rate : Nat) (m : PtpMsg) (s : State) : State :=
  let q := ptpOf s port
  let t := ptpStamp port rate false s
  let slaved := q.state = 9 ∧ q.parent = m.src
  match m.kind with
  | 0 => if slaved then ptpSync port t m s else s
  | 8 => if slaved then ptpFollowUp port m s else s
  | 1 => if q.state = 6 ∧ q.profile = 1 then ptpDelayReq port t m s else s
  | 9 => if slaved ∧ q.profile = 1 then ptpDelayResp port m s else s
  | 2 => if q.profile = 2 ∨ q.profile = 3 then ptpPdelayReq port rate t m s else s
  | 3 => if q.profile = 2 ∨ q.profile = 3 then ptpPdelayResp port t m s else s
  | 10 => if q.profile = 2 ∨ q.profile = 3 then ptpPdelayFollowUp port m s else s
  | 11 => ptpUpdateBoth (modPtp port (fun q => hearAnnounce s.tb.gtc q m) s)
  | _ => s

/-- A message that uses an unsupported feature is counted in the port's PTP error counter (R158). -/
def ptpError (port : Nat) (s : State) : State := modPtp port (fun q => { q with errors := satAdd 32 q.errors 1 }) s

/-- PTP_MESSAGE_RX (R158 to R161): a message at an Ethernet port, its active rate, whether over IEEE 802.3, its bytes. -/
def execPtpMessageRx (port rate : Nat) (l2 : Bool) (bytes : List Byte) (s : State) : Result :=
  if (ptpOf s port).profile = 0 ∨ domOn s 3 = false then done s
  else match ptpParse bytes with
    | none => done s
    | some m =>
      if ptpSupported l2 m = false then done (ptpError port s)
      else if ptpForPort (ptpOf s port) l2 m = false then done s
      else done (ptpHandle port rate m s)

/-- PTP_ANNOUNCE_TIMEOUT (R161, Table 4-5): masters not heard for the announce receipt timeout are forgotten, and a port that has listened
for as long stops waiting; the algorithm runs again. -/
def execPtpAnnounceTimeout (port : Nat) (s : State) : Result :=
  let q := ptpOf s port
  let limit := q.announceTimeout * logNs q.logAnnounce
  let stale := q.foreign.any (fun f => decide (limit ≤ elapsed s.tb.gtc f.last))
  let silent := q.state = 4 ∧ limit ≤ elapsed s.tb.gtc q.listenSince
  done (
    if q.profile = 0 then s
    else if stale = true ∨ silent then
      ptpUpdate false (1 - port) (ptpUpdate true port (modPtp port (fun q => { q with
        foreign := q.foreign.filter (fun f => decide (elapsed s.tb.gtc f.last < limit)) }) s))
    else s)

/-- The flags of an Announce: leap seconds, whether TAI - UTC is known, the PTP timescale, and traceability while GNSS is in use. -/
def announceFlags (s : State) : Nat :=
  let u := tbrUtc s.tb
  flag (bit u 16) + 2 * flag (bit u 17) + 4 * flag (bit u 18) + 8 + 48 * flag (s.tb.source == 1)

/-- The Follow_Up information TLV of gPTP, which reports no change of the grandmaster's frequency or phase. -/
def followUpInfo (q : PtpPort) : List Byte :=
  if q.profile = 3 then beBytes 2 3 ++ beBytes 2 28 ++ beBytes 3 0x0080C2 ++ beBytes 3 1 ++ zeros 22 else []

/-- The path trace TLV of gPTP with the device's own clock. -/
def pathTrace (q : PtpPort) (p : Nat) : List Byte :=
  if q.profile = 3 then beBytes 2 8 ++ beBytes 2 8 ++ beBytes 8 (ownPort p).clock else []

/-- A MASTER sends Sync: in one step with its own stamp where the port is set to it, else with a Follow_Up (Table 4-5). -/
def ptpSendSync (port rate : Nat) (s : State) : State :=
  let q := ptpOf s port
  let t := ptpStamp port rate true s
  let n := ptpSeq port 0 s
  ptpNextSeq port 0 (
    if bit q.flags 1 then ptpSend port 0 0 (stampFraction t) n q.logSync (stampBytes t ++ followUpInfo q) s
    else ptpSend port 8 0 (stampFraction t) n q.logSync (stampBytes t ++ followUpInfo q)
      (ptpSend port 0 0x200 0 n q.logSync (zeros 10) s))

/-- A MASTER sends Announce with the advertised quality; a boundary clock passes on the grandmaster that its other port follows, one
step further, under the quality of Table 4-6 (R160, log entry 15). -/
def ptpSendAnnounce (port : Nat) (s : State) : State :=
  let q := ptpOf s port
  let own := ownData s port
  let d := match bestAt s (1 - port), (ptpOf s (1 - port)).state with
    | some f, 9 => { own with priority1 := f.data.priority1, priority2 := f.data.priority2, gm := f.data.gm, steps := f.data.steps + 1 }
    | _, _ => own
  ptpNextSeq port 1 (ptpSend port 11 (announceFlags s) 0 (ptpSeq port 1 s) q.logAnnounce
    (stampBytes ((s.tb.st : Int) * 65536) ++ beBytes 2 (tbrUtc s.tb % 65536) ++ zeros 1 ++ beBytes 1 d.priority1 ++ beBytes 1 d.cls
      ++ beBytes 1 d.accuracy ++ beBytes 2 d.variance ++ beBytes 1 d.priority2 ++ beBytes 8 d.gm ++ beBytes 2 d.steps
      ++ beBytes 1 d.timeSource ++ pathTrace q port) s)

/-- A SLAVE with E2E asks for its delay; the stamp is kept for the answer. -/
def ptpSendDelayReq (port rate : Nat) (s : State) : State :=
  let t := ptpStamp port rate true s
  ptpNextSeq port 2 (ptpSend port 1 0 0 (ptpSeq port 2 s) 127 (stampBytes t)
    (modPtp port (fun q => { q with delayReq := some (ptpSeq port 2 s, t) }) s))

/-- A port with P2P measures the delay to its neighbour; the stamp is kept for the answer. -/
def ptpSendPdelayReq (port rate : Nat) (s : State) : State :=
  let t := ptpStamp port rate true s
  ptpNextSeq port 3 (ptpSend port 2 0 0 (ptpSeq port 3 s) 127 (zeros 20)
    (modPtp port (fun q => { q with pdelay := some ⟨ptpSeq port 3 s, t, none⟩ }) s))

/-- PTP_INTERVAL_TX (R160): a port's interval has come: a MASTER sends Sync (0) or Announce (1); a SLAVE with E2E sends Delay_Req (2); a
port with P2P sends Pdelay_Req (3). -/
def execPtpIntervalTx (port rate kind : Nat) (s : State) : Result :=
  let q := ptpOf s port
  done (
    if domOn s 3 = false then s
    else if kind = 0 then (if q.state = 6 then ptpSendSync port rate s else s)
    else if kind = 1 then (if q.state = 6 then ptpSendAnnounce port s else s)
    else if kind = 2 then (if q.state = 9 ∧ q.profile = 1 then ptpSendDelayReq port rate s else s)
    else if q.profile = 2 ∨ q.profile = 3 then ptpSendPdelayReq port rate s else s)

/-! ### Commands -/

/-- TB_SOURCE_SET (R143): the ranking of the sources. A source that had qualified unranked is used at once (log entry 15). -/
def execTbSourceSet (r : Req) (s : State) : Result :=
  let p := r.payload
  let rank := [u8 p 0, u8 p 1, u8 p 2]
  done (runCommand 0x0302 false r (fun s =>
    checked (p.length == 4) (zeroAt p 3 1) (rank.all (fun x => x ≤ 3)) (noRepeat (rank.filter (fun x => x != 0))) [] s (fun s =>
      let s1 := modTb (fun b => { b with ranking := rank }) s
      let s2 := if s.tb.source ≠ 0 ∧ rank.contains s.tb.source = false then
          if bestSource s1.tb ≠ 0 then returnTo (bestSource s1.tb) s1
          else if holding s1.tb then modTb (fun b => { b with source := 0, stepNeeded := false }) s1
          else enterHoldover (modTb (fun b => { b with source := 0 }) s1)
        else if s.tb.state = 0 ∧ bestSource s1.tb ≠ 0 then
          let n := bestSource s1.tb
          sourceQualified n (modTb (fun b => { b with e := (srcOf b n).e, lastSample := (srcOf b n).lastValid }) s1)
        else if s.tb.source = 0 ∧ holding s1.tb = true ∧ bestSource s1.tb ≠ 0 then returnTo (bestSource s1.tb) s1
        else s1
      .reply (changed (s.tb.ranking == rank)) p (ptpUpdateBoth s2))) s)

/-- The settings of a PTP port as PTP_SET carries them. -/
def ptpPayload (n : Nat) (q : PtpPort) : List Byte :=
  leBytes 1 n ++ leBytes 1 q.profile ++ leBytes 1 q.flags ++ leBytes 1 q.domain ++ leInt 1 q.logSync ++ leInt 1 q.logAnnounce
    ++ leBytes 1 q.announceTimeout ++ leBytes 1 q.priority1 ++ leBytes 1 q.priority2 ++ zeros 3

/-- The settings of a PTP_SET request on a port; the protocol starts anew (log entry 15). -/
def ptpConfigure (p : List Byte) (now : Gtc) (q : PtpPort) : PtpPort :=
  { PtpPort.zero with
    state := if u8 p 1 = 0 ∨ q.state = 4 then q.state else 3, errors := q.errors, listenSince := now,
    profile := u8 p 1, flags := u8 p 2, domain := u8 p 3, logSync := iN 1 p 4, logAnnounce := iN 1 p 5,
    announceTimeout := u8 p 6, priority1 := u8 p 7, priority2 := u8 p 8 }

/-- PTP_SET (R158, R161, R165). -/
def execPtpSet (r : Req) (s : State) : Result :=
  let p := r.payload
  let n := u8 p 0
  done (runCommand 0x0307 true r (fun s =>
    checked (p.length == 12) (zeroAt p 9 3 && bitsBelow (u8 p 2) 3)
      (within n 1 2 && within (u8 p 1) 0 3 && within (u8 p 3) 0 127 && withinI (iN 1 p 4) (-7) 1 && withinI (iN 1 p 5) (-3) 3
        && within (u8 p 6) 2 10 && (u8 p 1 != 3 || u8 p 3 == 0))
      true
      (failIf (u8 p 1 == 3 && !bit (u8 p 2) 0) 0x8303 ++
        failIf (s.tb.source == n + 1 && ptpPayload n (ptpOf s (n - 1)) != p) 0x2003) s (fun s =>
      if ptpPayload n (ptpOf s (n - 1)) = p then .reply 0 p s
      else .reply 0 p (ptpUpdate false (2 - n) (ptpUpdate false (n - 1) (modPtp (n - 1)
        (ptpConfigure p s.tb.gtc) s))))) s)

end Sys2Proof.Machine
end

