-- ==== Sys2Proof/Machine/Comet.lean ====
section
/-!
DEFINITION. Sys2Proof/Machine/Comet.lean: chapter 16: the comet log, its tail, nucleus and flush areas, the window registers of a master
and the commands of group 0x0F (log entry 28).
-/
namespace Sys2Proof.Machine
open Sys2Proof

/-- Changes the comet log. -/
def modComet (f : Comet → Comet) (s : State) : State := { s with comet := f s.comet }

/-! ### The snapshot (R565, R567, Table 16-3) -/

/-- The words that a layout of the catalogue gives. -/
def layoutOf (s : State) (id : Nat) (payload : List Byte) (mv : Nat) : List Byte :=
  let g := id / 16
  if g = 0 then tbGetPayload s
  else if g = 1 then eclGetPayload s
  else if g = 2 then pairGetBytes s
  else if g = 3 then gnStatusBytes s
  else if g = 4 ∨ g = 5 then corrGetBytes s
  else if g = 6 then blStatusBytes s
  else if g = 7 then orStatusBytes s
  else if g = 8 then trStatusBytes s
  else if g = 9 then dpStatusBytes s
  else if g = 10 ∨ g = 11 then s.rh.flatMap headStatus
  else if g = 12 then canStatusBytes s (id % 16 / 4)
  else if g = 13 then leBytes 4 (bitsOf ((List.range 4).map (frozen s))) ++ (List.range 4).flatMap (fun m => leBytes 4 (violOf s m).cause)
  else if g = 14 then payload
  else pwrStatusBytes mv s

/-- The word of its layout that a catalogue ID names. -/
def layoutWord (id : Nat) : Nat :=
  let g := id / 16
  if g = 0 then id - 1 else if g = 5 ∨ g = 11 then id % 16 + 16 else if g = 12 then id % 4 else id % 16

/-- Whether a catalogue ID names a value (Table 16-3). -/
def catalogued (id : Nat) : Bool :=
  within id 0x01 0x0C || within id 0x10 0xD4 || within id 0xE0 0xE7 || within id 0xF0 0xFF

/-- Whether the block that holds a catalogue value is powered (R565, Table 17-1). -/
def cataloguePowered (s : State) (id : Nat) : Bool :=
  let g := id / 16
  if g = 2 then domOn s 12
  else if g = 3 then domOn s 4
  else if g = 4 ∨ g = 5 then domOn s 10
  else if g = 6 then domOn s 6
  else if within g 7 9 then domOn s 9
  else if g = 10 then domOn s 7
  else if g = 11 then domOn s 8
  else if g = 12 then domOn s 13
  else true

/-- A catalogue value: none where its block is powered down. -/
def catalogueValue (s : State) (payload : List Byte) (mv id : Nat) : Option Nat :=
  if cataloguePowered s id then some (u32 (layoutOf s id payload mv) (4 * layoutWord id)) else none

/-- The values of a trigger's selection are read, unless they have been (R565, R567). -/
def readValues (s : State) (mv : Nat) (w : Waiting16) : Waiting16 :=
  { w with values := some (w.values.getD ((trigSet s w.trig).selection.map (fun id => (id, catalogueValue s w.payload mv id)))) }

/-! ### Records and seals (R564, R568, R569) -/

/-- The seal of a record over the seal before it (R569). -/
def sealOf (prev body : List Byte) : List Byte := (sha256 (prev ++ body.take 240)).take 16

/-- The start of the nucleus chain (R569). -/
def nucleusStart (s : State) : List Byte := (sha256 (ascii "CWNUCLEUS" ++ leBytes 8 s.vault.devId)).take 16

/-- The start of the tail chain of this power cycle (R569). -/
def tailStart (s : State) : List Byte := (sha256 (ascii "CWTAIL" ++ leBytes 8 s.vault.devId ++ leBytes 4 s.pwr.cycles)).take 16

/-- The seal of the last record of a list, or the start of its chain. -/
def chainHead (start : List Byte) (l : List (List Byte)) : List Byte :=
  match l.getLast? with
  | none => start
  | some r => r.drop 240

/-- The head of the tail chain. -/
def tailHead (s : State) : List Byte :=
  match s.comet.tail with
  | [] => tailStart s
  | x :: _ => x.2.drop 240

/-- The head of the nucleus chain: over the general area, then the pinned area, each in slot order (R576). -/
def nucleusHead (s : State) : List Byte := (s.comet.general ++ s.comet.pinned).foldl sealOf (nucleusStart s)

/-- Whether recording to the tail is frozen (R574). -/
def tailFrozen (s : State) : Bool := s.comet.clw.any (fun c => c.freeze)

/-- Bytes 0 to 239 of the record of a trigger (Table 16-1); `extra` are the flag bits of the nucleus. -/
def recordBody (s : State) (w : Waiting16) (extra : Nat) : List Byte :=
  let ids := (w.values.getD []).map (fun v => v.1)
  let vals := (w.values.getD []).map (fun v => v.2)
  let lost := vals.any (fun v => v.isNone)
  leBytes 8 w.gtc.toNat ++ leBytes 4 s.comet.seq ++ leBytes 4 s.pwr.hours ++ leBytes 4 s.pwr.cycles ++ leBytes 1 w.trig
    ++ leBytes 1 w.source ++ leBytes 1 ids.length
    ++ leBytes 1 (extra + 8 * flag (s.comet.missedSince != 0) + 16 * flag lost) ++ leBytes 2 s.comet.missedSince ++ zeros 2
    ++ ids.flatMap (leBytes 1) ++ zeros (40 - ids.length) ++ vals.flatMap (fun v => leBytes 4 (v.getD 0xFFFFFFFF))
    ++ zeros (160 - 4 * ids.length) ++ zeros 12

/-- CL_NOTICE (Table 16-8). -/
def clNotice (kind master seq : Nat) (s : State) : State :=
  emit 0xCF01 33 (leBytes 1 kind ++ leBytes 1 master ++ zeros 2 ++ leBytes 4 seq) s

/-- A nucleus write begins (R570). -/
def nucleusWrite (s : State) : State := modPwr (fun p => { p with flash := p.flash ++ [⟨2, none⟩] }) s

/-- Whether a trigger is pinned (Table 16-2). -/
def pinnedTrig (t : Nat) : Bool := within t 3 6

/-- The record goes to the general area until it is full (R568). -/
def toGeneral (body : List Byte) (seq : Nat) (s : State) : State :=
  let s1 := nucleusWrite (modComet (fun c => { c with
    general := c.general ++ [body ++ sealOf (chainHead (nucleusStart s) c.general) body] }) s)
  if s1.comet.general.length = 448 then clNotice 2 0xFF seq s1 else s1

/-- The record of a pinned trigger goes to the pinned area until it is full (R568). -/
def toPinned (body : List Byte) (seq : Nat) (s : State) : State :=
  let s1 := nucleusWrite (modComet (fun c => { c with
    pinned := c.pinned ++ [body ++ sealOf (chainHead (nucleusStart s) c.pinned) body] }) s)
  if s1.comet.pinned.length = 64 then clNotice 3 0xFF seq s1 else s1

/-- A trigger is missed (R566, R574). -/
def missTrigger (s : State) : State :=
  modComet (fun c => { c with
    missed := satAdd 32 c.missed 1
    missedSince := satAdd 16 c.missedSince 1 }) s

/-- Makes the record of a trigger whose values have been read (R564 to R569, R574). -/
def recordTrigger (w : Waiting16) (s : State) : State :=
  let general := decide (s.vault.life = 1) && decide (s.comet.general.length < 448)
  let pinned := decide (s.vault.life = 1) && pinnedTrig w.trig && decide (s.comet.pinned.length < 64)
  let body := recordBody s w (flag (general || pinned) + 2 * flag pinned)
  let q := s.comet.seq
  let made := general || pinned || !tailFrozen s
  let s1 := if tailFrozen s then missTrigger s
    else modComet (fun c => { c with
      tail := ((q, body ++ sealOf (tailHead s) body) :: c.tail).take 4096
      missedSince := 0 }) s
  let s2 := modComet (fun c => { c with seq := if made then (q + 1) % 2 ^ 32 else q }) s1
  let s3 := if general then toGeneral body q s2 else s2
  if pinned then toPinned body q s3 else s3

/-- The values of the waiting triggers that `p` selects are read together; VDD_CORE as measured is a free value. -/
def readWaiting (p : Waiting16 → Bool) (s : State) : State :=
  let f := fresh s
  modComet (fun c => { c with waiting := c.waiting.map (fun w => if p w then readValues s (f.1 % 65536) w else w) }) f.2

/-- The oldest waiting trigger is recorded. -/
def recordFirst (s : State) : State :=
  match s.comet.waiting with
  | [] => s
  | w :: l => recordTrigger w (modComet (fun c => { c with waiting := l }) s)

/-- COMET_RECORD (R565): the oldest waiting trigger is recorded; triggers of one GTC have equal values. In STANDBY nothing is recorded
(R575). -/
def execCometRecord (s : State) : Result :=
  done (match s.comet.waiting with
    | [] => s
    | w :: _ => if s.pwr.state = 4 then s else recordFirst (readWaiting (fun x => x.gtc == w.gtc) s))

/-- NUCLEUS_WRITE_COMPLETE (R570). -/
def execNucleusWriteComplete (s : State) : Result :=
  let pre := s.pwr.flash.takeWhile (fun j => j.kind != 2)
  done (sleepStep (modPwr (fun p => { p with flash := pre ++ (p.flash.drop (pre.length + 1)) }) s))

/-! ### Power failure (R571, R572) -/

/-- Every freeze ends. -/
def endFreezes (s : State) : State := modComet (fun c => { c with clw := c.clw.map (fun x => { x with freeze := false }) }) s

/-- Every waiting trigger is recorded. -/
def recordAll (s : State) : State :=
  let s1 := readWaiting (fun _ => true) s
  s1.comet.waiting.foldl (fun t w => recordTrigger w t) (modComet (fun c => { c with waiting := [] }) s1)

/-- The area of the next flush: the one that does not hold the valid block. -/
def flushTarget (s : State) : Nat := if s.comet.validArea = some 0 then 1 else 0

/-- The tag of a flush block, under the record-seal node, in MISSION (R571). -/
def flushTag (s : State) (records : List (List Byte)) : List Byte :=
  match sealNode s with
  | none => []
  | some n => if s.vault.life = 1 ∧ nodeUsable s (some n) = true ∧ s.vault.locked = false then tag16 (material s n.handle) records.flatten else []

/-- The flush begins: records in flash, the header last (R571). -/
def flushBegin (s : State) : State :=
  let l := (s.comet.tail.take 256).reverse
  let a : FlushArea := ⟨false, s.pwr.cycles, (l.head?.map (fun x => x.1)).getD 0, l.map (fun x => x.2), flushTag s (l.map (fun x => x.2))⟩
  modComet (fun c => { c with
    areas := c.areas.set (flushTarget s) a
    flushing := some (flushTarget s) }) (if a.tag.isEmpty then s else useNode (sealNode s) s)

/-- The header is written: the flush is complete (R571). -/
def flushEnd (s : State) : State :=
  match s.comet.flushing with
  | none => s
  | some i => modComet (fun c => { c with
      areas := modNth c.areas i (fun a => { a with valid := true })
      flushing := none }) s

/-- In SLEEP, PD_MEM is powered for a flush alone (R585). -/
def memPower (on : Bool) (s : State) : State := if s.pwr.state = 3 then modPwr (fun p => { p with powered := putBit p.powered 11 on }) s else s

/-- Trigger 2 fires and is recorded at once, after those that wait. -/
def recordPfail (s : State) : State :=
  if (trigSet s 2).enabled then
    recordFirst (readWaiting (fun _ => true) (modComet (fun c => { c with waiting := [⟨2, s.tb.gtc, 33, [], none⟩] }) s))
  else s

/-- PFAIL_N_FALL (R571, R585): trigger 2 is recorded and the newest 256 records are written. -/
def execPfailNFall (s : State) : Result :=
  done (if s.pwr.state = 4 then s
    else
      let s1 := recordPfail (recordAll (endFreezes { s with pins := { s.pins with pfailN := false } }))
      if s1.comet.flushing.isSome then s1 else memPower true (flushBegin s1))

/-- FLUSH_COMPLETE (R571, R585). -/
def execFlushComplete (s : State) : Result := done (if s.comet.flushing.isSome then memPower false (flushEnd s) else s)

/-- Whether a flush block verifies (R572). -/
def blockValid (s : State) (a : FlushArea) : Bool :=
  a.valid && (s.vault.life != 1 || (!(flushTag s a.records).isEmpty && a.tag == flushTag s a.records))

/-- Boot: the valid block is chosen, the other area erased, a bad block of the last power cycle reported (R572). `last` is the
power-cycle count before this boot. -/
def cometBoot (last : Nat) (s : State) : State :=
  let a := nth s.comet.areas 0 ⟨false, 0, 0, [], []⟩
  let b := nth s.comet.areas 1 ⟨false, 0, 0, [], []⟩
  let va := blockValid s a
  let vb := blockValid s b
  let pick := if va = true ∧ vb = true then
      (if a.count = b.count then (if s.comet.validArea = some 0 then some 1 else some 0) else if b.count < a.count then some 0 else some 1)
    else if va then some 0 else if vb then some 1 else none
  let bad := [(a, va), (b, vb)].any (fun x => !x.1.records.isEmpty && x.1.count == last && !x.2)
  let s1 := modComet (fun c => { c with
    validArea := pick
    flushing := none
    lastFailed := bad
    areas := (List.range 2).map (fun i => if pick = some i then nth c.areas i ⟨false, 0, 0, [], []⟩ else ⟨false, 0, 0, [], []⟩) }) s
  if bad then clNotice 4 0xFF 0 s1 else s1

/-! ### Reading (R573, R574, R576) -/

/-- A record by area and cursor (R573): sequence in the tail, slot in the nucleus and the flush area. A record from flash carries
flag bit 2 (R572). -/
def recordAt (s : State) (area cursor : Nat) : Option (List Byte) :=
  match area with
  | 0 => (s.comet.tail.find? (fun x => x.1 == cursor)).map (fun x => x.2)
  | 1 => if cursor < 448 then s.comet.general[cursor]? else s.comet.pinned[cursor - 448]?
  | 2 => (s.comet.validArea.bind (fun i => (nth s.comet.areas i ⟨false, 0, 0, [], []⟩).records[cursor]?)).map (fun r =>
      modNth r 23 (fun b => b ||| 4))
  | _ => none

/-- The sequence of the newest tail record; 0 for none. -/
def newestSeq (s : State) : Nat := ((s.comet.tail.head?).map (fun x => x.1)).getD 0

/-- The sequence of the oldest tail record; 0 for none. -/
def oldestSeq (s : State) : Nat := ((s.comet.tail.getLast?).map (fun x => x.1)).getD 0

/-- The window of a master on the log. -/
def clwOf (s : State) (m : Nat) : Clw := nth s.comet.clw m Clw.zero

/-- Changes the window of a master on the log. -/
def modClw (m : Nat) (f : Clw → Clw) (s : State) : State := modComet (fun c => { c with clw := modNth c.clw m f }) s

/-- A cursor write clears READY and begins the load (R573). -/
def clwCursor (m value : Nat) (s : State) : State :=
  modClw m (fun c => { c with
    cursor := value % 2 ^ 32
    ready := false
    gone := false
    loading := true }) s

/-- The load ends with READY or GONE (R573). -/
def clwLoad (m : Nat) (s : State) : State :=
  let c := clwOf s m
  if c.loading = false then s
  else match recordAt s c.area c.cursor with
    | none => modClw m (fun c => { c with
        loading := false
        gone := true }) s
    | some r => modClw m (fun c => { c with
        loading := false
        ready := true
        buffer := r }) s

/-- A read of CLW_DATA word `w`, with the advance that word 63 brings (Table 16-5). -/
def clwData (m w : Nat) (s : State) : Nat × State :=
  let c := clwOf s m
  let v := if c.ready then u32 c.buffer (4 * w) else 0
  (v, if w = 63 ∧ c.advance = true then clwCursor m (c.cursor + 1) s else s)

/-- A write of CLW_CTRL (R574): FREEZE begins when the bit rises. -/
def clwCtrl (m value : Nat) (s : State) : State :=
  let was := tailFrozen s
  let s1 := modClw m (fun c => { c with
    area := value % 4
    freeze := bit value 2
    advance := bit value 3
    freezeAt := if bit value 2 = true ∧ c.freeze = false then s.tb.gtc else c.freezeAt }) s
  if was = false ∧ tailFrozen s1 = true then modComet (fun c => { c with frozenSince := s.tb.gtc }) s1 else s1

/-- CLW_STAT as a master reads it. -/
def clwStat (m : Nat) (s : State) : Nat :=
  let c := clwOf s m
  bitsOf [c.ready, c.gone, tailFrozen s, decide (448 ≤ s.comet.general.length), decide (64 ≤ s.comet.pinned.length)]

/-- CLW_NUCLEUS. -/
def clwNucleus (s : State) : Nat := s.comet.general.length + 512 * s.comet.pinned.length

/-- CLW_FROZEN_MS: the duration of the present freeze. -/
def frozenMs (s : State) : Nat := if tailFrozen s then min (sinceNs s s.comet.frozenSince / 1000000) 0xFFFFFFFF else 0

/-- CLW_LOAD_COMPLETE (R573). -/
def execClwLoadComplete (m : Nat) (s : State) : Result := done (clwLoad m s)

/-- CLW_FREEZE_EXPIRY (R574): 10 s after the master set it. -/
def execClwFreezeExpiry (m : Nat) (s : State) : Result :=
  let c := clwOf s m
  done (if c.freeze = true ∧ 10 * sec ≤ sinceNs s c.freezeAt then
      clNotice 1 m (newestSeq s) (modClw m (fun c => { c with freeze := false }) s)
    else s)

/-! ### Commands of group 0x0F -/

/-- A trigger's settings as CL_TRIGGER_GET carries them. -/
def trigBytes (s : State) (t : Nat) : List Byte :=
  let x := trigSet s t
  leBytes 1 t ++ leBytes 1 (flag x.enabled) ++ leBytes 1 x.selection.length ++ zeros 1 ++ x.selection.flatMap (leBytes 1)

/-- CL_TRIGGER_SET (R567). -/
def execClTriggerSet (r : Req) (s : State) : Result :=
  let p := r.payload
  let restore := bit (u8 p 1) 1
  let ids := (List.range (u8 p 2)).map (fun i => u8 p (4 + i))
  let x : TrigSet := ⟨bit (u8 p 1) 0, if restore then defaultSelection else ids⟩
  done (runCommand 0x0F01 true r (fun s =>
    checked (p.length == 4 + u8 p 2 || (restore && p.length == 4)) (bitsBelow (u8 p 1) 2 && zeroAt p 3 1)
      (u8 p 0 ≤ 63 && (restore || u8 p 2 ≤ 40)) (restore || noRepeat ids) (failIf (!restore && ids.any (fun i => !catalogued i)) 0x8F02)
      s (fun s =>
      .reply (changed (trigSet s (u8 p 0) == x)) [] (modComet (fun c => { c with trigs := upsert c.trigs (u8 p 0) x }) s))) s)

/-- CL_TRIGGER_GET (R576). -/
def execClTriggerGet (r : Req) (s : State) : Result :=
  let p := r.payload
  done (runCommand 0x0F02 false r (fun s =>
    checked (p.length == 1) true (u8 p 0 ≤ 63) true [] s (fun s => .reply 0 (trigBytes s (u8 p 0)) s)) s)

/-- CL_STATUS (R576). -/
def execClStatus (r : Req) (s : State) : Result :=
  done (runCommand 0x0F03 false r (fun s =>
    checked (r.payload.length == 0) true true true [] s (fun s =>
      .reply 0 (leBytes 4 (newestSeq s) ++ leBytes 4 (oldestSeq s) ++ leBytes 2 s.comet.general.length
        ++ leBytes 1 s.comet.pinned.length ++ leBytes 1 (bitsOf [tailFrozen s, s.comet.validArea.isSome, s.comet.lastFailed])
        ++ leBytes 4 s.comet.missed ++ leBytes 4 s.pwr.cycles ++ leBytes 4 s.pwr.hours
        ++ leBytes 8 (bitsOf ((List.range 64).map (fun t => (trigSet s t).enabled)))) s)) s)

/-- The records from one on, at most `c`, up to the first not held. -/
def recordsFrom (s : State) (area first c : Nat) : List (List Byte) :=
  match c with
  | 0 => []
  | k + 1 => match recordAt s area (first % 2 ^ 32) with
    | none => []
    | some r => r :: recordsFrom s area (first + 1) k

/-- CL_READ (R576). -/
def execClRead (r : Req) (s : State) : Result :=
  let p := r.payload
  done (runCommand 0x0F04 false r (fun s =>
    checked (p.length == 8) (zeroAt p 2 2) (u8 p 0 ≤ 2 && within (u8 p 1) 1 15) true
      (failIf (recordAt s (u8 p 0) (u32 p 4)).isNone 0x8F01) s (fun s =>
      let l := recordsFrom s (u8 p 0) (u32 p 4) (u8 p 1)
      .reply 0 (leBytes 2 l.length ++ zeros 2 ++ l.flatten) s)) s)

/-- CL_MARK (R566): the trigger fires with the host note. The sequence is that of the record to come after those that wait. -/
def execClMark (r : Req) (s : State) : Result :=
  let p := r.payload
  let t := u8 p 0
  done (runCommand 0x0F05 false r (fun s =>
    checked (p.length == 36) (zeroAt p 1 3) (t == 0 || within t 60 63) true [] s (fun s =>
      let lost := !(trigSet s t).enabled || decide (16 ≤ s.comet.waiting.length) || tailFrozen s
      let q := if lost then 0xFFFFFFFF else (s.comet.seq + s.comet.waiting.length) % 2 ^ 32
      .reply 0 (leBytes 4 q) (cometOffer t r.master (sub p 4 32) s))) s)

/-- CL_ATTEST (R569): both chain heads under the ATTEST node. -/
def execClAttest (r : Req) (s : State) : Result :=
  done (runCommand 0x0F06 false r (fun s =>
    checked (r.payload.length == 16) true true true [] s (fun s =>
      let b := leBytes 2 s.comet.general.length ++ leBytes 1 s.comet.pinned.length ++ zeros 1 ++ nucleusHead s ++ leBytes 4 (newestSeq s)
        ++ tailHead s
      let g := ecdsaSign 384 s.free (material s attestHandle) (sha384 (b ++ r.payload))
      .reply 0 (b ++ g) (useKey attestHandle (fresh s).2))) s)

end Sys2Proof.Machine
end

