-- ==== Sys2Proof/Machine/Flags.lean ====
section
/-!
DEFINITION. Sys2Proof/Machine/Flags.lean: the access codes of register fields (R10, R11): what a write makes of a field and what
a read leaves.
-/
namespace Sys2Proof.Machine
open Sys2Proof

/-- RO: a write changes nothing (R10). -/
def fieldRO (old _w : Nat) : Nat := old

/-- RW: a write replaces the field (R10). -/
def fieldRW (_old w : Nat) : Nat := w

/-- W1C: a written 1 clears the bit (R10). -/
def fieldW1C (old w : Nat) : Nat := old - Nat.land old w

/-- One bit of a W1C field: a written 1 clears it, and a set by the hardware in the same clock wins (R10, R11). -/
def fieldW1Cset (old w again : Bool) : Bool := (old && !w) || again

/-- W1S: a written 1 sets the bit (R10). -/
def fieldW1S (old w : Nat) : Nat := Nat.lor old w

/-- RC: a read returns the field and clears it (R10). -/
def fieldRC (old : Nat) : Nat × Nat := (old, 0)

/-- An event of the device and a W1C or RC access in the same clock: the event is not lost, the field counts it after the
access (R11). -/
def fieldEventWins (cleared : Nat) (again : Bool) : Nat := if again then cleared + 1 else cleared

end Sys2Proof.Machine
end

