-- ==== Sys2Proof/Machine/Resets.lean ====
section
/-!
DEFINITION. Sys2Proof/Machine/Resets.lean: the resets of chapter 17 and what survives them (Table 17-6), SLEEP and wake, host-up, the
watchdog's bites and the loss of the main supplies.
-/
namespace Sys2Proof.Machine
open Sys2Proof

/-- A bitmap with the listed bits set. -/
def mapOf (l : List Nat) : Nat := l.foldl (fun v b => putBit v b true) 0

/-! ### CLEARED_MAP (Table 17-6) -/

/-- The groups that a PORT reset clears. -/
def portMap (m : Nat) : Nat := mapOf (if m = 0 then [0, 1, 2, 5, 6] else [0, 2, 5, 6])

/-- The groups that a DOMAIN reset clears (R590, R12). -/
def domainMap (d : Nat) : Nat :=
  mapOf (match d with
    | 2 => [0, 1, 2, 5, 6]
    | 3 => [0, 2, 5, 6]
    | 4 => [15]
    | 6 => [19]
    | 7 => [20, 21]
    | 8 => [20, 21]
    | 9 => [23, 27, 29, 30]
    | 10 => [0, 33]
    | 11 => [7, 19, 29, 30]
    | 13 => [35, 36]
    | _ => [])

/-- The groups that a WARM reset clears: those with a WARM, DOMAIN or PORT entry but for the two-class entries that name COLD. -/
def warmMap : Nat :=
  mapOf [0, 1, 4, 5, 6, 7, 8, 10, 12, 14, 16, 17, 18, 19, 20, 21, 22, 23, 26, 28, 30, 31, 32, 33, 35, 36, 38, 40, 43]

/-- The groups that a COLD reset clears: all but those cleared by VBAT. -/
def coldMap : Nat := mapOf ((List.range 45).filter (fun b => b != 34 && b != 39))

/-- The groups that Table 17-6 marks "cleared" at SLEEP entry. -/
def sleepMap : Nat := mapOf [1, 15, 19, 21, 23, 28, 33, 36]

/-- The groups of the resets in progress, which join those of a stronger reset (R588). -/
def runningMap (s : State) : Nat :=
  s.pwr.off.foldl (fun v o => Nat.lor v (domainMap o.dom)) (if s.pwr.perst then portMap 0 else 0)

/-! ### RESET_REPORT (R589) -/

/-- What shows a host port without a session that a RESET_REPORT waits for its next one (R77): DBL_OUT bits 16 and 18 and the notice (R110,
R115). -/
def reportWaits (m : Nat) (s : State) : State :=
  if (sessOf s m).isSome then s else waitNotice m 2 (itemBells m 0xD001 s)

/-- RESET_REPORT: kept for the sessions to come (R77) and sent to every session. -/
def resetReport (cls cause target master cleared : Nat) (s : State) : State :=
  let p := leBytes 1 cls ++ leBytes 1 cause ++ leBytes 1 target ++ leBytes 1 master ++ leBytes 4 s.pwr.cycles
    ++ leBytes 4 s.pwr.hours ++ leBytes 4 s.vault.fw ++ leBytes 8 cleared ++ leBytes 1 (eclShown s) ++ leBytes 1 s.vault.life
    ++ leBytes 1 (if cls ≤ 2 then 0xFF else s.vault.bootResult) ++ zeros 1 ++ leBytes 4 s.pwr.rtc
  [0, 1, 2, 3].foldl (fun t m => reportWaits m t) (emit 0xD001 33 p (modPwr (fun q => { q with report := gtcBytes s ++ p }) s))

/-- The reset of a class, cause and target that has been due for 1 ms (R90). -/
def dueReset (cls cause target : Nat) (s : State) : Option ResetDue :=
  s.pwr.resets.find? (fun d => d.cls == cls && d.cause == cause && d.target == target && decide (1000000 ≤ sinceNs s d.gtc))

/-- The resets of a class and of weaker ones that are due are part of the one that is performed (R588). -/
def dropDue (cls : Nat) (s : State) : State :=
  modPwr (fun p => { p with resets := p.resets.filter (fun d => decide (cls < d.cls)) }) s

/-- The first due reset of a class, cause and target leaves the list. -/
def takeDue (cls cause target : Nat) (s : State) : State :=
  modPwr (fun p => { p with resets := p.resets.eraseP (fun d => d.cls == cls && d.cause == cause && d.target == target) }) s

/-! ### PORT reset (R586) -/

/-- Unread outbound messages of a port (R105). -/
def unread (m : Nat) (s : State) : Nat := ((bankOf s m).outb.filter (fun o => o.full)).length

/-- What a PORT reset restarts of a port: session, rings or SPI buffers, outbound mailboxes and doorbells, locks, freeze state, its
part of the spill queues and its window on the log (R12, R36, R85, R105, R119, R124, R125, R586). -/
def portParts (m : Nat) (s : State) : State :=
  let n := unread m s
  let s1 := { s with
    sessions := s.sessions.set m none
    hellos := s.hellos.set m none
    txq := s.txq.set m []
    rings := if m = 0 then Rings.zero else s.rings
    spi := if m = 3 then ⟨[], false⟩ else s.spi }
  let s2 := modBank m (fun b => { b with
    outb := Bank.zero.outb
    mbxIrqEn := 0
    mbxDiscarded := satAdd 16 b.mbxDiscarded n
    dblOut := 0
    dblIrqEn := 0 }) s1
  let s3 := modViol m (fun v => { v with
    cause := 0
    badAccess := 0
    tagFails := []
    helloFails := 0
    seqAbuse := [] }) s2
  modClw m (fun _ => Clw.zero) (sqPortReset m (releaseLocks m s3))

/-- The reports of a PORT reset: the end of the session (R75), discarded messages (R105), the release from freezing (R85). -/
def portReports (m : Nat) (before s : State) : State :=
  let s1 := match sessOf before m with
    | none => s
    | some v => emit 0xC101 m (leBytes 1 m ++ leBytes 1 5 ++ zeros 2 ++ leBytes 4 v.id) s
  let s2 := if unread m before = 0 then s1 else emit 0xC202 m (leBytes 1 m ++ zeros 1 ++ leBytes 2 (unread m before)) s1
  if frozen before m then emit 0xC103 m (leBytes 1 m ++ leBytes 1 0xFF ++ zeros 2) s2 else s2

/-- A PORT reset of a host port. -/
def portReset (m cause master : Nat) (s : State) : State :=
  let s1 := modPwr (fun p => { p with portResets := satAdd 32 p.portResets 1 }) (portParts m s)
  portReports m s (resetReport 1 cause m master (portMap m) s1)

/-- PORT_RESET (R586): the reset of a RESET command 1 ms after its reply (R90), or one that PCIe asks for. -/
def execPortReset (m cause : Nat) (s : State) : Result :=
  done (if s.pwr.state = 4 then s
    else if cause = 1 then
      match dueReset 1 1 m s with
      | none => s
      | some d => if m ≤ 3 then portReset m 1 d.master (takeDue 1 1 m s) else s
    else if m = 0 ∧ (cause = 2 ∨ cause = 3) then portReset 0 cause 0xFF s else s)

/-- PCIE_FLR (R60): a Function Level Reset is a PORT reset of port 0. -/
def execPcieFlr (s : State) : Result := done (if s.pwr.state = 4 ∨ s.pwr.perst = true then s else portReset 0 2 0xFF s)

/-- PCIE_PERST_LOW (R583): one PORT reset for one low period. -/
def execPciePerstLow (s : State) : Result :=
  done (if s.pwr.perst then s
    else
      let s1 := modPwr (fun p => { p with perst := true }) s
      if s.pwr.state = 4 then s1 else portReset 0 3 0xFF s1)

/-- HOST_UP_START (R583): a falling SPI_CS_N (`spi`) or a rising PCIE_PERST_N, which ends the PORT reset of port 0. -/
def execHostUpStart (spi : Bool) (s : State) : Result :=
  let s1 := if spi then s else modPwr (fun p => { p with perst := false }) s
  done (if s.pwr.state = 3 ∧ s.pwr.hostUp.isNone then modPwr (fun p => { p with
      hostUp := some s.tb.gtc
      powered := putBit p.powered 2 true }) s1
    else s1)

/-- HOST_UP_TIMEOUT (R583): 1 s without a wake source of code 7. -/
def execHostUpTimeout (s : State) : Result :=
  done (match s.pwr.hostUp with
    | none => s
    | some t => if s.pwr.state = 3 ∧ sec ≤ sinceNs s t ∧ bit s.pwr.wakes 7 = false then modPwr (fun p => { p with
          hostUp := none
          powered := putBit p.powered 2 false }) s
      else s)

/-! ### Parts that several resets share -/

/-- A STANDBY enters ECLIPSE with cause 10 on its own: its view of the committed state shows it (R401, R495). -/
def standbyEclipse (s : State) : State :=
  let q := nextEclSeq (max s.pair.viewPrio.seq s.pair.viewCommitted.seq)
  let s1 := modPair (fun p => { p with viewCommitted := { p.viewCommitted with
    state := 1
    cause := 10
    seq := q } }) { s with ecl := { s.ecl with
      entry := s.tb.gtc
      entries := satAdd 32 s.ecl.entries 1 } }
  modeChange 33 3 (eclShown s) 1 0 (emit 0xC901 33 (leBytes 1 (eclShown s) ++ leBytes 1 1 ++ leBytes 1 10 ++ leBytes 1 33 ++ leBytes 2 q
    ++ leBytes 1 0xFF ++ zeros 1 ++ leBytes 4 0) s1)

/-- Every spot stop ends with its berth at a reset that clears berths: unreported, its sequence advanced; the device first
enters ECLIPSE with cause 10 where a spot stop was in force (R401). -/
def spotsEndAtReset (s : State) : State :=
  if s.repl.ecl.spots.any (fun e => e.2.inForce) then
    let latch (t : State) : State := { t with ecl := { t.ecl with latched := putBit t.ecl.latched 10 true } }
    let s1 := if eclShown s = 1 then latch s else if s.pair.role = 2 then latch (standbyEclipse s) else enterEclipse 10 33 0xFF 0 s
    modEcl (fun e => { e with spots := e.spots.map (fun x =>
      if x.2.inForce then (x.1, ⟨false, x.2.cause, (x.2.seq + 1) % 65536, 0, false⟩) else x) }) s1
  else s

/-- A berth after a reset that clears berths: FREE, or CLOSED by a setting that survives (R375). -/
def clearedBerth (now : Gtc) (x : Berth) : Berth :=
  { Berth.free with
    set := x.set
    state := if x.set.closed then 5 else 0
    head := x.head
    session := x.session
    ctrlSeq := x.ctrlSeq
    since := now }

/-- Every berth is FREE or CLOSED, its session node and its joins gone (R375); filters are retained as for a berth that leaves
SERVED (R280). -/
def clearBerths (s : State) : State :=
  let s1 := s.repl.mac.berths.foldl (fun (t : State) e =>
    retainFilter e.1 e.2.state (if e.2.set.closed then 5 else 0) (dropSession e.1 t)) s
  modOwn (fun o => { o with
    joins := []
    fails := []
    lockouts := []
    listed := []
    stopSent := []
    heardUp := [] })
    (modMac (fun m => { m with berths := m.berths.map (fun e => (e.1, clearedBerth s.tb.gtc e.2)) }) s1)

/-- Assignments that wait for their commit are withdrawn, tasks in ASSIGNED or ACTIVE end LOST with cause 7, and no task is ending any
more, since the decisions that end one are gone (R472). -/
def tasksLost (s : State) : State :=
  let pending := (s.repl.dp.tasks.filter (fun t => t.state == 2 && t.berth.isSome)).map taskId
  let s1 := pending.foldl (fun t id => withdraw id t) s
  let running := (s1.repl.dp.tasks.filter (fun t => t.state == 3 || t.state == 4)).map taskId
  let s2 := running.foldl (fun t id => commitTaskEnd id 9 7 t) s1
  modDp (fun d => { d with tasks := d.tasks.map (fun t => { t with ending := false }) }) s2

/-- Every task and every level's state is gone. -/
def clearTasks (s : State) : State :=
  modDp (fun d => { d with
    tasks := []
    levels := List.replicate 64 Level.zero
    tried := []
    waitRelease := [] }) s

/-- Decisions that commands wait for; those that the member's own blocks took are gone. -/
def isCommandHeld (d : Held) : Bool :=
  match d.what with
  | .command _ _ => true
  | .cancel _ _ _ => true
  | .eclRelease _ _ => true
  | .answer _ _ _ _ => true
  | .spotRelease _ _ => true
  | _ => false

/-- The decisions of the member's own blocks are gone. -/
def dropOwnDecisions (s : State) : State := modPair (fun p => { p with decisions := p.decisions.filter isCommandHeld }) s

/-- Every filter of the baseline engine is gone: each berth is NONE (R292). -/
def clearFilters (s : State) : State :=
  modBl (fun b => { b with
    filters := []
    waiting := []
    fixSums := [] }) s

/-- The satellites after PD_GNSS lost its power: almanac and ephemeris are lost (R188), every check starts anew (R211). -/
def coldSat (x : Sat) : Sat :=
  { Sat.new x.id with
    causes := x.causes
    causesWas := x.causesWas }

/-- PD_GNSS has lost its power: almanac, ephemeris, channels and links (R188, R211). -/
def gnssPowerLoss (s : State) : State :=
  let s1 := modGnss (fun g => { g with
    sats := (g.sats.filter (fun x => x.causes != 0)).map coldSat
    chans := []
    arrayFlag := false
    spoofCount := 0
    acqDone := 0
    acqTime := 0
    timeValid := false }) s
  [0, 1, 2, 3].foldl (fun t p => modGnPort p (fun x => { x with outage := none }) (setLink p 0 0 t)) s1

/-- PD_GNSS has its power again: the links of enabled ports start at CGS (R166). -/
def gnssReturn (s : State) : State :=
  [0, 1, 2, 3].foldl (fun t p => if (gnPort t p).enable then setLink p 1 0 t else t) s

/-- The self-check, the integrity word and the loss restart (R248). -/
def restartIntegrity (s : State) : State :=
  evalLasting 8 40 false (modCorr (fun c => { c with
    scState := 0
    e := [none, none, none, none]
    scFail := 0
    scOk := 0
    scLow := 0
    word := 2
    inCount := 0
    inZero := 0
    lost := false
    withheld := false }) s)

/-- The parts of the station settings that no reset clears, with the mode requested of this member: it starts as SOLO (R46, R248). -/
def corrKept (c : CorrSet6) (mode : Nat) : CorrSet6 :=
  { CorrSet6.zero with
    mode := mode
    refPos := c.refPos
    height := c.height
    result := c.result
    originMode := c.originMode
    origin := c.origin
    stationId := c.stationId
    itrf := c.itrf
    reduce := c.reduce
    setupId := c.setupId
    antenna := c.antenna
    serial := c.serial }

/-- The ledger entries, which no reset clears; bindings and remaining energies go with a WARM reset (R472). -/
def packsKept (l : List Pack) : List Pack := l.map (fun k => { k with
  remaining := none
  berth := none })

/-- The arming table at a reset of class WARM or stronger: the defaults of Table 1-4, with 0x0D as R27 judges it. -/
def armedAtReset (s : State) : Nat := 0x0802 + (if s.pair.mode = 1 ∧ s.vault.life = 1 then 2 ^ 13 else 0)

/-- The Eclipse state of a STANDBY survives a WARM reset in its own state (R401): the one it shows, or the one that a member that leaves the
pair adopts (R627). -/
def eclipseKept (s : State) : State :=
  if s.pair.role = 2 then
    let c := if s.pair.mode = 1 ∧ s.vault.life = 1 then eclCoreShown s else adoptedCore s
    modEcl (fun e => { e with
      state := c.state
      seq := c.seq
      cause := c.cause }) s
  else s

/-- The pair at a reset of class WARM or stronger (R480, R503): a member of a pair in MISSION starts as STANDBY; `took` is the count
of takeovers, kept since the COLD reset. -/
def pairAtReset (strap : Bool) (took : Nat) (s : State) : Pair :=
  let p := s.pair
  let q := Pair.fresh p.mode p.airEvidence p.joinWait p.timeTh strap took
  let q := { q with
    pinIn := p.pinIn
    lastEvidence := s.tb.gtc
    lastRenew := s.tb.gtc
    lastDelta := s.tb.gtc }
  if p.mode = 1 ∧ s.vault.life = 1 then { q with
    role := 2
    viewCommitted := s.repl.ecl
    viewPrio := { s.repl.ecl with
      state := 0
      spots := [] }
    viewPin := p.pinIn
    pinSince := s.tb.gtc } else q

/-- The boot of a reset of class WARM or stronger: image, standard and epoch nodes (R510, R531). -/
def bootDevice (s : State) : State := epochNodes (firstBoot (bootImage s))

/-- What follows the boot: the report of the reset and of the boot, the survey (R230), and the pins that are sampled all the time under
the default arming table (R23). In SCRAP nothing starts (R512). -/
def bootReports (cls cause master cleared : Nat) (s : State) : State :=
  let s1 := resetReport cls cause 0xFF master cleared s
  if s.vault.life = 0xFF then s1 else evalSampled (surveyRestart (emit 0xCD04 32 (fwBootPayload s1) s1))

/-! ### DOMAIN reset (R587) -/

/-- A head at its defaults but for the counters of RH_STATUS, which a WARM reset alone clears (R12, R326, R328). -/
def headDefault (x : Head) : Head :=
  { Head.zero with
    sent := x.sent
    delivered := x.delivered
    hdrFail := x.hdrFail
    fcsFail := x.fcsFail
    foreign := x.foreign
    dropped := x.dropped
    limited := x.limited
    notMade := x.notMade
    trips := x.trips }

/-- A head's port loses its power: transfers that wait are refused, its lines fall, its settings are at their defaults (R326). -/
def headOff (s : State) (h : Nat) : State := modHead h headDefault (dropLines h (refuseTransfers h s))

/-- A head's part of the MAC loses its power: what is on air ends, and what the spec keeps through a DOMAIN reset of PD_FLEET stays (R12). -/
def headMacOff (h : MacLocal) : MacLocal :=
  { h with
    burst := 0
    occupied := 0
    ftype := 0
    eclAir := false
    first := true }

/-- PD_FLEET loses its power: spot stops end (R401), tasks are lost (R472), berths, transits, zones and claims are cleared (R375,
R440), and a member of a pair is STANDBY (R502). -/
def fleetOff (s : State) : State :=
  let s1 := dropOwnDecisions (clearTasks (tasksLost (spotsEndAtReset s)))
  let s2 := clearBerths (modArb (fun a => { a with
    transits := []
    zones := []
    claims := []
    cfg := TrConfig.default
    berths := [] }) s1)
  let s3 := { s2 with mac := { s2.mac with heads := s2.mac.heads.map headMacOff } }
  if s.pair.role = 1 then modeChange 4 2 1 2 0 (toStandby 0 s3)
  else if s.pair.role = 2 then modPair (fun p => { p with fullDone := false }) (setQualified false 4 s3)
  else s3

/-- PD_CTRL loses its power: every session has ended (R587), volatile nodes and running operations are gone (R543). -/
def ctrlOff (s : State) : State :=
  clearVolatile { s with
    sessions := List.replicate 5 none
    hellos := List.replicate 5 none
    txq := List.replicate 5 [] }

/-- PD_MEM loses its power: contents of the spill queues, filters, tasks (Table 17-6). -/
def memOff (s : State) : State :=
  let s1 := { s with sqs := s.sqs.map (fun x => { x with
    push := none
    packets := []
    popPos := 0
    cutLeft := 0
    flushAt := none }) }
  clearFilters (dropOwnDecisions (clearTasks s1))

/-- PD_CAN loses its power; the stop identifiers hold no newest frame (R561, R562). -/
def canOff (s : State) : State := [0, 1, 2, 3].foldl (fun t c => dropStopFrames c t) { s with can := Can.zero }

/-- What a domain loses when a DOMAIN reset removes its power. -/
def domainOff (d : Nat) (s : State) : State :=
  match d with
  | 2 => portReports 3 s (portReports 0 s (portParts 3 (portParts 0 s)))
  | 3 => portReports 2 s (portReports 1 s (portParts 2 (portParts 1 s)))
  | 4 => gnssPowerLoss s
  | 5 => modGnss (fun g => { g with
      acqDone := 0
      acqTime := 0 }) s
  | 6 => clearFilters s
  | 7 => [0, 1].foldl headOff s
  | 8 => [2, 3].foldl headOff s
  | 9 => fleetOff s
  | 10 => ctrlOff s
  | 11 => memOff s
  | 12 => setLanes [false, false] 1 s
  | 13 => canOff s
  | _ => s

/-- DOMAIN_RESET (R587): the domain is off from 1 ms after the reply to RESET on. -/
def execDomainReset (d : Nat) (s : State) : Result :=
  done (match dueReset 2 16 d s with
    | none => s
    | some x =>
      let s1 := takeDue 2 16 d s
      if within d 2 13 = false ∨ s.pwr.off.any (fun o => o.dom == d) = true then s1
      else domainOff d (modPwr (fun p => { p with
        off := p.off ++ [⟨d, s.tb.gtc, x.master, (List.range 4).map (fun h => (headOfRh s h).port)⟩]
        domainResets := satAdd 32 p.domainResets 1 }) s1))

/-- RH_PORT with cause 4 for the heads of a domain that were not DISABLED (R326). -/
def headReports (hs ports : List Nat) (s : State) : State :=
  hs.foldl (fun t h => if nth ports h 0 = 0 then t else rhPort h (nth ports h 0) 0 4 t) s

/-- What a domain does when it has its power again. -/
def domainOn (o : DomOff) (s : State) : State :=
  match o.dom with
  | 4 => gnssReturn s
  | 7 => headReports [0, 1] o.ports s
  | 8 => headReports [2, 3] o.ports s
  | 10 =>
    let s1 := epochNodes (deriveSessions (newScramble s))
    let s2 := modPwr (fun p => { p with renewals := List.replicate 8 s.tb.gtc }) { s1 with banks := s1.banks.map (fun b => { b with dblWake := false }) }
    [0, 1, 2, 3].foldl (fun t n => drainCaptures n t) s2
  | 13 => [0, 1, 2, 3].foldl (fun t c => dropStopFrames c t) s
  | _ => s

/-- DOMAIN_RETURN (R587, R589): at the earliest after 1 ms off; a domain that failed stays off, and so does PD_CTRL when the running image
fails a check of R531 (DEDUCED; log entry 29). -/
def execDomainReturn (d : Nat) (came : Bool) (s : State) : Result :=
  let ok := came && (d != 10 || s.vault.recovery || imageCheck s s.vault.running == 0)
  done (match s.pwr.off.find? (fun o => o.dom == d) with
    | none => s
    | some o =>
      if sinceNs s o.since < 1000000 then s
      else
        let s1 := modPwr (fun p => { p with
          off := p.off.filter (fun x => x.dom != d)
          powered := if ok then p.powered else putBit p.powered d false }) s
        let s2 := resetReport 2 16 d o.master (domainMap d) s1
        let s3 := emit 0xD003 33 (leBytes 1 d ++ leBytes 1 (flag (!ok)) ++ zeros 2
          ++ leBytes 4 (min (sinceNs s o.since / 1000) 0xFFFFFFFF)) s2
        if ok then domainOn o s3 else s3)

/-! ### WARM reset (R586) -/

/-- Sessions, transports and host window at a WARM reset: mailboxes and the inbound doorbells stay (R105, Tables 3-4 and 3-5). -/
def hostWarm (s : State) : State :=
  { s with
    sessions := List.replicate 5 none
    hellos := List.replicate 5 none
    txq := List.replicate 5 []
    viols := List.replicate 5 Viol.zero
    rings := Rings.zero
    spi := ⟨[], false⟩
    limiters := []
    banks := s.banks.map (fun b => { b with
      mbxIrqEn := 0
      mbxWakeEn := 0
      dblWake := false
      dblOut := 0
      dblIrqEn := 0
      dblWakeEn := 0 })
    locks := List.replicate 64 0
    sqs := List.replicate 64 SpillQ.zero }

/-- The GNSS path at a WARM reset: settings and reaction exclusions go; host exclusions, noise references, almanac and ephemeris stay
(R188, R210). -/
def gnssWarm (g : Gnss) : Gnss :=
  { Gnss.zero with
    bands := (List.range 16).map (fun b => { Band.zero b with pnHost := (nth g.bands b (Band.zero b)).pnHost })
    sats := g.sats.map (fun x => { Sat.new x.id with
      eph := x.eph
      alm := x.alm
      healthy := x.healthy
      pos := x.pos
      rate := x.rate
      corr := x.corr
      u := x.u
      up := x.up
      az := x.az
      el := x.el
      causes := flag (bit x.causes 0) })
    epoch := g.epoch }

/-- The MAC's replicated state at a WARM reset: the meters stay (R371), the broadcast epoch starts from the reserved one (R338). -/
def macWarm (s : State) : Mac :=
  { Mac.zero s.mac.reservedEpoch with
    meters := s.repl.mac.meters
    oldSubs := meterSubs s.repl.mac }

/-- The replicated control state at a WARM reset (Table 17-6). -/
def replWarm (s : State) : Repl :=
  { s.repl with
    armed := armedAtReset s
    corr := corrKept s.repl.corr s.corr.modeReq
    bl := []
    blParam := BlParam.default
    mac := macWarm s
    dp := { s.repl.dp with
      berths := []
      packs := packsKept s.repl.dp.packs
      bypassLimit := 8
      reserve := 15
      perPass := 4
      tried := []
      waitRelease := [] } }

/-- Eclipse's own part at a WARM reset: the settings of ECL_CONFIG_SET go (R401), and with them and the blocks that restart the
conditions of triggers 4, 7 and 8. -/
def eclWarm (e : Eclipse) : Eclipse :=
  { e with
    tFilt := 100
    discTime := 50
    releaseDelay := 20
    mcs := [2, 2, 2, 2]
    ids := List.replicate 4 StopId.off
    active := e.active.filter (fun x => !within x.1 4 8) }

/-- Power at a WARM reset: power settings go, watchdog settings and counters since COLD stay. -/
def pwrWarm (s : State) (p : Power) : Power :=
  { p with
    state := 0
    requested := 0
    wakeState := 0
    wakeTime := 0
    owed := none
    causes := 0
    since := if p.state = 0 then p.since else s.tb.gtc
    hostUp := none
    wakes := 0
    retention := false
    powered := 0x3FFF
    off := []
    warmResets := satAdd 32 p.warmResets 1
    renewals := List.replicate 8 s.tb.gtc
    bootSince := some s.tb.gtc
    renewed := 0
    avsLo := 650
    avsHi := 850
    avsFixed := none
    avsHighSince := none
    avsNegSince := none
    thWarn := 14000
    flash := [] }

/-- What a WARM reset changes in a mode dimension is a MODE_CHANGE; the radio mode restarts at OFF (R48). -/
def modesAfterWarm (b s : State) : State :=
  let say (dim old new by' : Nat) (t : State) : State := if old = new then t else modeChange 33 dim old new by' t
  say 7 b.repl.corr.mode s.repl.corr.mode 2 (say 5 b.modes.radio 0 0 (say 4 b.pwr.state s.pwr.state 0
    (say 3 (eclShown b) (eclShown s) 0 (say 2 b.pair.role s.pair.role (if s.vault.life = 1 then 0 else 1) s))))

/-- A WARM reset (R586, R590). -/
def warmReset (cause master : Nat) (s : State) : State :=
  let cleared := Nat.lor warmMap (runningMap s)
  let s1 := eclipseKept (tasksLost (spotsEndAtReset { s with sessions := List.replicate 5 none }))
  let s2 := hostWarm (clearVolatile (dropDue 3 s1))
  let s3 := { s2 with
    repl := replWarm s2
    tb := { s2.tb with
      captures := List.replicate 4 Capture.zero
      ptp := List.replicate 2 PtpPort.zero }
    gnss := gnssWarm s2.gnss
    corr := { Corr.zero with modeReq := s.corr.modeReq }
    bl := Baseline.zero
    rh := List.replicate 4 Head.zero
    mac := { MacOwn.zero with
      requested := s2.mac.requested
      reservedEpoch := s2.mac.reservedEpoch }
    ecl := eclWarm s2.ecl
    trown := TrOwn.zero
    dpown := DpOwn.zero
    pair := pairAtReset s2.pair.strapHigh s2.pair.takeovers s2
    vault := { s2.vault with
      openFails := 0 }
    can := Can.zero
    comet := { s2.comet with
      trigs := []
      missed := 0
      missedSince := 0
      clw := List.replicate 4 Clw.zero }
    pwr := pwrWarm s2 s2.pwr
    modes := { s2.modes with radio := 0 } }
  modesAfterWarm s1 (bootReports 3 cause master cleared (bootDevice s3))

/-! ### COLD reset (R586) -/

/-- Some of the bits of bytes: those that a free value names. -/
def someBits (mask w : List Byte) : List Byte := (mask.zip w).map (fun x => x.1 &&& x.2)

/-- Fuse bits are blown beside those that are blown already. -/
def blowMore (w : List Byte) (s : State) : State :=
  modVault (fun v => { v with blown := (v.blown.zip w).map (fun x => x.1 ||| x.2) }) s

/-- A life-cycle transition that is cut off: which fuses are blown already is a free value, in the order of R507 and R511. -/
def cutLife (target step : Nat) (s : State) : State :=
  if step = 0 then s
  else if step = 1 then killRoot target s
  else if step = 2 then blowBit target 0 (killRoot target s)
  else blowBit target 1 (blowBit target 0 (killRoot target s))

/-- A provisioning that is cut off: within the KCV and site number, within the root, before the completion fuse, or after it (R515). -/
def cutRoot (w : List Byte) (step : Nat) (mask : List Byte) (s : State) : State :=
  let f := fuseBytes s w
  if step = 0 then blowMore (someBits (mask.take 8) (f.take 8) ++ zeros 33) s
  else if step = 1 then blowMore (f.take 8 ++ someBits (mask.drop 8) (f.drop 8)) s
  else if step = 2 then blowMore f s
  else fuseRoot w s

/-- A fuse write that a COLD reset cuts off: how far it has come is a free value (R507, R515; log entry 4). -/
def cutFuses (s : State) : State :=
  match s.pwr.fuse with
  | none => s
  | some j =>
    let n := (fresh s).1 % 4
    let m := freshBytes 41 (fresh s).2
    let t := modPwr (fun p => { p with fuse := none }) m.2
    if j.kind = 0 then cutLife (u8 j.payload 0) n t else cutRoot j.payload n m.1 t

/-- Eclipse after a COLD reset (R401): the pins stand as they stand, and a tamper latch that is still set is an active condition
(R539). -/
def eclCold (s : State) : Eclipse :=
  { Eclipse.cold with
    stopA := s.ecl.stopA
    stopB := s.ecl.stopB
    latched := 0x400 + 2 * flag (!s.ecl.stopA) + 4 * flag s.ecl.stopB
    discSince := if s.ecl.stopA = s.ecl.stopB then some 0 else none
    active := (if s.ecl.stopA then [] else [(1, 8)]) ++ (if s.ecl.stopB then [(2, 9)] else [])
      ++ ((List.range 4).filter (fun n => s.vault.latch && bit s.vault.inputs n)).map (fun n => (9, 10 + n)) }

/-- The replicated control state after a COLD reset: what NEVER is cleared stays (R248, R472, R479, R338). -/
def replCold (s : State) : Repl :=
  { Repl.cold with
    armed := armedAtReset s
    corr := corrKept s.repl.corr s.corr.modeReq
    mac := Mac.zero s.mac.reservedEpoch
    dp := { Dispatch.zero with packs := packsKept s.repl.dp.packs }
    cycleT := s.repl.cycleT
    ackLimit := s.repl.ackLimit }

/-- Power after a COLD reset; the domains of a reset that is held stay off. -/
def pwrCold (held : Bool) (p : Power) : Power :=
  { Power.cold with
    refLost := p.refLost
    perst := p.perst
    rtc := p.rtc
    hours := p.hours
    cycles := p.cycles
    powered := if held then 3 else 0x3FFF
    monitors := p.monitors
    thTop := p.thTop
    thSensor := p.thSensor
    tripHeld := p.tripHeld
    calib := p.calib
    calUser := p.calUser
    calCount := p.calCount
    resets := p.resets.filter (fun d => decide (4 < d.cls)) }

/-- Whether a COLD reset is held: after a thermal trip until the junction has cooled (R596), and for good under the reserved straps
(Table 18-4). -/
def resetHeld (bootSel : Nat) (s : State) : Bool := s.pwr.tripHeld || bootSel == 3

/-- The end of a COLD reset: the boot and its reports; `last` is the power-cycle count of the last power cycle. -/
def coldBoot (cause last cleared : Nat) (s : State) : State :=
  bootReports 4 cause 0xFF cleared (cometBoot last (tamperAtBoot (bootDevice (newScramble s))))

/-- A COLD reset (R586, R590, R608): `last` is the power-cycle count of the last power cycle. -/
def coldReset (cause last bootSel : Nat) (strap : Bool) (s0 : State) : State :=
  let cleared := Nat.lor coldMap (runningMap s0)
  let s := clearVolatile (cutFuses s0)
  let s1 := { s with
    sessions := List.replicate 5 none
    hellos := List.replicate 5 none
    txq := List.replicate 5 []
    viols := List.replicate 5 Viol.zero
    rings := Rings.zero
    spi := ⟨[], false⟩
    limiters := []
    banks := List.replicate 4 Bank.zero
    locks := List.replicate 64 0
    lckForced := 0
    sqs := List.replicate 64 SpillQ.zero
    repl := replCold s
    tb := Timebase.cold s.pwr.rtc (calOffset s)
    gnss := Gnss.zero
    corr := { Corr.zero with modeReq := s.corr.modeReq }
    bl := Baseline.zero
    rh := List.replicate 4 Head.zero
    mac := { MacOwn.zero with reservedEpoch := s.mac.reservedEpoch }
    ecl := eclCold s
    trown := TrOwn.zero
    dpown := DpOwn.zero
    can := Can.zero
    comet := { s.comet with
      trigs := []
      waiting := []
      tail := []
      seq := 0
      missed := 0
      missedSince := 0
      flushing := none
      clw := List.replicate 4 Clw.zero
      frozenSince := 0 }
    vault := { s.vault with
      openFails := 0 }
    pwr := pwrCold (resetHeld bootSel s) s.pwr
    modes := { s.modes with radio := 0 }
    pins := { s.pins with
      bootSel := bootSel
      pfailN := true
      resetN := true } }
  let s2 := { s1 with pair := pairAtReset strap 0 s1 }
  if resetHeld bootSel s2 then s2 else coldBoot cause last cleared s2

/-- VBAT_RESET: everything but what is stored in flash or fused restarts (R586, R590); the VBAT share is gone (R537). -/
def vbatReset (bootSel : Nat) (strap : Bool) (s : State) : State :=
  let r := State.reset
  let s1 := cutFuses s
  let s2 := { r with
    pending := s.pending
    outs := s.outs
    free := s1.free
    clockStep := s.clockStep
    net := s.net
    tb := Timebase.cold 0 (calOffset s)
    ecl := { eclCold { s with vault := { s.vault with latch := false } } with entry := 0 }
    repl := { replCold s1 with cycleT := s.repl.cycleT }
    mac := { MacOwn.zero with reservedEpoch := s.mac.reservedEpoch }
    vault := { s1.vault with
      share := none
      locked := false
      openFails := 0
      ops := []
      tamper := List.replicate 4 TamperIn.zero
      tLocked := false
      latch := false
      inputs := 0
      firstRtc := 0
      events := 0
      tamperOwed := [] }
    comet := { Comet.zero with
      general := s.comet.general
      pinned := s.comet.pinned
      areas := s.comet.areas
      validArea := s.comet.validArea }
    pwr := { Power.cold with
      refLost := s.pwr.refLost
      perst := s.pwr.perst
      powered := if bootSel = 3 then 3 else 0x3FFF
      monitors := s.pwr.monitors
      calib := s.pwr.calib
      calUser := s.pwr.calUser
      calCount := s.pwr.calCount }
    pins := { r.pins with
      bootSel := bootSel
      testMode := s.pins.testMode
      dramFails := s.pins.dramFails } }
  let s3 := { s2 with pair := pairAtReset strap 0 { s2 with pair := { s.pair with strapHigh := strap } } }
  let s4 := { s3 with repl := { s3.repl with armed := armedAtReset s3 } }
  if bootSel = 3 then clearVolatile s4
  else bootReports 5 64 0xFF (mapOf (List.range 45)) (cometBoot s.pwr.cycles (bootDevice (newScramble (clearVolatile s4))))

/-- THERMAL_CHANGE (R596): at 160.00 degrees a COLD reset with cause 52 is due; it is held until the sensor reads below 145.00, and ends
then. -/
def execThermalChange (sensor : Nat) (temp : Int) (s : State) : Result :=
  let s1 := modPwr (fun p => { p with
    thTop := temp
    thSensor := sensor }) s
  done (if s.pwr.state = 4 then s
    else if s.pwr.tripHeld = false then
      (if 16000 ≤ temp then askReset 4 52 0xFF 0xFF (modPwr (fun p => { p with tripHeld := true }) (thermalStep s1)) else thermalStep s1)
    else if 14500 ≤ temp then s1
    else
      let s2 := modPwr (fun p => { p with tripHeld := false }) s1
      if s.pwr.state = 3 ∨ bit s.pwr.powered 10 = true ∨ s.pins.bootSel = 3 then s2
      else coldBoot 52 s.pwr.cycles coldMap (modPwr (fun p => { p with powered := 0x3FFF }) s2))

/-! ### The watchdog's bites (R591, R592) -/

/-- Whether a watchdog channel has reached its full timeout. -/
def biteDue (s : State) (c : Nat) : Bool :=
  fwRuns s && decide (c < 8) && decide (s.pwr.wdTimeout * 1000000 ≤ sinceNs s (nth s.pwr.renewals c 0))

/-- Whether a warm bite now would fall within the escalation window of the previous one. -/
def escalates (s : State) : Bool :=
  match s.pwr.lastBite with
  | none => false
  | some t => decide (sinceNs s t ≤ s.pwr.wdWindow * sec)

/-- Whether the firmware that a WARM reset started has not renewed every channel within 2 s. -/
def bootLate (s : State) : Bool :=
  match s.pwr.bootSince with
  | none => false
  | some t => fwRuns s && decide (2 * sec ≤ sinceNs s t) && s.pwr.renewed != 255

/-- A cold bite: the flush of R571, then a COLD reset with cause 50. -/
def coldBite (s : State) : State :=
  coldReset 50 s.pwr.cycles s.pins.bootSel s.pair.strapHigh (flushEnd (flushBegin (recordAll (endFreezes s))))

/-- A warm bite: counted, its WARM reset has cause 33. -/
def warmBite (s : State) : State :=
  modPwr (fun p => { p with
    bites := satAdd 16 p.bites 1
    lastBite := some s.tb.gtc }) (warmReset 33 0xFF s)

/-- A bite of a channel that has reached its timeout. -/
def bite (s : State) : State := if escalates s then coldBite s else warmBite s

/-- WATCHDOG_BITE (R591, R592): the cores that still run report the late ones first. -/
def execWatchdogBite (core : Nat) (s : State) : Result := done (if biteDue s core then bite (watchdogReport s) else s)

/-- WATCHDOG_BOOT_TIMEOUT (R592). -/
def execWatchdogBootTimeout (s : State) : Result := done (if bootLate s then coldBite s else s)

/-- Whether any channel's bite is due. -/
def anyBite (s : State) : Bool := (List.range 8).any (biteDue s)

/-- The WARM reset that comes in place of a wake (R584): tamper responses that waited for the wake follow it (R538). -/
def wakeReset (s : State) : State := tamperPending (warmReset 35 0xFF s)

/-- WARM_RESET (R586): by a RESET command or LC_ADVANCE 1 ms after the reply, by a warm bite, or in place of a wake. -/
def execWarmReset (cause : Nat) (s : State) : Result :=
  done (if cause = 32 ∨ cause = 34 then
      match dueReset 3 cause 0xFF s with
      | none => s
      | some d => if s.pwr.state = 4 then s else warmReset cause d.master s
    else if cause = 33 then (if anyBite s = true ∧ escalates s = false then bite s else s)
    else if cause = 35 ∧ s.pwr.state = 3 then wakeReset s
    else s)

/-- A COLD reset at power-on, which counts a power cycle. -/
def powerOn (bootSel : Nat) (strap : Bool) (s : State) : State :=
  coldReset 48 s.pwr.cycles bootSel strap (modPwr (fun p => { p with cycles := (p.cycles + 1) % 2 ^ 32 }) s)

/-- COLD_RESET (R586): power-on out of STANDBY, RESET_N, a cold bite, a tamper or a thermal trip that is due. -/
def execColdReset (cause bootSel : Nat) (strapHigh : Bool) (s : State) : Result :=
  done (match cause with
    | 48 => if s.pwr.state = 4 then powerOn bootSel strapHigh s else s
    | 49 => if s.pwr.state = 4 then s else coldReset 49 s.pwr.cycles bootSel strapHigh s
    | 50 => if bootLate s || (anyBite s && escalates s) then coldBite s else s
    | 51 => if s.pwr.state ≠ 4 ∧ s.pwr.resets.any (fun d => d.cls == 4 && d.cause == 51) = true then
        coldReset 51 s.pwr.cycles bootSel strapHigh s else s
    | 52 => if s.pwr.state ≠ 4 ∧ s.pwr.resets.any (fun d => d.cls == 4 && d.cause == 52) = true then
        coldReset 52 s.pwr.cycles bootSel strapHigh s else s
    | _ => s)

/-- VBAT_RESET (R586): power-on after VBAT was lost. -/
def execVbatReset (bootSel : Nat) (strapHigh : Bool) (s : State) : Result := done (vbatReset bootSel strapHigh s)

/-- RESET_N_LOW (R621): a COLD reset with cause 49, without a flush (R571). -/
def execResetNLow (bootSel : Nat) (strapHigh : Bool) (s : State) : Result :=
  done (if s.pwr.state = 4 then s else coldReset 49 s.pwr.cycles bootSel strapHigh s)

/-- MAIN_SUPPLY_LOSS (R579, R611): PD_VBAT alone runs; a flush that has not written its header is lost. -/
def execMainSupplyLoss (s : State) : Result :=
  done (if s.pwr.state = 4 then s
    else modPwr (fun p => { p with
      state := 4
      requested := 0
      owed := none
      since := s.tb.gtc
      hostUp := none
      wakes := 0
      retention := false
      tripHeld := false
      powered := 1
      off := []
      flash := []
      resets := [] }) (modComet (fun c => { c with
        waiting := []
        flushing := none }) { s with
          sessions := List.replicate 5 none
          hellos := List.replicate 5 none
          txq := List.replicate 5 [] }))

/-! ### SLEEP and wake (R581 to R585) -/

/-- The CAN controllers at SLEEP entry: objects, buffers and counters go, settings, filters and the detection table stay (R562). -/
def canSleep (x : CanCtl) : CanCtl :=
  { CanCtl.zero with
    mode := x.mode
    flags := x.flags
    tdc := x.tdc
    timing := x.timing
    rejects := x.rejects
    ext := x.ext
    detect := x.detect }

/-- A detection starts again from its first entry (log entry 26). -/
def detectAgain (now : Gtc) (d : CanDetect) : CanDetect :=
  { d with
    entry := 0
    start := now
    entrySince := now
    good := 0
    brs := false
    seen := 0 }

/-- The CAN controllers at wake: those that are configured start again (R548, R561). -/
def canWake (s : State) : State :=
  [0, 1, 2, 3].foldl (fun (t : State) c =>
    let m := (ctlOf t c).mode
    let d := (ctlOf t c).detect
    let t1 := dropStopFrames c (modCtl c (fun x => { x with
      sync := m != 0 || d.isSome
      detect := d.map (detectAgain s.tb.gtc) }) t)
    if d.isSome then canState c 2 0 t1 else if m = 0 then t1 else canState c (if m = 2 then 3 else m) 0 t1) s

/-- A head at SLEEP entry: its delays and learned gain steps go (R326), and its port has no clock. -/
def headSleep (x : Head) : Head :=
  { x with
    delays := [0, 0, 0]
    learned := []
    port := if x.set.enable then 1 else 0
    tr := false
    paen := false
    chan := none
    want := none
    test := none
    queue := [] }

/-- The heads at wake: those that are enabled run their enable script and tune again (R301, R321). -/
def headsWake (s : State) : State :=
  [0, 1, 2, 3].foldl (fun (t : State) h =>
    let n := (headOfRh t h).set
    if n.enable then
      tune h (nth t.repl.mac.heads h MacHead.default).chan
        (if n.enScript = 0xFFFF then t else queueScript h ⟨0, n.enScript, 0, none⟩ t)
    else t) s

/-- Step 2 of R581: survey, and the groups that Table 17-6 marks "cleared" at SLEEP entry. -/
def sleepClear (s : State) : State :=
  let s1 := clearVolatile (clearFilters (clearBerths (spotsEndAtReset (surveyAbort s))))
  let s2 := [0, 1, 2, 3].foldl (fun t h => refuseTransfers h t) s1
  let s3 := gnssPowerLoss { s2 with
    rings := Rings.zero
    spi := ⟨[], false⟩
    rh := s2.rh.map headSleep
    can := { s2.can with ctls := s2.can.ctls.map canSleep }
    trown := { s2.trown with berths := [] } }
  setLanes [false, false] 1 s3

/-- SLEEP_ENTRY (R580, R581): at a unit boundary at which no deferral cause holds; a pair role other than SOLO forbids SLEEP (Table 1-11). -/
def execSleepEntry (s : State) : Result :=
  done (if sleepAsked s = false ∨ deferral s ≠ 0 ∨ s.pair.role ≠ 0 ∨ 2 < s.pwr.state then s
    else
      let s1 := answerSleep 0 s
      let s2 := [0, 1, 2, 3, 4].foldl (fun t m => endSession m 6 t) { s1 with
        hellos := List.replicate 5 none
        txq := List.replicate 5 [] }
      let s3 := pwrEvent s.pwr.state 3 0 0 0 0 s2
      let s4 := sleepClear (if holding s3.tb then s3 else enterHoldover s3)
      put (.avs s4.pwr.avsLo) (modPwr (fun p => { p with
        state := 3
        since := s.tb.gtc
        retention := true
        avsV := p.avsLo
        hostUp := none
        wakes := 0
        powered := 3
        off := [] }) s4))

/-- Whether a wake source of Table 17-5 holds. -/
def wakeHolds (code : Nat) (s : State) : Bool :=
  match code with
  | 1 => s.pwr.wakeTime != 0 && decide (s.pwr.wakeTime ≤ s.pwr.rtc)
  | 2 => aDemands s || bDemands s
  | 3 => s.pair.pinIn
  | 4 => bit s.pwr.wakes 4
  | 5 => bit s.pwr.wakes 5
  | 6 => s.can.ctls.any (fun c => c.mode != 0 && bit c.flags 2)
  | 7 => s.pwr.hostUp.isSome && bit s.pwr.wakes 7
  | _ => false

/-- The wake of R584: power state and requested power state become the wake state, which no command of this moment asked for (R48). -/
def wake (code : Nat) (s0 : State) : State :=
  let s := newScramble s0
  let n := s.pwr.wakeState
  let s1 := modPwr (fun p => { p with
    state := n
    requested := n
    wakeTime := 0
    lastWake := code
    since := s.tb.gtc
    hostUp := none
    wakes := 0
    retention := false
    powered := 0x3FFF
    renewals := List.replicate 8 s.tb.gtc }) s
  let s2 := { s1 with
    trown := { s1.trown with napExit := s.tb.gtc }
    banks := s1.banks.map (fun b => { b with dblWake := false }) }
  let s3 := epochNodes (restartIntegrity (surveyRestart (gnssReturn s2)))
  let s4 := tamperPending (canWake (headsWake s3))
  modeChange 33 4 3 n 0 (pwrEvent 3 n 1 0 code sleepMap s4)

/-- WAKE_SOURCE (R582, R584): a retention image that fails its check is discarded and a WARM reset with cause 35 comes in its place. -/
def execWakeSource (code : Nat) (retained : Bool) (s : State) : Result :=
  done (if s.pwr.state ≠ 3 ∨ wakeHolds code s = false then s
    else if retained then wake code s
    else wakeReset (modPwr (fun p => { p with lastWake := code }) s))

/-- TC_EDGE (R156, R157): sampled in RUN, DOZE and NAP; in SLEEP an edge of an input with its wake bit is a wake source and is not
captured. -/
def execTcEdge (n : Nat) (falling : Bool) (s : State) : Result :=
  done (if s.pwr.state ≤ 2 then captureEdge n falling s
    else if (nth s.tb.captures n Capture.zero).wake then askWake 5 s else s)

end Sys2Proof.Machine
end

