-- ==== Sys2Proof/Machine/Window.lean ====
section
/-!
DEFINITION. Sys2Proof/Machine/Window.lean: chapter 3: the host window with its blocks, and the commands WIN_READ and WIN_WRITE.
-/
namespace Sys2Proof.Machine
open Sys2Proof

/-! ### ID_ (Table 3-2) -/

/-- A read of the ID_ block. -/
def idRead (m off : Nat) (s : State) : Option Nat :=
  match off with
  | 0x000 => some 0x02B19256
  | 0x004 => some s.vault.fw
  | 0x008 => some (s.vault.devId % 2 ^ 32)
  | 0x00C => some (s.vault.devId / 2 ^ 32)
  | 0x010 => some m
  | _ => none

/-! ### MBX_ (Table 3-4) -/

/-- Bits of the inbound mailboxes of a bank. -/
def inBits (f : MbxIn → Bool) (b : Bank) : Nat := bitsOf (b.inb.map f)

/-- Bits of the outbound mailboxes of a bank. -/
def outBits (f : MbxOut → Bool) (b : Bank) : Nat := bitsOf (b.outb.map f)

/-- A read of an outbound mailbox word (R102). -/
def mbxOutRead (w : Nat) (o : MbxOut) : Nat × MbxOut :=
  if w = 0 then (nth o.data 0 0, { o with
    latch := o.data
    latched := true
    postedSince := false })
  else if w = 15 then (nth o.latch 15 0, { o with
    full := o.full && o.postedSince
    coll := o.coll || (o.full && o.postedSince) })
  else (nth o.latch w 0, o)

/-- A read of the MBX_ bank of a master. -/
def mbxRead (m off : Nat) (s : State) : Option (Nat × State) :=
  let b := bankOf s m
  if off < 0x400 then some (0, s)
  else if off < 0x800 then
    let n := (off - 0x400) / 64
    let r := mbxOutRead (off % 64 / 4) (nth b.outb n MbxOut.zero)
    some (r.1, modBank m (fun b => { b with outb := b.outb.set n r.2 }) s)
  else match off with
    | 0x800 => some (inBits (fun x => x.full) b, s)
    | 0x804 => some (inBits (fun x => x.coll) b, s)
    | 0x808 => some (outBits (fun x => x.full) b, s)
    | 0x80C => some (outBits (fun x => x.coll) b, s)
    | 0x810 => some (b.mbxIrqEn, s)
    | 0x814 => some (b.mbxWakeEn, s)
    | 0x818 => some ((fieldRC b.mbxDiscarded).1, modBank m (fun b => { b with mbxDiscarded := (fieldRC b.mbxDiscarded).2 }) s)
    | _ => none

/-- A write of an inbound mailbox word: word 15 posts (R100, R101). -/
def mbxInWrite (w v : Nat) (x : MbxIn) : MbxIn :=
  let g := x.staging.set w v
  if w = 15 then { x with
    staging := g
    data := g
    full := true
    coll := x.coll || x.full }
  else { x with staging := g }

/-- W1C of the collision flags of the inbound mailboxes. -/
def inCollW1C (v : Nat) (l : List MbxIn) : List MbxIn :=
  (List.range l.length).map (fun i =>
    let x := nth l i MbxIn.zero
    { x with coll := x.coll && !bit v i })

/-- W1C of the collision flags of the outbound mailboxes. -/
def outCollW1C (v : Nat) (l : List MbxOut) : List MbxOut :=
  (List.range l.length).map (fun i =>
    let x := nth l i MbxOut.zero
    { x with coll := x.coll && !bit v i })

/-- A write of the MBX_ bank of a master; registers that are read-only ignore it (R10). The last word posts, which in SLEEP is a wake source
(R103, Table 17-5). -/
def mbxWrite (m off v : Nat) (s : State) : Option State :=
  if off < 0x400 then
    some ((if off % 64 = 60 then askWake 7 else id) (modBank m (fun b => { b with
      inb := modNth b.inb (off / 64) (mbxInWrite (off % 64 / 4) v) }) s))
  else if off < 0x800 then some s
  else match off with
    | 0x804 => some (modBank m (fun b => { b with inb := inCollW1C v b.inb }) s)
    | 0x80C => some (modBank m (fun b => { b with outb := outCollW1C v b.outb }) s)
    | 0x810 => some (if m = 0 then modBank m (fun b => { b with mbxIrqEn := fieldRW b.mbxIrqEn (v % 65536) }) s else s)
    | 0x814 => some (modBank m (fun b => { b with mbxWakeEn := fieldRW b.mbxWakeEn (v % 65536) }) s)
    | 0x800 => some s
    | 0x808 => some s
    | 0x818 => some s
    | _ => none

/-! ### DBL_ (Table 3-5) -/

/-- A read of the DBL_ bank of a master. -/
def dblRead (m off : Nat) (s : State) : Option Nat :=
  let b := bankOf s m
  match off with
  | 0x000 => some (flag b.dblWake + 2 ^ 31 * flag b.dblEclipse)
  | 0x004 => some b.dblOut
  | 0x008 => some b.dblIrqEn
  | 0x00C => some b.dblWakeEn
  | _ => none

/-- The WAKE doorbell is set; the device clears it when PD_CTRL runs (Table 3-5). In SLEEP it is a wake source (Table 17-5). -/
def dblWakeSet (m : Nat) (s : State) : State := askWake 7 (modBank m (fun b => { b with dblWake := !efbexRuns s }) s)

/-- The ECLIPSE doorbell is set: the trigger logic latches trigger 6 and clears it (R114, R387). In SLEEP it is a wake source (Table 17-5). -/
def eclipseBell (m : Nat) (s : State) : State :=
  latchTrigger 6 m m 0 (askWake 7 (modBank m (fun b => { b with dblEclipse := false }) s))

/-- A set of inbound doorbells. -/
def dblInWrite (m v : Nat) (s : State) : State :=
  let s1 := if bit v 0 then dblWakeSet m s else s
  if bit v 31 then eclipseBell m s1 else s1

/-- A write of the DBL_ bank of a master. -/
def dblWrite (m off v : Nat) (s : State) : Option State :=
  match off with
  | 0x000 => some (dblInWrite m v s)
  | 0x004 => some (modBank m (fun b => { b with dblOut := fieldW1C b.dblOut v }) s)
  | 0x008 => some (if m = 0 then modBank m (fun b => { b with dblIrqEn := fieldRW b.dblIrqEn v }) s else s)
  | 0x00C => some (modBank m (fun b => { b with dblWakeEn := fieldRW b.dblWakeEn v }) s)
  | _ => none

/-! ### LCK_ (Table 3-6) -/

/-- The locks that a master holds, 32 from the given one on. -/
def locksMine (m first : Nat) (s : State) : Nat := bitsOf ((List.range 32).map (fun k => nth s.locks (first + k) 0 == m + 1))

/-- A read of LCK_k takes a free lock and returns 0; a held one returns its owner plus 1 (R116). -/
def lockRead (m k : Nat) (s : State) : Nat × State :=
  let o := nth s.locks k 0
  (o, if o = 0 then { s with locks := s.locks.set k (m + 1) } else s)

/-- A read of the LCK_ block. -/
def lckRead (m off : Nat) (s : State) : Option (Nat × State) :=
  if off < 0x100 then some (lockRead m (off / 4) s)
  else if off < 0x200 then some (nth s.locks ((off - 0x100) / 4) 0, s)
  else match off with
    | 0x200 => some (0, s)
    | 0x208 => some (locksMine m 0 s, s)
    | 0x20C => some (locksMine m 32 s, s)
    | 0x210 => some ((fieldRC s.lckForced).1, { s with lckForced := (fieldRC s.lckForced).2 })
    | _ => none

/-- A write of the LCK_ block: only the owner releases a lock (R118). -/
def lckWrite (m off v : Nat) (s : State) : Option State :=
  if off < 0x200 then some s
  else match off with
    | 0x200 => if nth s.locks (v % 64) 0 = m + 1 then some { s with locks := s.locks.set (v % 64) 0 } else none
    | 0x208 => some s
    | 0x20C => some s
    | 0x210 => some s
    | _ => none

/-! ### SQ_ (Table 3-8) -/

/-- SQ_STAT. -/
def sqStat (x : SpillQ) : Nat := bitsOf [x.ovf, x.ecc, x.abandon, decide (1024 < sqLevel x), x.cut]

/-- A read of the registers of a queue under the rights of R128. -/
def sqRead (m q r : Nat) (eccBad : Bool) (s : State) : Option (Nat × State) :=
  let x := sqOf s q
  match r with
  | 0x00 => some (flag x.en + 2 * flag x.flushAt.isSome, s)
  | 0x04 => some (x.producer + 256 * x.consumer + 65536 * x.middle, s)
  | 0x08 => some (0, s)
  | 0x0C => some (0, s)
  | 0x10 => if x.consumer = m then some (sqPopLen x, s) else none
  | 0x14 => if x.consumer = m then some (sqPop q eccBad s) else none
  | 0x18 => some (sqLevel x, s)
  | 0x1C => some (x.packets.length, s)
  | 0x20 => some (sqStat x, s)
  | 0x24 => some ((fieldRC x.dropped).1, modSq q (fun x => { x with dropped := (fieldRC x.dropped).2 }) s)
  | _ => none

/-- A write of SQ_CTRL. -/
def sqCtrlWrite (q v : Nat) (s : State) : State :=
  let s1 := modSq q (fun x => { x with en := bit v 0 }) s
  if bit v 1 then sqFlush q s1 else s1

/-- A write of the registers of a queue under the rights of R128. -/
def sqWrite (m q r v : Nat) (s : State) : Option State :=
  let x := sqOf s q
  match r with
  | 0x00 => if x.producer = m ∨ x.consumer = m then some (sqCtrlWrite q v s) else none
  | 0x08 => if x.producer = m then some (sqPushLen q (v % 8192) s) else none
  | 0x0C => if x.producer = m then some (sqPushWord q v s) else none
  | 0x20 => if x.producer = m ∨ x.consumer = m then some (modSq q (fun x => { x with
      ovf := x.ovf && !bit v 0
      ecc := x.ecc && !bit v 1
      abandon := x.abandon && !bit v 2
      cut := x.cut && !bit v 4 }) s) else none
  | _ => none

/-! ### CLW_ (Table 16-5) -/

/-- A read of a master's window on the log. -/
def clwRead (m off : Nat) (s : State) : Option (Nat × State) :=
  let c := clwOf s m
  if 0x100 ≤ off ∧ off < 0x200 then some (clwData m ((off - 0x100) / 4) s)
  else match off with
    | 0x000 => some (c.area + 4 * flag c.freeze + 8 * flag c.advance, s)
    | 0x004 => some (c.cursor, s)
    | 0x008 => some (clwStat m s, s)
    | 0x00C => some (newestSeq s, s)
    | 0x010 => some (oldestSeq s, s)
    | 0x014 => some (clwNucleus s, s)
    | 0x018 => some (s.comet.missed, s)
    | 0x01C => some (frozenMs s, s)
    | _ => none

/-- A write of a master's window on the log. -/
def clwWrite (m off v : Nat) (s : State) : Option State :=
  if 0x100 ≤ off ∧ off < 0x200 then some s
  else match off with
    | 0x000 => some (clwCtrl m v s)
    | 0x004 => some (clwCursor m v s)
    | 0x008 => some s
    | 0x00C => some s
    | 0x010 => some s
    | 0x014 => some s
    | 0x018 => some s
    | 0x01C => some s
    | _ => none

/-! ### TBR_ and PFZ_ (Tables 4-7 and 3-9) -/

/-- A read of the TBR_ block: TBR_GTC_LO latches the time registers (R162), TBR_TC reads clear OVF. -/
def tbrAccess (m off : Nat) (s : State) : Option (Nat × State) :=
  if tbrMapped off = false then none
  else
    let v := tbrRead m off s
    if off = 0 then some (v, modTb (fun b => { b with latches := b.latches.set m (tbrLatch s) }) s)
    else if 0x80 ≤ off then some (v, modCapture ((off - 0x80) / 4) (fun c => { c with ovf := false }) s)
    else if off = 0x20 then some (v, (fresh s).2)
    else some (v, s)

/-- Tag failures of a master in the present 10 s window. -/
def authCount (m : Nat) (s : State) : Nat := ((violOf s m).tagFails.filter (fun t => decide (sinceNs s t < 10 * sec))).length

/-- Sequence abuses of a master in the present 1 s window. -/
def abuseCount (m : Nat) (s : State) : Nat := ((violOf s m).seqAbuse.filter (fun t => decide (sinceNs s t < sec))).length

/-- A read of the PFZ_ block. -/
def pfzRead (m off : Nat) (s : State) : Option Nat :=
  if off = 0x000 then some (bitsOf ([0, 1, 2, 3, 4].map (frozen s)))
  else if off = 0x004 then some (m + 256 * flag (frozen s m))
  else if off = 0x008 then some (locksMine m 0 s)
  else if off = 0x00C then some (locksMine m 32 s)
  else if 0x010 ≤ off ∧ off < 0x060 then
    let k := (off - 0x010) / 16
    let v := violOf s k
    match off % 16 / 4 with
    | 0 => some v.cause
    | 1 => some (v.badAccess + 256 * min (authCount k s) 255 + 65536 * min (abuseCount k s) 255)
    | 2 => some v.framing
    | _ => some v.dropped
  else none

/-! ### One access (R95 to R97, R37) -/

/-- A read that leaves the state as it is. -/
def readOnly (v : Option Nat) (s : State) : Option (Nat × State) := v.map (fun x => (x, s))

/-- A read of one word of the window; none is a bad window access. -/
def windowRead (m off : Nat) (eccBad : Bool) (s : State) : Option (Nat × State) :=
  if off < 0x1000 then readOnly (idRead m off s) s
  else if 0xA000 ≤ off ∧ off < 0xB000 then readOnly (pfzRead m (off - 0xA000) s) s
  else if frozen s m then some (0, s)
  else if off < 0x2000 then (if m ≤ 3 then mbxRead m (off - 0x1000) s else none)
  else if off < 0x3000 then (if m ≤ 3 then readOnly (dblRead m (off - 0x2000) s) s else none)
  else if off < 0x4000 then lckRead m (off - 0x3000) s
  else if off < 0x8000 then sqRead m ((off - 0x4000) / 256) (off % 256) eccBad s
  else if off < 0x9000 then (if m ≤ 3 then clwRead m (off - 0x8000) s else none)
  else if off < 0xA000 then tbrAccess m (off - 0x9000) s
  else none

/-- A write of a frozen master is dropped and counted; its ECLIPSE doorbell acts (R37, R38, R112). -/
def frozenWrite (m off v : Nat) (s : State) : State :=
  if m ≤ 3 ∧ off = 0x2000 then
    let s1 := if v = 2 ^ 31 then s else countDrop m s
    if bit v 31 then eclipseBell m s1 else s1
  else countDrop m s

/-- A write of one word of the window; none is a bad window access. -/
def windowWrite (m off v : Nat) (s : State) : Option State :=
  if frozen s m then some (frozenWrite m off v s)
  else if off < 0x1000 then none
  else if off < 0x2000 then (if m ≤ 3 then mbxWrite m (off - 0x1000) v s else none)
  else if off < 0x3000 then (if m ≤ 3 then dblWrite m (off - 0x2000) v s else none)
  else if off < 0x4000 then lckWrite m (off - 0x3000) v s
  else if off < 0x8000 then sqWrite m ((off - 0x4000) / 256) (off % 256) v s
  else if off < 0x9000 then (if m ≤ 3 then clwWrite m (off - 0x8000) v s else none)
  else none

/-- Whether a master's accesses reach the window: PCIe needs PD_HOST, WIN_READ and WIN_WRITE need PD_CTRL (R98, R583); the host ports
stay in reset in SCRAP (R512). -/
def windowUp (m : Nat) (s : State) : Bool :=
  if m = 0 then domOn s 2 && !s.pwr.perst && s.vault.life != 0xFF && s.pwr.state != 4 else decide (m ≤ 4) && efbexRuns s

/-- A read access: a bad one returns 0 and freezes the master (R97). -/
def readAccess (m off : Nat) (eccBad : Bool) (s : State) : Nat × State :=
  match (if off % 4 = 0 then windowRead m off eccBad s else none) with
  | none => (0, badAccess m s)
  | some r => r

/-- A write access: a bad one has no effect and freezes the master (R97). A frozen master's write is dropped, whatever it is (R37). -/
def writeAccess (m off v : Nat) (s : State) : State :=
  match (if off % 4 = 0 ∨ frozen s m = true then windowWrite m off (v % 2 ^ 32) s else none) with
  | none => badAccess m s
  | some t => t

/-- A read access whose value the reader sees. -/
def readShown (m off : Nat) (eccBad : Bool) (s : State) : State :=
  if windowUp m s then
    let r := readAccess m off eccBad s
    put (.value r.1) r.2
  else s

/-- A write access where the window can be reached. -/
def writeSeen (m off v : Nat) (s : State) : State := if windowUp m s then writeAccess m off v s else s

/-- A write of another size or alignment: a frozen master's is dropped and counted (R37), any other is a bad window access (R95). -/
def badWrite (m : Nat) (s : State) : State := if frozen s m then countDrop m s else badAccess m s

/-- Whether an access of 8 bytes is allowed: by PCIe, aligned, outside LCK_ (R95). -/
def wideOk (m off : Nat) : Bool := m == 0 && off % 8 == 0 && !within off 0x3000 0x3FFF

/-- A write of 8 bytes: PCIe, aligned, outside LCK_, lower offset first (R95). -/
def writeWide (m off v : Nat) (s : State) : State :=
  if wideOk m off then writeAccess m (off + 4) (v / 2 ^ 32) (writeAccess m off v s)
  else badWrite m s

/-- A write of `size` bytes (R95). -/
def writeSized (m off size v : Nat) (s : State) : State :=
  if size = 4 then writeAccess m off v s else if size = 8 then writeWide m off v s else badWrite m s

/-- A read of 8 bytes (R95). -/
def readWide (m off : Nat) (s : State) : Nat × State :=
  if wideOk m off then
    let a := readAccess m off false s
    let b := readAccess m (off + 4) false a.2
    (a.1 + 2 ^ 32 * b.1, b.2)
  else (0, badAccess m s)

/-- A read of `size` bytes (R95). -/
def readSized (m off size : Nat) (s : State) : Nat × State :=
  if size = 4 then readAccess m off false s else if size = 8 then readWide m off s else (0, badAccess m s)

/-- The bits of a W1C field of the window that the hardware sets in the clock of a write: they end set (R11). -/
def setAgain (m off again : Nat) (s : State) : State :=
  if off = 0x1804 ∧ m ≤ 3 then modBank m (fun b => { b with inb := (List.range b.inb.length).map (fun i =>
    let x := nth b.inb i MbxIn.zero
    { x with coll := x.coll || bit again i }) }) s
  else if off = 0x180C ∧ m ≤ 3 then modBank m (fun b => { b with outb := (List.range b.outb.length).map (fun i =>
    let x := nth b.outb i MbxOut.zero
    { x with coll := x.coll || bit again i }) }) s
  else if off = 0x2004 ∧ m ≤ 3 then modBank m (fun b => { b with dblOut := Nat.lor b.dblOut (again % 2 ^ 19) }) s
  else if within off 0x4000 0x7FFF ∧ off % 256 = 0x20 then modSq ((off - 0x4000) / 256) (fun x => { x with
    ovf := x.ovf || bit again 0
    ecc := x.ecc || bit again 1
    abandon := x.abandon || bit again 2
    cut := x.cut || bit again 4 }) s
  else s

/-! ### Rows that are one access -/

/-- MBX_POST (R100): the write of word 15. -/
def execMbxPost (m n word : Nat) (s : State) : Result :=
  done (if n < 16 then writeSeen m (0x1000 + 64 * n + 60) word s else s)

/-- MBX_LATCH (R102): the read of word 0. -/
def execMbxLatch (m n : Nat) (s : State) : Result := done (if n < 16 then readShown m (0x1400 + 64 * n) false s else s)

/-- MBX_READ_END (R102): the read of word 15. -/
def execMbxReadEnd (m n : Nat) (s : State) : Result := done (if n < 16 then readShown m (0x1400 + 64 * n + 60) false s else s)

/-- DBL_IN_WAKE_SET (R113). -/
def execDblInWakeSet (m : Nat) (s : State) : Result := done (writeSeen m 0x2000 1 s)

/-- ECLIPSE_DOORBELL (R114). -/
def execEclipseDoorbell (m : Nat) (s : State) : Result := done (writeSeen m 0x2000 (2 ^ 31) s)

/-- LCK_READ (R116). -/
def execLckRead (m k : Nat) (s : State) : Result := done (if k < 64 then readShown m (0x3000 + 4 * k) false s else s)

/-- LCK_RELEASE_WRITE (R118). -/
def execLckReleaseWrite (m value : Nat) (s : State) : Result := done (writeSeen m 0x3200 value s)

/-- SQ_PUSH_LEN_WRITE (R123). -/
def execSqPushLenWrite (m q len : Nat) (s : State) : Result :=
  done (if q < 64 then writeSeen m (0x4008 + 256 * q) len s else s)

/-- SQ_PUSH_WRITE (R123). -/
def execSqPushWrite (m q word : Nat) (s : State) : Result :=
  done (if q < 64 then writeSeen m (0x400C + 256 * q) word s else s)

/-- SQ_POP_READ (R125, R127). -/
def execSqPopRead (m q : Nat) (eccBad : Bool) (s : State) : Result :=
  done (if q < 64 then readShown m (0x4014 + 256 * q) eccBad s else s)

/-- SQ_FLUSH_REQUEST (R126): a write of 1 to FLUSH with EN as it stands. -/
def execSqFlushRequest (m q : Nat) (s : State) : Result :=
  done (if q < 64 then writeSeen m (0x4000 + 256 * q) (2 + flag (sqOf s q).en) s else s)

/-- SQ_FLUSH_TIMEOUT (R126). -/
def execSqFlushTimeout (q : Nat) (s : State) : Result := done (sqFlushExpire q s)

/-- TBR_GTC_LO_READ (R162). -/
def execTbrGtcLoRead (m : Nat) (s : State) : Result := done (readShown m 0x9000 false s)

/-- CLW_CURSOR_WRITE (R573). -/
def execClwCursorWrite (m value : Nat) (s : State) : Result := done (writeSeen m 0x8004 value s)

/-- CLW_DATA_ADVANCE (R573): the read of word 63. -/
def execClwDataAdvance (m : Nat) (s : State) : Result := done (readShown m 0x81FC false s)

/-- CLW_FREEZE_SET (R574): a write of FREEZE with the other bits as they stand. -/
def execClwFreezeSet (m : Nat) (s : State) : Result :=
  let c := clwOf s m
  done (writeSeen m 0x8000 (c.area + 4 + 8 * flag c.advance) s)

/-! ### WIN_READ and WIN_WRITE (R131, R132) -/

/-- Reads up to `n` words from `off` on: the words read, whether all were performed, and the state. -/
def winReads (n off step m : Nat) (s : State) : List Nat × Bool × State :=
  match n with
  | 0 => ([], true, s)
  | k + 1 => match windowRead m off false s with
    | none => ([], false, s)
    | some r => let t := winReads k (off + step) step m r.2; (r.1 :: t.1, t.2)

/-- Writes words from `off` on: the number performed, whether all were, and the state. -/
def winWrites (off step m : Nat) (ws : List Nat) (s : State) : Nat × Bool × State :=
  match ws with
  | [] => (0, true, s)
  | w :: l => match windowWrite m off w s with
    | none => (0, false, s)
    | some t => let r := winWrites (off + step) step m l t; (r.1 + 1, r.2)

/-- The range of the fields that both commands begin with (Table 3-11). -/
def winRange (p : List Byte) : Bool :=
  u32 p 0 % 4 == 0 && decide (u32 p 0 ≤ 0xFFFFC) && within (u16 p 4) 1 256 && decide (u8 p 6 ≤ 1)

/-- The answer of an access that may have ended in a bad one: the reply first, then the freeze (R132). -/
def winAnswer (op : Nat) (r : Req) (ok : Bool) (p : List Byte) (s : State) : Ans :=
  if ok then .reply 0 p s else .later (badAccess r.master (reply r op 0x8201 p s))

/-- WIN_READ (R131, R132). -/
def execWinRead (r : Req) (s : State) : Result :=
  let p := r.payload
  done (runCommand 0x0201 false r (fun s =>
    checked (p.length == 8) (zeroAt p 7 1) (winRange p) true [] s (fun s =>
      let t := winReads (u16 p 4) (u32 p 0) (if u8 p 6 = 0 then 4 else 0) r.master s
      winAnswer 0x0201 r t.2.1 (leBytes 2 t.1.length ++ zeros 2 ++ t.1.flatMap (leBytes 4)) t.2.2)) s)

/-- WIN_WRITE (R131, R132). -/
def execWinWrite (r : Req) (s : State) : Result :=
  let p := r.payload
  done (runCommand 0x0202 false r (fun s =>
    checked (p.length == 8 + 4 * u16 p 4) (zeroAt p 7 1) (winRange p) true [] s (fun s =>
      let t := winWrites (u32 p 0) (if u8 p 6 = 0 then 4 else 0) r.master (words (u16 p 4) (p.drop 8)) s
      winAnswer 0x0202 r t.2.1 (leBytes 2 t.1 ++ zeros 2) t.2.2)) s)

end Sys2Proof.Machine
end

