-- ==== Sys2Proof/Machine/System.lean ====
section
/-!
DEFINITION. Sys2Proof/Machine/System.lean: chapter 2's sessions and the commands of group 0x01: HELLO, GOODBYE, GET_INFO, RESET,
EVENT_SET, NET_SET, ARM_SET, ARM_GET, PORT_UNFREEZE, with SESSION_IDLE_TIMEOUT and EVENTS_LOST.
-/
namespace Sys2Proof.Machine
open Sys2Proof

/-! ### HELLO (R70 to R72, Table 2-11) -/

/-- The event mask in force for a session: bits 1 to 17, without groups 0x10 and 0x11 under major 1 (R76). -/
def maskFor (major mask : Nat) : Nat := Nat.land mask (if major = 1 then 0xFFFE else 0x3FFFE)

/-- Whether a mask has only the bits 1 to 17 (Table 2-14). -/
def maskOk (mask : Nat) : Bool := mask % 2 == 0 && bitsBelow mask 18

/-- The versions that a HELLO offers. -/
def offers (p : List Byte) : List Nat := (List.range (u8 p 1)).map (fun i => u8 p (2 + i))

/-- The highest of the offered minors under a major; none when the major is not offered. -/
def bestMinor (major : Nat) (l : List Nat) : Option Nat :=
  match l.filter (fun v => v / 16 == major) with
  | [] => none
  | v :: r => some ((v :: r).foldl (fun a x => max a (x % 16)) 0)

/-- The chosen version: the highest major that the device supports, and within it the lower of the offered minor and its own highest
minor (3 under major 2, 7 under major 1). -/
def chosenVersion (l : List Nat) : Option (Nat × Nat) :=
  match bestMinor 2 l with
  | some n => some (2, min n 3)
  | none => (bestMinor 1 l).map (fun n => (1, min n 7))

/-- Whether the reserved parts of a phase 1 payload are 0: byte 7, unused offers, key and nonce of an open kind, other mask bits. -/
def helloReserved (p : List Byte) : Bool :=
  u8 p 7 == 0 && zeroAt p (2 + min (u8 p 1) 4) (4 - min (u8 p 1) 4) && maskOk (u32 p 8) && (u8 p 6 != 0 || zeroAt p 12 48)

/-- The ranges of a phase 1 payload. -/
def helloRange (p : List Byte) : Bool := u8 p 0 == 1 && within (u8 p 1) 1 4 && decide (u8 p 6 ≤ 1)

/-- The phase 1 reply (Table 2-11). -/
def helloReply (m version kind id : Nat) (pub nonce : List Byte) : List Byte :=
  leBytes 1 version ++ leBytes 1 kind ++ [3, 7] ++ leBytes 4 id ++ pub ++ nonce ++ leBytes 1 m ++ zeros 3

/-- The refusal of a HELLO without a common version: the highest minors in the reply's fields (R70). -/
def helloNoVersion : List Byte := zeros 2 ++ [3, 7] ++ zeros 56

/-- A random non-zero session ID: a free value (log entry 4). -/
def freshId (s : State) : Nat × State := ((fresh s).1 % (2 ^ 32 - 1) + 1, (fresh s).2)

/-- A session that has just been established: both directions continue from sequence 1 (R78). -/
def newSession (id major minor : Nat) (auth : Bool) (mask : Nat) (keyIn keyOut : List Byte) (addr : UdpAddr) (now : Gtc) : Session :=
  { id := id, major := major, minor := minor, authenticated := auth, mask := mask, keyIn := keyIn, keyOut := keyOut,
    addr := addr, next := 1, dev := 1, last := now, outstanding := [], cache := [], reasm := none, queue := [], lost := 0,
    lostSince := 0, lostTotal := 0, ending := none, mid := none }

/-- The events that boot left for the first sessions of a master: FW_BOOT in recovery (R531), TAMPER with the at-boot flag (R539). -/
def owedEvents (m : Nat) (s : State) : State :=
  let s1 := if s.vault.bootOwed.contains m then deliver s.tb.gtc 0xCD04 32 (gtcBytes s ++ fwBootPayload s) m s else s
  let s2 := if s.vault.tamperOwed.contains m then
      deliver s.tb.gtc 0xCD03 32 (gtcBytes s ++ tamperBytes s.vault.inputs (latchedResponses s) 1 s) m s1 else s1
  { s2 with vault := { s2.vault with
    bootOwed := s2.vault.bootOwed.filter (fun x => x != m)
    tamperOwed := s2.vault.tamperOwed.filter (fun x => x != m) } }

/-- A session comes into force: the old one ends with reason 3 (R71), the HELLO reply of `first` leaves, and the most recent
RESET_REPORT is the first event (R77). -/
def establish (m : Nat) (v : Session) (first : State → State) (s : State) : State :=
  let old := sessOf s m
  let s1 := deliver s.tb.gtc 0xD001 33 s.pwr.report m (first { s with
    sessions := s.sessions.set m (some v)
    hellos := s.hellos.set m none })
  let s2 := match old with
    | none => s1
    | some o => emit 0xC101 m (leBytes 1 m ++ leBytes 1 3 ++ zeros 2 ++ leBytes 4 o.id) s1
  owedEvents m s2

/-- Phase 1 of an open session: established with its reply. -/
def helloOpen (r : Req) (v : Nat × Nat) (s : State) : State :=
  let i := freshId s
  establish r.master (newSession i.1 v.1 v.2 false (maskFor v.1 (u32 r.payload 8)) [] [] r.addr s.tb.gtc)
    (reply r 0x0101 0 (helloReply r.master (v.1 * 16 + v.2) 0 i.1 (zeros 32) (zeros 16))) i.2

/-- Phase 1 of an authenticated session: both direction keys are derived and the HELLO waits for phase 2 (R520). -/
def helloAuth (r : Req) (v : Nat × Nat) (s : State) : Ans :=
  let p := r.payload
  let i := freshId s
  let priv := freshBytes 32 i.2
  let nonce := freshBytes 16 priv.2
  let keys := kdf (portKey s r.master).2 (ascii "EFBEX-S2")
    (x25519 priv.1 (sub p 12 32) ++ sub p 44 16 ++ nonce.1 ++ leBytes 4 i.1) 64
  let t := if s.vault.life = 1 then useNode (if r.master = 4 then pairNode s else portNode s r.master) nonce.2 else nonce.2
  let out := helloReply r.master (v.1 * 16 + v.2) 1 i.1 (x25519Public priv.1) nonce.1
  .reply 0 out { t with hellos := t.hellos.set r.master (some
    { id := i.1, major := v.1, minor := v.2, mask := maskFor v.1 (u32 p 8), keyIn := keys.take 32, keyOut := keys.drop 32,
      th := sha256 (p ++ out), addr := r.addr }) }

/-- HELLO phase 1 after its form checks: the version (R70), then the port key (R537). -/
def helloPhase1 (r : Req) (s : State) : Ans :=
  match chosenVersion (offers r.payload) with
  | none => .reply 0x1002 helloNoVersion s
  | some v =>
    if u8 r.payload 6 = 0 then .later (helloOpen r v s)
    else if (portKey s r.master).1 ≠ 0 then .reply (portKey s r.master).1 [] s
    else helloAuth r v s

/-- HELLO_PHASE_1 (R70, R71): it carries session ID 0 (R54, R72). -/
def execHelloPhase1 (r : Req) (s : State) : Result :=
  done (if r.sess.getD 0 ≠ 0 then (if efbexRuns s then reply { r with sess := some 0 } 0x0101 0x1008 [] s else s)
    else runCommand 0x0101 false r (fun s =>
      checked (r.payload.length == 60) (helloReserved r.payload) (helloRange r.payload) true [] s (helloPhase1 r)) s)

/-- A phase 2 has failed (R70, Table 2-7): the keys are gone, the failure counts, three in a row freeze the master. -/
def helloFailed (r : Req) (s : State) : State :=
  let s1 := reply { r with sess := r.sess.map (fun _ => 0) } 0x0101 0x6004 []
    (modViol r.master (fun v => { v with helloFails := v.helloFails + 1 })
      { s with hellos := s.hellos.set r.master none })
  if 3 ≤ (violOf s1 r.master).helloFails then freeze r.master 2 s1 else s1

/-- The reply of phase 2: authenticated, device sequence 0. -/
def helloDone (r : Req) (mask : Nat) (s : State) : State :=
  let w : Waiting := ⟨0x0101, r.tag, 1, 0, r.via, r.addr, leBytes 4 mask, false, false, true, s.tb.gtc, 0, r.urgent⟩
  sendReply r.master r.via [w] (put (.reply r.master 0x0101 r.tag 0 (leBytes 4 mask)) s)

/-- HELLO phase 2 after its form checks: TH is compared (R70). -/
def helloPhase2 (r : Req) (s : State) : Ans :=
  match nth s.hellos r.master none with
  | none => .later (helloFailed r s)
  | some w =>
    if sub r.payload 4 32 = w.th then
      .later (establish r.master (newSession w.id w.major w.minor true w.mask w.keyIn w.keyOut w.addr s.tb.gtc)
        (helloDone r w.mask) (modViol r.master (fun v => { v with helloFails := 0 }) s))
    else .later (helloFailed r s)

/-- HELLO_PHASE_2 (R70, R71). Without a tag it is refused with 0x6001 in MISSION (R73); elsewhere an absent tag is a failed one (log
entry 30). -/
def execHelloPhase2 (r : Req) (s : State) : Result :=
  done (if efbexRuns s = false then s
    else if r.auth = false ∧ s.vault.life ≠ 1 then helloFailed r s
    else match refusal 0x0101 (s.vault.life == 1) r s with
      | some st => reply { r with sess := r.sess.map (fun _ => 0) } 0x0101 st [] s
      | none =>
        finish { r with sess := r.sess.map (fun _ => 0) } 0x0101
          (checked (r.payload.length == 36) (zeroAt r.payload 1 3) (u8 r.payload 0 == 2) true [] s (helloPhase2 r)))

/-! ### GOODBYE, idle sessions, lost events (R75, R87) -/

/-- GOODBYE (R75): the reply waits for those of all earlier requests; then the session ends with reason 1. -/
def execGoodbye (r : Req) (s : State) : Result :=
  done (runCommand 0x0102 false r (fun s =>
    checked (r.payload.length == 0) true true true [] s (fun s =>
      match r.sess with
      | none => .later (endSession r.master 1 (reply r 0x0102 0 [] s))
      | some _ => .later (modSess r.master (fun v => { v with ending := some ⟨1, some r, false⟩ }) s))) s)

/-- SESSION_IDLE_TIMEOUT (R75): 30 s without a packet from the master. -/
def execSessionIdleTimeout (m : Nat) (s : State) : Result :=
  done (match sessOf s m with
    | none => s
    | some v => if 30 * sec ≤ sinceNs s v.last then endSession m 2 s else s)

/-- EVENTS_LOST (R87): the count of the events that a session lost is reported once its queue has space. -/
def execEventsLost (m : Nat) (s : State) : Result :=
  done (match sessOf s m with
    | none => s
    | some v =>
      if 0 < v.lost ∧ eventsWaiting v < 256 then
        deliver s.tb.gtc 0xC104 m (gtcBytes s ++ leBytes 4 v.lost ++ leBytes 8 v.lostSince.toNat) m (modSess m (fun v => { v with
          lost := 0
          lostSince := 0 }) s)
      else s)

/-! ### GET_INFO, RESET (Tables 2-12, 2-13) -/

/-- The values in force per dimension of Table 1-10. -/
def modeValues (s : State) : List Byte :=
  [s.vault.life, s.pair.role, eclShown s, s.pwr.state, (radioInForce s).1, (timeInForce s).1, s.repl.corr.mode,
    flag s.pwr.calUser].flatMap (leBytes 1)

/-- The requested values: power state and radio mode may be forced away from theirs (R46). -/
def modeRequests (s : State) : List Byte :=
  [s.vault.life, s.pair.role, eclShown s, s.pwr.requested, s.mac.requested, (timeInForce s).1, s.corr.modeReq,
    flag s.pwr.calUser].flatMap (leBytes 1)

/-- The reply of GET_INFO. -/
def infoPayload (m : Nat) (s : State) : List Byte :=
  leBytes 8 s.vault.devId ++ leBytes 2 0x9256 ++ leBytes 1 0xB1 ++ leBytes 1 s.vault.running ++ leBytes 4 s.vault.fw
    ++ modeValues s ++ modeRequests s ++ leBytes 1 (bitsOf ([0, 1, 2, 3, 4].map (frozen s)))
    ++ leBytes 1 (bitsOf ([0, 1, 2, 3, 4].map (fun k => (sessOf s k).isSome))) ++ zeros 2
    ++ leBytes 4 (match sessOf s m with
      | none => 0
      | some v => v.lostTotal) ++ leBytes 4 (violOf s m).framing

/-- GET_INFO (Table 2-12). -/
def execGetInfo (r : Req) (s : State) : Result :=
  done (runCommand 0x0103 false r (fun s =>
    checked (r.payload.length == 0) true true true [] s (fun s => .reply 0 (infoPayload r.master s) s)) s)

/-- The ranges of RESET (Table 2-13, R587): PORT of a master 0 to 3, DOMAIN of domains 2 to 13, WARM. -/
def resetRange (p : List Byte) : Bool :=
  match u8 p 0 with
  | 1 => decide (u8 p 1 ≤ 3)
  | 2 => within (u8 p 1) 2 13
  | 3 => u8 p 1 == 0
  | _ => false

/-- The reset that a RESET asks for becomes due: class, cause 1, 16 or 32, target (Table 17-9). -/
def resetAsked (r : Req) (s : State) : State :=
  match u8 r.payload 0 with
  | 1 => askReset 1 1 (u8 r.payload 1) r.master s
  | 2 => askReset 2 16 (u8 r.payload 1) r.master s
  | _ => askReset 3 32 0xFF r.master s

/-- RESET (R90): the reply, and the reset 1 ms later. -/
def execReset (r : Req) (s : State) : Result :=
  done (runCommand 0x0104 true r (fun s =>
    checked (r.payload.length == 4) (zeroAt r.payload 2 2) (resetRange r.payload) true [] s (fun s =>
      .reply 0 [] (resetAsked r s))) s)

/-! ### EVENT_SET, NET_SET (Table 2-14) -/

/-- EVENT_SET (R87, R76). -/
def execEventSet (r : Req) (s : State) : Result :=
  done (runCommand 0x0105 false r (fun s =>
    checked (r.payload.length == 4) (maskOk (u32 r.payload 0)) true true [] s (fun s =>
      match sessOf s r.master with
      | none => .reply 0 (leBytes 4 (u32 r.payload 0)) s
      | some v =>
        let mask := maskFor v.major (u32 r.payload 0)
        .reply (changed (v.mask == mask)) (leBytes 4 mask) (modSess r.master (fun v => { v with mask := mask }) s))) s)

/-- The settings that a NET_SET asks for; UDP port 0 selects 61,360. -/
def netAsked (p : List Byte) : NetPort := ⟨u8 p 1, if u16 p 2 = 0 then 61360 else u16 p 2, u32 p 4, u32 p 8⟩

/-- Whether an IPv4 address is unicast: its first octet is 1 to 223 and not 127. -/
def unicast (ip : Nat) : Bool := within (ip / 2 ^ 24) 1 223 && ip / 2 ^ 24 != 127

/-- The ranges of NET_SET. -/
def netRange (p : List Byte) : Bool :=
  within (u8 p 0) 1 2 && within (u8 p 1) 8 30 && (u16 p 2 == 0 || decide (1024 ≤ u16 p 2)) && unicast (u32 p 4)

/-- Settings in the layout of NET_SET. -/
def netBytes (x : Nat) (n : NetPort) : List Byte :=
  leBytes 1 x ++ leBytes 1 n.prefixLen ++ leBytes 2 n.udp ++ leBytes 4 n.ip ++ leBytes 4 n.gateway

/-- NET_SET (R91): the settings take effect after the reply, and a change ends the port's session with reason 7 (R75). -/
def execNetSet (r : Req) (s : State) : Result :=
  let p := r.payload
  let x := u8 p 0
  done (runCommand 0x0106 true r (fun s =>
    checked (p.length == 12) true (netRange p) true [] s (fun s =>
      if s.net[x - 1]? = some (netAsked p) then .reply 0x0102 (netBytes x (netAsked p)) s
      else .later (endSession x 7 (
        let t := reply r 0x0106 0 (netBytes x (netAsked p)) s
        { t with net := t.net.set (x - 1) (netAsked p) })))) s)

/-! ### ARM_SET, ARM_GET, PORT_UNFREEZE (R92, R93) -/

/-- The ranges of ARM_SET. -/
def armRange (p : List Byte) : Bool :=
  within (u8 p 0) 1 14 && (armEntries p).all (fun e => within e.1 1 14 && decide (e.2 ≤ 1))

/-- ARM_SET (R21, R22, R92): takes effect at the commit of its cycle. -/
def execArmSet (r : Req) (s : State) : Result :=
  let p := r.payload
  done (runCommand 0x0110 true r (fun s =>
    checked (decide (1 ≤ p.length) && p.length == 4 + 2 * u8 p 0) (zeroAt p 1 3) (armRange p)
      (noRepeat ((armEntries p).map (fun e => e.1)))
      (failIf (s.pair.role == 2) 0x2004 ++ failIf ((armEntries p).any (armBarred s)) 0x2005) s (fun s =>
      .later (hold r.master (.command 0x0110 r) s))) s)

/-- The arming table after the ARM_SETs that await their commit. -/
def armNext (s : State) : Nat :=
  (sortDecisions s).pair.decisions.foldl (fun t d => match d.what with
    | .command 0x0110 r => if (armEntries r.payload).any (armBarred s) then t else armAfter r.payload t
    | _ => t) s.repl.armed

/-- The entries that cannot be changed now (R92): bit b of the entries whose opposite ARM_SET would refuse. -/
def armFixed (s : State) : Nat :=
  if s.pair.role = 2 then 0x7FFE
  else bitsOf ((List.range 15).map (fun b => decide (1 ≤ b) && armBarred s (b, if armed s b then 0 else 1)))

/-- ARM_GET (Table 2-16). -/
def execArmGet (r : Req) (s : State) : Result :=
  done (runCommand 0x0111 false r (fun s =>
    checked (r.payload.length == 0) true true true [] s (fun s =>
      let d := Nat.xor s.repl.armed (armNext s)
      .reply 0 (leBytes 2 s.repl.armed ++ leBytes 2 d ++ leBytes 2 (Nat.land (armNext s) d) ++ leBytes 2 (armFixed s)) s)) s)

/-- The release of a frozen master with its violation counts cleared (R85). -/
def unfreeze (m by_ : Nat) (s : State) : State :=
  emit 0xC103 m (leBytes 1 m ++ leBytes 1 by_ ++ zeros 2) (modViol m (fun v => { v with
    cause := 0
    badAccess := 0
    tagFails := []
    helloFails := 0
    seqAbuse := [] }) s)

/-- PORT_UNFREEZE (R36, R93). DESIGN CHOICE: where the named master is not frozen (0x0102) its violation counts stay, since R85 ties their
clearing to a release and does not speak of that case (log entry 30). -/
def execPortUnfreeze (r : Req) (s : State) : Result :=
  let m := u8 r.payload 0
  done (runCommand 0x0120 true r (fun s =>
    checked (r.payload.length == 4) (zeroAt r.payload 1 3) (decide (m ≤ 4)) true (failIf (m == r.master) 0x6005) s (fun s =>
      if frozen s m then .reply 0 (leBytes 1 m ++ leBytes 1 (violOf s m).cause ++ zeros 2) (unfreeze m r.master s)
      else .reply 0x0102 (leBytes 1 m ++ zeros 3) s)) s)

end Sys2Proof.Machine
end

