-- ==== Sys2Proof/Machine/Efbex.lean ====
section
/-!
DEFINITION. Sys2Proof/Machine/Efbex.lean: chapter 2's packets: framing, the checks of R54, fragments, sequences, the opcode table,
and the transports that carry packets: PCIe rings, UDP, SPI, mailboxes and the pair link; with the register accesses of PCIe.
-/
namespace Sys2Proof.Machine
open Sys2Proof

/-! ### The opcodes (Table 2-9) -/

/-- HELLO by its phase byte (Table 2-11). -/
def execHello (r : Req) (s : State) : Result := if u8 r.payload 0 = 2 then execHelloPhase2 r s else execHelloPhase1 r s

/-- RH_PORT_TRAIN from a packet: what the sweep finds is not the request's, so the error-free steps are free values
(R300, log entry 4). -/
def execPortTrainPacket (r : Req) (s : State) : Result :=
  execRhPortTrain r ((List.range 3).map (fun i => Config.freeValue (s.free + i) % 2 ^ 32))
    { s with free := s.free + 3 }

/-- A table of opcodes and the meanings of their commands. -/
abbrev OpTable := List (Nat × (Req → State → Result))

/-- Group 0x01 (Table 2-9). -/
def opsSystem : OpTable :=
  [(0x0101, execHello), (0x0102, execGoodbye), (0x0103, execGetInfo), (0x0104, execReset), (0x0105, execEventSet),
   (0x0106, execNetSet), (0x0110, execArmSet), (0x0111, execArmGet), (0x0120, execPortUnfreeze)]

/-- Group 0x02 (Table 2-9). -/
def opsWindow : OpTable :=
  [(0x0201, execWinRead), (0x0202, execWinWrite), (0x0203, execSqConfig)]

/-- Group 0x03 (Table 2-9). -/
def opsTimebase : OpTable :=
  [(0x0301, execTbGet), (0x0302, execTbSourceSet), (0x0303, execTbServoSet), (0x0304, execTbStep),
   (0x0305, execTpSet), (0x0306, execTcSet), (0x0307, execPtpSet), (0x0308, execUtcSet)]

/-- Group 0x04 (Table 2-9). -/
def opsGnss : OpTable :=
  [(0x0401, execGnPortSet), (0x0402, execGnStatus), (0x0403, execGnSignalSet), (0x0404, execGnChanAlloc),
   (0x0405, execGnLoopSet), (0x0406, execGnFenceSet), (0x0407, execGnJnSet), (0x0408, execGnBearingSet),
   (0x0409, execGnSatExclude), (0x040A, execGnSatGet), (0x040B, execGnObsStream), (0x040C, execGnAcqSet)]

/-- Group 0x05 (Table 2-9). -/
def opsCorrections : OpTable :=
  [(0x0501, execCorrModeSet), (0x0502, execCorrPositionSet), (0x0503, execCorrOriginSet),
   (0x0504, execCorrMsgSet), (0x0505, execCorrStationSet), (0x0506, execCorrStream),
   (0x0507, execCorrSelfcheckSet), (0x0508, execCorrIntegritySet), (0x0509, execCorrGet)]

/-- Group 0x06 (Table 2-9). -/
def opsBaseline : OpTable :=
  [(0x0601, execBlBerthSet), (0x0602, execBlParamSet), (0x0603, execBlStream), (0x0604, execBlResetBerth),
   (0x0605, execBlStatus), (0x0606, execBlBerthGet), (0x0607, execBlShadowSet)]

/-- Group 0x07 (Table 2-9). -/
def opsRadio : OpTable :=
  [(0x0701, execRhHeadSet), (0x0702, execRhChanSet), (0x0703, execRhScriptLoad), (0x0704, execRhSpiXfer),
   (0x0705, execPortTrainPacket), (0x0706, execRhFenceSet), (0x0707, execRhStatus), (0x0708, execRhTest),
   (0x0709, execRadioModeSet), (0x070A, execRadioSubbandSet), (0x070B, execRadioLinkFenceSet),
   (0x070C, execRadioChanFenceSet), (0x070D, execRadioDutyGet)]

/-- Group 0x08 (Table 2-9). -/
def opsOrbits : OpTable :=
  [(0x0801, execOrConfigSet), (0x0802, execOrScheduleSet), (0x0803, execOrBerthSet), (0x0804, execOrBerthGet),
   (0x0805, execOrStatus)]

/-- Group 0x09 (Table 2-9). -/
def opsEclipse : OpTable :=
  [(0x0901, execEclipseTrigger), (0x0902, execEclipseRelease), (0x0903, execSpotStop), (0x0904, execSpotRelease),
   (0x0905, execEclGet), (0x0906, execEclConfigSet)]

/-- Group 0x0A (Table 2-9). -/
def opsTransits : OpTable :=
  [(0x0A01, execTrRequest), (0x0A02, execTrRelease), (0x0A03, execTrCheck), (0x0A04, execTrGet),
   (0x0A05, execTrList), (0x0A06, execTrZoneSet), (0x0A07, execTrZoneRemove), (0x0A08, execTrConfigSet),
   (0x0A09, execTrBerthSet), (0x0A0A, execTrStatus)]

/-- Group 0x0B (Table 2-9). -/
def opsDispatcher : OpTable :=
  [(0x0B01, execDpTaskAdd), (0x0B02, execDpTaskReady), (0x0B03, execDpTaskCancel), (0x0B04, execDpTaskGet),
   (0x0B05, execDpConfigSet), (0x0B06, execDpBerthSet), (0x0B07, execDpBerthGet), (0x0B08, execDpLevelGet),
   (0x0B09, execDpPackSet), (0x0B0A, execDpPackBind), (0x0B0B, execDpPackGet), (0x0B0C, execDpStatus)]

/-- Group 0x0C (Table 2-9). -/
def opsPair : OpTable :=
  [(0x0C01, execPairConfigSet), (0x0C02, execPairGet), (0x0C03, execPairSwitchover), (0x0C04, execPairResync)]

/-- Group 0x0D (Table 2-9). -/
def opsVault : OpTable :=
  [(0x0D01, execVaultInfo), (0x0D02, execVaultProvision), (0x0D03, execLcAdvance), (0x0D04, execNodeCreate),
   (0x0D05, execNodeInvalidate), (0x0D06, execNodeGet), (0x0D07, execVaultCrypto), (0x0D08, execVaultExport),
   (0x0D09, execVaultKdfTest), (0x0D0A, execFwWrite), (0x0D0B, execFwActivate), (0x0D0C, execTamperSet),
   (0x0D0D, execTamperClear)]

/-- Group 0x0E (Table 2-9). -/
def opsCan : OpTable :=
  [(0x0E01, execCanConfigSet), (0x0E02, execCanFilterSet), (0x0E03, execCanRxRead), (0x0E04, execCanTx),
   (0x0E05, execCanTxAbort), (0x0E06, execCanRateDetect), (0x0E07, execCanRecover), (0x0E08, execCanStatus),
   (0x0E09, execCanStream)]

/-- Group 0x0F (Table 2-9). -/
def opsComet : OpTable :=
  [(0x0F01, execClTriggerSet), (0x0F02, execClTriggerGet), (0x0F03, execClStatus), (0x0F04, execClRead),
   (0x0F05, execClMark), (0x0F06, execClAttest)]

/-- Group 0x10 (Table 2-9). -/
def opsPower : OpTable :=
  [(0x1001, execPwrStateSet), (0x1002, execPwrStatus), (0x1003, execAvsFenceSet), (0x1004, execWdSet),
   (0x1005, execThermalSet)]

/-- Group 0x11 (Table 2-9). -/
def opsCalibration : OpTable :=
  [(0x1101, execCalibRead), (0x1102, execCalibWrite)]

/-- Every opcode of Table 2-9's groups with its meaning. -/
def opTable : OpTable :=
  opsSystem ++ opsWindow ++ opsTimebase ++ opsGnss ++ opsCorrections ++ opsBaseline ++ opsRadio ++ opsOrbits ++ opsEclipse
    ++ opsTransits ++ opsDispatcher ++ opsPair ++ opsVault ++ opsCan ++ opsComet ++ opsPower ++ opsCalibration

/-- The meaning of an opcode; none when it is not defined (R54 step 8). -/
def opMeaning (op : Nat) : Option (Req → State → Result) := look opTable op

/-- The opcodes that their chapters mark "authenticated always" (R73). VAULT_PROVISION is marked so but for its mode 1. -/
def alwaysAuth (op : Nat) : Bool := 
  [0x0104, 0x0106, 0x0110, 0x0120, 0x0303, 0x0304, 0x0307, 0x0401, 0x0403, 0x0404, 0x0405, 0x0406, 0x0407, 0x0408,
   0x0409, 0x040C, 0x0501, 0x0502, 0x0503, 0x0504, 0x0505, 0x0507, 0x0508, 0x0601, 0x0602, 0x0604, 0x0607, 0x0701,
   0x0702, 0x0703, 0x0704, 0x0705, 0x0706, 0x0708, 0x0709, 0x070A, 0x070B, 0x070C, 0x0801, 0x0802, 0x0803, 0x0902,
   0x0904, 0x0906, 0x0A01, 0x0A02, 0x0A06, 0x0A07, 0x0A08, 0x0A09, 0x0B01, 0x0B02, 0x0B03, 0x0B05, 0x0B06, 0x0B09,
   0x0B0A, 0x0C01, 0x0C03, 0x0C04, 0x0D02, 0x0D03, 0x0D04, 0x0D05, 0x0D07, 0x0D08, 0x0D0A, 0x0D0B, 0x0D0C, 0x0D0D,
   0x0E01, 0x0E02, 0x0E04, 0x0E05, 0x0E06, 0x0E07, 0x0F01, 0x1001, 0x1003, 0x1004, 0x1005, 0x1102].contains op

/-! ### Packets (R50 to R53) -/

/-- The fields of the bytes of a packet (Table 2-1). -/
def packetFields (bs : List Byte) : Packet :=
  ⟨u8 bs 1, u16 bs 2, u16 bs 4, u16 bs 6, u32 bs 8, u16 bs 14, u32 bs 16, sub bs 20 (u16 bs 12)⟩

/-- The longest packet of a master's transport (R59; the link: Table 13-2). -/
def longestPacket (m : Nat) : Nat := maxPayload m false + 24

/-- Whether the bytes are framed as R53 asks: magic, length, CRC. -/
def framed (m : Nat) (bs : List Byte) : Bool :=
  let n := u16 bs 12
  u8 bs 0 == 0xEF && bs.length == (if bit (u16 bs 6) 1 then 40 else 24) + n && decide (bs.length ≤ longestPacket m) &&
    u32 bs (20 + n) == (crc32c (bs.take (20 + n)))

/-- Whether the tag of a packet is the HMAC of the bytes before it (R52). -/
def tagHolds (key bs : List Byte) : Bool :=
  sub bs (bs.length - 16) 16 == tag16 key (bs.take (bs.length - 16))

/-- Whether a request is urgent (R81). -/
def urgent (p : Packet) : Bool := bit p.flags 3 || p.opcode / 256 == 9

/-- The request of a packet. -/
def reqOf (m : Nat) (via : Via) (addr : UdpAddr) (auth : Bool) (sess : Nat) (p : Packet) : Req :=
  ⟨m, p.tag, auth, via, some sess, addr, p.seq, p.payload, urgent p⟩

/-- Step 6 of R54: reserved flags, REPLY or EVENT, URGENT under major 1 (R76), a non-zero status. -/
def flagsBad (major : Nat) (p : Packet) : Bool :=
  !bitsBelow p.flags 5 || bit p.flags 0 || bit p.flags 4 || (major == 1 && bit p.flags 3) || p.status != 0

/-! ### Packets without a session (R72) -/

/-- Whether a version byte is one of Table 2-1. -/
def versionKnown (v : Nat) : Bool := within v 0x10 0x17 || within v 0x20 0x23

/-- HELLO phase 1 or ECLIPSE_TRIGGER with session ID 0: steps 5 and 6 of R54, then the command. MORE, tag and sequence are ignored. -/
def sessionless (r : Req) (p : Packet) (s : State) : Result :=
  if versionKnown p.version = false then
    done (reply r p.opcode 0x1002 (if p.opcode = 0x0101 then helloNoVersion else []) s)
  else if flagsBad (p.version / 16) p then done (reply r p.opcode 0x4001 [] s)
  else if p.opcode = 0x0101 then execHelloPhase1 r s
  else execEclipseTrigger r s

/-! ### Sequence (R78, R79) -/

/-- A reply that consumes no sequence and is not cached. -/
def answer (v : Session) (r : Req) (op st : Nat) (payload : List Byte) (s : State) : State :=
  sendReply r.master r.via (replyItems r op st payload v.authenticated s.tb.gtc) (put (.reply r.master op r.tag st payload) s)

/-- A sequence abuse is counted; 32 in 1 s freeze the master (Table 2-7). -/
def seqAbuse (m : Nat) (s : State) : State :=
  let l := (s.tb.gtc :: (violOf s m).seqAbuse).filter (fun t => sinceNs s t < sec)
  let s1 := modViol m (fun v => { v with seqAbuse := l }) s
  if 32 ≤ l.length then freeze m 3 s1 else s1

/-- A sequence other than the 0 of phase 2 under the session ID of a waiting HELLO: R79 with 0 as the expected value. -/
def waitingGap (r : Req) (p : Packet) (s : State) : State :=
  let s1 := reply { r with sess := some 0 } p.opcode 0x1003 (leBytes 4 0) s
  if p.seq ≤ 64 then s1 else seqAbuse r.master s1

/-- Steps 8 to 11 of R54 on a request that is not HELLO under the session ID of a waiting HELLO. DESIGN CHOICE: one that passes them all is
refused with 0x1008, since no session is established in which it could run (log entry 30). -/
def waitingOther (r : Req) (p : Packet) (s : State) : State :=
  let r0 := { r with sess := some 0 }
  if (opMeaning p.opcode).isNone then reply r0 p.opcode 0x1004 [] s
  else match refusal p.opcode (alwaysAuth p.opcode) r0 s with
    | some st => reply r0 p.opcode st [] s
    | none => reply r0 p.opcode 0x1008 [] s

/-- A packet under the session ID of a HELLO that awaits its phase 2 (R54, R70): a tag that fails is a failed phase 2 on HELLO and 0x6002 on
any other request; so is an absent one on HELLO outside MISSION. -/
def waiting (r : Req) (w : HelloWait) (bs : List Byte) (p : Packet) (s : State) : Result :=
  let r0 := { r with sess := some 0 }
  let hello : Bool := p.opcode == 0x0101
  let tagged := bit p.flags 1
  if hello = true ∧ tagged = false ∧ s.vault.life ≠ 1 then done (helloFailed r s)
  else if tagged = true ∧ tagHolds w.keyIn bs = false then
    done (if hello then helloFailed r s else authFailure r.master (reply r0 p.opcode 0x6002 [] s))
  else if p.seq ≠ 0 then done (waitingGap r p s)
  else if p.version ≠ w.major * 16 + w.minor then done (reply r0 p.opcode 0x1002 [] s)
  else if flagsBad w.major p then done (reply r0 p.opcode 0x4001 [] s)
  else if hello then execHelloPhase2 { r with auth := tagged } s
  else done (waitingOther { r with auth := tagged } p s)

/-- A request that does not carry the expected sequence (R79). -/
def offSequence (v : Session) (r : Req) (p : Packet) (s : State) : State :=
  if p.seq < v.next ∧ v.next ≤ p.seq + 64 then
    match look v.cache p.seq with
    | some ws => sendReply r.master r.via (ws.map (fun w => { w with addr := r.addr })) s
    | none => answer v r p.opcode 0x1007 [] s
  else
    let s1 := answer v r p.opcode 0x1003 (leBytes 4 v.next) s
    if v.next < p.seq ∧ p.seq ≤ v.next + 64 then s1 else seqAbuse r.master s1

/-- The request consumes its sequence; the last one binds the session to its end (R75, R78). -/
def consume (m q : Nat) (s : State) : State :=
  modSess m (fun v => { v with
    next := q + 1
    ending := if q = 0xFFFFFFFF ∧ v.ending.isNone then some ⟨4, none, false⟩ else v.ending }) s

/-! ### Fragments (R55 to R57) -/

/-- What the fragment rules make of a packet: it is complete with this payload, or nothing is to be executed. -/
abbrev Whole := Option (List Byte) × State

/-- The reassembly limit (R56, R76). -/
def reassemblyLimit (v : Session) : Nat := if v.major = 1 then 16384 else 65536

/-- Sets the message being put together. -/
def setReasm (m : Nat) (f : Option Reassembly) (s : State) : State := modSess m (fun v => { v with reasm := f }) s

/-- The incomplete message of a master is discarded with 0x1005 under its tag, the way its first fragment came, unless its 0x3002 has gone
already (R56, R57, R66, R109). -/
def abortReasm (m : Nat) (v : Session) (f : Reassembly) (s : State) : State :=
  let s1 := setReasm m none s
  if f.discarding then s1
  else answer v ⟨m, f.tag, false, f.via, some v.id, f.addr, 0, [], bit f.flags 3 || f.opcode / 256 == 9⟩ f.opcode 0x1005 [] s1

/-- A packet while no message is being put together. -/
def firstFragment (r : Req) (p : Packet) (s : State) : Whole :=
  if bit p.flags 2 then (none, setReasm r.master (some ⟨p.opcode, p.tag, p.flags, p.payload, s.tb.gtc, r.via, r.addr, false⟩) s)
  else (some p.payload, s)

/-- A further fragment of the message being put together. -/
def nextFragment (r : Req) (v : Session) (f : Reassembly) (p : Packet) (s : State) : Whole :=
  let bytes := if f.discarding then [] else f.bytes ++ p.payload
  let beyond := decide (reassemblyLimit v < bytes.length)
  let s1 := if beyond then reply r p.opcode 0x3002 [] s else s
  if bit p.flags 2 then
    (none, setReasm r.master (some { f with
      bytes := if beyond then [] else bytes
      last := s.tb.gtc
      discarding := f.discarding || beyond }) s1)
  else (if f.discarding || beyond then none else some bytes, setReasm r.master none s1)

/-- Step 7 of R54. An unfragmented urgent packet leaves the message as it is; any other packet that is not the next fragment aborts it
(R57). -/
def fragment (r : Req) (v : Session) (p : Packet) (s : State) : Whole :=
  match v.reasm with
  | none => firstFragment r p s
  | some f =>
    if f.tag = p.tag ∧ f.opcode = p.opcode ∧ putBit f.flags 2 false = putBit p.flags 2 false then nextFragment r v f p s
    else if urgent p = true ∧ bit p.flags 2 = false then (some p.payload, s)
    else firstFragment r p (abortReasm r.master v f s)

/-- FRAGMENT_TIMEOUT (R57): 100 ms without the next fragment. -/
def execFragmentTimeout (m : Nat) (s : State) : Result :=
  done (match sessOf s m with
    | none => s
    | some v =>
      match v.reasm with
      | none => s
      | some f =>
        if 100000000 ≤ sinceNs s f.last then abortReasm m v f s else s)

/-! ### The checks of R54 -/

/-- Steps 5 to 12 of R54 on a packet of a session that carries the expected sequence. -/
def inSequence (v : Session) (r : Req) (p : Packet) (s : State) : Result :=
  if p.version ≠ versionByte v then done (reply r p.opcode 0x1002 [] s)
  else if flagsBad v.major p then done (reply r p.opcode 0x4001 [] s)
  else
    let w := fragment r v p s
    match w.1 with
    | none => done w.2
    | some payload =>
      match opMeaning p.opcode with
      | none => done (reply r p.opcode 0x1004 [] w.2)
      | some f => f { r with payload := payload } w.2

/-- Steps 3 and 4 of R54 on a packet of a session, then the rest. -/
def inSession (v : Session) (r : Req) (bs : List Byte) (p : Packet) (s : State) : Result :=
  if bit p.flags 1 = true ∧ (v.authenticated = false ∨ tagHolds v.keyIn bs = false) then
    done (authFailure r.master (answer v r p.opcode 0x6002 [] s))
  else if p.seq ≠ v.next then done (offSequence v r p s)
  else inSequence v { r with auth := bit p.flags 1 } p (consume r.master p.seq s)

/-- Step 2 of R54: session ID 0 only on HELLO phase 1 and ECLIPSE_TRIGGER (R72), else a session or a waiting HELLO of the master. DESIGN
CHOICE: a HELLO whose phase byte is neither 1 nor 2 is not phase 1, so session ID 0 is refused on it, and under another ID it is taken as
phase 2 (log entry 30). -/
def receivePacket (m : Nat) (via : Via) (addr : UdpAddr) (bs : List Byte) (p : Packet) (s : State) : Result :=
  let r := reqOf m via addr false p.session p
  let r0 := { r with sess := some 0 }
  let phase := if p.opcode = 0x0101 then u8 p.payload 0 else 0
  if p.session = 0 then
    if (p.opcode = 0x0101 ∧ phase = 1) ∨ p.opcode = 0x0901 then sessionless r p s
    else done (reply r0 p.opcode 0x1008 [] s)
  else if p.opcode = 0x0101 ∧ phase = 1 then done (reply r0 p.opcode 0x1008 [] s)
  else match (nth s.hellos m none).filter (fun w => w.id == p.session) with
    | some w => waiting r w bs p s
    | none =>
      match (sessOf s m).filter (fun v => v.id == p.session) with
      | some v => inSession v r bs p s
      | none => done (reply r0 p.opcode 0x1008 [] s)

/-- A packet arrives from a master (R53, R54). Every framed packet of a master counts as a sign of life of its session (R75). -/
def receive (m : Nat) (via : Via) (addr : UdpAddr) (bs : List Byte) (s : State) : Result :=
  if framed m bs = false then done (framingError m s)
  else receivePacket m via addr bs (packetFields bs) (modSess m (fun v => { v with last := s.tb.gtc }) s)

/-- Whether a master's transport reaches the control cores (R98, R583). -/
def portUp (m : Nat) (s : State) : Bool :=
  efbexRuns s && (if m = 0 then domOn s 2 && !s.pwr.perst else if m = 3 then domOn s 2 else if m = 4 then domOn s 12
    else decide (m ≤ 4) && domOn s 3)

/-- No UDP address: transports without one. -/
def noAddr : UdpAddr := ⟨0, 0⟩

/-- EFBEX_PACKET_RX (R54): one packet over a master's transport. -/
def execEfbexPacketRx (m : Nat) (addr : UdpAddr) (bs : List Byte) (s : State) : Result :=
  if portUp m s then receive m .transport addr bs s else done s

/-! ### PCIe rings (R60 to R63) -/

/-- Changes the rings. -/
def modRings (f : Rings → Rings) (s : State) : State := { s with rings := f s.rings }

/-- CQ_FULL: no free slot, with one slot kept empty so that equal indices mean an empty ring. -/
def cqFull (g : Rings) : Bool := (g.cqTail + 1) % max g.cqEntries 1 == g.cqHead

/-- Whether the device takes the next RQ slot now (R60, R63). -/
def rqReady (s : State) : Bool :=
  s.rings.rqEn && !s.rings.dmaErr && !cqFull s.rings && portUp 0 s

/-- The next RQ slot is taken: the packet after its 8-byte header, or SLOT_ERR (Table 2-4, Table 2-5). -/
def takeSlot (slot : List Byte) (s : State) : Result :=
  let s1 := modRings (fun g => { g with
    rqSlots := g.rqSlots.drop 1
    rqHead := (g.rqHead + 1) % max g.rqEntries 1 }) s
  let n := u16 slot 0
  if 24 ≤ n ∧ n ≤ 4088 then receive 0 .transport noAddr (sub slot 8 n) s1
  else done (modRings (fun g => { g with
    slotErr := true
    rqDropped := satAdd 32 g.rqDropped 1 }) s1)

/-- Takes up to `n` slots while the device takes any. -/
def takeSlots (n : Nat) (s : State) : Result :=
  match n with
  | 0 => .next s
  | k + 1 =>
    match s.rings.rqSlots with
    | [] => .next s
    | slot :: _ =>
      if rqReady s then
        match takeSlot slot s with
        | .next t => takeSlots k t
        | x => x
      else .next s

/-- Takes every slot that can be taken. -/
def drainRings (s : State) : Result := takeSlots s.rings.rqSlots.length s

/-- A ring access ended in a PCIe error: both rings stop while DMA_ERR is set (Table 2-4). -/
def dmaError (s : State) : State := modRings (fun g => { g with dmaErr := true }) s

/-- RQ_TAIL_WRITE (R60): `slots` are the slots the host has filled, `err` a read of them that ended in a PCIe error. -/
def execRqTailWrite (tail : Nat) (slots : List (List Byte)) (err : Bool) (s : State) : Result :=
  if windowUp 0 s = false then done s
  else
    let s1 := modRings (fun g => { g with rqTail := tail % 2 ^ 32 }) s
    if err then done (dmaError s1)
    else
      let s2 := modRings (fun g => { g with rqSlots := g.rqSlots ++ slots }) s1
      if rqReady s2 ∧ s2.rings.rqSlots ≠ [] then drainRings s2 else done s2

/-- CQ_HEAD_WRITE (R63): the host has consumed slots; the device goes on taking requests. -/
def execCqHeadWrite (head : Nat) (s : State) : Result :=
  if windowUp 0 s = false then done s
  else
    let s1 := modRings (fun g => { g with cqHead := head % 2 ^ 32 }) s
    if rqReady s1 ∧ s1.rings.rqSlots ≠ [] then drainRings s1 else done s1

/-- The next outbound packet of a master 0 or 3 and the state once it has left: packets without a session first. -/
def nextOut (m : Nat) (s : State) : Option (Waiting × List Byte × State) :=
  match nth s.txq m [] with
  | w :: r => some (w, barePacket w, { s with txq := s.txq.set m r })
  | [] =>
    match sessOf s m with
    | none => none
    | some v =>
      match v.queue with
      | [] => none
      | w :: r =>
        if spent v then none
        else some (w, (takeSeq v w).1, modSess m (fun _ => { (takeSeq v w).2 with queue := r }) s)

/-- The header of a CQ slot (Table 2-5). -/
def cqHeader (phase : Bool) (w : Waiting) (n : Nat) : List Byte :=
  leBytes 2 n ++ leBytes 1 (flag phase + 2 * flag (isEvent w)) ++ zeros 5

/-- CQ_SLOT_WRITE (R62): packet, then header, MSI-X vector 0; the phase inverts at each wrap. -/
def execCqSlotWrite (err : Bool) (s : State) : Result :=
  done (if s.rings.cqEn = false ∨ s.rings.dmaErr = true ∨ cqFull s.rings = true ∨ portUp 0 s = false then s
    else match nextOut 0 s with
      | none => s
      | some x =>
        if err then dmaError s
        else
          let g := s.rings
          let i := (g.cqTail + 1) % max g.cqEntries 1
          put (.msix 0) (put (.cqHeader g.cqTail (cqHeader g.phase x.1 x.2.1.length)) (put (.cqPacket g.cqTail x.2.1) (modRings (fun g => { g with
            cqTail := i
            phase := if i = 0 then !g.phase else g.phase }) x.2.2))))

/-! ### UDP (R64 to R66) -/

/-- UDP_DATAGRAM_RX (R64, R65): one packet per datagram on the port's UDP port; `checksum` is the datagram's own, with 0 for none. -/
def execUdpDatagramRx (m : Nat) (src : UdpAddr) (dstPort : Nat) (fragmented : Bool) (checksum : Nat) (bs : List Byte) (s : State) :
    Result :=
  if (m = 1 ∨ m = 2) ∧ portUp m s = true then
    if fragmented = true ∨ udpHolds src { ownAddr m s with port := dstPort } checksum bs = false then done (framingError m s)
    else if dstPort = (ownAddr m s).port then receive m .transport src bs s
    else done s
  else done s

/-! ### SPI target (R67 to R69) -/

/-- Whether the SPI target is powered and out of reset (R512, R583). -/
def spiUp (s : State) : Bool := domOn s 2 && s.vault.life != 0xFF && s.pwr.state != 4

/-- The 4 bytes of STATUS (Table 2-6). -/
def spiStatus (s : State) : List Byte :=
  let o := nextOut 3 s
  leBytes 1 (bitsOf [o.isSome, decide (s.spi.inbound.length < 2), frozen s 3, s.spi.lastDropped]) ++ zeros 1
    ++ leBytes 2 (match o with
      | none => 0
      | some x => x.2.1.length)

/-- SPI_STATUS (R67, R68): bit 3 shows a dropped WRITE once. -/
def execSpiStatus (s : State) : Result :=
  done (if spiUp s then put (.spi (spiStatus s)) { s with spi := { s.spi with lastDropped := false } } else s)

/-- SPI_WRITE (R68): one packet into a free buffer, in SLEEP a wake source (Table 17-5); `cut` a WRITE cut short by the chip select. -/
def execSpiWrite (bs : List Byte) (cut : Bool) (s : State) : Result :=
  if spiUp s = false then done s
  else if cut = true ∨ 2 ≤ s.spi.inbound.length then done { s with spi := { s.spi with lastDropped := true } }
  else if portUp 3 s = true ∧ s.spi.inbound = [] then receive 3 .transport noAddr bs s
  else done (askWake 7 { s with spi := { s.spi with inbound := s.spi.inbound ++ [bs] } })

/-- SPI_READ (R69): `clocked` bytes after the command byte, two dummy bytes among them; the packet leaves the queue once all of its
bytes have been clocked out. DESIGN CHOICE: the dummy bytes, and what is clocked out beyond the packet or while none waits, are zeros; the
spec gives them no value (log entry 30). -/
def execSpiRead (clocked : Nat) (s : State) : Result :=
  done (if spiUp s = false then s
    else match nextOut 3 s with
      | none => put (.spi (zeros clocked)) s
      | some x =>
        let out := put (.spi ((zeros 2 ++ x.2.1).take clocked))
        if 2 + x.2.1.length ≤ clocked then out x.2.2 else out s)

/-- SPI_UNKNOWN_COMMAND (R69): the transaction ends with no effect. -/
def execSpiUnknownCommand (_b : Nat) (s : State) : Result := done s

/-! ### Mailboxes (R107, R108) and the link (R477) -/

/-- The bytes of a mailbox message. -/
def messageBytes (x : MbxIn) : List Byte := x.data.flatMap (leBytes 4)

/-- MBX_INBOUND_PROCESS (R103, R107, R108): the device takes the message of inbound mailbox `n`. -/
def execMbxInboundProcess (m n : Nat) (s : State) : Result :=
  let x := nth (bankOf s m).inb n MbxIn.zero
  if x.full = false ∨ efbexRuns s = false then done s
  else
    let s1 := modBank m (fun b => { b with inb := modNth b.inb n (fun x => { x with full := false }) }) s
    let bs := messageBytes x
    if 60 < u8 bs 1 then done (framingError m s1)
    else if u8 bs 0 = 2 then done s1
    else if u8 bs 0 = 1 ∧ n < 15 then
      receive m (.mailbox n) (match sessOf s m with
        | none => noAddr
        | some v => v.addr) (sub bs 4 (u8 bs 1)) s1
    else done (framingError m s1)

/-- A reply of the partner to a SPOT_STOP that this STANDBY forwarded (R402). -/
def forwardReply (p : Packet) (s : State) : State :=
  match s.pair.forwards.find? (fun r => r.tag == p.tag) with
  | none => s
  | some r =>
    reply r 0x0903 p.status p.payload { s with pair := { s.pair with
      forwards := s.pair.forwards.filter (fun x => !(x.tag == r.tag && x.master == r.master && x.sess == r.sess)) } }

/-- PAIR_EFBEX_RX (R477, R40): an Efbex packet of master 4. A SPOT_STOP that the standby forwards comes without a session (R402). -/
def execPairEfbexRx (m : LinkMsg) (s : State) : Result :=
  let bs := m.payload
  match linkVerdict 9 m s with
  | 0 => done s
  | 1 => done (tagDrop s)
  | _ =>
    let s1 := linkSeen m s
    let p := packetFields bs
    if portUp 4 s1 = false then done s1
    else if framed 4 bs = false then done (framingError 4 s1)
    else if bit p.flags 0 = true ∧ p.session = 0 then done (forwardReply p s1)
    else if p.session = 0 ∧ p.opcode = 0x0903 then execSpotStop (reqOf 4 .transport noAddr true 0 p) s1
    else receive 4 .transport noAddr bs s1

/-! ### Registers over PCIe (R10, R11, R60, R61, R95) -/

/-- Whether a value is a ring size of Table 2-4. -/
def ringSize (v : Nat) : Bool := [16, 32, 64, 128, 256].contains v

/-- The half `hi` of a 64-bit register replaced. -/
def setHalf (hi : Bool) (old v : Nat) : Nat := if hi then old % 2 ^ 32 + 2 ^ 32 * v else old / 2 ^ 32 * 2 ^ 32 + v

/-- A write of 4 bytes to BAR2 (Table 2-4, R61); `again` are the bits that the hardware sets in the same clock (R11). A ring size that the table does not list is ignored. -/
def barWrite (off v again : Nat) (g : Rings) : Rings :=
  match off with
  | 0x000 => if g.rqEn then g else { g with rqBase := fieldRW g.rqBase (setHalf false g.rqBase v) }
  | 0x004 => if g.rqEn then g else { g with rqBase := fieldRW g.rqBase (setHalf true g.rqBase v) }
  | 0x008 => if g.rqEn = true ∨ ringSize v = false then g else { g with rqEntries := fieldRW g.rqEntries v }
  | 0x00C => { g with rqTail := fieldRW g.rqTail v }
  | 0x020 => if g.cqEn then g else { g with cqBase := fieldRW g.cqBase (setHalf false g.cqBase v) }
  | 0x024 => if g.cqEn then g else { g with cqBase := fieldRW g.cqBase (setHalf true g.cqBase v) }
  | 0x028 => if g.cqEn = true ∨ ringSize v = false then g else { g with cqEntries := fieldRW g.cqEntries v }
  | 0x02C => { g with cqHead := fieldRW g.cqHead v }
  | 0x040 => { g with
    rqEn := bit v 0
    cqEn := bit v 1 }
  | 0x044 => { g with
    slotErr := fieldW1Cset g.slotErr (bit v 0) (bit again 0)
    dmaErr := fieldW1Cset g.dmaErr (bit v 1) (bit again 1) }
  | _ => g

/-- A read of 4 bytes of BAR2 (Table 2-4). -/
def barRead (off : Nat) (g : Rings) : Nat :=
  match off with
  | 0x000 => g.rqBase % 2 ^ 32
  | 0x004 => g.rqBase / 2 ^ 32
  | 0x008 => g.rqEntries
  | 0x00C => g.rqTail
  | 0x010 => g.rqHead
  | 0x020 => g.cqBase % 2 ^ 32
  | 0x024 => g.cqBase / 2 ^ 32
  | 0x028 => g.cqEntries
  | 0x02C => g.cqHead
  | 0x030 => g.cqTail
  | 0x040 => bitsOf [g.rqEn, g.cqEn]
  | 0x044 => bitsOf [g.slotErr, g.dmaErr, cqFull g]
  | 0x048 => g.rqDropped
  | _ => 0

/-- A write to BAR2 of 4 or 8 bytes, aligned; others change nothing. -/
def barAccess (off size v again : Nat) (s : State) : State :=
  if size = 4 ∧ off % 4 = 0 then modRings (barWrite off (v % 2 ^ 32) again) s
  else if size = 8 ∧ off % 8 = 0 then
    modRings (fun g => barWrite (off + 4) (v / 2 ^ 32 % 2 ^ 32) (again / 2 ^ 32) (barWrite off (v % 2 ^ 32) again g)) s
  else s

/-- REGISTER_WRITE (R10, R11, R61, R95 to R97): a write of the window by a master, or of BAR2 by PCIe; `again` are the bits of a W1C field
that the hardware sets in the same clock, which end set; enabling the ring lets the device take waiting slots. -/
def execRegisterWrite (m : Nat) (bar2 : Bool) (off size v again : Nat) (s : State) : Result :=
  if windowUp m s = false then done s
  else if bar2 then
    if m = 0 then
      let s1 := barAccess off size v again s
      if rqReady s1 ∧ s1.rings.rqSlots ≠ [] then drainRings s1 else done s1
    else done s
  else
    let s1 := writeSized m off size v s
    done (if again = 0 ∨ size ≠ 4 ∨ frozen s m = true then s1 else setAgain m off again s1)

/-- The RC field at an offset of the window counts an event after the read that cleared it (R11). -/
def eventAfter (m off : Nat) (s : State) : State :=
  if off = 0x1818 then modBank m (fun b => { b with mbxDiscarded := fieldEventWins b.mbxDiscarded true }) s
  else if off = 0x3210 then { s with lckForced := fieldEventWins s.lckForced true }
  else if within off 0x4000 0x7FFF ∧ off % 256 = 0x24 then
    modSq ((off - 0x4000) / 256) (fun x => { x with dropped := fieldEventWins x.dropped true }) s
  else if within off 0x9080 0x908F ∧ off % 4 = 0 then modCapture ((off - 0x9080) / 4) (fun c => { c with ovf := true }) s
  else s

/-- A read of BAR2 of 4 or 8 bytes, aligned; others read 0 (Table 2-4). -/
def barReads (off size : Nat) (g : Rings) : Nat :=
  if size = 4 ∧ off % 4 = 0 then barRead off g
  else if size = 8 ∧ off % 8 = 0 then barRead off g + 2 ^ 32 * barRead (off + 4) g
  else 0

/-- READ_CLEAR_REGISTER (R10, R11, R95): a read of `size` bytes returns the field and clears it; an event of the device in the same clock
(`again`) is counted after the access. -/
def execReadClearRegister (m : Nat) (bar2 : Bool) (off size : Nat) (again : Bool) (s : State) : Result :=
  done (if windowUp m s = false then s
    else if bar2 then
      if m = 0 then
        put (.value (barReads off size s.rings)) (modRings (fun g =>
          if off = 0x048 ∧ (size = 4 ∨ size = 8) then { g with rqDropped := fieldEventWins (fieldRC g.rqDropped).2 again } else g) s)
      else s
    else
      let t := readSized m off size s
      let u := put (.value t.1) t.2
      if again = true ∧ size = 4 ∧ frozen s m = false then eventAfter m off u else u)

/-! ### The idle block -/

/-- Packets that the SPI target and the request ring held while Efbex was not carried (R103, R583). -/
def serveHeld (s : State) : Result :=
  match s.spi.inbound with
  | bs :: r => if portUp 3 s then receive 3 .transport noAddr bs { s with spi := { s.spi with inbound := r } } else .next s
  | [] => if rqReady s then drainRings s else .next s

/-- What an empty queue lets happen (log entry 2): the clock ticks, the pins that follow it take their levels (R152), and held packets are
served. -/
def idle (s : State) : Result := serveHeld (agreeStep (tick s))

end Sys2Proof.Machine
end

