-- ==== Sys2Proof/Machine/Dispatch.lean ====
section
/-!
DEFINITION. Sys2Proof/Machine/Dispatch.lean: the dispatcher, one arm per row of the opcode table.
-/
namespace Sys2Proof.Machine
open Sys2Proof

def exec (i : Instr) (s : State) : Host.Outcome State Fault Refusal :=
  match i with
  | .efbexPacketRx m addr bytes => Sys2Proof.Machine.execEfbexPacketRx m addr bytes s
  | .fragmentTimeout m => Sys2Proof.Machine.execFragmentTimeout m s
  | .sessionIdleTimeout m => Sys2Proof.Machine.execSessionIdleTimeout m s
  | .eventsLost m => Sys2Proof.Machine.execEventsLost m s
  | .rqTailWrite tail slots err => Sys2Proof.Machine.execRqTailWrite tail slots err s
  | .cqHeadWrite head => Sys2Proof.Machine.execCqHeadWrite head s
  | .cqSlotWrite err => Sys2Proof.Machine.execCqSlotWrite err s
  | .pcieFlr => Sys2Proof.Machine.execPcieFlr s
  | .udpDatagramRx m src dstPort fragment checksum bytes => Sys2Proof.Machine.execUdpDatagramRx m src dstPort fragment checksum bytes s
  | .spiStatus => Sys2Proof.Machine.execSpiStatus s
  | .spiWrite bytes cut => Sys2Proof.Machine.execSpiWrite bytes cut s
  | .spiRead clocked => Sys2Proof.Machine.execSpiRead clocked s
  | .spiUnknownCommand b => Sys2Proof.Machine.execSpiUnknownCommand b s
  | .registerWrite m bar2 offset size value again => Sys2Proof.Machine.execRegisterWrite m bar2 offset size value again s
  | .readClearRegister m bar2 offset size again => Sys2Proof.Machine.execReadClearRegister m bar2 offset size again s
  | .mbxPost m n word => Sys2Proof.Machine.execMbxPost m n word s
  | .mbxLatch m n => Sys2Proof.Machine.execMbxLatch m n s
  | .mbxReadEnd m n => Sys2Proof.Machine.execMbxReadEnd m n s
  | .mbxInboundProcess m n => Sys2Proof.Machine.execMbxInboundProcess m n s
  | .dblInWakeSet m => Sys2Proof.Machine.execDblInWakeSet m s
  | .eclipseDoorbell m => Sys2Proof.Machine.execEclipseDoorbell m s
  | .lckRead m k => Sys2Proof.Machine.execLckRead m k s
  | .lckReleaseWrite m value => Sys2Proof.Machine.execLckReleaseWrite m value s
  | .sqPushLenWrite m q len => Sys2Proof.Machine.execSqPushLenWrite m q len s
  | .sqPushWrite m q word => Sys2Proof.Machine.execSqPushWrite m q word s
  | .sqPopRead m q eccBad => Sys2Proof.Machine.execSqPopRead m q eccBad s
  | .sqFlushRequest m q => Sys2Proof.Machine.execSqFlushRequest m q s
  | .sqFlushTimeout q => Sys2Proof.Machine.execSqFlushTimeout q s
  | .tbrGtcLoRead m => Sys2Proof.Machine.execTbrGtcLoRead m s
  | .clwCursorWrite m value => Sys2Proof.Machine.execClwCursorWrite m value s
  | .clwLoadComplete m => Sys2Proof.Machine.execClwLoadComplete m s
  | .clwDataAdvance m => Sys2Proof.Machine.execClwDataAdvance m s
  | .clwFreezeSet m => Sys2Proof.Machine.execClwFreezeSet m s
  | .clwFreezeExpiry m => Sys2Proof.Machine.execClwFreezeExpiry m s
  | .helloPhase1 r => Sys2Proof.Machine.execHelloPhase1 r s
  | .helloPhase2 r => Sys2Proof.Machine.execHelloPhase2 r s
  | .goodbye r => Sys2Proof.Machine.execGoodbye r s
  | .getInfo r => Sys2Proof.Machine.execGetInfo r s
  | .reset r => Sys2Proof.Machine.execReset r s
  | .eventSet r => Sys2Proof.Machine.execEventSet r s
  | .netSet r => Sys2Proof.Machine.execNetSet r s
  | .armSet r => Sys2Proof.Machine.execArmSet r s
  | .armGet r => Sys2Proof.Machine.execArmGet r s
  | .portUnfreeze r => Sys2Proof.Machine.execPortUnfreeze r s
  | .winRead r => Sys2Proof.Machine.execWinRead r s
  | .winWrite r => Sys2Proof.Machine.execWinWrite r s
  | .sqConfig r => Sys2Proof.Machine.execSqConfig r s
  | .tbGet r => Sys2Proof.Machine.execTbGet r s
  | .tbSourceSet r => Sys2Proof.Machine.execTbSourceSet r s
  | .tbServoSet r => Sys2Proof.Machine.execTbServoSet r s
  | .tbStep r => Sys2Proof.Machine.execTbStep r s
  | .tpSet r => Sys2Proof.Machine.execTpSet r s
  | .tcSet r => Sys2Proof.Machine.execTcSet r s
  | .ptpSet r => Sys2Proof.Machine.execPtpSet r s
  | .utcSet r => Sys2Proof.Machine.execUtcSet r s
  | .offsetSample src => Sys2Proof.Machine.execOffsetSample src s
  | .sourceLost src => Sys2Proof.Machine.execSourceLost src s
  | .sourceSwitchTimer src => Sys2Proof.Machine.execSourceSwitchTimer src s
  | .holdoverLimit => Sys2Proof.Machine.execHoldoverLimit s
  | .tbStepNeededRepeat => Sys2Proof.Machine.execTbStepNeededRepeat s
  | .rtcSecondUpdate => Sys2Proof.Machine.execRtcSecondUpdate s
  | .tpPulseInstant n => Sys2Proof.Machine.execTpPulseInstant n s
  | .tcEdge n falling => Sys2Proof.Machine.execTcEdge n falling s
  | .ptpMessageRx port rate l2 bytes => Sys2Proof.Machine.execPtpMessageRx port rate l2 bytes s
  | .ptpAnnounceTimeout port => Sys2Proof.Machine.execPtpAnnounceTimeout port s
  | .ptpIntervalTx port rate kind => Sys2Proof.Machine.execPtpIntervalTx port rate kind s
  | .gnPortSet r => Sys2Proof.Machine.execGnPortSet r s
  | .gnStatus r => Sys2Proof.Machine.execGnStatus r s
  | .gnSignalSet r => Sys2Proof.Machine.execGnSignalSet r s
  | .gnChanAlloc r => Sys2Proof.Machine.execGnChanAlloc r s
  | .gnLoopSet r => Sys2Proof.Machine.execGnLoopSet r s
  | .gnFenceSet r => Sys2Proof.Machine.execGnFenceSet r s
  | .gnJnSet r => Sys2Proof.Machine.execGnJnSet r s
  | .gnBearingSet r => Sys2Proof.Machine.execGnBearingSet r s
  | .gnSatExclude r => Sys2Proof.Machine.execGnSatExclude r s
  | .gnSatGet r => Sys2Proof.Machine.execGnSatGet r s
  | .gnObsStream r => Sys2Proof.Machine.execGnObsStream r s
  | .gnAcqSet r => Sys2Proof.Machine.execGnAcqSet r s
  | .jesdCgsDone p => Sys2Proof.Machine.execJesdCgsDone p s
  | .jesdIlasEnd p cfg => Sys2Proof.Machine.execJesdIlasEnd p cfg s
  | .jesdLinkError p errors misaligned => Sys2Proof.Machine.execJesdLinkError p errors misaligned s
  | .linkOutageTimeout p => Sys2Proof.Machine.execLinkOutageTimeout p s
  | .notchUpdate band lines => Sys2Proof.Machine.execNotchUpdate band lines s
  | .agcUpdate band best => Sys2Proof.Machine.execAgcUpdate band best s
  | .jnUpdate band power low clip rms => Sys2Proof.Machine.execJnUpdate band power low clip rms s
  | .noiseCaptureEnd band power => Sys2Proof.Machine.execNoiseCaptureEnd band power s
  | .acqPassComplete found => Sys2Proof.Machine.execAcqPassComplete found s
  | .channelUpdate idx c => Sys2Proof.Machine.execChannelUpdate idx c s
  | .channelLoss idx => Sys2Proof.Machine.execChannelLoss idx s
  | .obsRecordComplete x => Sys2Proof.Machine.execObsRecordComplete x s
  | .corrModeSet r => Sys2Proof.Machine.execCorrModeSet r s
  | .corrPositionSet r => Sys2Proof.Machine.execCorrPositionSet r s
  | .corrOriginSet r => Sys2Proof.Machine.execCorrOriginSet r s
  | .corrMsgSet r => Sys2Proof.Machine.execCorrMsgSet r s
  | .corrStationSet r => Sys2Proof.Machine.execCorrStationSet r s
  | .corrStream r => Sys2Proof.Machine.execCorrStream r s
  | .corrSelfcheckSet r => Sys2Proof.Machine.execCorrSelfcheckSet r s
  | .corrIntegritySet r => Sys2Proof.Machine.execCorrIntegritySet r s
  | .corrGet r => Sys2Proof.Machine.execCorrGet r s
  | .blBerthSet r => Sys2Proof.Machine.execBlBerthSet r s
  | .blParamSet r => Sys2Proof.Machine.execBlParamSet r s
  | .blStream r => Sys2Proof.Machine.execBlStream r s
  | .blResetBerth r => Sys2Proof.Machine.execBlResetBerth r s
  | .blStatus r => Sys2Proof.Machine.execBlStatus r s
  | .blBerthGet r => Sys2Proof.Machine.execBlBerthGet r s
  | .blShadowSet r => Sys2Proof.Machine.execBlShadowSet r s
  | .blObsArrival b content => Sys2Proof.Machine.execBlObsArrival b content s
  | .blObsSolve b x => Sys2Proof.Machine.execBlObsSolve b x s
  | .blSilenceTimeout b => Sys2Proof.Machine.execBlSilenceTimeout b s
  | .blRetentionExpiry b => Sys2Proof.Machine.execBlRetentionExpiry b s
  | .rhHeadSet r => Sys2Proof.Machine.execRhHeadSet r s
  | .rhChanSet r => Sys2Proof.Machine.execRhChanSet r s
  | .rhScriptLoad r => Sys2Proof.Machine.execRhScriptLoad r s
  | .rhSpiXfer r => Sys2Proof.Machine.execRhSpiXfer r s
  | .rhPortTrain r sweeps => Sys2Proof.Machine.execRhPortTrain r sweeps s
  | .rhFenceSet r => Sys2Proof.Machine.execRhFenceSet r s
  | .rhStatus r => Sys2Proof.Machine.execRhStatus r s
  | .rhTest r => Sys2Proof.Machine.execRhTest r s
  | .rhTestDurationEnd h => Sys2Proof.Machine.execRhTestDurationEnd h s
  | .rhRxclkPresent h => Sys2Proof.Machine.execRhRxclkPresent h s
  | .rhRxclkLost h => Sys2Proof.Machine.execRhRxclkLost h s
  | .rhBurstLimit h => Sys2Proof.Machine.execRhBurstLimit h s
  | .rhIrqEdge h => Sys2Proof.Machine.execRhIrqEdge h s
  | .rhIrqRepeat h => Sys2Proof.Machine.execRhIrqRepeat h s
  | .rhScriptComplete h read => Sys2Proof.Machine.execRhScriptComplete h read s
  | .rhFrameRx f => Sys2Proof.Machine.execRhFrameRx f s
  | .radioModeSet r => Sys2Proof.Machine.execRadioModeSet r s
  | .radioSubbandSet r => Sys2Proof.Machine.execRadioSubbandSet r s
  | .radioLinkFenceSet r => Sys2Proof.Machine.execRadioLinkFenceSet r s
  | .radioChanFenceSet r => Sys2Proof.Machine.execRadioChanFenceSet r s
  | .radioDutyGet r => Sys2Proof.Machine.execRadioDutyGet r s
  | .orConfigSet r => Sys2Proof.Machine.execOrConfigSet r s
  | .orScheduleSet r => Sys2Proof.Machine.execOrScheduleSet r s
  | .orBerthSet r => Sys2Proof.Machine.execOrBerthSet r s
  | .orBerthGet r => Sys2Proof.Machine.execOrBerthGet r s
  | .orStatus r => Sys2Proof.Machine.execOrStatus r s
  | .unitBoundary => Sys2Proof.Machine.execUnitBoundary s
  | .orbitStart => Sys2Proof.Machine.execOrbitStart s
  | .channelSelection h quiet => Sys2Proof.Machine.execChannelSelection h quiet s
  | .dutyBucketEnd bucket => Sys2Proof.Machine.execDutyBucketEnd bucket s
  | .upFrameRx f => Sys2Proof.Machine.execUpFrameRx f s
  | .joinReqRx f => Sys2Proof.Machine.execJoinReqRx f s
  | .joinAuthRx f => Sys2Proof.Machine.execJoinAuthRx f s
  | .deliveryResend b => Sys2Proof.Machine.execDeliveryResend b s
  | .joinTimeout b => Sys2Proof.Machine.execJoinTimeout b s
  | .joinLockoutExpiry machine => Sys2Proof.Machine.execJoinLockoutExpiry machine s
  | .adriftEntry b => Sys2Proof.Machine.execAdriftEntry b s
  | .adriftLimit b => Sys2Proof.Machine.execAdriftLimit b s
  | .holdTimeExpiry b => Sys2Proof.Machine.execHoldTimeExpiry b s
  | .eclipseTrigger r => Sys2Proof.Machine.execEclipseTrigger r s
  | .eclipseRelease r => Sys2Proof.Machine.execEclipseRelease r s
  | .spotStop r => Sys2Proof.Machine.execSpotStop r s
  | .spotRelease r => Sys2Proof.Machine.execSpotRelease r s
  | .eclGet r => Sys2Proof.Machine.execEclGet r s
  | .eclConfigSet r => Sys2Proof.Machine.execEclConfigSet r s
  | .stopPinChange a b => Sys2Proof.Machine.execStopPinChange a b s
  | .discrepancyTimeout => Sys2Proof.Machine.execDiscrepancyTimeout s
  | .releaseDelayEnd => Sys2Proof.Machine.execReleaseDelayEnd s
  | .trRequest r => Sys2Proof.Machine.execTrRequest r s
  | .trRelease r => Sys2Proof.Machine.execTrRelease r s
  | .trCheck r => Sys2Proof.Machine.execTrCheck r s
  | .trGet r => Sys2Proof.Machine.execTrGet r s
  | .trList r => Sys2Proof.Machine.execTrList r s
  | .trZoneSet r => Sys2Proof.Machine.execTrZoneSet r s
  | .trZoneRemove r => Sys2Proof.Machine.execTrZoneRemove r s
  | .trConfigSet r => Sys2Proof.Machine.execTrConfigSet r s
  | .trBerthSet r => Sys2Proof.Machine.execTrBerthSet r s
  | .trStatus r => Sys2Proof.Machine.execTrStatus r s
  | .arbiterDecision time => Sys2Proof.Machine.execArbiterDecision time s
  | .transitRemoval id => Sys2Proof.Machine.execTransitRemoval id s
  | .zoneRemoval z => Sys2Proof.Machine.execZoneRemoval z s
  | .conformanceUnknownTimeout b => Sys2Proof.Machine.execConformanceUnknownTimeout b s
  | .dpTaskAdd r => Sys2Proof.Machine.execDpTaskAdd r s
  | .dpTaskReady r => Sys2Proof.Machine.execDpTaskReady r s
  | .dpTaskCancel r => Sys2Proof.Machine.execDpTaskCancel r s
  | .dpTaskGet r => Sys2Proof.Machine.execDpTaskGet r s
  | .dpConfigSet r => Sys2Proof.Machine.execDpConfigSet r s
  | .dpBerthSet r => Sys2Proof.Machine.execDpBerthSet r s
  | .dpBerthGet r => Sys2Proof.Machine.execDpBerthGet r s
  | .dpLevelGet r => Sys2Proof.Machine.execDpLevelGet r s
  | .dpPackSet r => Sys2Proof.Machine.execDpPackSet r s
  | .dpPackBind r => Sys2Proof.Machine.execDpPackBind r s
  | .dpPackGet r => Sys2Proof.Machine.execDpPackGet r s
  | .dpStatus r => Sys2Proof.Machine.execDpStatus r s
  | .taskDeadline id => Sys2Proof.Machine.execTaskDeadline id s
  | .dpCountersUpdate => Sys2Proof.Machine.execDpCountersUpdate s
  | .pairConfigSet r => Sys2Proof.Machine.execPairConfigSet r s
  | .pairGet r => Sys2Proof.Machine.execPairGet r s
  | .pairSwitchover r => Sys2Proof.Machine.execPairSwitchover r s
  | .pairResync r => Sys2Proof.Machine.execPairResync r s
  | .commitCycleEnd => Sys2Proof.Machine.execCommitCycleEnd s
  | .pairDeltaRx m size content => Sys2Proof.Machine.execPairDeltaRx m size content s
  | .pairAckRx m => Sys2Proof.Machine.execPairAckRx m s
  | .pairAckLimit => Sys2Proof.Machine.execPairAckLimit s
  | .pairAloneTimeout => Sys2Proof.Machine.execPairAloneTimeout s
  | .pairDeltaTimeout => Sys2Proof.Machine.execPairDeltaTimeout s
  | .pairRenewRx m => Sys2Proof.Machine.execPairRenewRx m s
  | .pairLeasePulseRx us => Sys2Proof.Machine.execPairLeasePulseRx us s
  | .pairTakeoverDetect => Sys2Proof.Machine.execPairTakeoverDetect s
  | .pairLaneChange lane up => Sys2Proof.Machine.execPairLaneChange lane up s
  | .linkHelloRx m => Sys2Proof.Machine.execLinkHelloRx m s
  | .pairJoinWait => Sys2Proof.Machine.execPairJoinWait s
  | .pairFullRx m content => Sys2Proof.Machine.execPairFullRx m content s
  | .pairDigestRx m => Sys2Proof.Machine.execPairDigestRx m s
  | .pairFixsumRx m => Sys2Proof.Machine.execPairFixsumRx m s
  | .pairEclipseMsgRx m => Sys2Proof.Machine.execPairEclipseMsgRx m s
  | .pairTriggerMsgRx m => Sys2Proof.Machine.execPairTriggerMsgRx m s
  | .pairEclInChange high => Sys2Proof.Machine.execPairEclInChange high s
  | .pairEfbexRx m => Sys2Proof.Machine.execPairEfbexRx m s
  | .pairLeaveRx m => Sys2Proof.Machine.execPairLeaveRx m s
  | .pairHandoverRx m => Sys2Proof.Machine.execPairHandoverRx m s
  | .vaultInfo r => Sys2Proof.Machine.execVaultInfo r s
  | .vaultProvision r => Sys2Proof.Machine.execVaultProvision r s
  | .lcAdvance r => Sys2Proof.Machine.execLcAdvance r s
  | .nodeCreate r => Sys2Proof.Machine.execNodeCreate r s
  | .nodeInvalidate r => Sys2Proof.Machine.execNodeInvalidate r s
  | .nodeGet r => Sys2Proof.Machine.execNodeGet r s
  | .vaultCrypto r => Sys2Proof.Machine.execVaultCrypto r s
  | .vaultOperationComplete index => Sys2Proof.Machine.execVaultOperationComplete index s
  | .vaultExport r => Sys2Proof.Machine.execVaultExport r s
  | .vaultKdfTest r => Sys2Proof.Machine.execVaultKdfTest r s
  | .fwWrite r => Sys2Proof.Machine.execFwWrite r s
  | .fwActivate r => Sys2Proof.Machine.execFwActivate r s
  | .tamperSet r => Sys2Proof.Machine.execTamperSet r s
  | .tamperClear r => Sys2Proof.Machine.execTamperClear r s
  | .tamperSample n high => Sys2Proof.Machine.execTamperSample n high s
  | .canConfigSet r => Sys2Proof.Machine.execCanConfigSet r s
  | .canFilterSet r => Sys2Proof.Machine.execCanFilterSet r s
  | .canRxRead r => Sys2Proof.Machine.execCanRxRead r s
  | .canTx r => Sys2Proof.Machine.execCanTx r s
  | .canTxAbort r => Sys2Proof.Machine.execCanTxAbort r s
  | .canRateDetect r => Sys2Proof.Machine.execCanRateDetect r s
  | .canRecover r => Sys2Proof.Machine.execCanRecover r s
  | .canStatus r => Sys2Proof.Machine.execCanStatus r s
  | .canStream r => Sys2Proof.Machine.execCanStream r s
  | .canFrameValid c f => Sys2Proof.Machine.execCanFrameValid c f s
  | .canHeartbeatTimeout index => Sys2Proof.Machine.execCanHeartbeatTimeout index s
  | .canTxComplete c b ok start delay => Sys2Proof.Machine.execCanTxComplete c b ok start delay s
  | .canBusError c kind tx extra exempt => Sys2Proof.Machine.execCanBusError c kind tx extra exempt s
  | .canBusIdleSync c => Sys2Proof.Machine.execCanBusIdleSync c s
  | .canRecoveryComplete c => Sys2Proof.Machine.execCanRecoveryComplete c s
  | .canRateDwell c => Sys2Proof.Machine.execCanRateDwell c s
  | .canRateTimeout c => Sys2Proof.Machine.execCanRateTimeout c s
  | .clTriggerSet r => Sys2Proof.Machine.execClTriggerSet r s
  | .clTriggerGet r => Sys2Proof.Machine.execClTriggerGet r s
  | .clStatus r => Sys2Proof.Machine.execClStatus r s
  | .clRead r => Sys2Proof.Machine.execClRead r s
  | .clMark r => Sys2Proof.Machine.execClMark r s
  | .clAttest r => Sys2Proof.Machine.execClAttest r s
  | .cometRecord => Sys2Proof.Machine.execCometRecord s
  | .nucleusWriteComplete => Sys2Proof.Machine.execNucleusWriteComplete s
  | .pfailNFall => Sys2Proof.Machine.execPfailNFall s
  | .pwrStateSet r => Sys2Proof.Machine.execPwrStateSet r s
  | .pwrStatus r => Sys2Proof.Machine.execPwrStatus r s
  | .avsFenceSet r => Sys2Proof.Machine.execAvsFenceSet r s
  | .wdSet r => Sys2Proof.Machine.execWdSet r s
  | .thermalSet r => Sys2Proof.Machine.execThermalSet r s
  | .calibRead r => Sys2Proof.Machine.execCalibRead r s
  | .calibWrite r => Sys2Proof.Machine.execCalibWrite r s
  | .sleepEntry => Sys2Proof.Machine.execSleepEntry s
  | .wakeSource code retained => Sys2Proof.Machine.execWakeSource code retained s
  | .hostUpStart spi => Sys2Proof.Machine.execHostUpStart spi s
  | .hostUpTimeout => Sys2Proof.Machine.execHostUpTimeout s
  | .pciePerstLow => Sys2Proof.Machine.execPciePerstLow s
  | .refInLost => Sys2Proof.Machine.execRefInLost s
  | .refInRestored => Sys2Proof.Machine.execRefInRestored s
  | .portReset m cause => Sys2Proof.Machine.execPortReset m cause s
  | .domainReset d => Sys2Proof.Machine.execDomainReset d s
  | .domainReturn d ok => Sys2Proof.Machine.execDomainReturn d ok s
  | .warmReset cause => Sys2Proof.Machine.execWarmReset cause s
  | .coldReset cause bootSel strapHigh => Sys2Proof.Machine.execColdReset cause bootSel strapHigh s
  | .vbatReset bootSel strapHigh => Sys2Proof.Machine.execVbatReset bootSel strapHigh s
  | .resetNLow bootSel strapHigh => Sys2Proof.Machine.execResetNLow bootSel strapHigh s
  | .watchdogHalfTimeout core => Sys2Proof.Machine.execWatchdogHalfTimeout core s
  | .watchdogBite core => Sys2Proof.Machine.execWatchdogBite core s
  | .watchdogBootTimeout => Sys2Proof.Machine.execWatchdogBootTimeout s
  | .avsTick slack => Sys2Proof.Machine.execAvsTick slack s
  | .monitorFault code value => Sys2Proof.Machine.execMonitorFault code value s
  | .monitorClear code value => Sys2Proof.Machine.execMonitorClear code value s
  | .thermalChange sensor temp => Sys2Proof.Machine.execThermalChange sensor temp s
  | .memEccError mem uncorrectable source address object => Sys2Proof.Machine.execMemEccError mem uncorrectable source address object s
  | .standbyStopLevelHoldEnd => Sys2Proof.Machine.execStandbyStopLevelHoldEnd s
  | .watchingStart id => Sys2Proof.Machine.execWatchingStart id s
  | .flashWriteComplete ok => Sys2Proof.Machine.execFlashWriteComplete ok s
  | .fuseWriteComplete => Sys2Proof.Machine.execFuseWriteComplete s
  | .flushComplete => Sys2Proof.Machine.execFlushComplete s
  | .watchdogRenewal core => Sys2Proof.Machine.execWatchdogRenewal core s
  | .mainSupplyLoss => Sys2Proof.Machine.execMainSupplyLoss s

end Sys2Proof.Machine
end

