-- ==== Sys2Proof/WellFormed.lean ====
section
/-!
DEFINITION. Sys2Proof/WellFormed.lean: which commands the spec's part can be given: masters 0 to 4 (Table 1-3), four heads,
antenna ports, controllers and pulse outputs, 256 berths, 64 queues and locks, and so on. The meanings are total on every
command; this predicate says which of them name something the part has.
-/
namespace Sys2Proof

/-- A request that a master of Table 1-3 can send: a 16-bit tag, a mailbox 0 to 14 of a host port (R107), a payload within the
reassembly limit (R56). -/
def Req.wf (r : Req) : Bool :=
  decide (r.master < 5) && decide (r.tag < 65536) && decide (r.payload.length ≤ 65536) &&
    (match r.via with
     | .transport => true
     | .mailbox i => decide (i < 15) && decide (r.master < 4))

/-- A frame at one of the four heads, with a type and protection field of the header's width (Table 9-2). -/
def AirFrame.wf (f : AirFrame) : Bool := decide (f.head < 4) && decide (f.header < 2 ^ 64) && decide (f.data.length ≤ 4095)

/-- A CAN frame: a DLC of 0 to 15 and at most 64 data bytes (R545, Table 15-3). -/
def CanFrame.wf (f : CanFrame) : Bool := decide (f.dlc < 16) && decide (f.data.length ≤ 64)

/-- Whether the command names things the part has. -/
def Instr.wf (i : Instr) : Bool :=
  match i with
  | .efbexPacketRx m _ _ => decide (m < 5)
  | .fragmentTimeout m => decide (m < 5)
  | .sessionIdleTimeout m => decide (m < 5)
  | .eventsLost m => decide (m < 5)
  | .rqTailWrite _ _ _ => true
  | .cqHeadWrite _ => true
  | .cqSlotWrite _ => true
  | .pcieFlr => true
  | .udpDatagramRx m _ _ _ checksum _ => decide (m = 1 ∨ m = 2) && decide (checksum < 65536)
  | .spiStatus => true
  | .spiWrite _ _ => true
  | .spiRead _ => true
  | .spiUnknownCommand b => decide (b < 256)
  | .registerWrite m _ _ size value again =>
    decide (m < 5) && decide (size ≤ 8) && decide (value < 2 ^ 64) && decide (again < 2 ^ 64)
  | .readClearRegister m _ _ size _ => decide (m < 5) && decide (size ≤ 8)
  | .mbxPost m n word => decide (m < 4) && decide (n < 16) && decide (word < 2 ^ 32)
  | .mbxLatch m n => decide (m < 4) && decide (n < 16)
  | .mbxReadEnd m n => decide (m < 4) && decide (n < 16)
  | .mbxInboundProcess m n => decide (m < 4) && decide (n < 16)
  | .dblInWakeSet m => decide (m < 4)
  | .eclipseDoorbell m => decide (m < 4)
  | .lckRead m k => decide (m < 5) && decide (k < 64)
  | .lckReleaseWrite m value => decide (m < 5) && decide (value < 2 ^ 32)
  | .sqPushLenWrite m q _ => decide (m < 5) && decide (q < 64)
  | .sqPushWrite m q word => decide (m < 5) && decide (q < 64) && decide (word < 2 ^ 32)
  | .sqPopRead m q _ => decide (m < 5) && decide (q < 64)
  | .sqFlushRequest m q => decide (m < 5) && decide (q < 64)
  | .sqFlushTimeout q => decide (q < 64)
  | .tbrGtcLoRead m => decide (m < 5)
  | .clwCursorWrite m value => decide (m < 4) && decide (value < 2 ^ 32)
  | .clwLoadComplete m => decide (m < 4)
  | .clwDataAdvance m => decide (m < 4)
  | .clwFreezeSet m => decide (m < 4)
  | .clwFreezeExpiry m => decide (m < 4)
  | .helloPhase1 r => r.wf
  | .helloPhase2 r => r.wf
  | .goodbye r => r.wf
  | .getInfo r => r.wf
  | .reset r => r.wf
  | .eventSet r => r.wf
  | .netSet r => r.wf
  | .armSet r => r.wf
  | .armGet r => r.wf
  | .portUnfreeze r => r.wf
  | .winRead r => r.wf
  | .winWrite r => r.wf
  | .sqConfig r => r.wf
  | .tbGet r => r.wf
  | .tbSourceSet r => r.wf
  | .tbServoSet r => r.wf
  | .tbStep r => r.wf
  | .tpSet r => r.wf
  | .tcSet r => r.wf
  | .ptpSet r => r.wf
  | .utcSet r => r.wf
  | .offsetSample src => decide (1 ≤ src) && decide (src ≤ 3)
  | .sourceLost src => decide (1 ≤ src) && decide (src ≤ 3)
  | .sourceSwitchTimer src => decide (1 ≤ src) && decide (src ≤ 3)
  | .holdoverLimit => true
  | .tbStepNeededRepeat => true
  | .rtcSecondUpdate => true
  | .tpPulseInstant n => decide (n < 4)
  | .tcEdge n _ => decide (n < 4)
  | .ptpMessageRx port rate _ _ => decide (port < 2) && decide (rate < 4)
  | .ptpAnnounceTimeout port => decide (port < 2)
  | .ptpIntervalTx port rate kind => decide (port < 2) && decide (rate < 4) && decide (kind < 4)
  | .gnPortSet r => r.wf
  | .gnStatus r => r.wf
  | .gnSignalSet r => r.wf
  | .gnChanAlloc r => r.wf
  | .gnLoopSet r => r.wf
  | .gnFenceSet r => r.wf
  | .gnJnSet r => r.wf
  | .gnBearingSet r => r.wf
  | .gnSatExclude r => r.wf
  | .gnSatGet r => r.wf
  | .gnObsStream r => r.wf
  | .gnAcqSet r => r.wf
  | .jesdCgsDone p => decide (p < 4)
  | .jesdIlasEnd p _ => decide (p < 4)
  | .jesdLinkError p _ _ => decide (p < 4)
  | .linkOutageTimeout p => decide (p < 4)
  | .notchUpdate band _ => decide (band < 16)
  | .agcUpdate band _ => decide (band < 16)
  | .jnUpdate band _ _ _ _ => decide (band < 16)
  | .noiseCaptureEnd band _ => decide (band < 16)
  | .acqPassComplete _ => true
  | .channelUpdate idx _ => decide (idx < 1024)
  | .channelLoss idx => decide (idx < 1024)
  | .obsRecordComplete _ => true
  | .corrModeSet r => r.wf
  | .corrPositionSet r => r.wf
  | .corrOriginSet r => r.wf
  | .corrMsgSet r => r.wf
  | .corrStationSet r => r.wf
  | .corrStream r => r.wf
  | .corrSelfcheckSet r => r.wf
  | .corrIntegritySet r => r.wf
  | .corrGet r => r.wf
  | .blBerthSet r => r.wf
  | .blParamSet r => r.wf
  | .blStream r => r.wf
  | .blResetBerth r => r.wf
  | .blStatus r => r.wf
  | .blBerthGet r => r.wf
  | .blShadowSet r => r.wf
  | .blObsArrival b _ => decide (b < 256)
  | .blObsSolve b _ => decide (b < 256)
  | .blSilenceTimeout b => decide (b < 256)
  | .blRetentionExpiry b => decide (b < 256)
  | .rhHeadSet r => r.wf
  | .rhChanSet r => r.wf
  | .rhScriptLoad r => r.wf
  | .rhSpiXfer r => r.wf
  | .rhPortTrain r sweeps => r.wf && sweeps.length == 3 && sweeps.all (fun m => decide (m < 2 ^ 32))
  | .rhFenceSet r => r.wf
  | .rhStatus r => r.wf
  | .rhTest r => r.wf
  | .rhTestDurationEnd h => decide (h < 4)
  | .rhRxclkPresent h => decide (h < 4)
  | .rhRxclkLost h => decide (h < 4)
  | .rhBurstLimit h => decide (h < 4)
  | .rhIrqEdge h => decide (h < 4)
  | .rhIrqRepeat h => decide (h < 4)
  | .rhScriptComplete h _ => decide (h < 4)
  | .rhFrameRx f => f.wf
  | .radioModeSet r => r.wf
  | .radioSubbandSet r => r.wf
  | .radioLinkFenceSet r => r.wf
  | .radioChanFenceSet r => r.wf
  | .radioDutyGet r => r.wf
  | .orConfigSet r => r.wf
  | .orScheduleSet r => r.wf
  | .orBerthSet r => r.wf
  | .orBerthGet r => r.wf
  | .orStatus r => r.wf
  | .unitBoundary => true
  | .orbitStart => true
  | .channelSelection h _ => decide (h < 4)
  | .dutyBucketEnd i => decide (i < 32)
  | .upFrameRx f => f.wf
  | .joinReqRx f => f.wf
  | .joinAuthRx f => f.wf
  | .deliveryResend b => decide (b < 256)
  | .joinTimeout b => decide (b < 256)
  | .joinLockoutExpiry _ => true
  | .adriftEntry b => decide (b < 256)
  | .adriftLimit b => decide (b < 256)
  | .holdTimeExpiry b => decide (b < 256)
  | .eclipseTrigger r => r.wf
  | .eclipseRelease r => r.wf
  | .spotStop r => r.wf
  | .spotRelease r => r.wf
  | .eclGet r => r.wf
  | .eclConfigSet r => r.wf
  | .stopPinChange _ _ => true
  | .discrepancyTimeout => true
  | .releaseDelayEnd => true
  | .trRequest r => r.wf
  | .trRelease r => r.wf
  | .trCheck r => r.wf
  | .trGet r => r.wf
  | .trList r => r.wf
  | .trZoneSet r => r.wf
  | .trZoneRemove r => r.wf
  | .trConfigSet r => r.wf
  | .trBerthSet r => r.wf
  | .trStatus r => r.wf
  | .arbiterDecision _ => true
  | .transitRemoval _ => true
  | .zoneRemoval z => decide (z < 256)
  | .conformanceUnknownTimeout b => decide (b < 256)
  | .dpTaskAdd r => r.wf
  | .dpTaskReady r => r.wf
  | .dpTaskCancel r => r.wf
  | .dpTaskGet r => r.wf
  | .dpConfigSet r => r.wf
  | .dpBerthSet r => r.wf
  | .dpBerthGet r => r.wf
  | .dpLevelGet r => r.wf
  | .dpPackSet r => r.wf
  | .dpPackBind r => r.wf
  | .dpPackGet r => r.wf
  | .dpStatus r => r.wf
  | .taskDeadline _ => true
  | .dpCountersUpdate => true
  | .pairConfigSet r => r.wf
  | .pairGet r => r.wf
  | .pairSwitchover r => r.wf
  | .pairResync r => r.wf
  | .commitCycleEnd => true
  | .pairDeltaRx _ _ _ => true
  | .pairAckRx _ => true
  | .pairAckLimit => true
  | .pairAloneTimeout => true
  | .pairDeltaTimeout => true
  | .pairRenewRx _ => true
  | .pairLeasePulseRx _ => true
  | .pairTakeoverDetect => true
  | .pairLaneChange lane _ => decide (lane < 2)
  | .linkHelloRx _ => true
  | .pairJoinWait => true
  | .pairFullRx _ _ => true
  | .pairDigestRx _ => true
  | .pairFixsumRx _ => true
  | .pairEclipseMsgRx _ => true
  | .pairTriggerMsgRx _ => true
  | .pairEclInChange _ => true
  | .pairEfbexRx _ => true
  | .pairLeaveRx _ => true
  | .pairHandoverRx _ => true
  | .vaultInfo r => r.wf
  | .vaultProvision r => r.wf
  | .lcAdvance r => r.wf
  | .nodeCreate r => r.wf
  | .nodeInvalidate r => r.wf
  | .nodeGet r => r.wf
  | .vaultCrypto r => r.wf
  | .vaultOperationComplete i => decide (i < 8)
  | .vaultExport r => r.wf
  | .vaultKdfTest r => r.wf
  | .fwWrite r => r.wf
  | .fwActivate r => r.wf
  | .tamperSet r => r.wf
  | .tamperClear r => r.wf
  | .tamperSample n _ => decide (n < 4)
  | .canConfigSet r => r.wf
  | .canFilterSet r => r.wf
  | .canRxRead r => r.wf
  | .canTx r => r.wf
  | .canTxAbort r => r.wf
  | .canRateDetect r => r.wf
  | .canRecover r => r.wf
  | .canStatus r => r.wf
  | .canStream r => r.wf
  | .canFrameValid c f => decide (c < 4) && f.wf
  | .canHeartbeatTimeout i => decide (i < 4)
  | .canTxComplete c b _ _ _ => decide (c < 4) && decide (b < 64)
  | .canBusError c _ _ _ _ => decide (c < 4)
  | .canBusIdleSync c => decide (c < 4)
  | .canRecoveryComplete c => decide (c < 4)
  | .canRateDwell c => decide (c < 4)
  | .canRateTimeout c => decide (c < 4)
  | .clTriggerSet r => r.wf
  | .clTriggerGet r => r.wf
  | .clStatus r => r.wf
  | .clRead r => r.wf
  | .clMark r => r.wf
  | .clAttest r => r.wf
  | .cometRecord => true
  | .nucleusWriteComplete => true
  | .pfailNFall => true
  | .pwrStateSet r => r.wf
  | .pwrStatus r => r.wf
  | .avsFenceSet r => r.wf
  | .wdSet r => r.wf
  | .thermalSet r => r.wf
  | .calibRead r => r.wf
  | .calibWrite r => r.wf
  | .sleepEntry => true
  | .wakeSource _ _ => true
  | .hostUpStart _ => true
  | .hostUpTimeout => true
  | .pciePerstLow => true
  | .refInLost => true
  | .refInRestored => true
  | .portReset m _ => decide (m < 4)
  | .domainReset d => decide (d < 14)
  | .domainReturn d _ => decide (d < 14)
  | .warmReset _ => true
  | .coldReset _ bootSel _ => decide (bootSel < 4)
  | .vbatReset bootSel _ => decide (bootSel < 4)
  | .resetNLow bootSel _ => decide (bootSel < 4)
  | .watchdogHalfTimeout core => decide (core < 8)
  | .watchdogBite core => decide (core < 8)
  | .watchdogBootTimeout => true
  | .avsTick _ => true
  | .monitorFault _ _ => true
  | .monitorClear _ _ => true
  | .thermalChange _ _ => true
  | .memEccError _ _ _ _ _ => true
  | .standbyStopLevelHoldEnd => true
  | .watchingStart _ => true
  | .flashWriteComplete _ => true
  | .fuseWriteComplete => true
  | .flushComplete => true
  | .watchdogRenewal core => decide (core < 8)
  | .mainSupplyLoss => true

end Sys2Proof
end

