-- ==== Sys2Proof/Safety.lean ====
section
/-!
DEFINITION. Sys2Proof/Safety.lean: what a safe state and a safe run are, in the terms the claims use: what follows from the rest of the
state, what a command leaves alone, what it answers and reports, and when a request is admitted.
-/
namespace Sys2Proof.Machine
open Sys2Proof

/-- The modes in force, the pins and the drive of the time-pulse outputs are those that the rest of the state gives
(R44, R388, R493, R104, R155). -/
def Agrees (s : State) : Prop :=
  s.modes = modesOf s ∧ s.pins = pinsOf s ∧ s.tb.tpDriven = tpDrivenOf s

/-! ### What a command leaves alone -/

/-- The banks without what replies and events set in them: outbound messages and outbound doorbells. -/
def stillBanks (l : List Bank) : List Bank := l.map (fun b => { b with outb := [], dblOut := 0 })

/-- The comet log without the triggers that wait for recording and the counts of missed ones. -/
def stillComet (c : Comet) : Comet := { c with waiting := [], missed := 0, missedSince := 0 }

/-- The pair without the count of link messages sent. -/
def stillPair (p : Pair) : Pair := { p with seqOut := 0 }

/-- The pins that the block reads. -/
def stillPins (p : Pins) : Pins := { p with
    hostWake := false
    faultN := false
    eclOut := false
    tp := []
    sysref := none
    heads := []
    pairEclOut := false }

/-- The heads without their tests, which a change of mode ends. -/
def stillHeads (l : List Head) : List Head := l.map (fun x => { x with test := none })

/-- The MAC's own state without what a change of the radio mode sets. -/
def stillMac (m : MacOwn) : MacOwn :=
  { m with airOffset := 0, lastUnit := none, lastOrbit := none, reservedEpoch := 0, heads := [] }

/-- The replicated state without what follows from it: broadcast epoch and counter and meters after a change of mode, idle times. -/
def stillRepl (x : Repl) : Repl :=
  { x with
    mac := { x.mac with bepoch := 0, bcounter := 0, meters := [] }
    dp := { x.dp with berths := x.dp.berths.map (fun e => (e.1, { e.2 with idleSince := none })) } }

/-- The state without what replies and events move (the record of outputs, sessions with their queues, outbound mailboxes and
doorbells, the comet log's waiting triggers, event limiters) and without what follows from the rest (modes in force and what a
change of mode sets, output pins, idle times). -/
def core (s : State) : State :=
  { s with
    outs := []
    sessions := []
    txq := []
    limiters := []
    banks := stillBanks s.banks
    comet := stillComet s.comet
    pair := stillPair s.pair
    modes := ⟨0, 0, 0, 0⟩
    pins := stillPins s.pins
    tb := { s.tb with tpDriven := false }
    rh := stillHeads s.rh
    mac := stillMac s.mac
    repl := stillRepl s.repl }

/-- Two states that differ at most in what `core` leaves out. -/
def Same (t u : State) : Prop := core t = core u

/-! ### What a command answers and reports -/

/-- What has been put out between two states. -/
def newOuts (s t : State) : List Out := t.outs.drop s.outs.length

/-- The request was answered with a status and a payload. -/
def Answered (s t : State) (r : Req) (op st : Nat) (p : List Byte) : Prop := Out.reply r.master op r.tag st p ∈ newOuts s t

/-- An event was issued under the GTC of `s`, with a payload after it. -/
def Reported (s t : State) (code src : Nat) (p : List Byte) : Prop := Out.event code src (gtcBytes s ++ p) ∈ newOuts s t

/-! ### When a request is admitted -/

/-- A reply can reach the request's sender: the request has no session of its own, or its session is in force. -/
def Answerable (s : State) (r : Req) : Prop :=
  r.sess = none ∨ r.sess = some 0 ∨ ∃ v, sessOf s r.master = some v ∧ r.sess = some v.id

/-- Steps 9 to 11 of R54 let the request pass while Efbex is carried. -/
def Admitted (op : Nat) (always : Bool) (r : Req) (s : State) : Prop :=
  efbexRuns s = true ∧ refusal op always r s = none ∧ Answerable s r

/-- The opcode, whether it is authenticated always, and the request of a command row; none for HELLO, whose phases have their own rules
(R70, R73), and for rows that are no host command. -/
def requestOf (c : Instr) : Option (Nat × Bool × Req) :=
  match c with
  | .goodbye r => some (0x0102, false, r)
  | .getInfo r => some (0x0103, false, r)
  | .reset r => some (0x0104, true, r)
  | .eventSet r => some (0x0105, false, r)
  | .netSet r => some (0x0106, true, r)
  | .armSet r => some (0x0110, true, r)
  | .armGet r => some (0x0111, false, r)
  | .portUnfreeze r => some (0x0120, true, r)
  | .winRead r => some (0x0201, false, r)
  | .winWrite r => some (0x0202, false, r)
  | .sqConfig r => some (0x0203, false, r)
  | .tbGet r => some (0x0301, false, r)
  | .tbSourceSet r => some (0x0302, false, r)
  | .tbServoSet r => some (0x0303, true, r)
  | .tbStep r => some (0x0304, true, r)
  | .tpSet r => some (0x0305, false, r)
  | .tcSet r => some (0x0306, false, r)
  | .ptpSet r => some (0x0307, true, r)
  | .utcSet r => some (0x0308, false, r)
  | .gnPortSet r => some (0x0401, true, r)
  | .gnStatus r => some (0x0402, false, r)
  | .gnSignalSet r => some (0x0403, true, r)
  | .gnChanAlloc r => some (0x0404, true, r)
  | .gnLoopSet r => some (0x0405, true, r)
  | .gnFenceSet r => some (0x0406, true, r)
  | .gnJnSet r => some (0x0407, true, r)
  | .gnBearingSet r => some (0x0408, true, r)
  | .gnSatExclude r => some (0x0409, true, r)
  | .gnSatGet r => some (0x040A, false, r)
  | .gnObsStream r => some (0x040B, false, r)
  | .gnAcqSet r => some (0x040C, true, r)
  | .corrModeSet r => some (0x0501, true, r)
  | .corrPositionSet r => some (0x0502, true, r)
  | .corrOriginSet r => some (0x0503, true, r)
  | .corrMsgSet r => some (0x0504, true, r)
  | .corrStationSet r => some (0x0505, true, r)
  | .corrStream r => some (0x0506, false, r)
  | .corrSelfcheckSet r => some (0x0507, true, r)
  | .corrIntegritySet r => some (0x0508, true, r)
  | .corrGet r => some (0x0509, false, r)
  | .blBerthSet r => some (0x0601, true, r)
  | .blParamSet r => some (0x0602, true, r)
  | .blStream r => some (0x0603, false, r)
  | .blResetBerth r => some (0x0604, true, r)
  | .blStatus r => some (0x0605, false, r)
  | .blBerthGet r => some (0x0606, false, r)
  | .blShadowSet r => some (0x0607, true, r)
  | .rhHeadSet r => some (0x0701, true, r)
  | .rhChanSet r => some (0x0702, true, r)
  | .rhScriptLoad r => some (0x0703, true, r)
  | .rhSpiXfer r => some (0x0704, true, r)
  | .rhPortTrain r _ => some (0x0705, true, r)
  | .rhFenceSet r => some (0x0706, true, r)
  | .rhStatus r => some (0x0707, false, r)
  | .rhTest r => some (0x0708, true, r)
  | .radioModeSet r => some (0x0709, true, r)
  | .radioSubbandSet r => some (0x070A, true, r)
  | .radioLinkFenceSet r => some (0x070B, true, r)
  | .radioChanFenceSet r => some (0x070C, true, r)
  | .radioDutyGet r => some (0x070D, false, r)
  | .orConfigSet r => some (0x0801, true, r)
  | .orScheduleSet r => some (0x0802, true, r)
  | .orBerthSet r => some (0x0803, true, r)
  | .orBerthGet r => some (0x0804, false, r)
  | .orStatus r => some (0x0805, false, r)
  | .eclipseTrigger r => some (0x0901, false, r)
  | .eclipseRelease r => some (0x0902, true, r)
  | .spotStop r => some (0x0903, false, r)
  | .spotRelease r => some (0x0904, true, r)
  | .eclGet r => some (0x0905, false, r)
  | .eclConfigSet r => some (0x0906, true, r)
  | .trRequest r => some (0x0A01, true, r)
  | .trRelease r => some (0x0A02, true, r)
  | .trCheck r => some (0x0A03, false, r)
  | .trGet r => some (0x0A04, false, r)
  | .trList r => some (0x0A05, false, r)
  | .trZoneSet r => some (0x0A06, true, r)
  | .trZoneRemove r => some (0x0A07, true, r)
  | .trConfigSet r => some (0x0A08, true, r)
  | .trBerthSet r => some (0x0A09, true, r)
  | .trStatus r => some (0x0A0A, false, r)
  | .dpTaskAdd r => some (0x0B01, true, r)
  | .dpTaskReady r => some (0x0B02, true, r)
  | .dpTaskCancel r => some (0x0B03, true, r)
  | .dpTaskGet r => some (0x0B04, false, r)
  | .dpConfigSet r => some (0x0B05, true, r)
  | .dpBerthSet r => some (0x0B06, true, r)
  | .dpBerthGet r => some (0x0B07, false, r)
  | .dpLevelGet r => some (0x0B08, false, r)
  | .dpPackSet r => some (0x0B09, true, r)
  | .dpPackBind r => some (0x0B0A, true, r)
  | .dpPackGet r => some (0x0B0B, false, r)
  | .dpStatus r => some (0x0B0C, false, r)
  | .pairConfigSet r => some (0x0C01, true, r)
  | .pairGet r => some (0x0C02, false, r)
  | .pairSwitchover r => some (0x0C03, true, r)
  | .pairResync r => some (0x0C04, true, r)
  | .vaultInfo r => some (0x0D01, false, r)
  | .vaultProvision r => some (0x0D02, true, if u8 r.payload 0 = 1 then { r with auth := true } else r)
  | .lcAdvance r => some (0x0D03, true, r)
  | .nodeCreate r => some (0x0D04, true, r)
  | .nodeInvalidate r => some (0x0D05, true, r)
  | .nodeGet r => some (0x0D06, false, r)
  | .vaultCrypto r => some (0x0D07, true, r)
  | .vaultExport r => some (0x0D08, true, r)
  | .vaultKdfTest r => some (0x0D09, false, r)
  | .fwWrite r => some (0x0D0A, true, r)
  | .fwActivate r => some (0x0D0B, true, r)
  | .tamperSet r => some (0x0D0C, true, r)
  | .tamperClear r => some (0x0D0D, true, r)
  | .canConfigSet r => some (0x0E01, true, r)
  | .canFilterSet r => some (0x0E02, true, r)
  | .canRxRead r => some (0x0E03, false, r)
  | .canTx r => some (0x0E04, true, r)
  | .canTxAbort r => some (0x0E05, true, r)
  | .canRateDetect r => some (0x0E06, true, r)
  | .canRecover r => some (0x0E07, true, r)
  | .canStatus r => some (0x0E08, false, r)
  | .canStream r => some (0x0E09, false, r)
  | .clTriggerSet r => some (0x0F01, true, r)
  | .clTriggerGet r => some (0x0F02, false, r)
  | .clStatus r => some (0x0F03, false, r)
  | .clRead r => some (0x0F04, false, r)
  | .clMark r => some (0x0F05, false, r)
  | .clAttest r => some (0x0F06, false, r)
  | .pwrStateSet r => some (0x1001, true, r)
  | .pwrStatus r => some (0x1002, false, r)
  | .avsFenceSet r => some (0x1003, true, r)
  | .wdSet r => some (0x1004, true, r)
  | .thermalSet r => some (0x1005, true, r)
  | .calibRead r => some (0x1101, false, r)
  | .calibWrite r => some (0x1102, true, r)
  | _ => none

/-- The command ends in a next state of which `P` holds. -/
def Runs (c : Instr) (s : State) (P : State → Prop) : Prop := ∃ t, exec c s = .next t ∧ P t

end Sys2Proof.Machine
end

