-- ==== Sys2Proof/Certificates/Slice0/Obligations.lean ====
section
/-!
DEFINITION. Sys2Proof/Certificates/Slice0/Obligations.lean: the statements about the block. A claim says what a few commands of one subject do;
a statement is a claim of its own or joins the claims of one subject.
-/
open Sys2Proof Sys2Proof.Machine

/-! ### The block -/

/-- The front command is taken from the queue and run on the rest (the row's cut: the block takes its commands first in, first out). -/
def Obligations.StepTakesFront : Prop :=
  ∀ (c : Instr) (rest : List Instr) (s : State), s.pending = c :: rest → step s = exec c { s with pending := rest }

/-- On an empty queue, with no packet held, one tick of the clock passes, the pins follow it, and nothing else happens (log entry 2): GTC
rises by `clockStep`. -/
def Obligations.IdleTicks : Prop :=
  ∀ s : State, s.pending = [] → s.spi.inbound = [] → s.rings.rqSlots = [] →
    ∃ t, step s = .next t ∧ t.tb.gtc = s.tb.gtc + BitVec.ofNat 64 s.clockStep ∧
      t = agreeStep { s with
        tb := { s.tb with gtc := t.tb.gtc, st := t.tb.st, stFrac := t.tb.stFrac }
        pwr := { s.pwr with rtc := t.pwr.rtc, hours := t.pwr.hours } }

/-- The state right after reset agrees with itself: modes, pins and time-pulse drive are what the rest gives. -/
def Claims.ResetAgrees : Prop := Agrees State.reset

/-- The state right after reset holds the values that the spec gives for a power-on that cleared everything. -/
def Claims.ResetValues : Prop :=
  State.reset.repl.ecl.state = 1 ∧ State.reset.repl.ecl.seq = 1 ∧ State.reset.repl.ecl.cause = 10 ∧
    State.reset.repl.armed = 0x0802 ∧ State.reset.vault.life = 0 ∧ State.reset.tb.gtc = 0 ∧ State.reset.tb.state = 0 ∧
    State.reset.tb.ranking = [1, 2, 3] ∧ State.reset.mac.requested = 0 ∧ State.reset.pair.role = 0 ∧
    State.reset.net = [⟨16, 61360, 0xA9FE0901, 0⟩, ⟨16, 61360, 0xA9FE0902, 0⟩] ∧ State.reset.rings.rqEntries = 16 ∧
    State.reset.rings.cqEntries = 16 ∧ State.reset.gnss.enables = 0x7FFFF ∧ State.reset.repl.cycleT = 40 ∧
    State.reset.repl.ackLimit = 20 ∧ State.reset.repl.mac.cfg.l = 400 ∧ State.reset.can.queue = 255

/-- Every step from a state whose modes and pins agree with the rest leads to such a state. -/
def Obligations.AgreesKept : Prop := ∀ s t : State, Agrees s → step s = .next t → Agrees t

/-- No command stops the block: a rule that a host breaks is a status, a frozen master or a dropped frame. -/
def Obligations.NoCommandStops : Prop := ∀ (c : Instr) (s : State), ∃ t, exec c s = .next t

/-! ### Whole-machine rules about host commands -/

/-- While a master is frozen, every host command but ECLIPSE_TRIGGER and SPOT_STOP is answered with 0x7F00 and the cause, and changes
nothing (R37, R38). -/
def Claims.FrozenRefused : Prop :=
  ∀ (c : Instr) (op : Nat) (always : Bool) (r : Req) (s : State), requestOf c = some (op, always, r) → efbexRuns s = true →
    recoveryOut op r s = false → frozen s r.master = true → op ≠ 0x0901 → op ≠ 0x0903 → Answerable s r →
      Runs c s (fun t => Same t s ∧ Answered s t r op (0x7F00 + (violOf s r.master).cause) [])

/-- In MISSION every host command without a proved tag but GOODBYE, GET_INFO and ECLIPSE_TRIGGER is refused with 0x6001; in the other
states exactly those that are authenticated always are (R73; HELLO has its own rules). -/
def Claims.AuthenticationRequired : Prop :=
  ∀ (c : Instr) (op : Nat) (always : Bool) (r : Req) (s : State), requestOf c = some (op, always, r) → efbexRuns s = true →
    recoveryOut op r s = false → frozen s r.master = false → r.auth = false → Answerable s r →
      (s.vault.life = 1 → op ≠ 0x0102 → op ≠ 0x0103 → op ≠ 0x0901 →
        Runs c s (fun t => Same t s ∧ Answered s t r op 0x6001 [])) ∧
      (s.vault.life ≠ 1 → always = true → Runs c s (fun t => Same t s ∧ Answered s t r op 0x6001 [])) ∧
      (s.vault.life ≠ 1 → always = false → refusal op always r s ≠ some 0x6001)

/-- While Efbex is not carried, a host command changes nothing and is not answered (R579, R587). -/
def Claims.EfbexCarried : Prop :=
  ∀ (c : Instr) (op : Nat) (always : Bool) (r : Req) (s : State), requestOf c = some (op, always, r) → efbexRuns s = false →
    Runs c s (fun t => Same t s ∧ t = settle s)

/-- In recovery the boot ROM serves HELLO, GET_INFO, RESET, FW_WRITE and FW_ACTIVATE alone, on the PCIe and SPI ports (R531): any other
command is answered 0x1004 and changes nothing. -/
def Claims.RecoveryServes : Prop :=
  ∀ (c : Instr) (op : Nat) (always : Bool) (r : Req) (s : State), requestOf c = some (op, always, r) → efbexRuns s = true →
    s.vault.recovery = true → Answerable s r →
    (¬ (r.master = 0 ∨ r.master = 3) ∨ op ∉ [0x0101, 0x0103, 0x0104, 0x0D0A, 0x0D0B]) →
      Runs c s (fun t => Same t s ∧ Answered s t r op 0x1004 [])

/-! ### Sessions and the system group (chapter 2) -/

/-- GET_INFO and ARM_GET answer with the layouts of Tables 2-12 and 2-16 and change nothing. -/
def Claims.SystemQueries : Prop :=
  ∀ (r : Req) (s : State), r.payload = [] →
    (Admitted 0x0103 false r s → Runs (.getInfo r) s (fun t => Same t s ∧
      Answered s t r 0x0103 0 (infoPayload r.master (accept 0x0103 r s)))) ∧
    (Admitted 0x0111 false r s → Runs (.armGet r) s (fun t => Same t s ∧
      Answered s t r 0x0111 0 (leBytes 2 s.repl.armed ++ leBytes 2 (Nat.xor s.repl.armed (armNext s))
        ++ leBytes 2 (Nat.land (armNext s) (Nat.xor s.repl.armed (armNext s))) ++ leBytes 2 (armFixed s))))

/-- RESET answers and makes the reset it names due 1 ms later, and changes nothing else (R90, Table 2-13). -/
def Claims.ResetCommand : Prop :=
  ∀ (r : Req) (s : State), Admitted 0x0104 true r s → r.payload.length = 4 → u8 r.payload 2 = 0 → u8 r.payload 3 = 0 →
    (u8 r.payload 0 = 1 → u8 r.payload 1 ≤ 3 → Runs (.reset r) s (fun t => Answered s t r 0x0104 0 [] ∧
      Same t { s with pwr := { s.pwr with resets := s.pwr.resets ++ [⟨1, 1, u8 r.payload 1, r.master, s.tb.gtc⟩] } })) ∧
    (u8 r.payload 0 = 2 → 2 ≤ u8 r.payload 1 → u8 r.payload 1 ≤ 13 → Runs (.reset r) s (fun t => Answered s t r 0x0104 0 [] ∧
      Same t { s with pwr := { s.pwr with resets := s.pwr.resets ++ [⟨2, 16, u8 r.payload 1, r.master, s.tb.gtc⟩] } })) ∧
    (u8 r.payload 0 = 3 → u8 r.payload 1 = 0 → Runs (.reset r) s (fun t => Answered s t r 0x0104 0 [] ∧
      Same t { s with pwr := { s.pwr with resets := s.pwr.resets ++ [⟨3, 32, 0xFF, r.master, s.tb.gtc⟩] } }))

/-- EVENT_SET puts the mask in force, without groups 0x10 and 0x11 under major 1, and answers with it; 0x0102 when it does not differ
(R76, R88). NET_SET answers with the settings in force, 0x0102 when nothing differs; a change is stored and ends the port's session
with reason 7 (R75, R91). -/
def Claims.SettingsOfChapter2 : Prop :=
  (∀ (r : Req) (s : State) (v : Session), Admitted 0x0105 false r s → r.payload.length = 4 →
    u32 r.payload 0 % 2 = 0 → u32 r.payload 0 < 2 ^ 18 → sessOf s r.master = some v →
      Runs (.eventSet r) s (fun t => Same t s ∧
        Answered s t r 0x0105 (if v.mask = maskFor v.major (u32 r.payload 0) then 0x0102 else 0)
          (leBytes 4 (maskFor v.major (u32 r.payload 0))) ∧
        ∀ w, sessOf t r.master = some w → w.mask = maskFor v.major (u32 r.payload 0))) ∧
  (∀ (r : Req) (s : State), Admitted 0x0106 true r s → r.payload.length = 12 → netRange r.payload = true →
    (s.net[u8 r.payload 0 - 1]? = some (netAsked r.payload) → Runs (.netSet r) s (fun t => Same t s ∧
      Answered s t r 0x0106 0x0102 (netBytes (u8 r.payload 0) (netAsked r.payload)))) ∧
    (s.net[u8 r.payload 0 - 1]? ≠ some (netAsked r.payload) → Runs (.netSet r) s (fun t =>
      Answered s t r 0x0106 0 (netBytes (u8 r.payload 0) (netAsked r.payload)) ∧
      Same t { s with net := s.net.set (u8 r.payload 0 - 1) (netAsked r.payload) } ∧
      sessOf t (u8 r.payload 0) = none)))

/-- PORT_UNFREEZE refuses a request that names its own master, answers 0x0102 for a master that is not frozen, and else releases the
master with its violation counts cleared and reports it (R36, R85, R93). -/
def Obligations.PortUnfreeze : Prop :=
  ∀ (r : Req) (s : State), Admitted 0x0120 true r s → r.payload.length = 4 → zeroAt r.payload 1 3 = true → u8 r.payload 0 ≤ 4 →
    (u8 r.payload 0 = r.master → Runs (.portUnfreeze r) s (fun t => Same t s ∧ Answered s t r 0x0120 0x6005 [])) ∧
    (u8 r.payload 0 ≠ r.master → frozen s (u8 r.payload 0) = false → Runs (.portUnfreeze r) s (fun t => Same t s ∧
      Answered s t r 0x0120 0x0102 (leBytes 1 (u8 r.payload 0) ++ [0, 0, 0]))) ∧
    (u8 r.payload 0 ≠ r.master → frozen s (u8 r.payload 0) = true → Runs (.portUnfreeze r) s (fun t =>
      Answered s t r 0x0120 0 (leBytes 1 (u8 r.payload 0) ++ leBytes 1 (violOf s (u8 r.payload 0)).cause ++ [0, 0]) ∧
      Reported s t 0xC103 (u8 r.payload 0) (leBytes 1 (u8 r.payload 0) ++ leBytes 1 r.master ++ [0, 0]) ∧
      Same t { s with viols := modNth s.viols (u8 r.payload 0) (fun v =>
        { v with cause := 0, badAccess := 0, tagFails := [], helloFails := 0, seqAbuse := [] }) }))

/-- HELLO phase 1 of an open kind establishes a session of the chosen version at once; of an authenticated kind it leaves a HELLO that
awaits its phase 2; an offer without a common version is refused with the highest minors (R70, Table 2-11). -/
def Claims.HelloFirst : Prop :=
  ∀ (r : Req) (s : State), Admitted 0x0101 false r s → r.sess.getD 0 = 0 → r.payload.length = 60 → helloReserved r.payload = true →
    helloRange r.payload = true →
    (chosenVersion (offers r.payload) = none → Runs (.helloPhase1 r) s (fun t => Same t s ∧
      Answered s t r 0x0101 0x1002 ([0, 0, 3, 7] ++ zeros 56))) ∧
    (∀ v, chosenVersion (offers r.payload) = some v → u8 r.payload 6 = 0 → Runs (.helloPhase1 r) s (fun t =>
      Answered s t r 0x0101 0 (helloReply r.master (v.1 * 16 + v.2) 0 (freshId s).1 (zeros 32) (zeros 16)) ∧
      t.hellos = s.hellos.set r.master none ∧
      ∀ w, sessOf t r.master = some w → w.id = (freshId s).1 ∧ w.major = v.1 ∧ w.minor = v.2 ∧ w.authenticated = false ∧
        w.mask = maskFor v.1 (u32 r.payload 8) ∧ w.next = 1)) ∧
    (∀ v, chosenVersion (offers r.payload) = some v → u8 r.payload 6 = 1 → (portKey s r.master).1 = 0 →
      Runs (.helloPhase1 r) s (fun t => Same t { s with
          free := s.free + 3
          hellos := t.hellos
          vault := { s.vault with cells := t.vault.cells, draws := t.vault.draws } } ∧
        (∀ n, n < s.hellos.length → n ≠ r.master → nth t.hellos n none = nth s.hellos n none) ∧
        ∃ pub nonce, let out := helloReply r.master (v.1 * 16 + v.2) 1 (freshId s).1 pub nonce
          Answered s t r 0x0101 0 out ∧
          (r.master < s.hellos.length → ∃ w, nth t.hellos r.master none = some w ∧ w.id = (freshId s).1 ∧ w.major = v.1 ∧
            w.minor = v.2 ∧ w.mask = maskFor v.1 (u32 r.payload 8) ∧ w.th = sha256 (r.payload ++ out))))

/-- HELLO phase 2: with the right TH the session of the waiting HELLO is established; with another TH the failure is answered 0x6004,
counted, and the keys are gone; three in a row freeze the master (R70, Table 2-7). Without a tag it is refused with 0x6001 in MISSION (R73),
and counts as failed elsewhere (the model's choice: log entry 30). -/
def Claims.HelloSecond : Prop :=
  ∀ (r : Req) (s : State) (w : HelloWait), Admitted 0x0101 false r s → nth s.hellos r.master none = some w →
    r.payload.length = 36 → zeroAt r.payload 1 3 = true → u8 r.payload 0 = 2 →
    (r.auth = true → sub r.payload 4 32 = w.th → Runs (.helloPhase2 r) s (fun t =>
      nth t.hellos r.master none = none ∧ (violOf t r.master).helloFails = 0 ∧
      ∀ v, sessOf t r.master = some v → v.id = w.id ∧ v.major = w.major ∧ v.minor = w.minor ∧ v.authenticated = true ∧
        v.mask = w.mask ∧ v.keyIn = w.keyIn ∧ v.keyOut = w.keyOut ∧ v.addr = w.addr ∧ v.next = 1)) ∧
    (r.auth = false → s.vault.life = 1 → Runs (.helloPhase2 r) s (fun t => Same t s ∧ Answered s t r 0x0101 0x6001 [])) ∧
    ((r.auth = false ∧ s.vault.life ≠ 1) ∨ (r.auth = true ∧ sub r.payload 4 32 ≠ w.th) → Runs (.helloPhase2 r) s (fun t =>
      nth t.hellos r.master none = none ∧ Answered s t r 0x0101 0x6004 [] ∧
      (r.master < s.viols.length → (violOf t r.master).helloFails = (violOf s r.master).helloFails + 1 ∧
        (2 ≤ (violOf s r.master).helloFails → frozen t r.master = true))))

/-- GOODBYE: without a session of its own it ends the master's session with reason 1 at once; within a session the session is gone or
bound to end once the replies to all earlier requests have left (R75). -/
def Claims.Goodbye : Prop :=
  ∀ (r : Req) (s : State), Admitted 0x0102 false r s → r.payload = [] →
    Runs (.goodbye r) s (fun t => Same t s ∧ (r.sess = none → sessOf t r.master = none ∧ Answered s t r 0x0102 0 []) ∧
      ∀ w, sessOf t r.master = some w → r.sess ≠ none ∧ w.ending.isSome = true)

/-- A session without a packet for 30 s ends; before that it stays (R75). A session that lost events reports their count once its queue
has space (R87). A message without its next fragment for 100 ms is discarded with 0x1005 (R57). -/
def Claims.SessionTimers : Prop :=
  (∀ (m : Nat) (s : State) (v : Session), sessOf s m = some v → 30 * sec ≤ sinceNs s v.last →
    Runs (.sessionIdleTimeout m) s (fun t => Same t s ∧ sessOf t m = none ∧
      Reported s t 0xC101 m (leBytes 1 m ++ [2, 0, 0] ++ leBytes 4 v.id))) ∧
  (∀ (m : Nat) (s : State) (v : Session), sessOf s m = some v → sinceNs s v.last < 30 * sec →
    Runs (.sessionIdleTimeout m) s (fun t => t = settle s)) ∧
  (∀ (m : Nat) (s : State) (v : Session), sessOf s m = some v → 0 < v.lost → (v.queue.filter isEvent).length < 256 →
    Runs (.eventsLost m) s (fun t => Same t s ∧
      t = settle (deliver s.tb.gtc 0xC104 m (gtcBytes s ++ leBytes 4 v.lost ++ leBytes 8 v.lostSince.toNat) m
        (modSess m (fun w => { w with lost := 0, lostSince := 0 }) s)))) ∧
  (∀ (m : Nat) (s : State) (v : Session) (f : Reassembly), sessOf s m = some v → v.reasm = some f →
    100000000 ≤ sinceNs s f.last → Runs (.fragmentTimeout m) s (fun t => Same t s ∧
      (f.discarding = false → Out.reply m f.opcode f.tag 0x1005 [] ∈ newOuts s t) ∧ ∀ w, sessOf t m = some w → w.reasm = none)) ∧
  (∀ (m : Nat) (s : State) (v : Session) (f : Reassembly), sessOf s m = some v → v.reasm = some f → sinceNs s f.last < 100000000 →
    Runs (.fragmentTimeout m) s (fun t => t = settle s))

/-! ### Packets and transports (chapter 2) -/

/-- What follows every command leaves alone all that `core` keeps, and its result agrees with itself: modes and pins follow from the
rest (log entry 14). The statements that give a next state as `done u` rest on this for their frames. -/
def Obligations.SettleFrame : Prop := ∀ s : State, Same (settle s) s ∧ Agrees (settle s)

/-- A packet that fails R53 is counted as a framing error of its port and has no other effect; a packet while Efbex is not carried to
its port has none. A packet without a session is answered 0x1008 unless it is HELLO phase 1 or ECLIPSE_TRIGGER (R54 step 2, R72). -/
def Claims.PacketFraming : Prop :=
  ∀ (m : Nat) (addr : UdpAddr) (bs : List Byte) (s : State),
    (portUp m s = false → exec (.efbexPacketRx m addr bs) s = done s) ∧
    (portUp m s = true → framed m bs = false → exec (.efbexPacketRx m addr bs) s =
      done { s with viols := modNth s.viols m (fun v => { v with framing := min (v.framing + 1) (2 ^ 32 - 1) }) }) ∧
    (portUp m s = true → framed m bs = true → (packetFields bs).session = 0 →
      ¬ ((packetFields bs).opcode = 0x0101 ∧ u8 (packetFields bs).payload 0 = 1) → (packetFields bs).opcode ≠ 0x0901 → ∃ t, exec (.efbexPacketRx m addr bs) s = .next t ∧ Same t s ∧
        Out.reply m (packetFields bs).opcode (packetFields bs).tag 0x1008 [] ∈ newOuts s t)

/-- Steps 3 to 8 of R54 on an unfragmented packet of a session, in their order: a tag that fails is answered 0x6002; the expected
sequence is consumed; version, flags and opcode are checked; what passes is the command of Table 2-9 with the packet's payload. -/
def Claims.PacketChecks : Prop :=
  ∀ (m : Nat) (addr : UdpAddr) (bs : List Byte) (s : State) (v : Session), portUp m s = true → framed m bs = true →
    nth s.hellos m none = none → sessOf s m = some v → v.id = (packetFields bs).session → v.id ≠ 0 → v.reasm = none →
    ¬ ((packetFields bs).opcode = 0x0101 ∧ u8 (packetFields bs).payload 0 = 1) → bit (packetFields bs).flags 2 = false →
    let p := packetFields bs
    let s1 := modSess m (fun w => { w with last := s.tb.gtc }) s
    let v1 := { v with last := s.tb.gtc }
    (bit p.flags 1 = true → v.authenticated = false ∨ tagHolds v.keyIn bs = false →
      exec (.efbexPacketRx m addr bs) s =
        done (authFailure m (answer v1 (reqOf m .transport addr false p.session p) p.opcode 0x6002 [] s1))) ∧
    ((bit p.flags 1 = true → v.authenticated = true ∧ tagHolds v.keyIn bs = true) →
      (p.seq ≠ v.next → exec (.efbexPacketRx m addr bs) s =
        done (offSequence v1 (reqOf m .transport addr false p.session p) p s1)) ∧
      (p.seq = v.next →
        let r := reqOf m .transport addr (bit p.flags 1) p.session p
        let s2 := consume m p.seq s1
        (p.version ≠ versionByte v → exec (.efbexPacketRx m addr bs) s = done (reply r p.opcode 0x1002 [] s2)) ∧
        (p.version = versionByte v → flagsBad v.major p = true →
          exec (.efbexPacketRx m addr bs) s = done (reply r p.opcode 0x4001 [] s2)) ∧
        (p.version = versionByte v → flagsBad v.major p = false → opMeaning p.opcode = none →
          exec (.efbexPacketRx m addr bs) s = done (reply r p.opcode 0x1004 [] s2)) ∧
        (p.version = versionByte v → flagsBad v.major p = false → ∀ f, opMeaning p.opcode = some f →
          exec (.efbexPacketRx m addr bs) s = f r s2)))

/-- The sequence rules of R79: a request within the last 64 is answered from the cache, or 0x1007 when the cache has lost it; any other
is answered 0x1003 with the expected sequence. None of them is executed or consumes the sequence. -/
def Claims.SequenceRules : Prop :=
  ∀ (v : Session) (r : Req) (p : Packet) (s : State), p.seq ≠ v.next →
    Same (offSequence v r p s) { s with viols := (offSequence v r p s).viols } ∧
    (p.seq < v.next → v.next ≤ p.seq + 64 → ∀ ws, look v.cache p.seq = some ws →
      offSequence v r p s = sendReply r.master r.via (ws.map (fun x => { x with addr := r.addr })) s) ∧
    (p.seq < v.next → v.next ≤ p.seq + 64 → look v.cache p.seq = none →
      Out.reply r.master p.opcode r.tag 0x1007 [] ∈ newOuts s (offSequence v r p s)) ∧
    (¬ (p.seq < v.next ∧ v.next ≤ p.seq + 64) →
      Out.reply r.master p.opcode r.tag 0x1003 (leBytes 4 v.next) ∈ newOuts s (offSequence v r p s))

/-- The PCIe request ring (R60, R63, Tables 2-4 and 2-5): slots wait while the device takes none; a slot's packet is received, a length
outside 24 to 4088 sets SLOT_ERR and is counted; a PCIe error sets DMA_ERR. -/
def Claims.RequestRing : Prop :=
  ∀ (tail : Nat) (s : State), windowUp 0 s = true →
    (∀ slots, exec (.rqTailWrite tail slots true) s = done { s with rings := { s.rings with rqTail := tail % 2 ^ 32, dmaErr := true } }) ∧
    (∀ slots, rqReady s = false → exec (.rqTailWrite tail slots false) s =
      done { s with rings := { s.rings with rqTail := tail % 2 ^ 32, rqSlots := s.rings.rqSlots ++ slots } }) ∧
    (∀ slot, rqReady s = true → s.rings.rqSlots = [] → 24 ≤ u16 slot 0 → u16 slot 0 ≤ 4088 →
      exec (.rqTailWrite tail [slot] false) s = receive 0 .transport noAddr (sub slot 8 (u16 slot 0))
        { s with rings := { s.rings with rqTail := tail % 2 ^ 32, rqHead := (s.rings.rqHead + 1) % max s.rings.rqEntries 1, rqSlots := [] } }) ∧
    (∀ slot, rqReady s = true → s.rings.rqSlots = [] → u16 slot 0 < 24 ∨ 4088 < u16 slot 0 →
      exec (.rqTailWrite tail [slot] false) s = done { s with rings := { s.rings with rqTail := tail % 2 ^ 32, rqHead := (s.rings.rqHead + 1) % max s.rings.rqEntries 1, rqSlots := [], slotErr := true, rqDropped := min (s.rings.rqDropped + 1) (2 ^ 32 - 1) } })

/-- The PCIe completion ring: the packet goes out before its header, the phase bit inverts at each wrap, and vector 0 is raised after
every write (R62); CQ_HEAD_WRITE gives slots free (R63). -/
def Claims.CompletionRing : Prop :=
  ∀ s : State,
    (s.rings.cqEn = true → s.rings.dmaErr = false → cqFull s.rings = false → portUp 0 s = true → ∀ w bs u, nextOut 0 s = some (w, bs, u) →
      exec (.cqSlotWrite false) s = done { u with
        rings := { u.rings with cqTail := (s.rings.cqTail + 1) % max s.rings.cqEntries 1, phase := if (s.rings.cqTail + 1) % max s.rings.cqEntries 1 = 0 then !s.rings.phase else s.rings.phase }
        outs := u.outs ++ [.cqPacket s.rings.cqTail bs, .cqHeader s.rings.cqTail
          (leBytes 2 bs.length ++ leBytes 1 (flag s.rings.phase + 2 * flag (isEvent w)) ++ zeros 5), .msix 0] } ∧
      exec (.cqSlotWrite true) s = done { s with rings := { s.rings with dmaErr := true } }) ∧
    (∀ err, cqFull s.rings = true → exec (.cqSlotWrite err) s = done s) ∧
    (∀ head, windowUp 0 s = true → s.rings.rqSlots = [] →
      exec (.cqHeadWrite head) s = done { s with rings := { s.rings with cqHead := head % 2 ^ 32 } })

/-- The UDP transport (R64, R65): a fragmented datagram or one whose checksum fails is a framing error, a checksum of 0 is not checked; a
datagram to the port's Efbex port is a packet; one to another port is not Efbex's. -/
def Claims.UdpTransport : Prop :=
  ∀ (m : Nat) (src : UdpAddr) (port : Nat) (frag : Bool) (sum : Nat) (bs : List Byte) (s : State), m = 1 ∨ m = 2 → portUp m s = true →
    let own : UdpAddr := ⟨(nth s.net (m - 1) (NetPort.factory 0)).ip, port⟩
    let good := sum = 0 ∨ udpSum src own sum bs = 0xFFFF
    let counted := done { s with viols := modNth s.viols m (fun v => { v with framing := min (v.framing + 1) (2 ^ 32 - 1) }) }
    (frag = true ∨ ¬ good → exec (.udpDatagramRx m src port frag sum bs) s = counted) ∧
    (frag = false → good → port = (nth s.net (m - 1) (NetPort.factory 0)).udp →
      Runs (.udpDatagramRx m src port frag sum bs) s (fun t => exec (.efbexPacketRx m src bs) s = .next t) ∧
      (framed m bs = false → exec (.udpDatagramRx m src port frag sum bs) s = counted)) ∧
    (frag = false → good → port ≠ (nth s.net (m - 1) (NetPort.factory 0)).udp →
      exec (.udpDatagramRx m src port frag sum bs) s = done s)

/-- The SPI target (R67 to R69): two inbound buffers; a WRITE without room or cut short is dropped and shown once in bit 3 of STATUS; a
packet leaves only after a READ has clocked out all its bytes, behind two dummy bytes, zeros by the model's choice (log entry 30); any other
command byte has no effect. In SLEEP a WRITE is a wake source (R582). -/
def Claims.SpiTarget : Prop :=
  ∀ s : State, spiUp s = true →
    exec .spiStatus s = done { s with
      spi := { s.spi with lastDropped := false }
      outs := s.outs ++ [.spi (leBytes 1 (bitsOf [(nextOut 3 s).isSome, decide (s.spi.inbound.length < 2), frozen s 3, s.spi.lastDropped])
        ++ zeros 1 ++ leBytes 2 (((nextOut 3 s).map (fun x => x.2.1.length)).getD 0))] } ∧
    (∀ bs cut, cut = true ∨ s.spi.inbound.length = 2 → exec (.spiWrite bs cut) s = done { s with spi := { s.spi with lastDropped := true } }) ∧
    (∀ bs, s.spi.inbound = [] → portUp 3 s = true → exec (.spiWrite bs false) s = exec (.efbexPacketRx 3 noAddr bs) s) ∧
    (∀ bs, s.spi.inbound.length < 2 → portUp 3 s = false → exec (.spiWrite bs false) s =
      done { s with
        spi := { s.spi with inbound := s.spi.inbound ++ [bs] }
        pwr := if s.pwr.state = 3 then { s.pwr with wakes := putBit s.pwr.wakes 7 true } else s.pwr }) ∧
    (∀ n w bs u, nextOut 3 s = some (w, bs, u) → n < 2 + bs.length →
      exec (.spiRead n) s = done { s with outs := s.outs ++ [.spi ((zeros 2 ++ bs).take n)] }) ∧
    (∀ n w bs u, nextOut 3 s = some (w, bs, u) → 2 + bs.length ≤ n →
      exec (.spiRead n) s = done { u with outs := u.outs ++ [.spi ((zeros 2 ++ bs).take n)] }) ∧
    (∀ b, exec (.spiUnknownCommand b) s = done s)

/-! ### The host window (chapter 3) -/

/-- BAR2 (R61, Table 2-4): while a ring is enabled its base and size stay as they are; while it is not they take the value written,
a size only when the table lists it. -/
def Obligations.RingRegisters : Prop :=
  ∀ (v again : Nat) (s : State), windowUp 0 s = true → s.rings.rqSlots = [] → v < 2 ^ 32 →
    (s.rings.rqEn = true → ∀ off ∈ [0x000, 0x004, 0x008], exec (.registerWrite 0 true off 4 v again) s = done s) ∧
    (s.rings.cqEn = true → ∀ off ∈ [0x020, 0x024, 0x028], exec (.registerWrite 0 true off 4 v again) s = done s) ∧
    (s.rings.rqEn = false → exec (.registerWrite 0 true 0x000 4 v again) s =
        done { s with rings := { s.rings with rqBase := s.rings.rqBase / 2 ^ 32 * 2 ^ 32 + v } } ∧
      exec (.registerWrite 0 true 0x004 4 v again) s = done { s with rings := { s.rings with rqBase := s.rings.rqBase % 2 ^ 32 + 2 ^ 32 * v } } ∧
      (v ∈ [16, 32, 64, 128, 256] → exec (.registerWrite 0 true 0x008 4 v again) s = done { s with rings := { s.rings with rqEntries := v } })) ∧
    (s.rings.cqEn = false → exec (.registerWrite 0 true 0x020 4 v again) s =
        done { s with rings := { s.rings with cqBase := s.rings.cqBase / 2 ^ 32 * 2 ^ 32 + v } } ∧
      exec (.registerWrite 0 true 0x024 4 v again) s = done { s with rings := { s.rings with cqBase := s.rings.cqBase % 2 ^ 32 + 2 ^ 32 * v } } ∧
      (v ∈ [16, 32, 64, 128, 256] → exec (.registerWrite 0 true 0x028 4 v again) s = done { s with rings := { s.rings with cqEntries := v } }))

/-- Register accesses of the window (R10, R11, R95 to R97, R37): a 4-byte write reaches the master's own bank; read-only fields ignore
it; a bad access has no effect but the freeze; a frozen master's write is dropped and counted, whatever its size and alignment; a W1C bit
that the hardware sets in the same clock ends set; an RC read returns the field and clears it, and an event in the same clock is counted
after it. -/
def Claims.WindowRegisters : Prop :=
  ∀ (m again : Nat) (s : State), m ≤ 3 → windowUp m s = true →
    let dropped := done { s with viols := modNth s.viols m (fun x => { x with dropped := min (x.dropped + 1) (2 ^ 32 - 1) }) }
    (∀ v, frozen s m = false → exec (.registerWrite m false 0x1814 4 v again) s =
      done { s with banks := modNth s.banks m (fun b => { b with mbxWakeEn := v % 65536 }) }) ∧
    (∀ v, frozen s m = false → v < 2 ^ 32 → exec (.registerWrite m false 0x2004 4 v again) s =
      done { s with banks := modNth s.banks m (fun b =>
        { b with dblOut := Nat.lor (b.dblOut - Nat.land b.dblOut v) (again % 2 ^ 19) }) }) ∧
    (∀ v, frozen s m = false → exec (.registerWrite m false 0x1808 4 v again) s = done s) ∧
    (∀ v off, frozen s m = false → off % 4 ≠ 0 ∨ off < 0x1000 ∨ 0x9000 ≤ off →
      exec (.registerWrite m false off 4 v again) s = done (badAccess m s)) ∧
    (∀ v off size, frozen s m = false → size ≠ 4 → size ≠ 8 → exec (.registerWrite m false off size v again) s = done (badAccess m s)) ∧
    (∀ v off, frozen s m = true → off ≠ 0x2000 → exec (.registerWrite m false off 4 v again) s = dropped) ∧
    (∀ v off size, frozen s m = true → size ≠ 4 → size ≠ 8 → exec (.registerWrite m false off size v again) s = dropped) ∧
    (∀ event, frozen s m = false → exec (.readClearRegister m false 0x3210 4 event) s =
      done { s with outs := s.outs ++ [.value s.lckForced], lckForced := if event then 1 else 0 }) ∧
    (∀ event, frozen s m = false → exec (.readClearRegister m false 0x1818 4 event) s =
      done { s with
        outs := s.outs ++ [.value (bankOf s m).mbxDiscarded]
        banks := modNth s.banks m (fun b => { b with mbxDiscarded := if event then 1 else 0 }) })

/-- A bad window access has no effect but to count and to freeze the master with cause 1, which is reported (R97, R83). -/
def Claims.BadAccess : Prop :=
  ∀ (m : Nat) (s : State), m < s.viols.length → frozen s m = false →
    Same (badAccess m s) { s with viols := modNth s.viols m (fun v => { v with badAccess := min (v.badAccess + 1) 255, cause := 1 }) } ∧
    frozen (badAccess m s) m = true ∧ Reported s (badAccess m s) 0xC102 m (leBytes 1 m ++ leBytes 1 1 ++ [0, 0])

/-- Mailboxes (R100, R101): the write of word 15 puts the staged words into the mailbox in one step and sets its full flag; a post to a
full mailbox overwrites the unread message and sets the collision flag, and the full flag stays set, for inbound and outbound ones. In
SLEEP the post of a host is a wake source (R103). -/
def Claims.MailboxPost : Prop :=
  (∀ (m n w : Nat) (s : State), m ≤ 3 → n < 16 → windowUp m s = true → frozen s m = false →
    exec (.mbxPost m n w) s = done { s with
      banks := modNth s.banks m (fun b => { b with inb := modNth b.inb n (fun x =>
        { staging := x.staging.set 15 (w % 2 ^ 32), data := x.staging.set 15 (w % 2 ^ 32), full := true, coll := x.coll || x.full }) })
      pwr := if s.pwr.state = 3 then { s.pwr with wakes := putBit s.pwr.wakes 7 true } else s.pwr }) ∧
  (∀ (o : MbxOut) (ws : List Nat), o.full = true → postWords o ws =
    { o with data := ws, full := true, coll := true, postedSince := o.postedSince || o.latched })

/-- Mailboxes (R102): a read of word 0 latches the message; the read of word 15 clears the full flag unless a post has landed since the
latch, when the full flag stays set and the collision flag is set; reads of words 1 to 14 return the latched words and change
nothing. -/
def Claims.MailboxRead : Prop :=
  ∀ (m n : Nat) (s : State), m ≤ 3 → n < 16 → windowUp m s = true → frozen s m = false →
    let o := nth (bankOf s m).outb n MbxOut.zero
    exec (.mbxLatch m n) s = done { s with
      outs := s.outs ++ [.value (nth o.data 0 0)]
      banks := modNth s.banks m (fun b => { b with outb := b.outb.set n { o with latch := o.data, latched := true, postedSince := false } }) } ∧
    (o.postedSince = false → exec (.mbxReadEnd m n) s = done { s with
      outs := s.outs ++ [.value (nth o.latch 15 0)]
      banks := modNth s.banks m (fun b => { b with outb := b.outb.set n { o with full := false } }) }) ∧
    (o.postedSince = true → o.full = true → exec (.mbxReadEnd m n) s = done { s with
      outs := s.outs ++ [.value (nth o.latch 15 0)]
      banks := modNth s.banks m (fun b => { b with outb := b.outb.set n { o with coll := true } }) }) ∧
    (∀ w, 1 ≤ w → w ≤ 14 → (windowRead m (0x1400 + 64 * n + 4 * w) false s).map (fun x => x.1) = some (nth o.latch w 0))

/-- The device takes an inbound message (R103, R107, R108): the mailbox is free again; a notice is taken; a packet of kind 1 is received
with its reply bound for the same mailbox; anything else is a framing error. -/
def Claims.MailboxMessages : Prop :=
  ∀ (m n : Nat) (s : State), efbexRuns s = true → (nth (bankOf s m).inb n MbxIn.zero).full = true →
    let bs := messageBytes (nth (bankOf s m).inb n MbxIn.zero)
    let s1 := { s with banks := modNth s.banks m (fun b => { b with inb := modNth b.inb n (fun x => { x with full := false }) }) }
    (60 < u8 bs 1 → exec (.mbxInboundProcess m n) s = done (framingError m s1)) ∧
    (u8 bs 1 ≤ 60 → u8 bs 0 = 2 → exec (.mbxInboundProcess m n) s = done s1) ∧
    (u8 bs 1 ≤ 60 → u8 bs 0 = 1 → n < 15 → exec (.mbxInboundProcess m n) s =
      receive m (.mailbox n) (((sessOf s m).map (fun v => v.addr)).getD noAddr) (sub bs 4 (u8 bs 1)) s1) ∧
    (u8 bs 1 ≤ 60 → u8 bs 0 ≠ 1 → u8 bs 0 ≠ 2 → exec (.mbxInboundProcess m n) s = done (framingError m s1))

/-- Inbound doorbells: WAKE reads back until PD_CTRL runs (R113, Table 3-5); ECLIPSE latches Eclipse trigger 6 of the master, frozen or
not (R114, R38, R112). In SLEEP both are wake sources (R582). -/
def Claims.InboundDoorbells : Prop :=
  ∀ (m : Nat) (s : State), m ≤ 3 → windowUp m s = true →
    let woken := if s.pwr.state = 3 then { s.pwr with wakes := putBit s.pwr.wakes 7 true } else s.pwr
    (frozen s m = false → exec (.dblInWakeSet m) s =
      done { s with banks := modNth s.banks m (fun b => { b with dblWake := !efbexRuns s }), pwr := woken }) ∧
    exec (.eclipseDoorbell m) s =
      done (latchTrigger 6 m m 0 { s with banks := modNth s.banks m (fun b => { b with dblEclipse := false }), pwr := woken })

/-- Locks: a read of a free lock returns 0 and makes the reader its owner; of a held one it returns the owner plus 1 and changes
nothing (R116). -/
def Claims.LockRead : Prop :=
  ∀ (m k : Nat) (s : State), m ≤ 4 → k < 64 → windowUp m s = true → frozen s m = false →
    (nth s.locks k 0 = 0 → exec (.lckRead m k) s = done { s with outs := s.outs ++ [.value 0], locks := s.locks.set k (m + 1) }) ∧
    (nth s.locks k 0 ≠ 0 → exec (.lckRead m k) s = done { s with outs := s.outs ++ [.value (nth s.locks k 0)] })

/-- Locks: the owner releases a lock by its number; a release by another master, or of a free lock, is a bad window access (R118). -/
def Claims.LockRelease : Prop :=
  ∀ (m k : Nat) (s : State), m ≤ 4 → k < 64 → windowUp m s = true → frozen s m = false →
    (nth s.locks k 0 = m + 1 → exec (.lckReleaseWrite m k) s = done { s with locks := s.locks.set k 0 }) ∧
    (nth s.locks k 0 ≠ m + 1 → exec (.lckReleaseWrite m k) s = done (badAccess m s))

/-- Spill queues: a producer starts a packet, writes its words and the final word completes it, without the bytes beyond its length;
without space the whole packet is dropped, its words are ignored, OVF is set and it is counted (R123). While PD_MEM is off only the fast
sections hold packets (R98; log entry 20). -/
def Claims.SpillPush : Prop :=
  ∀ (m q : Nat) (s : State), m ≤ 4 → q < 64 → windowUp m s = true → frozen s m = false → (sqOf s q).producer = m →
    (∀ len, (sqOf s q).push = none → (sqOf s q).en = true → 16 ≤ len → len ≤ 4096 →
      let space := if domOn s 11 then sqCapacity (sqOf s q) else 1024
      (sqLevel (sqOf s q) + sqOccupies len ≤ space → exec (.sqPushLenWrite m q len) s =
        done { s with sqs := modNth s.sqs q (fun x => { x with push := some (len, [], false), pushFrom := s.tb.gtc }) }) ∧
      (space < sqLevel (sqOf s q) + sqOccupies len → ∃ t, exec (.sqPushLenWrite m q len) s = .next t ∧
        Same t { s with sqs := modNth s.sqs q (fun x =>
          { x with push := some (len, [], true), pushFrom := s.tb.gtc, ovf := true, dropped := min (x.dropped + 1) (2 ^ 32 - 1) }) })) ∧
    (∀ len ws drop w, (sqOf s q).push = some (len, ws, drop) → (sqOf s q).en = true →
      (ws.length + 1 < (len + 3) / 4 → exec (.sqPushWrite m q w) s =
        done { s with sqs := modNth s.sqs q (fun x => { x with push := some (len, ws ++ [w % 2 ^ 32], drop) }) }) ∧
      ((len + 3) / 4 ≤ ws.length + 1 → (sqOf s q).flushAt = none → exec (.sqPushWrite m q w) s =
        done { s with sqs := modNth s.sqs q (fun x => { x with push := none, packets := if drop then x.packets else x.packets ++ [((ws ++ [w % 2 ^ 32]).flatMap (leBytes 4)).take len] }) }))

/-- Spill queues: the consumer's reads return the words of the head packet in order and the last one removes it (R125); an
uncorrectable error discards it, returns 0 and sets ECC (R127). -/
def Claims.SpillPop : Prop :=
  ∀ (m q : Nat) (s : State) (p : List Byte) (rest : List (List Byte)), m ≤ 4 → q < 64 → windowUp m s = true → frozen s m = false →
    (sqOf s q).consumer = m → (sqOf s q).en = true → (sqOf s q).cutLeft = 0 → (sqOf s q).packets = p :: rest → (sqOf s q).flushAt = none →
    (domOn s 11 = true ∨ sqLevel (sqOf s q) ≤ 1024) →
    let w := leNat ((p.drop (4 * (sqOf s q).popPos)).take 4)
    ((sqOf s q).popPos + 1 < (p.length + 3) / 4 → exec (.sqPopRead m q false) s = done { s with
      outs := s.outs ++ [.value w], sqs := modNth s.sqs q (fun x => { x with
        popFrom := if x.popPos = 0 then s.tb.gtc else x.popFrom
        popPos := x.popPos + 1 }) }) ∧
    ((p.length + 3) / 4 ≤ (sqOf s q).popPos + 1 → exec (.sqPopRead m q false) s = done { s with
      outs := s.outs ++ [.value w], sqs := modNth s.sqs q (fun x => { x with packets := rest, popPos := 0 }) }) ∧
    ∃ t, exec (.sqPopRead m q true) s = .next t ∧ Out.value 0 ∈ newOuts s t ∧
      Same t { s with sqs := modNth s.sqs q (fun x => { x with packets := rest, popPos := 0, ecc := true }) }

/-- Spill queues: a flush empties the queue at once while neither end is inside a packet, and waits otherwise; an end that has stayed
inside its packet for 100 ms under the flush loses it: the producer's is abandoned, the rest of the consumer's is cut (R124, R126). -/
def Claims.SpillFlush : Prop :=
  ∀ (q : Nat) (s : State), q < 64 →
    (∀ m, m ≤ 4 → windowUp m s = true → frozen s m = false → (sqOf s q).producer = m ∨ (sqOf s q).consumer = m →
      ((sqOf s q).push = none → (sqOf s q).popPos = 0 → exec (.sqFlushRequest m q) s =
        done { s with sqs := modNth s.sqs q (fun x => { x with
          flushAt := none
          packets := []
          pushFrom := if x.flushAt.isSome then x.pushFrom else s.tb.gtc
          popFrom := if x.flushAt.isSome then x.popFrom else s.tb.gtc }) }) ∧
      ((sqOf s q).push ≠ none ∨ (sqOf s q).popPos ≠ 0 → (sqOf s q).flushAt = none → exec (.sqFlushRequest m q) s =
        done { s with sqs := modNth s.sqs q (fun x => { x with flushAt := some s.tb.gtc, pushFrom := s.tb.gtc, popFrom := s.tb.gtc }) })) ∧
    ((sqOf s q).flushAt = none → exec (.sqFlushTimeout q) s = done s) ∧
    (∀ g w, (sqOf s q).flushAt = some g → (sqOf s q).push = some w → (sqOf s q).popPos = 0 →
      (sinceNs s (sqOf s q).pushFrom < 100000000 → exec (.sqFlushTimeout q) s = done s) ∧
      (100000000 ≤ sinceNs s (sqOf s q).pushFrom → ∃ t, exec (.sqFlushTimeout q) s = .next t ∧
        Same t { s with sqs := modNth s.sqs q (fun x => { x with push := none, abandon := true, flushAt := none, packets := [] }) })) ∧
    (∀ g p rest, (sqOf s q).flushAt = some g → (sqOf s q).push = none → (sqOf s q).popPos ≠ 0 → (sqOf s q).packets = p :: rest →
      (sinceNs s (sqOf s q).popFrom < 100000000 → exec (.sqFlushTimeout q) s = done s) ∧
      (100000000 ≤ sinceNs s (sqOf s q).popFrom → ∃ t, exec (.sqFlushTimeout q) s = .next t ∧
        Same t { s with sqs := modNth s.sqs q (fun x => { x with
          packets := []
          cutLeft := (p.length + 3) / 4 - x.popPos
          popPos := 0
          cut := true
          flushAt := none }) }))

/-- WIN_READ and WIN_WRITE perform their words in order as accesses of the master (R131); at the first bad one they stop, answer 0x8201
with the number performed, and freeze the master (R132). -/
def Claims.WindowCommands : Prop :=
  ∀ (r : Req) (s : State), zeroAt r.payload 7 1 = true → winRange r.payload = true →
    let step := if u8 r.payload 6 = 0 then 4 else 0
    (Admitted 0x0201 false r s → r.payload.length = 8 →
      let t := winReads (u16 r.payload 4) (u32 r.payload 0) step r.master (accept 0x0201 r s)
      (t.2.1 = true → Runs (.winRead r) s (fun u => Same u t.2.2 ∧
        Answered s u r 0x0201 0 (leBytes 2 t.1.length ++ [0, 0] ++ t.1.flatMap (leBytes 4)))) ∧
      (t.2.1 = false → Runs (.winRead r) s (fun u =>
        Answered s u r 0x0201 0x8201 (leBytes 2 t.1.length ++ [0, 0] ++ t.1.flatMap (leBytes 4)) ∧
        Same u { t.2.2 with viols := (badAccess r.master t.2.2).viols }))) ∧
    (Admitted 0x0202 false r s → r.payload.length = 8 + 4 * u16 r.payload 4 →
      let t := winWrites (u32 r.payload 0) step r.master (words (u16 r.payload 4) (r.payload.drop 8)) (accept 0x0202 r s)
      (t.2.1 = true → Runs (.winWrite r) s (fun u => Same u t.2.2 ∧ Answered s u r 0x0202 0 (leBytes 2 t.1 ++ [0, 0]))) ∧
      (t.2.1 = false → Runs (.winWrite r) s (fun u => Answered s u r 0x0202 0x8201 (leBytes 2 t.1 ++ [0, 0]) ∧
        Same u { t.2.2 with viols := (badAccess r.master t.2.2).viols })))

/-- SQ_CONFIG binds a queue that is disabled, empty; it refuses an enabled one with 0x2003 and a total above 1024 MB with 0x8202
(R133, Table 3-10). -/
def Claims.SpillConfig : Prop :=
  ∀ (r : Req) (s : State), Admitted 0x0203 false r s → r.payload.length = 4 → u8 r.payload 0 < 64 → u8 r.payload 3 ≤ 64 →
    (u8 r.payload 1 ≤ 4 ∨ u8 r.payload 1 = 16) → (u8 r.payload 2 ≤ 4 ∨ u8 r.payload 2 = 16) → u8 r.payload 1 ≠ u8 r.payload 2 →
    let q := u8 r.payload 0
    let others := ((List.range 64).map (fun i => if i = q then 0 else (sqOf s i).middle)).sum
    (others + u8 r.payload 3 ≤ 1024 → (sqOf s q).en = true →
      Runs (.sqConfig r) s (fun t => Same t s ∧ Answered s t r 0x0203 0x2003 [])) ∧
    (1024 < others + u8 r.payload 3 → (sqOf s q).en = false →
      Runs (.sqConfig r) s (fun t => Same t s ∧ Answered s t r 0x0203 0x8202 [])) ∧
    (others + u8 r.payload 3 ≤ 1024 → (sqOf s q).en = false →
      Runs (.sqConfig r) s (fun t => Answered s t r 0x0203 0 (r.payload ++ leBytes 2 (others + u8 r.payload 3) ++ [0, 0]) ∧
        Same t { s with sqs := modNth s.sqs q (fun x => { SpillQ.zero with producer := u8 r.payload 1, consumer := u8 r.payload 2, middle := u8 r.payload 3, ovf := x.ovf, ecc := x.ecc, abandon := x.abandon, cut := x.cut, dropped := x.dropped }) }))

/-- A read of TBR_GTC_LO latches, for the reading master alone, GTC and station time (R162). -/
def Claims.TimeRegisters : Prop :=
  ∀ (m : Nat) (s : State), m ≤ 4 → windowUp m s = true → frozen s m = false →
    exec (.tbrGtcLoRead m) s = done { s with
      outs := s.outs ++ [.value (s.tb.gtc.toNat % 2 ^ 32)], tb := { s.tb with latches := s.tb.latches.set m (tbrLatch s) } }

/-! ### The timebase (chapter 4) -/

/-- The commands of group 0x03 that set or read something (Table 4-9): TB_GET answers the twelve words latched together and changes
nothing; TB_SERVO_SET, TP_SET, TC_SET and UTC_SET put their settings in force and answer with the settings in force; a start in the past is refused
with 0x8301 (R153), slew fences in the wrong order with 0x4003. -/
def Claims.TimebaseSettings : Prop :=
  ∀ (r : Req) (s : State),
    (Admitted 0x0301 false r s → r.payload = [] → Runs (.tbGet r) s (fun t => Same t s ∧ Answered s t r 0x0301 0 (tbGetPayload s))) ∧
    (Admitted 0x0303 true r s → r.payload.length = 32 → zeroAt r.payload 1 3 = true → u8 r.payload 0 ≤ 1 →
      within (u32 r.payload 4) 1 1000000 = true → u32 r.payload 8 ≤ 1000000000 → withinI (iN 2 r.payload 12) (-1000) 1000 = true →
      withinI (iN 2 r.payload 14) (-1000) 1000 = true → within (u32 r.payload 16) 10 100000 = true →
      within (u32 r.payload 20) 1000 1000000000 = true → within (u32 r.payload 24) 60 604800 = true →
      within (u32 r.payload 28) 1 100000000 = true →
      let k : ServoSet := ⟨u32 r.payload 4, u32 r.payload 8, iN 2 r.payload 12, iN 2 r.payload 14, u32 r.payload 16, u32 r.payload 20⟩
      (k.slewHi < k.slewLo → Runs (.tbServoSet r) s (fun t => Same t s ∧ Answered s t r 0x0303 0x4003 [])) ∧
      (k.slewLo ≤ k.slewHi → Runs (.tbServoSet r) s (fun t =>
        t.tb.servoGnss = (if u8 r.payload 0 = 0 then k else s.tb.servoGnss) ∧
        t.tb.servoPtp = (if u8 r.payload 0 = 0 then s.tb.servoPtp else k) ∧
        t.tb.holdLimit = u32 r.payload 24 ∧ t.tb.sigmaY = u32 r.payload 28 ∧
        Same t { s with tb := { s.tb with servoGnss := t.tb.servoGnss, servoPtp := t.tb.servoPtp, holdLimit := t.tb.holdLimit, sigmaY := t.tb.sigmaY } } ∧
        ∃ st, Answered s t r 0x0303 st (servoPayload t.tb (u8 r.payload 0)) ∧ (st = 0 ∨ st = 0x0102)))) ∧
    (Admitted 0x0305 false r s → r.payload.length = 32 → zeroAt r.payload 2 2 = true → u8 r.payload 1 < 16 → u64 r.payload 4 < 2 ^ 48 →
      u8 r.payload 0 ≤ 3 → u32 r.payload 12 ≤ 999999999 → within (u64 r.payload 16) 1000 1000000000000 = true →
      within (u32 r.payload 24) 10 1000000000 = true → u32 r.payload 24 < u64 r.payload 16 →
      let start := u64 r.payload 4 * 1000000000 + u32 r.payload 12
      let en := bit (u8 r.payload 1) 0
      (en = true → start < s.tb.st + 1000000 → Runs (.tpSet r) s (fun t => Same t s ∧ Answered s t r 0x0305 0x8301 [])) ∧
      (en = false ∨ s.tb.st + 1000000 ≤ start →
        (pulsePayload (u8 r.payload 0) (pulseOf s (u8 r.payload 0)) = r.payload → Runs (.tpSet r) s (fun t => Same t s ∧
          Answered s t r 0x0305 0x0102 r.payload)) ∧
        (pulsePayload (u8 r.payload 0) (pulseOf s (u8 r.payload 0)) ≠ r.payload → Runs (.tpSet r) s (fun t =>
          Answered s t r 0x0305 0 r.payload ∧
          Same t { s with tb := { s.tb with pulses := modNth s.tb.pulses (u8 r.payload 0) (fun q => { q with enable := en, activeLow := bit (u8 r.payload 1) 1, squelch := bit (u8 r.payload 1) 2, event := bit (u8 r.payload 1) 3, start := start, period := u64 r.payload 16, width := u32 r.payload 24, count := u32 r.payload 28, next := 0 }) } })))) ∧
    (Admitted 0x0306 false r s → r.payload.length = 4 → zeroAt r.payload 2 2 = true → u8 r.payload 1 < 8 → u8 r.payload 0 ≤ 3 →
      (nth s.tb.captures (u8 r.payload 0) Capture.zero).queue = [] → u8 r.payload 0 < s.tb.captures.length →
      Runs (.tcSet r) s (fun t =>
        Same t { s with tb := { s.tb with captures := modNth s.tb.captures (u8 r.payload 0) (fun c => { c with rising := bit (u8 r.payload 1) 0, falling := bit (u8 r.payload 1) 1, wake := bit (u8 r.payload 1) 2 }) } } ∧
        ∃ st, Answered s t r 0x0306 st r.payload ∧ (st = 0 ∨ st = 0x0102))) ∧
    (Admitted 0x0308 false r s → r.payload.length = 4 → zeroAt r.payload 3 1 = true → u8 r.payload 2 % 128 < 4 → u16 r.payload 0 ≤ 255 →
      let tb := { s.tb with
        utcHost := if bit (u8 r.payload 2) 7 then none else some (u16 r.payload 0, bit (u8 r.payload 2) 0, bit (u8 r.payload 2) 1) }
      Runs (.utcSet r) s (fun t => Answered s t r 0x0308 0 (utcPayload tb) ∧ Same t { s with tb := tb }))

/-- TB_SOURCE_SET ranks the sources; while the source in use stays ranked it stays in use, and a source that is no longer ranked is left
for the best other, else the state goes to HOLDOVER (R143, R144); a source that qualified unranked is used at once (the model's choice: log
entry 15). PTP_SET sets a port; it refuses a gPTP profile over UDP or end to
end with 0x8303 and a change to the port in use with 0x2003 (R165). -/
def Claims.TimebaseSources : Prop :=
  ∀ (r : Req) (s : State),
    (Admitted 0x0302 false r s → r.payload.length = 4 → zeroAt r.payload 3 1 = true →
      let rank := [u8 r.payload 0, u8 r.payload 1, u8 r.payload 2]
      (∀ x ∈ rank, x ≤ 3) → noRepeat (rank.filter (fun x => x != 0)) = true →
      let s1 := { s with tb := { s.tb with ranking := rank } }
      let st := if s.tb.ranking = rank then 0x0102 else 0
      (s.tb.source ≠ 0 → s.tb.source ∈ rank → s.tb.state ≠ 0 → Runs (.tbSourceSet r) s (fun t => Same t (ptpUpdateBoth s1) ∧ Answered s t r 0x0302 st r.payload)) ∧
      (s.tb.source ≠ 0 → s.tb.source ∉ rank → bestSource s1.tb ≠ 0 → Runs (.tbSourceSet r) s (fun t =>
        Same t (ptpUpdateBoth (returnTo (bestSource s1.tb) s1)) ∧ Answered s t r 0x0302 st r.payload)) ∧
      (s.tb.source = 0 → bestSource s1.tb = 0 → Runs (.tbSourceSet r) s (fun t => Same t (ptpUpdateBoth s1) ∧
        Answered s t r 0x0302 st r.payload)) ∧
      (s.tb.source = 0 → s.tb.state = 0 → bestSource s1.tb ≠ 0 → Runs (.tbSourceSet r) s (fun t =>
        t.tb.source = bestSource s1.tb ∧ t.tb.state = 1 ∧
        t.tb.st = ((s.tb.st : Int) - (srcOf s.tb (bestSource s1.tb)).e).toNat % stSpan ∧ Answered s t r 0x0302 st r.payload)) ∧
      (s.tb.source = 0 → holding s.tb = true → bestSource s1.tb ≠ 0 → Runs (.tbSourceSet r) s (fun t =>
        Same t (ptpUpdateBoth (returnTo (bestSource s1.tb) s1)) ∧ Answered s t r 0x0302 st r.payload)) ∧
      (s.tb.source ≠ 0 → s.tb.source ∉ rank → bestSource s1.tb = 0 → holding s.tb = false → Runs (.tbSourceSet r) s (fun t =>
        t.tb.state = 3 ∧ t.tb.source = 0 ∧ t.tb.holdSince = s.tb.gtc ∧ Answered s t r 0x0302 st r.payload))) ∧
    (Admitted 0x0307 true r s → r.payload.length = 12 → zeroAt r.payload 9 3 = true → u8 r.payload 2 < 8 →
      within (u8 r.payload 0) 1 2 = true → u8 r.payload 1 ≤ 3 → u8 r.payload 3 ≤ 127 → withinI (iN 1 r.payload 4) (-7) 1 = true →
      withinI (iN 1 r.payload 5) (-3) 3 = true → within (u8 r.payload 6) 2 10 = true → (u8 r.payload 1 = 3 → u8 r.payload 3 = 0) →
      let n := u8 r.payload 0
      let conflict := u8 r.payload 1 = 3 ∧ bit (u8 r.payload 2) 0 = false
      let busy := s.tb.source = n + 1 ∧ ptpPayload n (ptpOf s (n - 1)) ≠ r.payload
      (conflict → ¬ busy → Runs (.ptpSet r) s (fun t => Same t s ∧ Answered s t r 0x0307 0x8303 [])) ∧
      (¬ conflict → busy → Runs (.ptpSet r) s (fun t => Same t s ∧ Answered s t r 0x0307 0x2003 [])) ∧
      (¬ conflict → ptpPayload n (ptpOf s (n - 1)) = r.payload → Runs (.ptpSet r) s (fun t => Same t s ∧
        Answered s t r 0x0307 0 r.payload)) ∧
      (¬ conflict → ¬ busy → ptpPayload n (ptpOf s (n - 1)) ≠ r.payload → Runs (.ptpSet r) s (fun t => Answered s t r 0x0307 0 r.payload ∧
        Same t (ptpUpdate false (2 - n) (ptpUpdate false (n - 1) { s with tb := { s.tb with
          ptp := modNth s.tb.ptp (n - 1) (ptpConfigure r.payload s.tb.gtc) } })))))

/-- TB_STEP (R150, R165): mode 0 steps ST by −e while STEP_NEEDED is set, clears it and locks with i = i_avg; without it, it refuses with
0x8302. Mode 1 steps ST by the amount given, from any state: HOLDOVER and UNQUALIFIED are kept, the others go to HOLDOVER. ST wraps at 48
bits of seconds, and a step below 0 leaves it at 0 (the model's choice: log entry 15). A step backward changes nothing outside the
timebase; one forward may also take out transits and zones (R424). -/
def Claims.TimebaseStep : Prop :=
  ∀ (r : Req) (s : State), Admitted 0x0304 true r s → r.payload.length = 16 → zeroAt r.payload 1 7 = true →
    withinI (iN 8 r.payload 8) (-(2 ^ 62)) (2 ^ 62) = true →
    (u8 r.payload 0 = 0 → s.tb.stepNeeded = false → Runs (.tbStep r) s (fun t => Same t s ∧ Answered s t r 0x0304 0x8302 [])) ∧
    (u8 r.payload 0 = 0 → s.tb.stepNeeded = true → Runs (.tbStep r) s (fun t =>
      t.tb.st = ((s.tb.st : Int) - s.tb.e).toNat % stSpan ∧ t.tb.stepNeeded = false ∧ t.tb.state = 1 ∧ t.tb.integ = s.tb.iAvg ∧
      t.tb.gtc = s.tb.gtc ∧ Same t { s with tb := t.tb, repl := t.repl, pair := t.pair, trown := t.trown } ∧ (0 ≤ s.tb.e → Same t { s with tb := t.tb }) ∧ Answered s t r 0x0304 0 (leInt 8 (- s.tb.e)) ∧
      Reported s t 0xC303 31 (leInt 8 (- s.tb.e) ++ leBytes 1 1 ++ [0, 0, 0]))) ∧
    (u8 r.payload 0 = 1 → Runs (.tbStep r) s (fun t =>
      t.tb.st = ((s.tb.st : Int) + iN 8 r.payload 8).toNat % stSpan ∧ t.tb.gtc = s.tb.gtc ∧
      (holding s.tb = true → t.tb.state = s.tb.state ∧ t.tb.holdSince = s.tb.holdSince) ∧
      (holding s.tb = false → t.tb.state = 3 ∧ t.tb.holdSince = s.tb.gtc) ∧ Same t { s with tb := t.tb, repl := t.repl, pair := t.pair, trown := t.trown } ∧
      (iN 8 r.payload 8 ≤ 0 → Same t { s with tb := t.tb }) ∧ Answered s t r 0x0304 0 (leInt 8 (iN 8 r.payload 8)) ∧
      Reported s t 0xC303 31 (leInt 8 (iN 8 r.payload 8) ++ leBytes 1 1 ++ [0, 0, 0])))

/-- Offset samples: one that waits is taken; the first source that qualifies while the state is FREE aligns ST := ST − e whatever the size
of e, and the state goes to LOCKED (R151); while LOCKED the servo takes a sample within the step threshold (R145), and one beyond it does
not enter; in HOLDOVER a sample within the threshold starts SLEWING, one beyond it sets STEP_NEEDED (R149), and with STEP_NEEDED set
and entry 0x0C armed it steps (R150). Without a sample that waits, and while REF_IN is lost (R578), nothing happens. -/
def Claims.OffsetSamples : Prop :=
  ∀ (n : Nat) (s : State), 1 ≤ n → n ≤ 3 → n - 1 < s.tb.sources.length →
    (nth s.tb.samples (n - 1) none = none → exec (.offsetSample n) s = done s) ∧
    (∀ x, nth s.tb.samples (n - 1) none = some x → s.pwr.refLost = true → exec (.offsetSample n) s =
      done { s with tb := { s.tb with samples := s.tb.samples.set (n - 1) none } }) ∧
    (∀ x, nth s.tb.samples (n - 1) none = some x → x.valid = true → s.pwr.refLost = false →
    (s.tb.state = 0 → (srcOf s.tb n).qualified = false → s.tb.ranking.contains n = true → qualifyCount n ≤ sampleRun n x s →
      Runs (.offsetSample n) s (fun t =>
        t.tb.st = ((s.tb.st : Int) - x.e).toNat % stSpan ∧ t.tb.state = 1 ∧ t.tb.source = n ∧ t.tb.gtc = s.tb.gtc ∧ Same t { s with tb := t.tb, repl := t.repl, pair := t.pair, trown := t.trown } ∧
        (0 ≤ x.e → Same t { s with tb := t.tb }) ∧ Reported s t 0xC303 31 (leInt 8 (-x.e) ++ leBytes 1 0 ++ [0, 0, 0]))) ∧
    ((srcOf s.tb n).qualified = true → s.tb.source = n →
      (s.tb.state = 1 → x.e.natAbs ≤ (servoSet s.tb).stepTh → Runs (.offsetSample n) s (fun t =>
        let k := servoSet s.tb
        let i := clampInt (-50000000000000000000000) 50000000000000000000000
          (s.tb.integ + (k.ki : Int) * x.e * ((elapsed s.tb.gtc s.tb.lastSample : Nat) : Int))
        t.tb.integ = i ∧
        t.tb.y = rateOf (i + clampInt (k.slewLo * 1000000) (k.slewHi * 1000000) ((k.kp : Int) * x.e) * 1000000000000) ∧
        t.tb.state = 1 ∧ t.tb.st = s.tb.st ∧ t.tb.e = x.e ∧ t.tb.lastSample = s.tb.gtc ∧ Same t { s with tb := t.tb })) ∧
      (s.tb.state = 1 ∨ s.tb.state = 2 → (servoSet s.tb).stepTh < x.e.natAbs → Runs (.offsetSample n) s (fun t =>
        t.tb.y = s.tb.y ∧ t.tb.integ = s.tb.integ ∧ t.tb.state = s.tb.state ∧ t.tb.st = s.tb.st ∧ t.tb.e = x.e ∧ Same t { s with tb := t.tb })) ∧
      (holding s.tb = true → x.e.natAbs ≤ (servoSet s.tb).stepTh → s.tb.stepNeeded = false → Runs (.offsetSample n) s (fun t =>
        t.tb.state = 2 ∧ t.tb.stepNeeded = false ∧ t.tb.st = s.tb.st ∧ t.tb.source = n ∧ Same t { s with tb := t.tb })) ∧
      (holding s.tb = true → (servoSet s.tb).stepTh < x.e.natAbs → s.tb.stepNeeded = false → Runs (.offsetSample n) s (fun t =>
        t.tb.state = s.tb.state ∧ t.tb.stepNeeded = true ∧ t.tb.st = s.tb.st ∧ Reported s t 0xC302 31 (leInt 8 x.e))) ∧
      (holding s.tb = true → s.tb.stepNeeded = true → armed s 12 = true → Runs (.offsetSample n) s (fun t =>
        t.tb.state = 1 ∧ t.tb.stepNeeded = false ∧ t.tb.st = ((s.tb.st : Int) - x.e).toNat % stSpan ∧ t.tb.integ = s.tb.iAvg ∧
        Same t { s with tb := t.tb, repl := t.repl, pair := t.pair, trown := t.trown } ∧ (0 ≤ x.e → Same t { s with tb := t.tb }) ∧
        Reported s t 0xC303 31 (leInt 8 (-x.e) ++ leBytes 1 2 ++ [0, 0, 0])))))

/-- Loss, switch and holdover: the loss of the source in use takes LOCKED and SLEWING to HOLDOVER unless another is qualified (R144); a
source ranked higher and qualified for 10 s is returned to (R143); at the holdover limit the state is UNQUALIFIED (R147);
TB_STEP_NEEDED repeats once per minute (R149); while LOCKED the RTC takes the ST seconds (R140). -/
def Claims.TimebaseEvents : Prop :=
  ∀ s : State,
    (∀ n, lossDue n s = true → 1 ≤ n → s.tb.source = n → s.tb.state = 1 ∨ s.tb.state = 2 →
      (∀ k ∈ s.tb.ranking, k ≠ 0 → k ≠ n → (srcOf s.tb k).qualified = false ∧ k - 1 ≠ n - 1) → n - 1 < s.tb.sources.length →
      ∃ t, exec (.sourceLost n) s = .next t ∧ t.tb.state = 3 ∧ t.tb.source = 0 ∧ t.tb.holdSince = s.tb.gtc ∧ t.tb.st = s.tb.st ∧
        Same t { s with tb := t.tb }) ∧
    (∀ n, (srcOf s.tb n).qualified = true → s.tb.source ≠ 0 → rankOf s.tb n < rankOf s.tb s.tb.source →
      10 * sec ≤ elapsed s.tb.gtc (srcOf s.tb n).since → exec (.sourceSwitchTimer n) s = done (returnTo n s) ∧
        (returnTo n s).tb.source = n) ∧
    (s.tb.state = 3 → s.tb.holdLimit * sec ≤ holdNs s.tb → ∃ t, exec .holdoverLimit s = .next t ∧ t.tb.state = 4 ∧
      Same t { s with tb := { s.tb with state := 4 } }) ∧
    (s.tb.state = 3 → holdNs s.tb < s.tb.holdLimit * sec → exec .holdoverLimit s = done s) ∧
    (s.tb.stepNeeded = true → 60 * sec ≤ elapsed s.tb.gtc s.tb.stepReport → ∃ t, exec .tbStepNeededRepeat s = .next t ∧
      Reported s t 0xC302 31 (leInt 8 s.tb.e) ∧ Same t { s with tb := { s.tb with stepReport := s.tb.gtc } }) ∧
    (s.tb.state = 1 → s.tb.rtcWritten ≠ s.tb.st / sec → exec .rtcSecondUpdate s = done { s with
      tb := { s.tb with rtcWritten := s.tb.st / sec }
      pwr := { s.pwr with rtc := s.tb.st / sec % 2 ^ 32 } })

/-- Time pulses (R152 to R155): a driven output emits the instant with the quality of Table 4-1 and records it; SQUELCH skips it while
the quality is UNQUALIFIED or FREE; an output that is not driven misses it; an instant at or before the last one emitted is silent (R153). -/
def Claims.TimePulses : Prop :=
  ∀ (n : Nat) (s : State), n < s.tb.pulses.length → instantDue (pulseOf s n) s.tb.st = true →
    (instantStale (pulseOf s n) = true → exec (.tpPulseInstant n) s =
      done { s with tb := { s.tb with pulses := modNth s.tb.pulses n (fun p => { p with next := p.next + 1 }) } }) ∧
    (instantStale (pulseOf s n) = false →
    (tpDrivenOf s = true → (pulseOf s n).squelch = false ∨ quality s.tb < 3 → Runs (.tpPulseInstant n) s (fun t =>
      Out.pulse n (nextInstant (pulseOf s n)) (quality s.tb) (!(pulseOf s n).activeLow) (pulseOf s n).width ∈ newOuts s t ∧
      Same t { s with tb := { s.tb with pulses := modNth s.tb.pulses n (fun p => { p with next := p.next + 1, lastInstant := some (nextInstant p), fall := some (nextInstant p + p.width), missed := false, recSt := nextInstant p, recQuality := quality s.tb, recMissed := p.missed, recErr := errEst s }) } })) ∧
    (tpDrivenOf s = true → (pulseOf s n).squelch = true → 3 ≤ quality s.tb → exec (.tpPulseInstant n) s =
      done { s with tb := { s.tb with pulses := modNth s.tb.pulses n (fun p => { p with next := p.next + 1, skipped := min (p.skipped + 1) 65535 }) } }) ∧
    (tpDrivenOf s = false → exec (.tpPulseInstant n) s =
      done { s with tb := { s.tb with pulses := modNth s.tb.pulses n (fun p => { p with next := p.next + 1, missed := true }) } }))

/-- Time captures (R156, R157): a selected edge is stamped with GTC and ST together and reported under the captured GTC; one that comes
within 20 ns of the last, or while the queue of 16 is full, sets OVF and is not captured. In SLEEP an edge of an input with its wake bit
asks for a wake. -/
def Claims.TimeCaptures : Prop :=
  (∀ (n : Nat) (falling : Bool) (s : State), s.pwr.state = 3 → (nth s.tb.captures n Capture.zero).wake = true →
    exec (.tcEdge n falling) s = done { s with pwr := { s.pwr with wakes := putBit s.pwr.wakes 5 true } }) ∧
  ∀ (n : Nat) (falling : Bool) (s : State), n < s.tb.captures.length → s.pwr.state ≤ 2 →
    let c := nth s.tb.captures n Capture.zero
    ((if falling then c.falling else c.rising) = false → exec (.tcEdge n falling) s = done s) ∧
    ((if falling then c.falling else c.rising) = true →
    (c.queue.length ≥ 16 ∨ (∃ g, c.last = some g ∧ elapsed s.tb.gtc g < 20) → exec (.tcEdge n falling) s =
      done { s with tb := { s.tb with captures := modNth s.tb.captures n (fun c => { c with ovf := true }) } }) ∧
    (c.queue = [] → (∀ g, c.last = some g → 20 ≤ elapsed s.tb.gtc g) → domOn s 10 = true → ∃ t, exec (.tcEdge n falling) s = .next t ∧
      Reported s t 0xC305 31 (leBytes 1 n ++ leBytes 1 (flag falling) ++ leBytes 1 (flag c.ovf) ++ [0] ++ leBytes 8 (s.tb.st / sec)
        ++ leBytes 4 (s.tb.st % sec)) ∧
      Same t { s with tb := { s.tb with captures := modNth s.tb.captures n (fun c => { c with queue := [], last := some s.tb.gtc }) } }))

/-- PTP (R158 to R161): a message that uses an unsupported feature is counted and discarded; one for another profile, transport or domain is
not taken; an Announce joins the masters heard and the best master clock algorithm runs; a Sync of one step at a port in SLAVE leaves an
offset sample; a Delay_Req at a MASTER with E2E is answered with the time of its receipt; masters that are not heard for the timeout
are forgotten; a port in MASTER sends Sync and Announce with the quality of Table 4-6 and ST, and the delay requests leave as their
mechanism says. The layouts are the model's (log entry 15). -/
def Claims.PtpPorts : Prop :=
  ∀ (port rate : Nat) (s : State), (ptpOf s port).profile ≠ 0 → domOn s 3 = true →
    let q := ptpOf s port
    (∀ l2 bytes, ptpParse bytes = none → exec (.ptpMessageRx port rate l2 bytes) s = done s) ∧
    (∀ l2 bytes m, ptpParse bytes = some m → ptpSupported l2 m = false → exec (.ptpMessageRx port rate l2 bytes) s =
      done { s with tb := { s.tb with ptp := modNth s.tb.ptp port (fun q => { q with errors := min (q.errors + 1) (2 ^ 32 - 1) }) } }) ∧
    (∀ l2 bytes m, ptpParse bytes = some m → ptpSupported l2 m = true → ptpForPort q l2 m = false →
      exec (.ptpMessageRx port rate l2 bytes) s = done s) ∧
    (∀ l2 bytes m, ptpParse bytes = some m → ptpSupported l2 m = true → ptpForPort q l2 m = true →
      (m.kind = 11 → exec (.ptpMessageRx port rate l2 bytes) s = done (ptpUpdateBoth { s with tb := { s.tb with
        ptp := modNth s.tb.ptp port (fun q => hearAnnounce s.tb.gtc q m) } })) ∧
      (m.kind = 0 → q.state = 9 → q.parent = m.src → bit m.flags 9 = false →
        let t1 := stampAt m.body 0 + m.corr
        let t2 := ptpStamp port rate false s
        Runs (.ptpMessageRx port rate l2 bytes) s (fun t => Same t { s with tb := { s.tb with
          samples := s.tb.samples.set (port + 1)
            (some ⟨true, 0, roundDiv (t2 - t1 - q.pathDelay) 65536, q.rxSeq.any (fun x => (x + 1) % 65536 != m.seq)⟩)
          ptp := modNth s.tb.ptp port (fun q => { q with rxSeq := some m.seq, lastSync := some (t1, t2) }) } })) ∧
      (m.kind = 1 → q.state = 6 → q.profile = 1 →
        let t4 := ptpStamp port rate false s
        exec (.ptpMessageRx port rate l2 bytes) s = done { s with outs := s.outs ++ [.ptp (port + 1) (bit q.flags 0)
          (ptpBytes port 9 0 (m.corr - stampFraction t4) m.seq q.logSync
            (stampBytes t4 ++ beBytes 8 m.src.clock ++ beBytes 2 m.src.port) q)] })) ∧
    (q.foreign.any (fun f => decide (q.announceTimeout * logNs q.logAnnounce ≤ elapsed s.tb.gtc f.last)) = true →
      exec (.ptpAnnounceTimeout port) s = done (ptpUpdate false (1 - port) (ptpUpdate true port { s with tb := { s.tb with
        ptp := modNth s.tb.ptp port (fun q => { q with
          foreign := q.foreign.filter (fun f => decide (elapsed s.tb.gtc f.last < (ptpOf s port).announceTimeout * logNs (ptpOf s port).logAnnounce)) }) } }))) ∧
    (q.state = 6 → bit q.flags 1 = true → Runs (.ptpIntervalTx port rate 0) s (fun t =>
      let st := ptpStamp port rate true s
      Out.ptp (port + 1) (bit q.flags 0)
        (ptpBytes port 0 0 (stampFraction st) (nth q.txSeq 0 0) q.logSync (stampBytes st ++ followUpInfo q) q) ∈ newOuts s t ∧
      Same t { s with tb := { s.tb with ptp := modNth s.tb.ptp port (fun q => { q with txSeq := modNth q.txSeq 0 (fun n => (n + 1) % 65536) }) } })) ∧
    (q.state = 6 → bestAt s (1 - port) = none → Runs (.ptpIntervalTx port rate 1) s (fun t =>
      Out.ptp (port + 1) (bit q.flags 0) (ptpBytes port 11 (announceFlags s) 0 (nth q.txSeq 1 0) q.logAnnounce
        (stampBytes ((s.tb.st : Int) * 65536) ++ beBytes 2 (tbrUtc s.tb % 65536) ++ zeros 1 ++ beBytes 1 q.priority1
          ++ beBytes 1 (advertised s.tb).1 ++ beBytes 1 (advertised s.tb).2.1 ++ beBytes 2 (Config.ptpVariance % 65536)
          ++ beBytes 1 q.priority2 ++ beBytes 8 (ownPort port).clock ++ beBytes 2 0 ++ beBytes 1 (advertised s.tb).2.2 ++ pathTrace q port) q)
        ∈ newOuts s t ∧
      Same t { s with tb := { s.tb with ptp := modNth s.tb.ptp port (fun q => { q with txSeq := modNth q.txSeq 1 (fun n => (n + 1) % 65536) }) } })) ∧
    (q.profile = 2 ∨ q.profile = 3 → Runs (.ptpIntervalTx port rate 3) s (fun t =>
      let st := ptpStamp port rate true s
      Out.ptp (port + 1) (bit q.flags 0) (ptpBytes port 2 0 0 (nth q.txSeq 3 0) 127 (zeros 20) q) ∈ newOuts s t ∧
      Same t { s with tb := { s.tb with ptp := modNth s.tb.ptp port (fun q => { q with
        pdelay := some ⟨nth q.txSeq 3 0, st, none⟩, txSeq := modNth q.txSeq 3 (fun n => (n + 1) % 65536) }) } }))

/-! ### The GNSS signal path (chapter 5) -/

/-- The setting commands of group 0x04 put their settings in force, answer with them and change nothing else (R171, R175, R178, R181,
R185, R189, R192, R200, R204, R88). -/
def Claims.GnssSettings : Prop :=
  ∀ (r : Req) (s : State),
    (Admitted 0x0403 true r s → r.payload.length = 8 → u32 r.payload 0 < 2 ^ 19 → zeroAt r.payload 5 3 = true → u8 r.payload 4 ≤ 30 →
      Runs (.gnSignalSet r) s (fun t => Same t { s with gnss := { s.gnss with enables := u32 r.payload 0, elMask := u8 r.payload 4 } } ∧
        Answered s t r 0x0403 (if s.gnss.enables = u32 r.payload 0 ∧ s.gnss.elMask = u8 r.payload 4 then 0x0102 else 0) r.payload)) ∧
    (Admitted 0x0404 true r s → r.payload.length = 4 →
      let a := [u8 r.payload 0, u8 r.payload 1, u8 r.payload 2, u8 r.payload 3]
      (∀ n ∈ a, n ≤ 32) →
      (a.sum ≠ 32 → Runs (.gnChanAlloc r) s (fun t => Same t s ∧ Answered s t r 0x0404 0x8402 [])) ∧
      (a.sum = 32 → Runs (.gnChanAlloc r) s (fun t => Same t { s with gnss := { s.gnss with allocPending := some a } } ∧
        Answered s t r 0x0404 (if s.gnss.allocPending.getD s.gnss.alloc = a then 0x0102 else 0) r.payload))) ∧
    (Admitted 0x0405 true r s → r.payload.length = 16 → zeroAt r.payload 9 3 = true →
      u8 r.payload 0 = 0 ∨ signalBit (u8 r.payload 0) < 19 →
      let n := loopSetOf r.payload
      within n.coherent 1 20 = true → within n.dll 5 200 = true → within n.pll 50 300 = true → within n.fll 10 100 = true →
      within n.spacing 5 100 = true → (∀ v ∈ n.probes, withinI v (-32) 32 = true) → s.gnss.loops.length = 19 →
      Runs (.gnLoopSet r) s (fun t => t.gnss.loops.length = 19 ∧
        (∀ i, i < 19 → nth t.gnss.loops i n = if u8 r.payload 0 = 0 ∨ i = signalBit (u8 r.payload 0) then n else nth s.gnss.loops i n) ∧
        Same t (retuneChans { s with gnss := { s.gnss with loops := t.gnss.loops } }) ∧
        Answered s t r 0x0405 (if t.gnss.loops = s.gnss.loops then 0x0102 else 0) r.payload)) ∧
    (Admitted 0x0408 true r s → r.payload.length = 12 → zeroAt r.payload 11 1 = true → within (u8 r.payload 0) 5 45 = true →
      within (u8 r.payload 1) 1 200 = true → within (u16 r.payload 2) 10 500 = true → within (u16 r.payload 4) 50 500 = true →
      u16 r.payload 2 < u16 r.payload 4 → within (u16 r.payload 6) 10 1000 = true → within (u16 r.payload 8) 20 2400 = true →
      within (u8 r.payload 10) 2 32 = true →
      let g := { s.gnss with bMask := u8 r.payload 0, bSpoofHold := u8 r.payload 1, bMultipath := u16 r.payload 2, bSpoof := u16 r.payload 4, bProbe := u16 r.payload 6, bClear := u16 r.payload 8, bArray := u8 r.payload 10 }
      Runs (.gnBearingSet r) s (fun t => Same t { s with gnss := g } ∧ Answered s t r 0x0408 (if g = s.gnss then 0x0102 else 0) r.payload)) ∧
    (Admitted 0x040B false r s → r.payload.length = 4 → zeroAt r.payload 3 1 = true → u8 r.payload 0 ≤ 63 ∨ u8 r.payload 0 = 0xFF →
      within (u8 r.payload 1) 1 20 = true → within (u8 r.payload 2) 1 15 = true →
      (u8 r.payload 0 ≠ 0xFF → sqDeviceBound s (u8 r.payload 0) = false →
        Runs (.gnObsStream r) s (fun t => Same t s ∧ Answered s t r 0x040B 0x8404 [])) ∧
      (u8 r.payload 0 = 0xFF ∨ sqDeviceBound s (u8 r.payload 0) = true →
        Runs (.gnObsStream r) s (fun t => Answered s t r 0x040B 0 r.payload ∧
          Same t { s with gnss := { s.gnss with obsQueue := u8 r.payload 0, obsDecim := u8 r.payload 1, obsPorts := u8 r.payload 2 } }))) ∧
    (Admitted 0x040C true r s → r.payload.length = 8 → zeroAt r.payload 6 2 = true → u8 r.payload 0 ≤ 3 → u8 r.payload 1 ≤ 64 →
      within (u16 r.payload 2) 2000 20000 = true → within (u16 r.payload 4) 100 10000 = true →
      let g := { s.gnss with acqPort := u8 r.payload 0, acqSums := u8 r.payload 1, acqCold := u16 r.payload 2, acqAided := u16 r.payload 4 }
      Runs (.gnAcqSet r) s (fun t => Same t { s with gnss := g } ∧ Answered s t r 0x040C (if g = s.gnss then 0x0102 else 0) r.payload))

/-- GN_FENCE_SET and GN_JN_SET change the band streams they name and nothing else; fences in the wrong order are refused with 0x4003; a fixed
value is taken at once and ends a notch's assignment (R30); a noise capture on a stream whose port is not in DATA is refused with
0x8401 (R178). -/
def Claims.BandSettings : Prop :=
  ∀ (r : Req) (s : State),
    (Admitted 0x0406 true r s → r.payload.length = 20 → zeroAt r.payload 5 3 = true → u8 r.payload 4 ≤ 1 →
      let lo := iN 4 r.payload 8
      let hi := iN 4 r.payload 12
      let fixed := if u8 r.payload 4 = 1 then some (iN 4 r.payload 16) else none
      let inst := u16 r.payload 2
      (u8 r.payload 0 = 2 → u8 r.payload 1 = 0 → inst = 0xFFFF ∨ inst < 16 → withinI lo (-2400) 2400 = true →
        withinI hi (-2400) 2400 = true → (u8 r.payload 4 = 1 → withinI (iN 4 r.payload 16) (-2400) 2400 = true) →
        (hi < lo → Runs (.gnFenceSet r) s (fun t => Same t s ∧ Answered s t r 0x0406 0x4003 [])) ∧
        (lo ≤ hi → s.gnss.bands.length = 16 → Runs (.gnFenceSet r) s (fun t =>
          Same t { s with gnss := { s.gnss with bands := t.gnss.bands } } ∧ t.gnss.bands.length = 16 ∧
          (∀ b, b < 16 → bandOf t b = if inst = 0xFFFF ∨ inst = b then { bandOf s b with
            agcLo := lo, agcHi := hi, agcFixed := fixed, agc := fixed.getD (bandOf s b).agc } else bandOf s b) ∧
          Answered s t r 0x0406 (if t.gnss.bands = s.gnss.bands then 0x0102 else 0) r.payload))) ∧
      (u8 r.payload 0 = 1 → u8 r.payload 1 ≤ 1 → inst = 0xFFFF ∨ inst < 128 →
        let ok (v : Int) : Bool := if u8 r.payload 1 = 0 then withinI v (-30690000) 30690000 else withinI v 0 4000
        ok lo = true → ok hi = true → (u8 r.payload 4 = 1 → ok (iN 4 r.payload 16) = true) →
        (hi < lo → Runs (.gnFenceSet r) s (fun t => Same t s ∧ Answered s t r 0x0406 0x4003 [])) ∧
        (lo ≤ hi → s.gnss.bands.length = 16 → Runs (.gnFenceSet r) s (fun t =>
          Same t { s with gnss := { s.gnss with bands := t.gnss.bands } } ∧ t.gnss.bands.length = 16 ∧
          (∀ b i, b < 16 → i < 8 → nth (bandOf t b).notches i (Notch.free b) =
            if inst = 0xFFFF ∨ inst = b * 8 + i then fenceNotch (u8 r.payload 1) lo hi fixed (nth (bandOf s b).notches i (Notch.free b))
            else nth (bandOf s b).notches i (Notch.free b)) ∧
          Answered s t r 0x0406 (if t.gnss.bands = s.gnss.bands then 0x0102 else 0) r.payload)))) ∧
    (Admitted 0x0407 true r s → r.payload.length = 8 → u8 r.payload 1 ≤ 1 → zeroAt r.payload 6 2 = true → u8 r.payload 0 ≤ 15 →
      u16 r.payload 2 ≤ 240 → u16 r.payload 4 ≤ 40 →
      (u8 r.payload 1 = 1 → inData s (u8 r.payload 0 / 4) = false →
        Runs (.gnJnSet r) s (fun t => Same t s ∧ Answered s t r 0x0407 0x8401 [])) ∧
      (u8 r.payload 1 = 0 ∨ inData s (u8 r.payload 0 / 4) = true → s.gnss.bands.length = 16 → Runs (.gnJnSet r) s (fun t =>
        Same t { s with gnss := { s.gnss with bands := t.gnss.bands } } ∧ t.gnss.bands.length = 16 ∧
        (∀ b, b < 16 → b ≠ u8 r.payload 0 → bandOf t b = bandOf s b) ∧
        bandOf t (u8 r.payload 0) = { bandOf s (u8 r.payload 0) with alarm := u16 r.payload 2, hyst := u16 r.payload 4, capture := if u8 r.payload 1 = 1 then some s.tb.gtc else (bandOf s (u8 r.payload 0)).capture } ∧
        Answered s t r 0x0407 (if t.gnss.bands = s.gnss.bands then 0x0102 else 0) r.payload)))

/-- GN_STATUS answers the status of the ports and clears the code-group error counts; GN_SAT_GET changes nothing (R212). GN_SAT_EXCLUDE
of one satellite adds or removes causes and reports a change; a cause that a reaction set in the same station epoch stays; an identifier outside R182 is
refused with 0x8403 (R207). -/
def Claims.GnssQueries : Prop :=
  ∀ (r : Req) (s : State),
    (Admitted 0x0402 false r s → r.payload = [] → Runs (.gnStatus r) s (fun t => Answered s t r 0x0402 0 (gnStatusBytes s) ∧
      Same t { s with gnss := { s.gnss with ports := s.gnss.ports.map (fun x => { x with codeErr := 0 }) } })) ∧
    (Admitted 0x040A false r s → r.payload = [] → Runs (.gnSatGet r) s (fun t => Same t s ∧
      ∃ body, Answered s t r 0x040A 0 (leBytes 2 (s.gnss.sats.filter (fun x => x.causes != 0 ||
        s.gnss.chans.any (fun c => c.state != 0 && c.sat == x.id))).length ++ [0, 0] ++ body))) ∧
    (Admitted 0x0409 true r s → r.payload.length = 8 → u8 r.payload 0 = 1 → zeroAt r.payload 1 3 = true → zeroAt r.payload 7 1 = true →
      u8 r.payload 6 ≤ 1 →
      let id := u16 r.payload 4
      let x := satOf s id
      let after := if u8 r.payload 6 = 1 then putBit x.causes 0 true
        else if x.reactedAt = stationEpoch s then Nat.land x.causes x.reactedNow else 0
      (satValid id = false → Runs (.gnSatExclude r) s (fun t => Same t s ∧ Answered s t r 0x0409 0x8403 [])) ∧
      (satValid id = true → after = (satOf s id).causes → Runs (.gnSatExclude r) s (fun t => Same t s ∧
        ∃ p, Answered s t r 0x0409 0x0102 p)) ∧
      (satValid id = true → after ≠ (satOf s id).causes → Runs (.gnSatExclude r) s (fun t =>
        Same t { s with gnss := { s.gnss with sats := putSat { x with
          causes := after, causesWas := noteWas s x.causesWas x.causes } s.gnss.sats } } ∧
        Reported s t 0xC404 24 (leBytes 2 id ++ leBytes 1 (satOf s id).causes ++ leBytes 1 after ++ leBytes 1 r.master ++ [0, 0, 0]) ∧
        ∃ p st, Answered s t r 0x0409 st p)))

/-- GN_PORT_SET: disabling a port takes its link to DOWN, enabling or changing it restarts it at CGS, and an unchanged enabled port that
is not in FAULT stays as it is (R166, R171). -/
def Claims.AntennaPort : Prop :=
  ∀ (r : Req) (s : State), Admitted 0x0401 true r s → r.payload.length = 20 → u8 r.payload 1 < 8 → u8 r.payload 2 < 16 →
    zeroAt r.payload 3 1 = true → u8 r.payload 0 ≤ 3 → s.gnss.ports.length = 4 →
    (∀ i, i < 4 → u32 r.payload (4 + 4 * i) = 0 ∨
      within (u32 r.payload (4 + 4 * i)) (bandCentre i - 10000000) (bandCentre i + 10000000) = true) →
    let p := u8 r.payload 0
    let x := gnPort s p
    (bit (u8 r.payload 1) 0 = false → Runs (.gnPortSet r) s (fun t => (gnPort t p).link = 0 ∧ (gnPort t p).enable = false ∧
      (gnPort t p).feRef = false ∧ Same t { s with gnss := t.gnss } ∧
      (x.link ≠ 0 → Reported s t 0xC401 (24 + p) (leBytes 1 p ++ leBytes 1 x.link ++ leBytes 1 0 ++ leBytes 1 0)))) ∧
    (bit (u8 r.payload 1) 0 = true → gnPortBytes p x ≠ r.payload → Runs (.gnPortSet r) s (fun t => (gnPort t p).link = 1 ∧
      (gnPort t p).enable = true ∧ (gnPort t p).specInv = u8 r.payload 2 ∧ Same t { s with gnss := t.gnss })) ∧
    (bit (u8 r.payload 1) 0 = true → gnPortBytes p x = r.payload → x.link ≠ 4 → Runs (.gnPortSet r) s (fun t =>
      (gnPort t p).link = x.link ∧ Answered s t r 0x0401 0x0102 (gnPortBytes p (gnPort t p) ++ leBytes 1 x.link ++ [0, 0, 0]) ∧
      Same t { s with gnss := t.gnss }))

/-- The link states of an antenna port (R166 to R170): CGS to ILAS unless a restart still holds SYNC_N low, ILAS to DATA where the
configuration data agree with Table 5-1 and to FAULT where they do not, 8 code-group errors of a multiframe or 4 misaligned multiframes in
DATA back to CGS, each reported; fewer errors are only counted; 200 ms after DATA was left the port's channels return to IDLE. -/
def Claims.AntennaLinks : Prop :=
  ∀ (p : Nat) (s : State), p < s.gnss.ports.length →
    ((gnPort s p).link = 1 → (∀ g, (gnPort s p).syncLow = some g → twoMultiframes ≤ sinceNs s g) → Runs (.jesdCgsDone p) s (fun t =>
      (gnPort t p).link = 2 ∧ (gnPort t p).syncN = true ∧ Same t { s with gnss := t.gnss } ∧
      Reported s t 0xC401 (24 + p) (leBytes 1 p ++ leBytes 1 1 ++ leBytes 1 2 ++ leBytes 1 0))) ∧
    (∀ g, (gnPort s p).syncLow = some g → sinceNs s g < twoMultiframes → exec (.jesdCgsDone p) s = done s) ∧
    ((gnPort s p).link = 2 → Runs (.jesdIlasEnd p jesdTable) s (fun t => (gnPort t p).link = 3 ∧ Same t { s with gnss := t.gnss } ∧
        Reported s t 0xC401 (24 + p) (leBytes 1 p ++ leBytes 1 2 ++ leBytes 1 3 ++ leBytes 1 0)) ∧
      ∀ cfg, cfg ≠ jesdTable → Runs (.jesdIlasEnd p cfg) s (fun t => (gnPort t p).link = 4 ∧ Same t { s with gnss := t.gnss } ∧
        Reported s t 0xC401 (24 + p) (leBytes 1 p ++ leBytes 1 2 ++ leBytes 1 4 ++ leBytes 1 3))) ∧
    (∀ errors misaligned, (gnPort s p).link = 3 →
      (8 ≤ errors ∨ 4 ≤ misaligned → Runs (.jesdLinkError p errors misaligned) s (fun t => (gnPort t p).link = 1 ∧
        (gnPort t p).outage = some s.tb.gtc ∧ (gnPort t p).syncN = false ∧ (gnPort t p).syncLow = some s.tb.gtc ∧
        (gnPort t p).codeErr = min ((gnPort s p).codeErr + errors) 65535 ∧ Same t { s with gnss := t.gnss } ∧
        Reported s t 0xC401 (24 + p) (leBytes 1 p ++ leBytes 1 3 ++ leBytes 1 1 ++ leBytes 1 (if 8 ≤ errors then 1 else 2)))) ∧
      (errors < 8 → misaligned < 4 → exec (.jesdLinkError p errors misaligned) s = done { s with gnss := { s.gnss with
        ports := modNth s.gnss.ports p (fun x => { x with codeErr := min (x.codeErr + errors) 65535 }) } })) ∧
    (∀ g, (gnPort s p).outage = some g → (gnPort s p).link ≠ 3 → 200000000 ≤ sinceNs s g → exec (.linkOutageTimeout p) s =
      done { s with gnss := { s.gnss with ports := modNth s.gnss.ports p (fun x => { x with outage := none }), chans := s.gnss.chans.map (fun c => if c.port = p then Channel.idle else c) } })

/-- Interference (R173, R174, R176 to R180): a line without a notch takes a free one and is followed inside its fences; the gain is held inside
its fence; the J/N code follows the power against the reference, and an alarm is raised with its report; a capture takes the power
1 s after it was asked for. Nothing outside the GNSS path changes. -/
def Claims.Interference : Prop :=
  ∀ (band : Nat) (s : State), band < s.gnss.bands.length → inData s (band / 4) = true →
    (∀ lines, Runs (.notchUpdate band lines) s (fun t => Same t { s with gnss := { s.gnss with bands := t.gnss.bands } } ∧
      (∀ b, b ≠ band → bandOf t b = bandOf s b) ∧
      (∀ l : Int × Nat, lines = [l] → 1000 ≤ l.2 → (bandOf s band).notches.length = 8 →
        (∀ n ∈ (bandOf s band).notches, n.line = none ∧ notchFixed n = false) →
        ∃ n, (bandOf t band).notches.head? = some n ∧ n.assigned = true ∧ n.line = some l ∧
          n.freq = clampInt n.freqLo n.freqHi l.1 ∧ n.depth = clampInt n.depthLo n.depthHi ((l.2 : Int) + 600)))) ∧
    (∀ best, Runs (.agcUpdate band best) s (fun t => (bandOf t band).agc =
        ((bandOf s band).agcFixed.getD (clampInt (bandOf s band).agcLo (bandOf s band).agcHi best)) ∧
      Same t { s with gnss := { s.gnss with bands := modNth s.gnss.bands band (fun x => { x with agc := (bandOf t band).agc }) } })) ∧
    (∀ power low clip rms v, (bandOf s band).pnHost = some v → clip ≤ 50 → 100 ≤ rms →
      Runs (.jnUpdate band power low clip rms) s (fun t => (bandOf t band).jn = jnCode power v ∧ (bandOf t band).clip = clip ∧
        (bandOf t band).rms = rms ∧ Same t { s with gnss := { s.gnss with bands := t.gnss.bands } } ∧
        ((bandOf s band).raised = false → (bandOf s band).alarm ≤ jnCode power v → (bandOf t band).raised = true ∧
          Reported s t 0xC402 (24 + band / 4) (leBytes 1 band ++ leBytes 1 1 ++ leBytes 1 (jnCode power v)
            ++ leBytes 1 ((bandOf s band).notches.filter (fun n => n.assigned)).length)) ∧
        ((bandOf s band).raised = true → jnCode power v + (bandOf s band).hyst < (bandOf s band).alarm → (bandOf t band).raised = false))) ∧
    (∀ power g d, (bandOf s band).capture = some g → (bandOf s band).dataSince = some d → sec ≤ sinceNs s g → sinceNs s g ≤ sinceNs s d →
      exec (.noiseCaptureEnd band power) s = done { s with gnss := { s.gnss with bands := modNth s.gnss.bands band (fun b => { b with capture := none, pnHost := some power }) } })

/-- Tracking (R184 to R195): a pass that found nothing only counts towards its search (R185); a signal that a pass verified takes a free
channel of the one port in DATA; a channel follows Table 5-9 with its measurements while its port is in DATA; after 1 s below
22 dB-Hz a channel without a sibling in lock is IDLE, one with a sibling starts again from it. -/
def Claims.TrackingChannels : Prop :=
  ∀ s : State,
    (searchPort s = none ∨ domOn s 5 = false ∨ 3 ≤ s.pwr.state → ∀ l, exec (.acqPassComplete l) s = done s) ∧
    (searchPort s ≠ none → domOn s 5 = true → s.pwr.state < 3 →
      let last := acqPasses ((acqTargets s).map acqCells).sum ≤ s.gnss.acqDone + 1
      exec (.acqPassComplete []) s = done { s with gnss := { s.gnss with
        acqDone := if last then 0 else s.gnss.acqDone + 1
        acqTime := if last then 0 else s.gnss.acqTime + (acqTargets s).foldl (fun m t => max m (acqDwell s t.sig)) 0 } }) ∧
    (∀ p i f, dataPorts s = [p] → domOn s 5 = true → s.pwr.state < 3 → acqVerified s (acqTargets s) f = true →
      belowMask s (satOf s f.sat) = false → tracking s f.sat f.sig f.k p = none → freeChan s p = some i →
      Runs (.acqPassComplete [f]) s (fun t => chanAt t i = startChan s ⟨f.sat, f.sig, f.k, f.code, 1000 * f.doppler⟩ p ∧
        (chanAt t i).state = 1 ∧ (chanAt t i).sat = f.sat ∧ (chanAt t i).sig = f.sig ∧ (chanAt t i).port = p ∧ (chanAt t i).k = f.k ∧
        (∀ j, j ≠ i → chanAt t j = chanAt s j) ∧ Same t { s with gnss := t.gnss })) ∧
    (∀ i c, (chanAt s i).state = 0 ∨ 1024 ≤ i ∨ inData s (chanAt s i).port = false → exec (.channelUpdate i c) s = done s) ∧
    (∀ i c, (chanAt s i).state ≠ 0 → i < 1024 → inData s (chanAt s i).port = true → Runs (.channelUpdate i c) s (fun t =>
      (chanAt t i).cn0 = min c.cn0 6500 ∧ (chanAt t i).phaseLock = c.pll ∧ (chanAt t i).code = c.code ∧ (chanAt t i).carrier = c.carrier ∧
      (chanAt t i).sat = (chanAt s i).sat ∧ (chanAt t i).sig = (chanAt s i).sig ∧ (chanAt t i).port = (chanAt s i).port ∧
      (chanAt t i).state = chanNext (chanAt s i).state c (chanAt t i |>.goodSince |> pllHeld s) ∧
      (chanAt t i).slip = ((chanAt s i).slip || (decide (3 ≤ (chanAt s i).state) && decide (60 ≤ (chanAt s i).phaseLock) && decide (c.pll < 60))) ∧
      (∀ j, j ≠ i → chanAt t j = chanAt s j) ∧ Same t { s with gnss := { s.gnss with chans := t.gnss.chans } })) ∧
    (∀ i g, (chanAt s i).lowSince = some g → (chanAt s i).state ≠ 0 → sec ≤ sinceNs s g → inData s (chanAt s i).port = true →
      Runs (.channelLoss i) s (fun t =>
        ((∀ c ∈ s.gnss.chans, c.port = (chanAt s i).port → c.sat = (chanAt s i).sat → c.sig ≠ (chanAt s i).sig → c.state < 2) →
          chanAt t i = Channel.idle) ∧
        (∀ c, s.gnss.chans.find? (fun c => c.port == (chanAt s i).port && c.sat == (chanAt s i).sat && c.k == (chanAt s i).k &&
            c.sig != (chanAt s i).sig && decide (2 ≤ c.state)) = some c →
          chanAt t i = startChan s (startFrom c (chanAt s i).sig) (chanAt s i).port) ∧
        (∀ j, j ≠ i → chanAt t j = chanAt s j) ∧ Same t { s with gnss := { s.gnss with chans := t.gnss.chans } }))

/-! ### Station position and corrections (chapter 6) -/

/-- The replicated setting commands of group 0x05 are checked and then held for the commit (R13, R216 to R221, R237, R238): the decision
enters the running cycle and nothing else changes. What the state does not allow is refused: a mode that needs a position without
one with 0x8505, a position in SERVE while CLEAR with 0x2002, one that would move the grid under transits or zones, and an origin while they
are held, with 0x8502, a position far from the check position with 0x8501, an origin over 50 km away with 0x8503. -/
def Claims.StationSettingsHeld : Prop :=
  ∀ (r : Req) (s : State), s.pair.role ≠ 2 →
    (Admitted 0x0501 true r s → r.payload.length = 16 → u8 r.payload 1 < 4 → zeroAt r.payload 2 2 = true → u8 r.payload 0 ≤ 2 →
      within (u32 r.payload 4) 60 86400 = true → within (u32 r.payload 8) (u32 r.payload 4) 604800 = true →
      within (u32 r.payload 12) 10 10000 = true →
      (u8 r.payload 0 ≠ 0 → s.repl.corr.refPos = none → Runs (.corrModeSet r) s (fun t => Same t s ∧ Answered s t r 0x0501 0x8505 [])) ∧
      (u8 r.payload 0 = 0 ∨ s.repl.corr.refPos ≠ none → Runs (.corrModeSet r) s (fun t => Same t (hold r.master (.command 0x0501 r) s)))) ∧
    (Admitted 0x0502 true r s → r.payload.length = 32 → u8 r.payload 26 < 4 → zeroAt r.payload 27 1 = true → zeroAt r.payload 30 2 = true →
      within (u16 r.payload 28) 10 1000 = true →
      (positionOf r.payload s = none → Runs (.corrPositionSet r) s (fun t => Same t s ∧ Answered s t r 0x0502 0x8505 [])) ∧
      (∀ a, positionOf r.payload s = some a → earthOk a = true →
        let serving := s.modes.radio = 2 ∧ s.repl.ecl.state = 0
        let moved := s.repl.corr.originMode = 0 ∧ gridInUse s = true ∧ some a ≠ s.repl.corr.refPos
        let far := bit (u8 r.payload 26) 0 = false ∧ ∃ y, s.corr.checkPos = some y ∧ apart a y (u16 r.payload 28) = true
        (serving → ¬ moved → ¬ far → Runs (.corrPositionSet r) s (fun t => Same t s ∧ Answered s t r 0x0502 0x2002 [])) ∧
        (¬ serving → moved → ¬ far → Runs (.corrPositionSet r) s (fun t => Same t s ∧ Answered s t r 0x0502 0x8502 [])) ∧
        (¬ serving → ¬ moved → far → Runs (.corrPositionSet r) s (fun t => Same t s ∧ Answered s t r 0x0502 0x8501 [])) ∧
        (serving ∨ moved ∨ far → Runs (.corrPositionSet r) s (fun t => Same t { s with free := t.free } ∧
          ∃ st ∈ [0x2002, 0x8502, 0x8501], Answered s t r 0x0502 st [])) ∧
        (¬ serving → ¬ moved → ¬ far → Runs (.corrPositionSet r) s (fun t => Same t (hold r.master (.command 0x0502 r) s))))) ∧
    (Admitted 0x0503 true r s → r.payload.length = 28 → zeroAt r.payload 1 3 = true → u8 r.payload 0 ≤ 1 →
      let far := u8 r.payload 0 = 1 ∧ ∃ a, s.repl.corr.refPos = some a ∧ apart (ecefAt r.payload 4) a 50000 = true
      (gridInUse s = true → ¬ far → Runs (.corrOriginSet r) s (fun t => Same t s ∧ Answered s t r 0x0503 0x8502 [])) ∧
      (gridInUse s = false → far → Runs (.corrOriginSet r) s (fun t => Same t s ∧ Answered s t r 0x0503 0x8503 [])) ∧
      (gridInUse s = false → ¬ far → Runs (.corrOriginSet r) s (fun t => Same t (hold r.master (.command 0x0503 r) s)))) ∧
    (Admitted 0x0504 true r s → r.payload.length = 20 → u8 r.payload 3 < 4 → zeroAt r.payload 17 3 = true → u8 r.payload 0 ≤ 1 →
      u8 r.payload 1 ≤ 0x1F → u8 r.payload 2 ∈ [0, 1, 2, 5, 10, 20] → within (u16 r.payload 4) 1 300 = true → u16 r.payload 6 ≤ 300 →
      u16 r.payload 8 ≤ 300 → within (u16 r.payload 10) 10 3600 = true → u32 r.payload 12 < 2 ^ 18 → u8 r.payload 16 ≤ 30 →
      Runs (.corrMsgSet r) s (fun t => Same t (hold r.master (.command 0x0504 r) s))) ∧
    (Admitted 0x0505 true r s → r.payload.length = 72 → u8 r.payload 3 ≤ 1 → zeroAt r.payload 5 3 = true → u16 r.payload 0 ≤ 4095 →
      u8 r.payload 2 ≤ 63 → asciiField (sub r.payload 8 32) = true → asciiField (sub r.payload 40 32) = true →
      Runs (.corrStationSet r) s (fun t => Same t (hold r.master (.command 0x0505 r) s)))

/-- What the commits of the station settings do (R216, R217, R220, R230, R231, R237, R238): the settings are in force and the reply
carries them; a new position is reported with its cause and master, and starts the minute of R245; a mode other than SURVEY ends a
running survey, SURVEY starts one anew, and the survey replaced is evaluated at the next epoch (R231). -/
def Claims.StationCommits : Prop :=
  ∀ (r : Req) (s : State), r.sess = none →
    (let set := { s.repl.corr with mode := u8 r.payload 0, adopt := bit (u8 r.payload 1) 0, adoptLimit := bit (u8 r.payload 1) 1, minDur := u32 r.payload 4, maxDur := u32 r.payload 8, target := u32 r.payload 12 }
      let closing := if s.repl.corr.mode = 0 ∧ s.corr.survey.running = true then some s.corr.survey else s.corr.closing
      (u8 r.payload 0 ≠ 0 → Same (commitCorrMode r s) { s with
        repl := { s.repl with corr := set }
        corr := { s.corr with modeReq := u8 r.payload 0, closing := closing, survey := { s.corr.survey with running := false } } }) ∧
      (u8 r.payload 0 = 0 → Same (commitCorrMode r s) { s with
        repl := { s.repl with corr := set }
        corr := { s.corr with modeReq := 0, closing := closing, survey := newSurvey s } }) ∧
      ∃ st, Answered s (commitCorrMode r s) r 0x0501 st (modePayload (commitCorrMode r s))) ∧
    (∀ a, positionOf r.payload s = some a → Same (commitCorrPosition r s) { s with
        repl := { s.repl with corr := { s.repl.corr with refPos := some a, height := u16 r.payload 24 } }
        corr := { s.corr with changed := some s.tb.gtc, refWas := noteWas s s.corr.refWas s.repl.corr.refPos, cmdPos := some a } } ∧
      Reported s (commitCorrPosition r s) 0xC506 40 (leBytes 1 0 ++ leBytes 1 r.master ++ [0, 0] ++ ecefBytes a)) ∧
    (Same (commitCorrOrigin r s) { s with repl := { s.repl with corr := { s.repl.corr with originMode := u8 r.payload 0, origin := if u8 r.payload 0 = 1 then ecefAt r.payload 4 else s.repl.corr.origin } } } ∧
      ∃ st, Answered s (commitCorrOrigin r s) r 0x0503 st (originPayload (commitCorrOrigin r s))) ∧
    (Same (commitCorrMsg r s) { s with repl := { s.repl with corr := { s.repl.corr with msgs := modNth s.repl.corr.msgs (u8 r.payload 0) (fun _ => msgOf r.payload), elMask := if u8 r.payload 0 = 0 then u8 r.payload 16 else s.repl.corr.elMask } } } ∧
      ∃ st, Answered s (commitCorrMsg r s) r 0x0504 st (msgPayload (u8 r.payload 0) (commitCorrMsg r s))) ∧
    (Same (commitCorrStation r s) { s with repl := { s.repl with corr := { s.repl.corr with stationId := u16 r.payload 0, itrf := u8 r.payload 2, reduce := bit (u8 r.payload 3) 0, setupId := u8 r.payload 4, antenna := sub r.payload 8 32, serial := sub r.payload 40 32 } } } ∧
      ∃ st, Answered s (commitCorrStation r s) r 0x0505 st (stationPayload (commitCorrStation r s)))

/-- The member's own settings of group 0x05 take effect with their reply, and CORR_GET changes nothing (R238, R242, R246, R249). -/
def Claims.StationOwnSettings : Prop :=
  ∀ (r : Req) (s : State),
    (Admitted 0x0506 false r s → r.payload.length = 4 → zeroAt r.payload 1 3 = true → u8 r.payload 0 ≤ 63 ∨ u8 r.payload 0 = 0xFF →
      (u8 r.payload 0 ≠ 0xFF → (sqOf s (u8 r.payload 0)).producer ≠ 16 →
        Runs (.corrStream r) s (fun t => Same t s ∧ Answered s t r 0x0506 0x8504 [])) ∧
      (u8 r.payload 0 = 0xFF ∨ (sqOf s (u8 r.payload 0)).producer = 16 → Runs (.corrStream r) s (fun t =>
        Same t { s with corr := { s.corr with queue := u8 r.payload 0 } } ∧ Answered s t r 0x0506 0 r.payload))) ∧
    (Admitted 0x0507 true r s → r.payload.length = 8 → within (u16 r.payload 0) 5 200 = true → within (u16 r.payload 2) 1 200 = true →
      within (u16 r.payload 4) 20 2400 = true → within (u8 r.payload 6) 5 20 = true → within (u8 r.payload 7) 15 100 = true →
      let c := { s.corr with scThreshold := u16 r.payload 0, scHold := u16 r.payload 2, scClear := u16 r.payload 4, scMinSat := u8 r.payload 6, scRatio := u8 r.payload 7 }
      Runs (.corrSelfcheckSet r) s (fun t => Same t { s with corr := c } ∧
        Answered s t r 0x0507 (if c = s.corr then 0x0102 else 0) r.payload)) ∧
    (Admitted 0x0508 true r s → r.payload.length = 8 → zeroAt r.payload 6 2 = true → u16 r.payload 0 < 1024 →
      bit (u16 r.payload 0) 2 = false → within (u16 r.payload 2) 1 200 = true → within (u16 r.payload 4) 20 2400 = true →
      let c := { s.corr with inMask := u16 r.payload 0, inHold := u16 r.payload 2, inClear := u16 r.payload 4 }
      Runs (.corrIntegritySet r) s (fun t => Same t { s with corr := c } ∧
        Answered s t r 0x0508 (if c = s.corr then 0x0102 else 0) r.payload)) ∧
    (Admitted 0x0509 false r s → r.payload = [] → Runs (.corrGet r) s (fun t => Same t s ∧ Answered s t r 0x0509 0 (corrGetBytes s)))

/-- A station epoch counts itself once for each ST epoch (R196), leaves the sample of its time solution for the servo (R225), and while the
mode is not SURVEY and no survey that was replaced waits (R231) it leaves the station settings as they are; ST and the head settings
stay, and unless entry 0x06 is armed the vault, the CAN controllers, decisions, tasks and the Eclipse state too; a second record for
the same epoch changes nothing. -/
def Claims.StationEpoch : Prop :=
  ∀ (x : EpochIn) (s : State),
    (epochDue s = false → exec (.obsRecordComplete x) s = done s) ∧
    (epochDue s = true → Runs (.obsRecordComplete x) s (fun t => t.gnss.epoch = (s.gnss.epoch + 1) % 2 ^ 32 ∧
      t.gnss.lastEpoch = some (s.tb.st / 50000000) ∧ t.gnss.timeValid = x.timeKnown ∧ epochDue t = false ∧
      (0 < s.tb.samples.length → ∃ e, nth t.tb.samples 0 none = some ⟨t.corr.timeValid, t.corr.timeSats, e, false⟩) ∧
      t.tb.gtc = s.tb.gtc ∧ t.tb.st = s.tb.st ∧ t.tb.state = s.tb.state ∧
      (s.repl.corr.mode ≠ 0 → s.corr.closing = none → t.repl.corr = s.repl.corr) ∧ t.rh.map (fun h => h.set) = s.rh.map (fun h => h.set) ∧
      (armed s 6 = false → t.vault = s.vault ∧ t.can = s.can ∧ t.pair.decisions = s.pair.decisions ∧ t.repl.dp.tasks = s.repl.dp.tasks ∧
        t.repl.ecl = s.repl.ecl)))

/-- The integrity word and withholding at an epoch (R244 to R247): the set is withheld exactly while reaction 0x09 is armed and the
self-check is FAIL, the lost state follows the mask with hold and clear counts, and a change of it is reported with the word. -/
def Claims.StationIntegrity : Prop :=
  ∀ s : State,
    ((withholdStep s).corr.withheld = (armed s 9 && s.corr.scState == 2)) ∧
    Same (withholdStep s) { s with corr := (withholdStep s).corr } ∧
    (integrityStep s).corr.word = integrityWord s (integrityStep s).corr.lost ∧
    (s.corr.lost = false → ((integrityStep s).corr.lost = true ↔
      Nat.land (integrityWord s false) s.corr.inMask ≠ 0 ∧ s.corr.inHold ≤ s.corr.inCount + 1 ∨
      Nat.land (integrityWord s false) s.corr.inMask = 0 ∧ s.corr.inHold = 0)) ∧
    (s.corr.lost = true → ((integrityStep s).corr.lost = false ↔
      Nat.land (integrityWord s true) s.corr.inMask = 0 ∧ s.corr.inClear ≤ s.corr.inZero + 1 ∨
      Nat.land (integrityWord s true) s.corr.inMask ≠ 0 ∧ s.corr.inClear = 0)) ∧
    ((integrityStep s).corr.lost ≠ s.corr.lost → Reported s (integrityStep s) 0xC503 40 (leBytes 1 (flag (integrityStep s).corr.lost)
      ++ leBytes 1 (flag ((integrityStep s).corr.lost && armed s 6)) ++ leBytes 2 (integrityStep s).corr.word
      ++ leBytes 2 s.corr.inMask ++ [0, 0]))

/-! ### Eclipse and spot stop (chapter 10) -/

/-- ECLIPSE_TRIGGER, which needs no session and no authentication, is latched by an active or SOLO member whatever the state: from CLEAR
and RELEASING it enters ECLIPSE with the next sequence and cause 5 and reports it; in ECLIPSE it is latched and reported as a
trigger, with status 0x0102 (R380, R387, R389, Table 10-7). -/
def Obligations.EclipseTriggered : Prop :=
  ∀ (r : Req) (s : State), Admitted 0x0901 false r s → r.payload.length = 4 → s.pair.role ≠ 2 →
    (s.repl.ecl.state ≠ 1 → Runs (.eclipseTrigger r) s (fun t => t.repl.ecl.state = 1 ∧ t.repl.ecl.cause = 5 ∧
      t.repl.ecl.seq = nextEclSeq s.repl.ecl.seq ∧ t.repl.ecl.spots = s.repl.ecl.spots ∧ t.ecl.latched = 2 ^ 5 ∧ t.ecl.entry = s.tb.gtc ∧
      t.pins.eclOut = false ∧ t.ecl.triggers = s.ecl.triggers + 1 ∧
      Answered s t r 0x0901 0 (leBytes 1 1 ++ [0] ++ leBytes 2 (nextEclSeq s.repl.ecl.seq)) ∧
      Reported s t 0xC901 r.master (leBytes 1 s.repl.ecl.state ++ leBytes 1 1 ++ leBytes 1 5 ++ leBytes 1 r.master
        ++ leBytes 2 (nextEclSeq s.repl.ecl.seq) ++ leBytes 1 r.master ++ [0] ++ leBytes 4 (u32 r.payload 0)) ∧
      (unsentTasks s = [] → Same t { s with repl := { s.repl with ecl := t.repl.ecl }, ecl := t.ecl, pair := t.pair }))) ∧
    (s.repl.ecl.state = 1 → Runs (.eclipseTrigger r) s (fun t =>
      Same t { s with ecl := { s.ecl with triggers := s.ecl.triggers + 1, latched := putBit s.ecl.latched 5 true } } ∧
      Answered s t r 0x0901 0x0102 (leBytes 1 1 ++ [0] ++ leBytes 2 s.repl.ecl.seq) ∧
      Reported s t 0xC902 r.master (leBytes 1 5 ++ leBytes 1 1 ++ leBytes 1 r.master ++ leBytes 1 1)))

/-- ECLIPSE_RELEASE (R393): refused in CLEAR with 0x8903, with an armed lasting trigger active with 0x8901, with a STOP channel that is not
healthy with 0x8902, on a STANDBY with 0x2004; in RELEASING it answers 0x0102; else it is held for the commit. RELEASING ends in
CLEAR after the release delay, which is reported (R394). -/
def Claims.EclipseReleased : Prop :=
  ∀ s : State,
    (∀ r, Admitted 0x0902 true r s → r.payload = [] →
      (s.pair.role = 2 → Runs (.eclipseRelease r) s (fun t => Same t s ∧ Answered s t r 0x0902 0x2004 [])) ∧
      (s.pair.role ≠ 2 → s.repl.ecl.state = 2 → Runs (.eclipseRelease r) s (fun t => Same t s ∧
        Answered s t r 0x0902 0x0102 (releasePayload false s))) ∧
      (s.pair.role ≠ 2 → s.repl.ecl.state = 0 → armedLasting s = false → stopHealthy s = true →
        Runs (.eclipseRelease r) s (fun t => Same t s ∧ Answered s t r 0x0902 0x8903 (releasePayload true s))) ∧
      (s.pair.role ≠ 2 → s.repl.ecl.state = 1 → armedLasting s = true → stopHealthy s = true →
        Runs (.eclipseRelease r) s (fun t => Same t s ∧ Answered s t r 0x0902 0x8901 (releasePayload true s))) ∧
      (s.pair.role ≠ 2 → s.repl.ecl.state = 1 → armedLasting s = false → stopHealthy s = false →
        Runs (.eclipseRelease r) s (fun t => Same t s ∧ Answered s t r 0x0902 0x8902 (releasePayload true s))) ∧
      (s.pair.role ≠ 2 → s.repl.ecl.state = 1 → armedLasting s = false → stopHealthy s = true →
        Runs (.eclipseRelease r) s (fun t => Same t (hold r.master (.eclRelease r s.ecl.triggers) s)))) ∧
    (s.repl.ecl.state = 2 → s.pair.role ≠ 2 → releaseMs s * 1000000 ≤ sinceNs s s.ecl.releaseAt → ∃ t,
      exec .releaseDelayEnd s = .next t ∧ t.repl.ecl = { s.repl.ecl with state := 0 } ∧ t.pins.eclOut = true ∧
      Same t { s with repl := { s.repl with ecl := t.repl.ecl }, pair := t.pair } ∧
      Reported s t 0xC901 33 (leBytes 1 2 ++ leBytes 1 0 ++ leBytes 1 s.repl.ecl.cause ++ leBytes 1 33 ++ leBytes 2 s.repl.ecl.seq
        ++ leBytes 1 0xFF ++ [0] ++ leBytes 4 0)) ∧
    (s.repl.ecl.state = 2 → sinceNs s s.ecl.releaseAt < releaseMs s * 1000000 → exec .releaseDelayEnd s = done s)

/-- The commit of a release begins RELEASING only if the conditions of R393 still hold and no trigger has been latched since; a trigger
latched meanwhile refuses it with 0x8901 (R379, R393, R394). -/
def Claims.ReleaseCommit : Prop :=
  ∀ (r : Req) (n : Nat) (s : State), r.sess = none → s.repl.ecl.state = 1 → armedLasting s = false → stopHealthy s = true →
    (s.ecl.triggers = n → s.pair.role ≠ 1 → Same (commitRelease r n s) { s with
        repl := { s.repl with ecl := { s.repl.ecl with state := 2 } }
        ecl := { s.ecl with releaseAt := s.tb.gtc } } ∧
      Answered s (commitRelease r n s) r 0x0902 0 (leBytes 2 s.repl.ecl.seq ++ leBytes 2 0 ++ leBytes 4 (releaseMs s))) ∧
    (s.ecl.triggers ≠ n → Same (commitRelease r n s) s ∧ Answered s (commitRelease r n s) r 0x0902 0x8901 (releasePayload true s))

/-- Spot stops (R396 to R398): SPOT_STOP of a FREE berth is refused with 0x8904; of any other it is in force at once with a new stop
sequence and 8 frames to send, reported and answered; a STANDBY forwards it. SPOT_RELEASE is refused with 0x8905 without a stop in
force, else held for the commit, which ends the stop with a new sequence unless another stop came between (0x8906). -/
def Obligations.SpotStops : Prop :=
  ∀ (r : Req) (s : State), r.payload.length = 4 → zeroAt r.payload 1 3 = true →
    let b := u8 r.payload 0
    let q := ((spotOf s b).seq + 1) % 65536
    (Admitted 0x0903 false r s → s.pair.role ≠ 2 →
      ((berthOf s b).state = 0 → Runs (.spotStop r) s (fun t => Same t s ∧ Answered s t r 0x0903 0x8904 [])) ∧
      ((berthOf s b).state ≠ 0 → Runs (.spotStop r) s (fun t => spotOf t b = ⟨true, 1, q, 8, false⟩ ∧
        (∀ c, c ≠ b → look t.repl.ecl.spots c = look s.repl.ecl.spots c) ∧
        Answered s t r 0x0903 (if (spotOf s b).inForce then 0x0102 else 0) (leBytes 1 b ++ leBytes 1 (berthOf s b).state ++ leBytes 2 q) ∧
        Reported s t 0xC904 r.master (leBytes 1 b ++ leBytes 1 1 ++ leBytes 1 1 ++ leBytes 1 r.master ++ leBytes 2 q ++ [0, 0]) ∧
        (unsentTasks s = [] → Same t { s with repl := { s.repl with ecl := { s.repl.ecl with spots := t.repl.ecl.spots } }, ecl := { s.ecl with spotCount := min (s.ecl.spotCount + 1) (2 ^ 32 - 1) }, pair := t.pair })))) ∧
    (Admitted 0x0903 false r s → s.pair.role = 2 → linkUp s = false →
      Runs (.spotStop r) s (fun t => Same t s ∧ Answered s t r 0x0903 0x2004 [])) ∧
    (Admitted 0x0903 false r s → s.pair.role = 2 → linkUp s = true → Runs (.spotStop r) s (fun t =>
      t.pair.forwards = s.pair.forwards ++ [r] ∧ Same t { s with pair := t.pair })) ∧
    (Admitted 0x0904 true r s →
      (s.pair.role = 2 → Runs (.spotRelease r) s (fun t => Same t s ∧ Answered s t r 0x0904 0x2004 [])) ∧
      (s.pair.role ≠ 2 → (spotOf s b).inForce = false → Runs (.spotRelease r) s (fun t => Same t s ∧ Answered s t r 0x0904 0x8905 [])) ∧
      (s.pair.role ≠ 2 → (spotOf s b).inForce = true →
        Runs (.spotRelease r) s (fun t => Same t (hold r.master (.spotRelease r (spotOf s b).seq) s)))) ∧
    (r.sess = none → (spotOf s b).inForce = true → s.pair.role ≠ 1 →
      spotOf (commitSpotRelease r (spotOf s b).seq s) b = ⟨false, (spotOf s b).cause, q, 3, true⟩ ∧
      Answered s (commitSpotRelease r (spotOf s b).seq s) r 0x0904 0 (leBytes 1 b ++ leBytes 1 (berthOf s b).state ++ leBytes 2 q) ∧
      ∀ n, n ≠ (spotOf s b).seq → Same (commitSpotRelease r n s) s ∧
        Answered s (commitSpotRelease r n s) r 0x0904 0x8906 (spotPayload b s))

/-- ECL_GET changes nothing; ECL_CONFIG_SET puts filter, discrepancy time, release delay, burst MCS and stop identifiers in force and
answers with them (R386, R403). -/
def Claims.EclipseSettings : Prop :=
  ∀ (r : Req) (s : State),
    (Admitted 0x0905 false r s → r.payload = [] → Runs (.eclGet r) s (fun t => Same t s ∧ Answered s t r 0x0905 0 (eclGetPayload s))) ∧
    (Admitted 0x0906 true r s → r.payload.length = 44 → zeroAt r.payload 10 2 = true → within (u16 r.payload 0) 20 200 = true →
      within (u16 r.payload 2) 10 500 = true → within (u16 r.payload 4) 5 600 = true →
      (∀ i, i < 4 → u8 r.payload (6 + i) ≤ 7 ∧ u8 r.payload (12 + 8 * i) ≤ 3 ∧ u8 r.payload (13 + 8 * i) < 4 ∧
        u16 r.payload (14 + 8 * i) ≤ 1000 ∧
        u32 r.payload (16 + 8 * i) < 2 ^ (if bit (u8 r.payload (13 + 8 * i)) 1 then 29 else 11)) →
      Runs (.eclConfigSet r) s (fun t => t.ecl.tFilt = u16 r.payload 0 ∧ t.ecl.discTime = u16 r.payload 2 ∧
        t.ecl.releaseDelay = u16 r.payload 4 ∧ t.ecl.mcs = [u8 r.payload 6, u8 r.payload 7, u8 r.payload 8, u8 r.payload 9] ∧
        (∀ i, i < 4 → { nth t.ecl.ids i StopId.off with good := none } = stopIdOf r.payload i) ∧
        (armed s 2 = false → Same t { s with ecl := t.ecl, pair := t.pair }) ∧ ∃ st, Answered s t r 0x0906 st (eclConfigPayload t)))

/-- The STOP pins (R382 to R385): STOP_A demands stop while it is low, STOP_B while it is high; with entry 0x01 armed a demand of STOP_A
enters ECLIPSE with cause 1; with both channels back and nothing active the pins change nothing else. A difference longer than the
discrepancy time sets the fault, which is reported; one that is shorter does not. -/
def Claims.StopPins : Prop :=
  ∀ s : State, s.pwr.state ≠ 4 →
    (∀ b, armed s 1 = true → s.pair.role ≠ 2 → s.repl.ecl.state = 0 → s.ecl.active = [] → s.ecl.fault = false → b = false →
      ∃ t, exec (.stopPinChange false b) s = .next t ∧ t.repl.ecl.state = 1 ∧ t.repl.ecl.cause = 1 ∧
        t.repl.ecl.seq = nextEclSeq s.repl.ecl.seq ∧ t.ecl.stopA = false ∧ t.ecl.stopB = false ∧ t.ecl.active = [(1, 8)] ∧
        t.ecl.discSince = (if s.ecl.discSince.isSome then s.ecl.discSince else some s.tb.gtc)) ∧
    (s.ecl.active = [] → s.ecl.fault = false → exec (.stopPinChange true false) s =
      done { s with ecl := { s.ecl with stopA := true, stopB := false, discSince := none } }) ∧
    (∀ g, s.ecl.discSince = some g → sinceNs s g ≤ s.ecl.discTime * 1000000 → exec .discrepancyTimeout s = done s) ∧
    (∀ g, s.ecl.discSince = some g → s.ecl.fault = false → s.ecl.discTime * 1000000 < sinceNs s g → ∃ t,
      exec .discrepancyTimeout s = .next t ∧ t.ecl.fault = true ∧
      Reported s t 0xC903 8 (leBytes 1 1 ++ leBytes 1 (pinBits { s with ecl := { s.ecl with fault := true } }) ++ [0, 0]
        ++ leBytes 4 (min (sinceNs s g / 1000) 0xFFFFFFFF)))

/-! ### The baseline engine (chapter 7) -/

/-- The commands of group 0x06 (R252, R253, R272, R285, R290, R294): BL_BERTH_SET and BL_PARAM_SET are held for the commit, a load above
2560 Hz refused with 0x8601; BL_STREAM and BL_SHADOW_SET are the member's own; BL_RESET_BERTH of a berth that is not solved by the
station is refused with 0x8603; the queries change nothing. -/
def Claims.BaselineCommands : Prop :=
  ∀ (r : Req) (s : State),
    (Admitted 0x0601 true r s → within (u8 r.payload 0) 1 64 = true → r.payload.length = 4 + 8 * u8 r.payload 0 → zeroAt r.payload 1 3 = true →
      (∀ i, i < u8 r.payload 0 → zeroAt r.payload (10 + 8 * i) 2 = true) →
      (∀ x ∈ blEntries r.payload, x.2.mode ≤ 2 ∧ (if x.2.mode = 1 then x.2.rate ∈ [1, 2, 5, 10, 20] else x.2.rate = 0) ∧ x.2.dyn ≤ 2 ∧
        within x.2.elMask 5 30 = true ∧ within x.2.cn0Mask 20 45 = true) →
      noRepeat ((blEntries r.payload).map (fun x => x.1)) = true →
      (s.pair.role ≠ 2 → overCapacity r.payload s = true → Runs (.blBerthSet r) s (fun t => Same t s ∧ Answered s t r 0x0601 0x8601 [])) ∧
      (s.pair.role = 2 → overCapacity r.payload s = false → Runs (.blBerthSet r) s (fun t => Same t s ∧ Answered s t r 0x0601 0x2004 [])) ∧
      (s.pair.role ≠ 2 → overCapacity r.payload s = false → Runs (.blBerthSet r) s (fun t => Same t (hold r.master (.command 0x0601 r) s)))) ∧
    (Admitted 0x0602 true r s → r.payload.length = 16 → zeroAt r.payload 15 1 = true → s.pair.role ≠ 2 →
      let x := blParamOf r.payload
      within x.ratio 15 100 = true → within x.setMin 4 32 = true → within x.satMin 4 16 = true → within x.hold 5 200 = true →
      within x.rms 5 25 = true → within x.silence 200 5000 = true → x.extrap ≤ 500 → x.coast ≤ 30000 → x.retention ≤ 600 →
      within x.expo 2 6 = true → Runs (.blParamSet r) s (fun t => Same t (hold r.master (.command 0x0602 r) s))) ∧
    (Admitted 0x0603 false r s → r.payload.length = 4 → zeroAt r.payload 3 1 = true → u8 r.payload 0 ≤ 63 ∨ u8 r.payload 0 = 0xFF →
      u8 r.payload 1 ≤ 7 → within (u8 r.payload 2) 1 20 = true →
      (u8 r.payload 0 ≠ 0xFF → (sqOf s (u8 r.payload 0)).producer ≠ 16 →
        Runs (.blStream r) s (fun t => Same t s ∧ Answered s t r 0x0603 0x8602 [])) ∧
      (u8 r.payload 0 = 0xFF ∨ (sqOf s (u8 r.payload 0)).producer = 16 → Runs (.blStream r) s (fun t => Answered s t r 0x0603 0 r.payload ∧
        Same t { s with bl := { s.bl with queue := u8 r.payload 0, sources := u8 r.payload 1, decim := u8 r.payload 2 } }))) ∧
    (Admitted 0x0604 true r s → r.payload.length = 4 → zeroAt r.payload 1 3 = true →
      ((blBerthOf s (u8 r.payload 0)).mode ≠ 1 → Runs (.blResetBerth r) s (fun t => Same t s ∧ Answered s t r 0x0604 0x8603 [])) ∧
      ((blBerthOf s (u8 r.payload 0)).mode = 1 → Runs (.blResetBerth r) s (fun t => Answered s t r 0x0604 0 [] ∧
        Same t { s with bl := { s.bl with filters := erase s.bl.filters (u8 r.payload 0) } }))) ∧
    (Admitted 0x0605 false r s → r.payload = [] → Runs (.blStatus r) s (fun t => Same t s ∧ Answered s t r 0x0605 0 (blStatusBytes s))) ∧
    (Admitted 0x0606 false r s → r.payload.length = 4 → zeroAt r.payload 1 3 = true → Runs (.blBerthGet r) s (fun t => Same t s ∧
      ∃ body, Answered s t r 0x0606 0 (leBytes 1 (u8 r.payload 0) ++ leBytes 1 (blBerthOf s (u8 r.payload 0)).mode
        ++ leBytes 1 (blBerthOf s (u8 r.payload 0)).rate ++ leBytes 1 (filterOf s (u8 r.payload 0)).version
        ++ leBytes 1 (filterOf s (u8 r.payload 0)).state ++ body))) ∧
    (Admitted 0x0607 true r s → r.payload.length = 8 → u8 r.payload 0 ≤ 1 → zeroAt r.payload 1 1 = true → zeroAt r.payload 6 2 = true →
      within (u16 r.payload 2) 5 1000 = true → within (u16 r.payload 4) 10 2000 = true →
      let l := { s.bl with shadowOn := bit (u8 r.payload 0) 0, shadowH := u16 r.payload 2, shadowV := u16 r.payload 4 }
      Runs (.blShadowSet r) s (fun t => Same t { s with bl := l } ∧ Answered s t r 0x0607 (if l = s.bl then 0x0102 else 0) r.payload))

/-- The commits of the engine's settings (R252, R253): the parameters and the berths named take the values, with the load and the number
of STATION berths in the reply; a load that came to exceed 2560 Hz is refused at the commit. -/
def Claims.BaselineCommits : Prop :=
  ∀ (r : Req) (s : State), r.sess = none →
    (Same (commitBlParam r s) { s with repl := { s.repl with blParam := blParamOf r.payload } } ∧
      Answered s (commitBlParam r s) r 0x0602 (if s.repl.blParam = blParamOf r.payload then 0x0102 else 0) r.payload) ∧
    (overCapacity r.payload s = true → Same (commitBlBerth r s) s ∧ Answered s (commitBlBerth r s) r 0x0601 0x8601 []) ∧
    (overCapacity r.payload s = false → Same (commitBlBerth r s) { s with repl := { s.repl with bl := blApplied r.payload s } } ∧
      ∃ st, Answered s (commitBlBerth r s) r 0x0601 st (leBytes 2 (configuredLoad (blApplied r.payload s))
        ++ leBytes 2 (stationBerths (blApplied r.payload s))))

/-- An OBS content that the MAC hands over (R251, R254 to R264): each kind of drop is counted and has no other effect; what passes waits,
in place of one of the same berth that waited. -/
def Claims.ObservationArrival : Prop :=
  ∀ (b : Nat) (content : List Byte) (s : State), b < 256 →
    (engineOn s = false → exec (.blObsArrival b content) s = done s) ∧
    (engineOn s = true → (blBerthOf s b).mode ≠ 1 → exec (.blObsArrival b content) s =
      done { s with bl := { s.bl with cNotSolving := min (s.bl.cNotSolving + 1) (2 ^ 32 - 1) } }) ∧
    (engineOn s = true → (blBerthOf s b).mode = 1 → parseObs b (berthOf s b).obs content s.tb.gtc = none →
      exec (.blObsArrival b content) s = done { s with bl := { s.bl with cMalformed := min (s.bl.cMalformed + 1) (2 ^ 32 - 1) } }) ∧
    (∀ w, engineOn s = true → (blBerthOf s b).mode = 1 → parseObs b (berthOf s b).obs content s.tb.gtc = some w →
      w.version = 3 → predictFrom s w = none →
      exec (.blObsArrival b content) s = done { s with bl := { s.bl with cMalformed := min (s.bl.cMalformed + 1) (2 ^ 32 - 1) } }) ∧
    (∀ w, engineOn s = true → (blBerthOf s b).mode = 1 → parseObs b (berthOf s b).obs content s.tb.gtc = some w →
      (w.version = 3 → predictFrom s w ≠ none) →
      let e := resolveTag (epochNow s) w.tag
      (withinI w.offset (-100000) 100000 = false → exec (.blObsArrival b content) s =
        done { s with bl := { s.bl with cTiming := min (s.bl.cTiming + 1) (2 ^ 32 - 1) } }) ∧
      (withinI w.offset (-100000) 100000 = true → e < (oldestSet s : Int) → exec (.blObsArrival b content) s =
        done { s with bl := { s.bl with cStale := min (s.bl.cStale + 1) (2 ^ 32 - 1) } }) ∧
      (withinI w.offset (-100000) 100000 = true → (oldestSet s : Int) ≤ e → (epochNow s : Int) < e → exec (.blObsArrival b content) s =
        done { s with bl := { s.bl with cFuture := min (s.bl.cFuture + 1) (2 ^ 32 - 1) } }) ∧
      (withinI w.offset (-100000) 100000 = true → (oldestSet s : Int) ≤ e → e ≤ (epochNow s : Int) → isExcess s b e.toNat = false →
        w.berth = b → (∀ x ∈ s.bl.waiting, x.berth ≠ b) → exec (.blObsArrival b content) s =
          done { s with bl := { s.bl with waiting := s.bl.waiting ++ [{ w with epoch := e.toNat }] } }) ∧
      (withinI w.offset (-100000) 100000 = true → (oldestSet s : Int) ≤ e → e ≤ (epochNow s : Int) → isExcess s b e.toNat = false →
        w.berth = b → (∃ x ∈ s.bl.waiting, x.berth = b) → exec (.blObsArrival b content) s = done { s with bl := { s.bl with
          waiting := s.bl.waiting.filter (fun x => x.berth != b) ++ [{ w with epoch := e.toNat }]
          cSuperseded := min (s.bl.cSuperseded + 1) (2 ^ 32 - 1)
          supersededAt := s.bl.supersededAt ++ [s.tb.gtc] } }) ∧
      (withinI w.offset (-100000) 100000 = true → (oldestSet s : Int) ≤ e → e ≤ (epochNow s : Int) → isExcess s b e.toNat = true →
        exec (.blObsArrival b content) s = done { s with bl := { s.bl with cExcess := min (s.bl.cExcess + 1) (2 ^ 32 - 1) } }))

/-- The engine serves the OBS whose turn it is (R258, R263, R288): it leaves the queue, the berth's filter takes its tag, epoch, version and
the fix state of Table 7-11, and it is counted; an OBS of a berth that is no longer solved, or whose ranges do not fit their prediction,
is counted and dropped; another berth's turn changes nothing. -/
def Claims.ObservationSolve : Prop :=
  ∀ (b : Nat) (x : SolveIn) (w : WaitingObs) (s : State), nextObs s = some w →
    (w.berth ≠ b ∨ engineOn s = false → exec (.blObsSolve b x) s = done s) ∧
    (w.berth = b → engineOn s = true →
      let l := { s.bl with waiting := s.bl.waiting.filter (fun y => y.berth != b), util := x.util }
      ((blBerthOf s b).mode ≠ 1 → exec (.blObsSolve b x) s =
        done { s with bl := { l with cNotSolving := min (s.bl.cNotSolving + 1) (2 ^ 32 - 1) } }) ∧
      ((blBerthOf s b).mode = 1 → w.version = 3 → rangesOk s w = false → exec (.blObsSolve b x) s =
        done { s with bl := { l with cMalformed := min (s.bl.cMalformed + 1) (2 ^ 32 - 1) } }) ∧
      ((blBerthOf s b).mode = 1 → w.version ≠ 3 ∨ rangesOk s w = true → Runs (.blObsSolve b x) s (fun t =>
        ∃ f, look t.bl.filters b = some f ∧ f.tag = w.tag ∧ f.lastEpoch = some w.epoch ∧
          f.version = w.version ∧ f.accepted = min ((filterOf s b).accepted + 1) (2 ^ 32 - 1) ∧ t.bl.util = x.util ∧
          (∀ y ∈ t.bl.waiting, y.berth ≠ b) ∧ t.bl.cAccepted = min (s.bl.cAccepted + 1) (2 ^ 32 - 1) ∧
          ((stationObs s w.epoch).cls = 2 → codeValid s w x = false → f.state = 0) ∧
          ((stationObs s w.epoch).cls = 2 → codeValid s w x = true → f.state = 1) ∧
          (1 ≤ f.state → f.e = x.e ∧ f.n = x.n ∧ f.u = x.u ∧ f.sigH = x.sigH ∧ f.sigV = x.sigV) ∧
          ((stationObs s w.epoch).cls ≠ 2 → (filterOf s b).state = 2 → f.state = 2 ∨ f.state = 3) ∧
          ((stationObs s w.epoch).cls ≠ 2 → (filterOf s b).state = 2 → x.searches = [] → f.state = 2))))

/-- A berth from which nothing has arrived for the silence time gets a NONE fix, again at each further silence time (R275); the filter of
a berth whose retention has run out is cleared (R280). -/
def Claims.BaselineTimers : Prop :=
  ∀ (b : Nat) (f : Filter) (s : State), look s.bl.filters b = some f →
    ((blBerthOf s b).mode = 1 → s.repl.blParam.silence * 1000000 ≤ sinceNs s f.lastArrival →
      s.repl.blParam.silence * 1000000 ≤ sinceNs s f.silent → s.pwr.state ≤ 2 → domOn s 6 = true → ∃ t g,
      exec (.blSilenceTimeout b) s = .next t ∧ look t.bl.filters b = some g ∧ g.state = 0 ∧ g.sigH = 0xFFFF ∧ g.sigV = 0xFFFF ∧
      g.e = f.e ∧ g.n = f.n ∧ g.u = f.u ∧ g.silent = s.tb.gtc) ∧
    (sinceNs s f.lastArrival < s.repl.blParam.silence * 1000000 → exec (.blSilenceTimeout b) s = done s) ∧
    (∀ g, f.retainUntil = some g → elapsed s.tb.gtc g < 2 ^ 63 → ∃ t, exec (.blRetentionExpiry b) s = .next t ∧
      Same t { s with bl := { s.bl with filters := erase s.bl.filters b } }) ∧
    (f.retainUntil = none → exec (.blRetentionExpiry b) s = done s)

/-! ### The radio heads (chapter 8) -/

/-- Head settings (R301, R321, R324): a change of band, width or rate of an enabled head is refused with 0x8702, enabling a head whose
calibration block does not hold its band with 0x8705; disabling stops the port and refuses the transfers that wait with 0x8706;
a change that leaves enabling as it is takes effect as it stands. Other heads stay as they are. -/
def Claims.HeadSettings : Prop :=
  ∀ (r : Req) (s : State), Admitted 0x0701 true r s → r.payload.length = 16 → u8 r.payload 1 < 8 → zeroAt r.payload 11 1 = true →
    u8 r.payload 0 ≤ 3 → u8 r.payload 3 ≤ 1 →
    let h := u8 r.payload 0
    let n := headSetOf r.payload
    let old := (headOfRh s h).set
    within n.band 1 4 = true → (n.spiMode = 0 ∨ n.spiMode = 3) → within n.spiClock 1 25 = true → within n.trLead 4 16 = true →
    within n.trLag 1 12 = true → within n.paLead 1 16 = true → n.paLag ≤ 12 → within n.gainLead 1 20 = true →
    (n.enScript ≤ 255 ∨ n.enScript = 0xFFFF) → (n.irqScript ≤ 255 ∨ n.irqScript = 0xFFFF) → (n.n1 = true ∨ n.rate2 = false) →
    n.trLead + n.trLag ≤ 16 → n.paLead ≤ n.trLead → n.paLag ≤ n.trLag → s.rh.length = 4 →
    (old.enable = true → (n.enable = true → calBand s h = n.band) → (old.band ≠ n.band ∨ old.n1 ≠ n.n1 ∨ old.rate2 ≠ n.rate2) →
      Runs (.rhHeadSet r) s (fun t => Same t s ∧ Answered s t r 0x0701 0x8702 [])) ∧
    (old.enable = false → n.enable = true → (calBand s h = 0 ∨ calBand s h ≠ n.band) →
      Runs (.rhHeadSet r) s (fun t => Same t s ∧ Answered s t r 0x0701 0x8705 [])) ∧
    (old.enable = n.enable → old.band = n.band → old.n1 = n.n1 → old.rate2 = n.rate2 → (n.enable = true → calBand s h = n.band) →
      Runs (.rhHeadSet r) s (fun t => Same t { s with rh := modNth s.rh h (fun x => { x with set := n }) } ∧
        Answered s t r 0x0701 (if old = n then 0x0102 else 0) (headSetBytes h n ++ leBytes 1 (headOfRh s h).port ++ [0, 0, 0]))) ∧
    (old.enable = false → n.enable = false → old.band ≠ n.band ∨ old.n1 ≠ n.n1 →
      Runs (.rhHeadSet r) s (fun t => Same t { s with rh := modNth s.rh h (fun x => { x with set := n, chans := [], chan := none }) } ∧
        Answered s t r 0x0701 0 (headSetBytes h n ++ leBytes 1 (headOfRh s h).port ++ [0, 0, 0]))) ∧
    (old.enable = true → n.enable = false → old.band = n.band → old.n1 = n.n1 → old.rate2 = n.rate2 →
      Runs (.rhHeadSet r) s (fun t => (headOfRh t h).set = n ∧ (headOfRh t h).port = 0 ∧ (headOfRh t h).chan = none ∧
        (headOfRh t h).want = none ∧ (headOfRh t h).queue = [] ∧ (headOfRh t h).tr = false ∧ (headOfRh t h).paen = false ∧
        (∀ q ∈ (headOfRh s h).queue, ∀ x, q.req = some x → x.sess = none → Answered s t x 0x0704 0x8706 []) ∧ (∀ k, k ≠ h → { headOfRh t k with test := none } = { headOfRh s k with test := none }) ∧
        Same t { s with rh := t.rh })) ∧
    (old.enable = false → n.enable = true → calBand s h = n.band → (headOfRh s h).port = 0 →
      Runs (.rhHeadSet r) s (fun t => (headOfRh t h).set = n ∧ (headOfRh t h).port = 1 ∧
        (∀ k, k ≠ h → { headOfRh t k with test := none } = { headOfRh s k with test := none }) ∧ Same t { s with rh := t.rh } ∧
        Reported s t 0xC701 (20 + h) (leBytes 1 h ++ leBytes 1 0 ++ leBytes 1 1 ++ leBytes 1 0)))

/-- The other commands of a head's port (R300, R307, R308, R310, R328): script memory, transfers, training, which takes the centre of the
widest error-free window of each input, and gain fences; what its state does not allow is refused by the code of Table 8-14 and
changes nothing. -/
def Claims.HeadCommands : Prop :=
  ∀ (r : Req) (s : State),
    let h := u8 r.payload 0
    let stored (l : List (Nat × List Byte)) : List (Nat × List Byte) :=
      (List.range (u8 r.payload 1)).foldl (fun l i => upsert l (u16 r.payload 2 + i) (sub r.payload (4 + 8 * i) 8)) l
    (Admitted 0x0703 true r s → r.payload.length = 4 + 8 * u8 r.payload 1 → within (u8 r.payload 1) 1 64 = true → h ≤ 3 →
      u16 r.payload 2 + u8 r.payload 1 ≤ 256 →
      (∀ i, i < u8 r.payload 1 → u8 r.payload (6 + 8 * i) = 0 ∧ u8 r.payload (7 + 8 * i) ≤ 1 ∧ u8 r.payload (4 + 8 * i) ≤ 3 ∧
        (u8 r.payload (4 + 8 * i) = 3 → 1 ≤ u8 r.payload (5 + 8 * i)) ∧
        (u8 r.payload (4 + 8 * i) = 1 ∨ u8 r.payload (4 + 8 * i) = 2 → within (u8 r.payload (5 + 8 * i)) 1 4 = true)) →
      ((headOfRh s h).queue ≠ [] → Runs (.rhScriptLoad r) s (fun t => Same t s ∧ Answered s t r 0x0703 0x2003 [])) ∧
      ((headOfRh s h).queue = [] → Runs (.rhScriptLoad r) s (fun t => Answered s t r 0x0703 0 r.payload ∧
        Same t { s with rh := modNth s.rh h (fun x => { x with scripts := stored x.scripts }) }))) ∧
    (Admitted 0x0704 true r s → r.payload.length = 4 + u8 r.payload 1 → zeroAt r.payload 3 1 = true → h ≤ 3 → u8 r.payload 1 ≤ 60 →
      u8 r.payload 2 ≤ 60 →
      ((headOfRh s h).port = 0 → Runs (.rhSpiXfer r) s (fun t => Same t s ∧ Answered s t r 0x0704 0x8706 [])) ∧
      ((headOfRh s h).port ≠ 0 → Runs (.rhSpiXfer r) s (fun t => Same t (queueTransfer h r s) ∧
        (r.urgent = false → Same t { s with rh := modNth s.rh h (fun x => { x with queue := x.queue ++ [⟨3, 0, 0, some r⟩] }) })))) ∧
    (∀ sweeps, Admitted 0x0705 true r s → r.payload.length = 4 → zeroAt r.payload 1 3 = true → h ≤ 3 →
      let m (i : Nat) : Nat := nth sweeps i 0
      let least := min (min (min 32 (widestWindow (m 0)).2) (widestWindow (m 1)).2) (widestWindow (m 2)).2
      ((headOfRh s h).paen = false → (headOfRh s h).port ≠ 2 → Runs (.rhPortTrain r sweeps) s (fun t => Same t s ∧
        Answered s t r 0x0705 0x8706 [])) ∧
      ((headOfRh s h).paen = true → (headOfRh s h).port = 2 → Runs (.rhPortTrain r sweeps) s (fun t => Same t s ∧
        Answered s t r 0x0705 0x2003 [])) ∧
      ((headOfRh s h).paen = false → (headOfRh s h).port = 2 → least < 4 → Runs (.rhPortTrain r sweeps) s (fun t => Same t s ∧
        Answered s t r 0x0705 0x8707 [])) ∧
      ((headOfRh s h).paen = false → (headOfRh s h).port = 2 → 4 ≤ least → Runs (.rhPortTrain r sweeps) s (fun t =>
        Answered s t r 0x0705 0 (leBytes 1 (windowCentre (m 0)) ++ leBytes 1 (windowCentre (m 1)) ++ leBytes 1 (windowCentre (m 2))
          ++ leBytes 1 least) ∧
        Same t { s with rh := modNth s.rh h (fun x => { x with delays := [windowCentre (m 0), windowCentre (m 1), windowCentre (m 2)] }) }))) ∧
    (Admitted 0x0706 true r s → r.payload.length = 16 → zeroAt r.payload 2 2 = true → h ≤ 3 → u8 r.payload 1 ≤ 1 →
      withinI (iN 4 r.payload 4) (-2400) 2400 = true → withinI (iN 4 r.payload 8) (-2400) 2400 = true → h < s.rh.length →
      (u8 r.payload 1 = 1 → withinI (iN 4 r.payload 12) (-2400) 2400 = true) →
      (iN 4 r.payload 8 < iN 4 r.payload 4 → Runs (.rhFenceSet r) s (fun t => Same t s ∧ Answered s t r 0x0706 0x4003 [])) ∧
      (iN 4 r.payload 4 ≤ iN 4 r.payload 8 → Runs (.rhFenceSet r) s (fun t => (headOfRh t h).agcLo = iN 4 r.payload 4 ∧
        (headOfRh t h).agcHi = iN 4 r.payload 8 ∧
        (headOfRh t h).agcFixed = (if u8 r.payload 1 = 1 then some (iN 4 r.payload 12) else none) ∧ (headOfRh t h).set = (headOfRh s h).set ∧
        (∀ k, k ≠ h → { headOfRh t k with test := none } = { headOfRh s k with test := none }) ∧ Same t { s with rh := t.rh }))) ∧
    (Admitted 0x0707 false r s → r.payload = [] → Runs (.rhStatus r) s (fun t => Same t s ∧
      Answered s t r 0x0707 0 (s.rh.flatMap headStatus)))

/-- RH_CHAN_SET (R310, R321, R322): a centre off the 125 kHz raster or outside its band is refused with 0x8701, a change of the channel in
use in SERVE with 0x8703, a script that runs too long with 0x8704; else the channels are in force. RH_TEST (R328) is refused outside
LISTEN, on a STANDBY and while the port is not READY; it starts and ends a test in LISTEN. -/
def Claims.HeadChannels : Prop :=
  ∀ (r : Req) (s : State),
    let h := u8 r.payload 0
    (Admitted 0x0702 true r s → within (u8 r.payload 1) 1 16 = true → r.payload.length = 4 + 8 * u8 r.payload 1 → zeroAt r.payload 2 2 = true →
      (∀ i, i < u8 r.payload 1 → zeroAt r.payload (10 + 8 * i) 2 = true) → h ≤ 3 → h < s.rh.length →
      let cs := chansOf r.payload
      (∀ c ∈ cs, c.script ≤ 255 ∨ c.script = 0xFFFF) → noRepeat (cs.map (fun c => c.centre)) = true →
      let x := headOfRh s h
      let fits := ∀ c ∈ cs, c.centre % 125 = 0 ∧ spanInside c.centre (occupied x.set.n1) (bandKhz x.set.band).1 (bandKhz x.set.band).2 = true
      let brief := ∀ c ∈ cs, c.script = 0xFFFF ∨ scriptNs x.set.spiClock (scriptFrom 64 c.script x) ≤ 200000
      let kept := s.modes.radio = 2 → ∀ i, x.chan = some i → cs[i]? = x.chans[i]?
      (¬ fits → kept → brief → Runs (.rhChanSet r) s (fun t => Same t s ∧ Answered s t r 0x0702 0x8701 [])) ∧
      (fits → ¬ kept → brief → Runs (.rhChanSet r) s (fun t => Same t s ∧ Answered s t r 0x0702 0x8703 [])) ∧
      (fits → kept → ¬ brief → Runs (.rhChanSet r) s (fun t => Same t s ∧ Answered s t r 0x0702 0x8704 [])) ∧
      (fits → kept → brief → Runs (.rhChanSet r) s (fun t => (headOfRh t h).chans = cs ∧ (headOfRh t h).set = x.set ∧
        (headOfRh t h).port = x.port ∧ (∀ k, k ≠ h → { headOfRh t k with test := none } = { headOfRh s k with test := none }) ∧
        Same t { s with rh := t.rh } ∧ Answered s t r 0x0702 (if x.chans = cs then 0x0102 else 0) r.payload ∧
        (x.set.enable = false → (headOfRh t h).chan = if (x.chan.bind (fun i => cs[i]?)).isSome then x.chan else none)))) ∧
    (Admitted 0x0708 true r s → r.payload.length = 12 → zeroAt r.payload 6 2 = true → h ≤ 3 → u8 r.payload 1 ≤ 1 → u8 r.payload 2 ≤ 15 →
      u8 r.payload 3 ≤ 7 → u16 r.payload 4 ≤ 120 → (u8 r.payload 1 = 1 → within (u32 r.payload 8) 1 60000 = true) → h < s.rh.length →
      let sub1 := ∃ c, chanOf (headOfRh s h) (u8 r.payload 2) = some c ∧ subbandsOf s h c ≠ []
      (s.modes.radio ≠ 1 → s.pair.role ≠ 2 → (headOfRh s h).port = 2 → u8 r.payload 1 = 0 →
        Runs (.rhTest r) s (fun t => Same t s ∧ Answered s t r 0x0708 0x2002 [])) ∧
      (s.modes.radio = 1 → s.pair.role ≠ 2 → (headOfRh s h).port ≠ 2 → u8 r.payload 1 = 0 →
        Runs (.rhTest r) s (fun t => Same t s ∧ Answered s t r 0x0708 0x8706 [])) ∧
      (s.modes.radio = 1 → s.pair.role ≠ 2 → (headOfRh s h).port = 2 → u8 r.payload 1 = 1 → ¬ sub1 →
        Runs (.rhTest r) s (fun t => Same t s ∧ Answered s t r 0x0708 0x8708 [])) ∧
      (Agrees s → s.modes.radio = 1 → s.pair.role ≠ 2 → (headOfRh s h).port = 2 → u8 r.payload 1 = 1 → sub1 →
        Runs (.rhTest r) s (fun t => (headOfRh t h).test = some ⟨u8 r.payload 2, u8 r.payload 3, u16 r.payload 4, s.tb.gtc, u32 r.payload 8, 0⟩ ∧
          (headOfRh t h).want = some (u8 r.payload 2) ∧ Same t { s with rh := t.rh } ∧ Answered s t r 0x0708 0 [])) ∧
      (s.modes.radio = 1 → s.pair.role ≠ 2 → (headOfRh s h).port = 2 → u8 r.payload 1 = 0 → (headOfRh s h).test = none →
        Runs (.rhTest r) s (fun t => Same t s ∧ Answered s t r 0x0708 0 [])) ∧
      (s.modes.radio = 1 → s.pair.role ≠ 2 → (headOfRh s h).port = 2 → u8 r.payload 1 = 0 → ∀ x, (headOfRh s h).test = some x →
        Runs (.rhTest r) s (fun t => (headOfRh t h).test = none ∧ Answered s t r 0x0708 0 [] ∧
          Same t { s with rh := modNth s.rh h (fun y => { y with want := none }) } ∧
          Reported s t 0xC703 (20 + h) (leBytes 1 h ++ leBytes 1 1 ++ [0, 0] ++ leBytes 4 x.sent))))

/-- Events of a head's port (R301, R305, R309 to R311, R328): RXCLK makes the port READY and its loss takes it back; 4.25 ms of PAEN trips
it into FAULT; an interrupt runs its script or is reported; the script at the head of the queue completes. -/
def Claims.HeadEvents : Prop :=
  ∀ (h : Nat) (s : State), h < s.rh.length →
    let x := headOfRh s h
    (x.port = 1 → Runs (.rhRxclkPresent h) s (fun t => Same t { s with rh := modNth s.rh h (fun x => { x with port := 2 }) } ∧
      Reported s t 0xC701 (20 + h) (leBytes 1 h ++ leBytes 1 1 ++ leBytes 1 2 ++ leBytes 1 2))) ∧
    (x.port ≠ 1 → exec (.rhRxclkPresent h) s = done s) ∧
    (x.port = 2 → Runs (.rhRxclkLost h) s (fun t =>
      Same t { s with rh := modNth s.rh h (fun x => { x with port := 1, tr := false, paen := false }) } ∧
      Reported s t 0xC701 (20 + h) (leBytes 1 h ++ leBytes 1 2 ++ leBytes 1 1 ++ leBytes 1 1))) ∧
    (x.port ≠ 2 → exec (.rhRxclkLost h) s = done s) ∧
    (x.paen = true → x.port ≠ 3 → 4250000 ≤ sinceNs s x.paenSince → Runs (.rhBurstLimit h) s (fun t =>
      Same t { s with rh := modNth s.rh h (fun x => { x with port := 3, tr := false, paen := false, trips := min (x.trips + 1) 65535 }) } ∧
      Reported s t 0xC701 (20 + h) (leBytes 1 h ++ leBytes 1 x.port ++ leBytes 1 3 ++ leBytes 1 3))) ∧
    (x.paen = true → sinceNs s x.paenSince < 4250000 → exec (.rhBurstLimit h) s = done s) ∧
    (x.port = 0 → exec (.rhIrqEdge h) s = done s ∧ exec (.rhIrqRepeat h) s = done s) ∧
    (x.port ≠ 0 → x.set.irqScript = 0xFFFF → Runs (.rhIrqEdge h) s (fun t =>
      Same t { s with rh := modNth s.rh h (fun x => { x with irqLast := s.tb.gtc }) } ∧
      Reported s t 0xC702 (20 + h) (leBytes 1 h ++ leBytes 1 0 ++ [0, 0] ++ zeros 16))) ∧
    (x.port ≠ 0 → x.set.irqScript ≠ 0xFFFF →
      let u := { s with rh := modNth s.rh h (fun y => { y with irqLast := s.tb.gtc, queue := y.queue ++ [⟨2, x.set.irqScript, 0, none⟩] }) }
      exec (.rhIrqEdge h) s = done u ∧ (100000000 ≤ sinceNs s x.irqLast → exec (.rhIrqRepeat h) s = done u)) ∧
    (sinceNs s x.irqLast < 100000000 → exec (.rhIrqRepeat h) s = done s) ∧
    (x.queue = [] → ∀ read, exec (.rhScriptComplete h read) s = done s) ∧
    (∀ q rest read, x.queue = q :: rest → q.kind = 1 → Runs (.rhScriptComplete h read) s (fun t =>
      (headOfRh t h).chan = some q.chan ∧ (headOfRh t h).chanAt = some s.tb.gtc ∧ (headOfRh t h).queue = rest ∧ Same t { s with rh := t.rh } ∧
      Out.headSpi h (scriptWrites (scriptFrom 64 q.index x)) ∈ newOuts s t)) ∧
    (∀ q rest read, x.queue = q :: rest → q.kind = 2 → Runs (.rhScriptComplete h read) s (fun t =>
      (headOfRh t h).queue = rest ∧ (headOfRh t h).chan = x.chan ∧ Same t { s with rh := t.rh } ∧
      Out.headSpi h (scriptWrites (scriptFrom 64 q.index x)) ∈ newOuts s t ∧
      let n := min (scriptReads (scriptFrom 64 q.index x)) 16
      Reported s t 0xC702 (20 + h) (leBytes 1 h ++ leBytes 1 n ++ [0, 0] ++ (headOfRh t h).result ++ zeros (16 - n)))) ∧
    (∀ q rest r read, x.queue = q :: rest → q.kind = 3 → q.req = some r → r.sess = none → Runs (.rhScriptComplete h read) s (fun t =>
      Same t { s with rh := modNth s.rh h (fun x => { x with queue := rest }) } ∧
      Answered s t r 0x0704 0 (read.take (u8 r.payload 2) ++ zeros (u8 r.payload 2 - min read.length (u8 r.payload 2))))) ∧
    (x.test = none → exec (.rhTestDurationEnd h) s = done s) ∧
    (∀ y, x.test = some y → y.duration * 1000000 ≤ sinceNs s y.start → Runs (.rhTestDurationEnd h) s (fun t =>
      (headOfRh t h).test = none ∧ Same t { s with rh := modNth s.rh h (fun y => { y with want := none }) } ∧
      Reported s t 0xC703 (20 + h) (leBytes 1 h ++ leBytes 1 0 ++ [0, 0] ++ leBytes 4 y.sent))) ∧
    (∀ y, x.test = some y → sinceNs s y.start < y.duration * 1000000 → exec (.rhTestDurationEnd h) s = done s)

/-! ### Arming (chapters 1 and 2) -/

/-- ARM_SET (R21, R22, R92): what may not change now is refused with 0x2005, a STANDBY refuses with 0x2004, anything else waits for the
commit of its cycle. -/
def Claims.ArmSet : Prop :=
  ∀ (r : Req) (s : State), Admitted 0x0110 true r s → r.payload.length = 4 + 2 * u8 r.payload 0 → zeroAt r.payload 1 3 = true →
    armRange r.payload = true → noRepeat ((armEntries r.payload).map (fun e => e.1)) = true →
    ((∃ e ∈ armEntries r.payload, armBarred s e = true) → s.pair.role ≠ 2 →
      Runs (.armSet r) s (fun t => Same t s ∧ Answered s t r 0x0110 0x2005 [])) ∧
    ((∀ e ∈ armEntries r.payload, armBarred s e = false) → s.pair.role = 2 →
      Runs (.armSet r) s (fun t => Same t s ∧ Answered s t r 0x0110 0x2004 [])) ∧
    ((∀ e ∈ armEntries r.payload, armBarred s e = false) → s.pair.role ≠ 2 →
      Runs (.armSet r) s (fun t => Same t (hold r.master (.command 0x0110 r) s)))

/-- The commit of an ARM_SET (R21, R22): reaction 0x01 stays armed in MISSION and 0x0D disarmed in SOLO; a change puts the whole new
table in force and reports it. -/
def Claims.ArmCommit : Prop :=
  ∀ (r : Req) (s : State),
    (∀ b, armBarred s (1, b) = (b == 0 && s.vault.life == 1)) ∧ (∀ b, armBarred s (13, b) = (b == 1 && s.pair.role == 0)) ∧
    ((∃ e ∈ armEntries r.payload, armBarred s e = true) → commitArm r s = (0x2005, s)) ∧
    ((∀ e ∈ armEntries r.payload, armBarred s e = false) →
      (armAfter r.payload s.repl.armed = s.repl.armed → commitArm r s = (0x0102, s)) ∧
      (armAfter r.payload s.repl.armed ≠ s.repl.armed → (commitArm r s).1 = 0 ∧
        (commitArm r s).2.repl.armed = armAfter r.payload s.repl.armed ∧
        (r.master ≤ 4 → Reported s (commitArm r s).2 0xC105 r.master
          (leBytes 2 (armAfter r.payload s.repl.armed) ++ [0] ++ leBytes 1 r.master))))

/-! ### The radio settings (chapters 8 and 9) -/

/-- RADIO_MODE_SET (R46, R47, R378): SERVE is refused in TEST and SERVICE with 0x2001; else the request is recorded, the mode in force
follows it at once, and a mode that another dimension forces is answered 0x0101. -/
def Claims.RadioMode : Prop :=
  ∀ (r : Req) (s : State), Admitted 0x0709 true r s → r.payload.length = 4 → zeroAt r.payload 1 3 = true → u8 r.payload 0 ≤ 2 →
    let n := u8 r.payload 0
    let m := (radioInForce { s with mac := { s.mac with requested := n } }).1
    (n = 2 → s.vault.life = 0 ∨ s.vault.life = 2 → Runs (.radioModeSet r) s (fun t => Same t s ∧ Answered s t r 0x0709 0x2001 [])) ∧
    (n ≠ 2 ∨ (s.vault.life ≠ 0 ∧ s.vault.life ≠ 2) → Runs (.radioModeSet r) s (fun t => t.mac.requested = n ∧ t.modes.radio = m ∧
      Same t { s with mac := { s.mac with requested := n } } ∧
      Answered s t r 0x0709 (if m = n then (if s.mac.requested = n then 0x0102 else 0) else 0x0101) (leBytes 1 m ++ [0, 0, 0])))

/-- The replicated settings of group 0x07 (R366, R369 to R371): a lower fence above the upper, or a sub-band whose upper edge is not above
its lower, is refused with 0x4003; else the setting waits for the commit. RADIO_DUTY_GET changes nothing. -/
def Claims.RadioSettingsHeld : Prop :=
  ∀ (r : Req) (s : State), s.pair.role ≠ 2 →
    (Admitted 0x070A true r s → r.payload.length = 4 + 20 * u8 r.payload 0 → u8 r.payload 0 ≤ 32 → zeroAt r.payload 1 3 = true →
      (∀ i, i < u8 r.payload 0 → u8 r.payload (22 + 20 * i) ≤ 1 ∧ within (subEntry r.payload i).duty 1 100000 = true ∧
        within (subEntry r.payload i).window 60 86400 = true ∧ (subEntry r.payload i).reserve ≤ 50) →
      ((∃ e ∈ subEntries r.payload, e.hi ≤ e.lo) → Runs (.radioSubbandSet r) s (fun t => Same t s ∧ Answered s t r 0x070A 0x4003 [])) ∧
      ((∀ e ∈ subEntries r.payload, e.lo < e.hi) → Runs (.radioSubbandSet r) s (fun t => Same t (hold r.master (.command 0x070A r) s)))) ∧
    (Admitted 0x070B true r s → r.payload.length = 16 → u16 r.payload 0 ≤ 255 ∨ u16 r.payload 0 = 0xFFFF → u8 r.payload 2 ≤ 1 →
      u8 r.payload 3 ≤ 1 →
      (∀ o ∈ [4, 8, 12], if u8 r.payload 2 = 0 then withinI (iN 4 r.payload o) 0 7 = true else withinI (iN 4 r.payload o) (-1000) 3600 = true) →
      (iN 4 r.payload 8 < iN 4 r.payload 4 → Runs (.radioLinkFenceSet r) s (fun t => Same t s ∧ Answered s t r 0x070B 0x4003 [])) ∧
      (iN 4 r.payload 4 ≤ iN 4 r.payload 8 → Runs (.radioLinkFenceSet r) s (fun t => Same t (hold r.master (.command 0x070B r) s)))) ∧
    (Admitted 0x070C true r s → r.payload.length = 8 → zeroAt r.payload 5 3 = true → u8 r.payload 0 ≤ 3 → u8 r.payload 1 ≤ 1 →
      u8 r.payload 2 ≤ 15 → u8 r.payload 3 ≤ 15 → u8 r.payload 4 ≤ 15 →
      (u8 r.payload 3 < u8 r.payload 2 → Runs (.radioChanFenceSet r) s (fun t => Same t s ∧ Answered s t r 0x070C 0x4003 [])) ∧
      (u8 r.payload 2 ≤ u8 r.payload 3 → Runs (.radioChanFenceSet r) s (fun t => Same t (hold r.master (.command 0x070C r) s)))) ∧
    (Admitted 0x070D false r s → r.payload = [] → Runs (.radioDutyGet r) s (fun t => Same t s ∧ Answered s t r 0x070D 0
      ((List.range s.repl.mac.subs.length).flatMap (fun i => leBytes 4 (usedUs s i / 1000) ++ leBytes 4 (budgetUs (subOf s i) / 1000)
        ++ leBytes 4 (meterNow s i).refused ++ leBytes 4 (meterNow s i).exemptOver))))

/-- The commits of these settings (R366, R368, R371): the sub-band table is replaced whole, an entry with the span and window of before
keeps its meter and any other starts an empty one, reported by RADIO_DUTY with cause 1; the fences named take the values and no
other does. -/
def Claims.RadioCommits : Prop :=
  ∀ (r : Req) (s : State), r.sess = none →
    let es := subEntries r.payload
    (es = s.repl.mac.subs → Same (commitSubbands r s) s ∧ Answered s (commitSubbands r s) r 0x070A 0x0102 r.payload) ∧
    (es ≠ s.repl.mac.subs → let t := commitSubbands r s
      Same t { s with repl := { s.repl with mac := { s.repl.mac with subs := es, oldSubs := [] } }, mac := { s.mac with dutyReport := [] } } ∧
      Answered s t r 0x070A 0 r.payload ∧ t.repl.mac.meters.length = es.length ∧
      (∀ (i : Nat) (e : SubBand), es[i]? = some e → (∀ o ∈ meterSubs s.repl.mac, sameSpan o e = false) →
        t.repl.mac.meters[i]? = some ⟨[0], bucketNum e (airTime s), 0, 0⟩ ∧
        Reported s t 0xC704 28 (leBytes 1 i ++ [1, 0xFF, 0xFF] ++ leBytes 4 0 ++ leBytes 4 (budgetUs e / 1000))) ∧
      (∀ (i : Nat) (e o : SubBand) (m : Meter), es[i]? = some e → (meterSubs s.repl.mac)[i]? = some o → sameSpan o e = true → s.repl.mac.meters[i]? = some m →
        t.repl.mac.meters[i]? = some m)) ∧
    (u8 r.payload 2 = 0 → ∀ b, linkFenceOf (commitLinkFence r s) b =
      if u16 r.payload 0 = 0xFFFF ∧ b < 256 ∨ u16 r.payload 0 = b ∧ b ≠ 0xFFFF then { linkFenceOf s b with mcsLo := iN 4 r.payload 4, mcsHi := iN 4 r.payload 8, mcsFixed := if u8 r.payload 3 = 1 then some (iN 4 r.payload 12) else none }
      else linkFenceOf s b) ∧
    (u8 r.payload 2 ≠ 0 → ∀ b, linkFenceOf (commitLinkFence r s) b =
      if u16 r.payload 0 = 0xFFFF ∧ b < 256 ∨ u16 r.payload 0 = b ∧ b ≠ 0xFFFF then { linkFenceOf s b with pwrLo := iN 4 r.payload 4, pwrHi := iN 4 r.payload 8, pwrFixed := if u8 r.payload 3 = 1 then some (iN 4 r.payload 12) else none }
      else linkFenceOf s b) ∧
    Same (commitLinkFence r s) { s with repl := { s.repl with mac := { s.repl.mac with fences := (commitLinkFence r s).repl.mac.fences } } } ∧
    (∃ st, Answered s (commitLinkFence r s) r 0x070B st r.payload) ∧
    (u8 r.payload 0 < s.repl.mac.heads.length → let t := commitChanFence r s
      Same t { s with repl := { s.repl with mac := { s.repl.mac with heads := modNth s.repl.mac.heads (u8 r.payload 0) (fun x =>
        { x with fenceLo := u8 r.payload 2, fenceHi := u8 r.payload 3, fixedIdx := if u8 r.payload 1 = 1 then some (u8 r.payload 4) else none }) } } } ∧
      ∃ st, Answered s t r 0x070C st r.payload)

/-! ### Orbits and berths (chapter 9) -/

/-- OR_CONFIG_SET and OR_SCHEDULE_SET (R332, R335, R346, R499): an orbit length is refused with 0x2002 while the radio is not OFF, a lease too
short for a pair with 0x8804, a map that R335 does not allow with 0x8801, one that leaves an allotted unit without UP with 0x8802; else the
setting waits for the commit. OR_BERTH_GET and OR_STATUS change nothing. -/
def Claims.OrbitSettingsHeld : Prop :=
  ∀ (r : Req) (s : State), s.pair.role ≠ 2 →
    (Admitted 0x0801 true r s → r.payload.length = 24 → u8 r.payload 7 < 64 → orConfigOk (orConfigOf r.payload) = true → let c := orConfigOf r.payload
      (c.l ≠ s.repl.mac.cfg.l → s.modes.radio ≠ 0 → s.pair.mode ≠ 1 →
        Runs (.orConfigSet r) s (fun t => Same t s ∧ Answered s t r 0x0801 0x2002 [])) ∧
      (c.l = s.repl.mac.cfg.l ∨ s.modes.radio = 0 → s.pair.mode = 1 → leaseShort c.lease c.l s.repl.cycleT = true →
        Runs (.orConfigSet r) s (fun t => Same t s ∧ Answered s t r 0x0801 0x8804 [])) ∧
      (c.l = s.repl.mac.cfg.l ∨ s.modes.radio = 0 → s.pair.mode ≠ 1 ∨ leaseShort c.lease c.l s.repl.cycleT = false →
        Runs (.orConfigSet r) s (fun t => Same t (hold r.master (.command 0x0801 r) s)))) ∧
    (Admitted 0x0802 true r s → r.payload.length = 8 + (u16 r.payload 6 + 1) / 2 → within (u16 r.payload 6) 80 4000 = true →
      (∀ x ∈ scheduleTypes r.payload, x ≤ 6) → (u16 r.payload 6 % 2 = 1 → u8 r.payload (r.payload.length - 1) < 16) → u8 r.payload 0 ≤ 3 →
      u8 r.payload 1 ≤ 7 → u8 r.payload 2 ≤ 7 → u8 r.payload 3 ≤ 7 → withinI (iN 2 r.payload 4) (-80) 80 = true →
      let h := u8 r.payload 0
      let ok := mapOk s h (scheduleTypes r.payload) (u8 r.payload 1) (u8 r.payload 2)
      let lost := ∃ x ∈ usesOnHead s h 256, nth (scheduleTypes r.payload) x.1 0 ≠ 5
      (ok = false → ¬ lost → Runs (.orScheduleSet r) s (fun t => Same t s ∧ Answered s t r 0x0802 0x8801 [])) ∧
      (ok = true → lost → Runs (.orScheduleSet r) s (fun t => Same t s ∧ Answered s t r 0x0802 0x8802 [])) ∧
      (ok = true → ¬ lost → Runs (.orScheduleSet r) s (fun t => Same t (hold r.master (.command 0x0802 r) s)))) ∧
    (Admitted 0x0804 false r s → r.payload.length = 4 → zeroAt r.payload 1 3 = true → let x := berthOf s (u8 r.payload 0)
      Runs (.orBerthGet r) s (fun t => Same t s ∧ ∃ rest, Answered s t r 0x0804 0 (leBytes 1 (u8 r.payload 0) ++ leBytes 1 x.state
        ++ leBytes 1 x.head ++ leBytes 1 x.air ++ leBytes 8 x.machine ++ leBytes 4 x.session ++ leBytes 4 x.up ++ leBytes 4 x.down ++ rest))) ∧
    (Admitted 0x0805 false r s → r.payload = [] →
      Runs (.orStatus r) s (fun t => Same t s ∧ Answered s t r 0x0805 0 (orStatusBytes s)))

/-- The commits of OR_CONFIG_SET and OR_SCHEDULE_SET (R332, R351, R362): a new orbit length releases every allotment; a new map has the next
map version and applies after the change countdown; the head's map in force stays until then. -/
def Claims.OrbitCommits : Prop :=
  ∀ (r : Req) (s : State), r.sess = none →
    (let c := orConfigOf r.payload
      let t := commitOrConfig r s
      (orConfigFails c s = [] → c.l = s.repl.mac.cfg.l → Same t { s with repl := { s.repl with mac := { s.repl.mac with cfg := c } } } ∧
        Answered s t r 0x0801 (if s.repl.mac.cfg = c then 0x0102 else 0) r.payload) ∧
      (orConfigFails c s = [] → c.l ≠ s.repl.mac.cfg.l → 80 ≤ c.l → t.repl.mac.cfg = c ∧
        (∀ b, (berthOf t b).allot = none ∧ (berthOf t b).pending = none ∧ (berthOf t b).state = (berthOf s b).state) ∧
        (∀ h, h < 4 → (macHead t h).map.types.length = c.l ∧ (macHead t h).next = none ∧ (macHead t h).chan = (macHead s h).chan) ∧
        Same t { s with repl := { s.repl with mac := t.repl.mac } } ∧ Answered s t r 0x0801 0 r.payload)) ∧
    (let t := commitSchedule r s
      let h := u8 r.payload 0
      let old := newestMap s h
      let n : UnitMap := ⟨scheduleTypes r.payload, u8 r.payload 1, u8 r.payload 2, u8 r.payload 3, iN 2 r.payload 4, old.version⟩
      let o := (orbitNow s + s.repl.mac.cfg.countdown + 1) % 2 ^ 32
      scheduleFails r.payload s = [] → h < s.repl.mac.heads.length →
      (n = old → Same t s) ∧
      (n ≠ old → (macHead t h).next = some ({ n with version := (old.version + 1) % 256 }, o) ∧ (macHead t h).map = (macHead s h).map ∧
        Same t { s with repl := { s.repl with mac := { s.repl.mac with heads := modNth s.repl.mac.heads h (fun _ => macHead t h) } } } ∧
        Answered s t r 0x0802 0 (leBytes 1 ((old.version + 1) % 256) ++ leBytes 1 (beaconRun s h (u8 r.payload 1)) ++ leBytes 4 o ++ [0, 0])))

/-- OR_BERTH_SET of one berth (R357, R358, R362, R378): an open of a berth that is not CLOSED or a release of one that is not HELD is refused
with 0x8805, else it waits for the commit, which changes settings or state and reports the change. -/
def Claims.BerthSettings : Prop :=
  ∀ (r : Req) (s : State), u8 r.payload 0 = 1 →
    let b := entryBerth r.payload 0
    let a := entryAction r.payload 0
    let x := berthOf s b
    (Admitted 0x0803 true r s → s.pair.role ≠ 2 → r.payload.length = 20 → zeroAt r.payload 1 3 = true → zeroAt r.payload 10 2 = true →
      entryOk r.payload 0 = true →
      ((a = 2 ∧ x.state ≠ 5) ∨ (a = 3 ∧ x.state ≠ 4) →
        noRepeat ((s.repl.mac.berths.map (fun e => e.2.set.bound)).filter (fun v => v != 0)) = true →
        Runs (.orBerthSet r) s (fun t => Same t s ∧ Answered s t r 0x0803 0x8805 [])) ∧
      (berthSetFails r.payload s = [] → Runs (.orBerthSet r) s (fun t => Same t (hold r.master (.command 0x0803 r) s)))) ∧
    (r.sess = none → berthSetFails r.payload s = [] → let t := commitOrBerth r s
      let shown := leBytes 8 x.machine ++ leBytes 1 x.head ++ leBytes 1 x.air ++ leBytes 1 x.obs ++ [0]
      (a = 0 → (berthOf t b).set = entrySet r.payload 0 x.set ∧ (berthOf t b).state = x.state) ∧
      (a = 1 → x.state ≠ 5 → (berthOf t b).state = 5 ∧ (berthOf t b).allot = none ∧ (berthOf t b).queue = [] ∧
        (berthOf t b).closeLeft = (if x.hasSession = true then 3 else 0) ∧ (berthOf t b).set = { x.set with closed := true } ∧
        Reported s t 0xC801 (20 + x.head) (leBytes 1 b ++ leBytes 1 x.state ++ leBytes 1 5 ++ leBytes 1 5 ++ shown)) ∧
      (a = 2 → (berthOf t b).state = 0 ∧ (berthOf t b).set = { x.set with closed := false } ∧
        Reported s t 0xC801 (20 + x.head) (leBytes 1 b ++ leBytes 1 5 ++ leBytes 1 0 ++ leBytes 1 6 ++ shown)) ∧
      (a = 3 → (berthOf t b).state = 0 ∧ (berthOf t b).hasSession = false ∧
        Reported s t 0xC801 (20 + x.head) (leBytes 1 b ++ leBytes 1 4 ++ leBytes 1 0 ++ leBytes 1 7 ++ shown)))

/-- The boundaries of units and orbits (R331, R344, R348): each is served once; in LISTEN a head whose frame has ended drives RHx_TR to
receive and RHx_PAEN low, and every enabled head reports the beacon that it could not send. -/
def Claims.UnitsAndOrbits : Prop :=
  ∀ s : State, Agrees s → s.pwr.state ≤ 2 → s.pwr.requested = s.pwr.state → domOn s 9 = true → s.modes.radio = 1 → s.pair.gap = false →
    s.pair.quietUntil = none → s.pair.handing = false →
    let n := unitNow s
    (s.mac.lastUnit = some n → exec .unitBoundary s = done s) ∧
    (s.mac.lastUnit ≠ some n → (∀ x ∈ s.rh, x.test = none) → ∃ t, exec .unitBoundary s = .next t ∧ t.mac.lastUnit = some n ∧
      (∀ h, h < 4 → h < s.rh.length → (macLocal s h).occupied ≤ n → (headOfRh t h).tr = false ∧ (headOfRh t h).paen = false)) ∧
    (n % s.repl.mac.cfg.l ≠ 0 → exec .orbitStart s = done s) ∧
    (n % s.repl.mac.cfg.l = 0 → s.mac.lastOrbit ≠ some (n / s.repl.mac.cfg.l) → ∃ t, exec .orbitStart s = .next t ∧
      t.mac.lastOrbit = some (n / s.repl.mac.cfg.l) ∧
      (s.pair.role ≠ 2 → ∀ h, h < 4 → h < s.mac.heads.length → (headOfRh s h).set.enable = true → (macLocal s h).reported = false →
        let m := min ((macLocal s h).misses + 1) 65535
        (macLocal t h).misses = m ∧
        Reported s t 0xC803 (20 + h) (leBytes 1 h ++ [3] ++ leBytes 2 m ++ leBytes 2 (macLocal s h).suppressed
          ++ [if s.repl.mac.cfg.lease ≤ m then 1 else 0] ++ [0])))

/-- What a head sends in SERVE (R15, R302, R323, R336, R339, R342, R344, R345, R389, R390): its beacon at the start of an orbit, with the
go-lease 0 while Eclipse is not CLEAR at the decision point, and an ECLIPSE frame at each boundary of a burst where its last frame
has ended or the burst begins; each at the GTC of its unit boundary, early by the head's TX latency, with the header and symbols
that its PSDU gives, and under the broadcast counter, which rises by one. -/
def Claims.BroadcastFrames : Prop :=
  ∀ (s : State) (h : Nat), s.modes.radio = 2 → airQuiet s = false → s.repl.mac.bcounter ≤ 0xFFFFFFF0 → broadcastKeyOk s = true →
    h < s.mac.heads.length →
    let sent (t : State) (ftype mcs : Nat) (body : List Byte) : Prop := ∃ f : TxFrame, Out.frame f ∈ newOuts s t ∧ f.head = h ∧
      f.gtc = s.tb.gtc ∧ f.source = 20 + h ∧ f.unit = unitNow s ∧ f.ftype = ftype ∧ f.dst = 0xFFFF ∧ f.counter = s.repl.mac.bcounter ∧
      f.mcs = mcs ∧ f.body = body ∧ f.early = txLatency s h ∧
      f.psdu = framePsdu (macFrame h ftype 0xFFFF mcs broadcastEirp body) (broadcastProtect s) s ∧
      f.header = phyHeader mcs f.psdu.length (headOfRh s h).seed s.repl.mac.cfg.colour 0 (txpwrOf f.eirp) ∧
      f.symbols = frameSymbols (headOfRh s h).set.n1 f.header mcs (headOfRh s h).seed f.psdu
    (eclAtDecision s h ≠ 0 → goLease s h = 0) ∧
    (eclAtDecision s h = 0 → s.pwr.state ≠ 2 → (macLocal s h).first = false → goLease s h = s.repl.mac.cfg.lease) ∧
    (eclShown s = 2 ∨ (eclShown s = 1 ∧ decided s h s.ecl.entry = true) → eclAtDecision s h = eclShown s) ∧
    (eclShown s = 1 → decided s h s.ecl.entry = false → eclAtDecision s h = s.ecl.before) ∧
    ((headOfRh s h).set.enable = true →
      let body := beaconBody s h (restingOf s h)
      sendCheck (macFrame h 0 0xFFFF (macHead s h).map.beaconMcs broadcastEirp body) s = 0 →
      (beaconStep s h).repl.mac.bcounter = s.repl.mac.bcounter + 1 ∧ (macLocal (beaconStep s h) h).misses = 0 ∧
      sent (beaconStep s h) 0 (macHead s h).map.beaconMcs body) ∧
    (∀ n k u, u ≠ 0 → inBurst s h = true → (macLocal s h).occupied ≤ n ∨ (macLocal s h).burst = 40 →
      let body := leBytes 2 (eclCoreShown s).seq ++ leBytes 1 (eclCoreShown s).cause ++ [0] ++ leBytes 4 (orbitNow s)
      sendCheck (macFrame h 1 0xFFFF (nth s.ecl.mcs h 0) broadcastEirp body) s = 0 →
      (serveUnit h n k u s).repl.mac.bcounter = s.repl.mac.bcounter + 1 ∧
      (macLocal (serveUnit h n k u s) h).burst = (macLocal s h).burst - 1 ∧
      sent (serveUnit h n k u s) 1 (nth s.ecl.mcs h 0) body) ∧
    (∀ n k u, u ≠ 0 → inBurst s h = true → n < (macLocal s h).occupied → (macLocal s h).burst ≠ 40 →
      Same (serveUnit h n k u s) s ∧ newOuts s (serveUnit h n k u s) = [] ∧
      (macLocal (serveUnit h n k u s) h).burst = (macLocal s h).burst - 1)

/-- A frame at a head's receiver (R302, R310, R314, R320, R364): a head that does not listen, a carrier beyond 25 ppm and a preamble outside
the receive window leave everything as it is; a header that fails its CRC is counted alone; any other frame is reported, a
foreign direction or colour and a failed FCS are each counted, and a frame that passes is counted as delivered. A station frame
teaches nothing here. -/
def Claims.FrameReception : Prop :=
  ∀ (f : AirFrame) (s : State), f.head < s.rh.length → stationFrame f s = false →
    let x := headOfRh s f.head
    let foreign := rxDir f ≠ 1 ∨ rxColour f ≠ s.repl.mac.cfg.colour
    (headListens s f.head = false ∨ headOpen f s = false ∨ 2500 < f.cfo.natAbs ∨ s.repl.mac.cfg.window * 1000 < (timingNs f s).natAbs →
      exec (.rhFrameRx f) s = done s) ∧
    (headListens s f.head = true → headOpen f s = true → f.cfo.natAbs ≤ 2500 → (timingNs f s).natAbs ≤ s.repl.mac.cfg.window * 1000 →
      (headerIntact f.header = false → exec (.rhFrameRx f) s =
        done { s with rh := modNth s.rh f.head (fun x => { x with hdrFail := min (x.hdrFail + 1) (2 ^ 32 - 1) }) }) ∧
      (headerIntact f.header = true → Runs (.rhFrameRx f) s (fun t => Same t { s with rh := t.rh } ∧
        Out.rxReport (rxReport f s) ∈ newOuts s t ∧
        (headOfRh t f.head).hdrFail = x.hdrFail ∧
        (headOfRh t f.head).foreign = (if foreign then min (x.foreign + 1) (2 ^ 32 - 1) else x.foreign) ∧
        (headOfRh t f.head).fcsFail = (if rxFcsOk f = true then x.fcsFail else min (x.fcsFail + 1) (2 ^ 32 - 1)) ∧
        (headOfRh t f.head).delivered = (if foreign ∨ rxFcsOk f = false then x.delivered else min (x.delivered + 1) (2 ^ 32 - 1)) ∧
        (foreign ∨ rxFcsOk f = false → Same t { s with rh := modNth s.rh f.head (fun y => { y with
          foreign := (headOfRh t f.head).foreign
          fcsFail := (headOfRh t f.head).fcsFail }) }))))

/-- An UP frame of a berth (R337, R340, R352, R359, R374): from a berth that has no session it counts as a disagreement; a counter below the
window is stale, a marked one a duplicate, a failed MIC is dropped, each counted and the window kept; an accepted one moves the
window, unless what it acknowledges closes the berth. A STANDBY keeps the berth as it is. -/
def Claims.UpFrames : Prop :=
  ∀ (f : AirFrame) (s : State), macReceives f s = true → within (rxType f) 10 12 = true → within (rxSrc f) 0x0100 0x01FF = true →
    let b := rxSrc f - 0x0100
    let x := berthOf s b
    let w := replayMark x.up x.window (rxCounter f)
    (x.state = 0 ∨ x.state = 4 ∨ x.state = 5 → Runs (.upFrameRx f) s (fun t =>
      Same t { s with mac := { s.mac with kind1 := min (s.mac.kind1 + 1) (2 ^ 32 - 1) } })) ∧
    (within x.state 1 3 = true → s.pair.role ≠ 2 →
      (replayCheck x.up x.window (rxCounter f) = 2 → Runs (.upFrameRx f) s (fun t =>
        berthOf t b = { x with stale := min (x.stale + 1) (2 ^ 32 - 1) } ∧ ∀ c, c ≠ b → berthOf t c = berthOf s c)) ∧
      (replayCheck x.up x.window (rxCounter f) = 1 → Runs (.upFrameRx f) s (fun t =>
        berthOf t b = { x with dup := min (x.dup + 1) (2 ^ 32 - 1) } ∧ ∀ c, c ≠ b → berthOf t c = berthOf s c)) ∧
      (replayCheck x.up x.window (rxCounter f) = 0 → upBody b f s = none → Runs (.upFrameRx f) s (fun t =>
        berthOf t b = { x with mic := min (x.mic + 1) (2 ^ 32 - 1) } ∧ ∀ c, c ≠ b → berthOf t c = berthOf s c)) ∧
      (replayCheck x.up x.window (rxCounter f) = 0 → (upBody b f s).isSome = true →
        (∀ d, x.awaiting = some d → ¬ (d.ftype = 6 ∧ d.kind = 5 ∧ u8 d.body 2 = 2)) → Runs (.upFrameRx f) s (fun t =>
        (berthOf t b).up = w.1 ∧ (berthOf t b).window = w.2 ∧ (berthOf t b).accepted = min (x.accepted + 1) (2 ^ 32 - 1) ∧
        (berthOf t b).missed = 0 ∧ (berthOf t b).lastUp = s.tb.gtc ∧ (berthOf t b).state = 2 ∧
        (berthOf t b).mic = x.mic ∧ (berthOf t b).dup = x.dup ∧ (berthOf t b).stale = x.stale))) ∧
    (within x.state 1 3 = true → s.pair.role = 2 → upBody b f s = none → exec (.upFrameRx f) s = done (opening b s)) ∧
    (within x.state 1 3 = true → s.pair.role = 2 → (upBody b f s).isSome = true → rxType f ≠ 10 → exec (.upFrameRx f) s =
      done (modOwn (fun o => { o with heardUp := upsert o.heardUp b (max ((look o.heardUp b).getD 0) (rxCounter f)) }) (opening b s))) ∧
    (∀ high window counter : Nat,
      (counter + 63 < high → replayCheck high window counter = 2) ∧
      (high ≤ counter + 63 → counter ≤ high → replayCheck high window counter = if bit window (high - counter) = true then 1 else 0) ∧
      (high < counter → replayCheck high window counter = 0 ∧ (replayMark high window counter).1 = counter ∧
        bit (replayMark high window counter).2 0 = true) ∧
      (counter ≤ high → (replayMark high window counter).1 = high))

/-- A JOIN_REQ in SERVE (R354 to R356): a closed station, a locked-out machine, no common version, no berth, no slots and no key are answered
by OR_JOIN_FAIL alone, with their causes; a request that passes becomes a join that waits for its CHALLENGE. -/
def Claims.JoinRequests : Prop :=
  ∀ (f : AirFrame) (s : State), macReceives f s = true → rxType f = 8 → rxProt f = 0 → (rxContent f).length = 28 → s.modes.radio = 2 →
    s.pair.role ≠ 2 →
    let p := rxContent f
    let id := u64 p 0
    let cfg := s.repl.mac.cfg
    let failed (u : State) := { u with mac := { u.mac with joinsFailed := min (u.mac.joinsFailed + 1) (2 ^ 32 - 1) } }
    let full := 16 ≤ (s.mac.joins.filter (fun j => j.machine != id && !j.verified)).length
    let tells (c : Nat) (u : State) : Prop := Runs (.joinReqRx f) s (fun t => Same t (failed u) ∧
      Reported s t 0xC802 (20 + f.head) (leBytes 8 id ++ leBytes 1 c ++ leBytes 1 f.head ++ [0, 0]))
    (bit cfg.flags 0 = false → tells 1 s) ∧
    (bit cfg.flags 0 = true → lockedOut s id = true → tells 6 s) ∧
    (bit cfg.flags 0 = true → lockedOut s id = false → full → tells 7 s) ∧
    (bit cfg.flags 0 = true → lockedOut s id = false → ¬ full →
      (version cfg.flags (u8 p 8) = none ∨ version (cfg.flags / 4) (u8 p 9) = none → tells 3 s) ∧
      (∀ air obs, version cfg.flags (u8 p 8) = some air → version (cfg.flags / 4) (u8 p 9) = some obs →
        (joinBerth s id = none → tells 2 s) ∧
        (∀ b, joinBerth s id = some b → findAllot s b (berthOf s b).set f.head = none → tells 5 s) ∧
        (∀ b a u, joinBerth s id = some b → findAllot s b (berthOf s b).set f.head = some a → machineFor id s = (none, u) → tells 4 u) ∧
        (∀ b a m u, joinBerth s id = some b → findAllot s b (berthOf s b).set f.head = some a → machineFor id s = (some m, u) →
          Runs (.joinReqRx f) s (fun t => ∃ j ∈ t.mac.joins, j.machine = id ∧ j.berth = b ∧ j.head = f.head ∧
            j.machineNonce = sub p 12 16 ∧ j.air = air ∧ j.obs = obs ∧ j.sent = false ∧ j.verified = false ∧ j.ready = s.tb.gtc ∧
            t.mac.joinsFailed = u.mac.joinsFailed))))

/-- The rest of a join (R339, R355, R356): a response that verifies waits for the commit, one that does not fails, and the third failure within
60 s locks the machine ID out until the lockout expires; the commit starts the session with both counters at their start. -/
def Claims.JoinCompletion : Prop :=
  ∀ (f : AirFrame) (s : State) (j : Join),
    (macReceives f s = true → rxType f = 9 → rxProt f = 0 → (rxContent f).length = 24 → s.modes.radio = 2 → s.pair.role ≠ 2 →
      let id := u64 (rxContent f) 0
      let j1 := { j with verified := true, snr := f.snr }
      let rest := s.mac.joins.filter (fun x => x != j)
      s.mac.joins.find? (fun x => x.machine == id && x.sent && !x.verified && x.head == f.head) = some j →
      (joinResponse s j = none → Runs (.joinAuthRx f) s (fun t =>
        Same t { s with mac := { s.mac with joins := rest, joinsFailed := min (s.mac.joinsFailed + 1) (2 ^ 32 - 1) } } ∧
        Reported s t 0xC802 (20 + f.head) (leBytes 8 id ++ [4] ++ leBytes 1 f.head ++ [0, 0]))) ∧ ∀ w, joinResponse s j = some w →
      (sub (rxContent f) 8 16 = w → exec (.joinAuthRx f) s =
        done (hold (20 + f.head) (.join j1) (modOwn (fun o => { o with joins := rest ++ [j1] }) (useNode (machineNode s j.machine) s)))) ∧
      (sub (rxContent f) 8 16 ≠ w → ∃ t, exec (.joinAuthRx f) s = .next t ∧ t.mac.joins = rest ∧
        t.mac.joinsFailed = min (s.mac.joinsFailed + 1) (2 ^ 32 - 1) ∧
        Reported s t 0xC802 (20 + f.head) (leBytes 8 id ++ [4] ++ leBytes 1 f.head ++ [0, 0]) ∧
        (2 ≤ (s.mac.fails.filter (fun x => x.1 == id && decide (sinceNs s x.2 < 60000000000))).length → (id, s.tb.gtc) ∈ t.mac.lockouts))) ∧
    (∀ id, exec (.joinLockoutExpiry id) s = done { s with mac := { s.mac with
      lockouts := s.mac.lockouts.filter (fun x => !(x.1 == id && decide (60000000000 ≤ sinceNs s x.2))) } }) ∧
    (let x := berthOf s j.berth
      let t := commitJoin j s
      x.state ∈ [0, 2, 3, 4] → (berthOf t j.berth).state = 1 ∧ (berthOf t j.berth).machine = j.machine ∧
        (berthOf t j.berth).session = (x.session + 1) % 2 ^ 32 ∧ (berthOf t j.berth).hasSession = true ∧ (berthOf t j.berth).down = 1 ∧
        (berthOf t j.berth).up = 0 ∧ (berthOf t j.berth).air = j.air ∧ (berthOf t j.berth).obs = j.obs ∧ (berthOf t j.berth).head = j.head ∧
        t.mac.joinsOk = min (s.mac.joinsOk + 1) (2 ^ 32 - 1) ∧ (spotOf t j.berth).left = 1 ∧
        Reported s t 0xC801 (20 + j.head) (leBytes 1 j.berth ++ leBytes 1 x.state ++ [1] ++ [if x.state = 2 ∨ x.state = 3 then 10 else 0]
          ++ leBytes 8 j.machine ++ leBytes 1 j.head ++ leBytes 1 j.air ++ leBytes 1 j.obs ++ [0]))

/-- The timers of a berth on a member that serves (R352, R356, R357): a frame is sent again after two slots and given up after five sendings; a
join that does not complete, missed slots, the ADRIFT limit and, while 0x0E is armed, the hold time each move the berth on and
report it. Before its time nothing happens. -/
def Claims.BerthTimers : Prop :=
  ∀ (b : Nat) (s : State), s.pair.role ≠ 2 →
    let x := berthOf s b
    let moved (c : Instr) (new cause : Nat) : Prop := ∃ t, exec c s = .next t ∧ (berthOf t b).state = new ∧
      Reported s t 0xC801 (20 + x.head) (leBytes 1 b ++ leBytes 1 x.state ++ leBytes 1 new ++ leBytes 1 cause ++ leBytes 8 x.machine
        ++ leBytes 1 x.head ++ leBytes 1 x.air ++ leBytes 1 x.obs ++ [0])
    (∀ f, x.awaiting = some f → f.due = false → 2 ≤ f.slots → f.ftype ≠ 5 ∨ eclShown s = 0 →
      (f.sends < 5 → exec (.deliveryResend b) s = done (modBerth b (fun x => { x with awaiting := some { f with due := true } }) s)) ∧
      (5 ≤ f.sends → ∃ t, exec (.deliveryResend b) s = .next t ∧ (berthOf t b).awaiting = none ∧
        Reported s t 0xC804 (20 + x.head) (leBytes 1 b ++ leBytes 1 f.ftype ++ leBytes 1 (if f.ftype = 6 then f.kind else 0) ++ [0]
          ++ leBytes 4 f.seq))) ∧
    (∀ f, x.awaiting = some f → f.slots < 2 → exec (.deliveryResend b) s = done s) ∧
    (x.state = 1 → s.repl.mac.cfg.joinTimeout ≤ (orbitNow s + 2 ^ 32 - x.joinOrbit) % 2 ^ 32 →
      moved (.joinTimeout b) (if x.from_ = 0 then 0 else 4) 2) ∧
    (x.state ≠ 1 → exec (.joinTimeout b) s = done s) ∧
    (x.state = 2 → s.repl.mac.cfg.adrift ≤ x.missed → moved (.adriftEntry b) 3 3) ∧
    (x.state = 2 → x.missed < s.repl.mac.cfg.adrift → exec (.adriftEntry b) s = done s) ∧
    (x.state = 3 → s.repl.mac.cfg.adriftLimit * 1000000000 ≤ sinceNs s x.since → moved (.adriftLimit b) 4 4) ∧
    (sinceNs s x.since < s.repl.mac.cfg.adriftLimit * 1000000000 → exec (.adriftLimit b) s = done s) ∧
    (x.state = 4 → bit s.repl.armed 14 = true → s.repl.mac.cfg.holdTime * 1000000000 ≤ sinceNs s x.since → moved (.holdTimeExpiry b) 0 8) ∧
    (bit s.repl.armed 14 = false → exec (.holdTimeExpiry b) s = done s)

/-- Channel selection and duty buckets (R368, R370): a head in SERVE moves to the next eligible channel inside its fence when more than 20 % of
its quiet units or of its slots were lost, and to a fixed channel when it is not on it, each by a decision that waits for the
commit; the commit announces the change for the orbit after the countdown. The next bucket of an entry begins empty. -/
def Claims.ChannelsAndBuckets : Prop :=
  ∀ (h : Nat) (s : State),
    let x := macHead s h
    let idle := x.nextChan = none ∧ ∀ d ∈ s.pair.decisions, ∀ k i c, d.what = .channel k i c → k ≠ h
    let next (t : State) : State := modLocal h (fun l => { l with slots := (0, 0) :: l.slots }) t
    (∀ quiet : List Int, h ≤ 3 → (headOfRh s h).set.enable = true → s.modes.radio = 2 → s.pair.role ≠ 2 → idle →
      let s1 := modLocal h (fun l => { l with quiet := (quiet :: l.quiet).take 60, slots := l.slots.take 10 }) s
      let l := macLocal s1 h
      (∀ i, x.fixedIdx = some i → i ≠ x.chan → exec (.channelSelection h quiet) s = done (next (hold (20 + h) (.channel h i 0) s1))) ∧
      (x.fixedIdx = some x.chan → exec (.channelSelection h quiet) s = done (next s1)) ∧
      (∀ i, x.fixedIdx = none → nextChannel s h x.chan x.fenceLo x.fenceHi = some i →
        (within x.chan x.fenceLo x.fenceHi = false → exec (.channelSelection h quiet) s = done (next (hold (20 + h) (.channel h i 0) s1))) ∧
        (within x.chan x.fenceLo x.fenceHi = true → (macLocal s h).changed = false ∨ 60000000000 ≤ sinceNs s (macLocal s h).lastChange →
          exec (.channelSelection h quiet) s = done (next (if channelBusy l = true then hold (20 + h) (.channel h i 1) s1
            else if channelLoss l = true then hold (20 + h) (.channel h i 2) s1 else s1)))) ∧
      (x.fixedIdx = none → within x.chan x.fenceLo x.fenceHi = false → nextChannel s h x.chan x.fenceLo x.fenceHi = none →
        exec (.channelSelection h quiet) s = done (next (channelLimit h s1)))) ∧
    (∀ quiet : List Int, h ≤ 3 → (headOfRh s h).set.enable = false ∨ s.modes.radio ≠ 2 ∨ s.pair.role = 2 →
      exec (.channelSelection h quiet) s =
        done (next (modLocal h (fun l => { l with quiet := (quiet :: l.quiet).take 60, slots := l.slots.take 10 }) s))) ∧
    (∀ l : MacLocal,
      let floor := tenthPercentile l.quiet.flatten
      let last := (l.quiet.take 10).flatten
      let slots := l.slots.take 10
      (channelBusy l = true ↔ last.length < 5 * (last.filter (fun v => decide (floor + 40 < v))).length) ∧
      (channelLoss l = true ↔ (slots.map (fun c => c.1)).sum < 5 * (slots.map (fun c => c.2)).sum)) ∧
    (∀ i c, h < s.repl.mac.heads.length → let t := commitChannel h i c s
      let o := (orbitNow s + s.repl.mac.cfg.countdown + 1) % 2 ^ 32
      (macHead t h).nextChan = some (i, o, c) ∧ (macHead t h).chan = x.chan ∧
      Reported s t 0xC705 (20 + h) (leBytes 1 h ++ leBytes 1 x.chan ++ leBytes 1 i ++ leBytes 1 c ++ leBytes 4 o)) ∧
    (∀ i, Agrees s → i < s.repl.mac.subs.length → i < s.repl.mac.meters.length → ∃ t, exec (.dutyBucketEnd i) s = .next t ∧ Same t s ∧
      t.repl.mac.meters[i]? = some (meterNow s i)) ∧
    (∀ i, s.repl.mac.subs.length ≤ i → exec (.dutyBucketEnd i) s = done s)

/-! ### The transit arbiter and the conformance monitor (chapter 11) -/

/-- A request that the arbiter grants (R411, R413, R414): no held transit but the owner's own, no zone and no claim is both too near in time and
too near in space. -/
def Obligations.GrantsAreClear : Prop :=
  ∀ (a : TrAsk) (limit : Nat) (s : State), askBlocker a limit s = none ↔
    ((∀ t ∈ s.repl.tr.transits, sameOwner a t s = false → timeConflict a.start a.stop t.start t.stop s.repl.tr.cfg.guard = true →
        lineConflict a.line a.half t.line t.half s.repl.tr.cfg.clearance = false) ∧
      (∀ z ∈ s.repl.tr.zones, timeConflict a.start a.stop z.start z.stop s.repl.tr.cfg.guard = true →
        zoneConflict a.line a.half z.poly s.repl.tr.cfg.clearance = false) ∧
      (∀ k ∈ s.repl.tr.claims, k.level < limit → a.owner ≠ some k.owner →
        timeConflict a.start a.stop k.start openEnd s.repl.tr.cfg.guard = true →
        lineConflict a.line a.half k.line k.half s.repl.tr.cfg.clearance = false))

/-- TR_REQUEST and TR_CHECK wait for the arbiter in a queue of 64 (R81, R416, R418, R429, R439), in their order, an urgent one before the
others of its session: the first is decided; a grant of TR_REQUEST inserts the
transit at once and is answered after its commit, a refusal is answered at once with the kind of its blocker and changes nothing
else but the statistics. -/
def Claims.TransitRequests : Prop :=
  ∀ (r : Req) (s : State),
    (Admitted 0x0A01 true r s → r.payload.length = 32 + 8 * u8 r.payload 2 → zeroAt r.payload 3 1 = true → zeroAt r.payload 6 2 = true →
      zeroAt r.payload 28 4 = true → u16 r.payload 0 ≤ 255 ∨ u16 r.payload 0 = 0xFFFF →
      (s.pair.role = 2 → s.trown.queue.length < 64 → Runs (.trRequest r) s (fun t => Same t s ∧ Answered s t r 0x0A01 0x2004 [])) ∧
      (s.pair.role ≠ 2 → 64 ≤ s.trown.queue.length → Runs (.trRequest r) s (fun t => Same t s ∧ Answered s t r 0x0A01 0x2003 [])) ∧
      (s.pair.role ≠ 2 → s.trown.queue.length < 64 → Runs (.trRequest r) s (fun t =>
        Same t { s with trown := { s.trown with queue := enqueueAsk 0x0A01 r s.tb.gtc s.trown.queue } }))) ∧
    (Admitted 0x0A03 false r s → r.payload.length = 32 + 8 * u8 r.payload 2 → zeroAt r.payload 3 1 = true → zeroAt r.payload 6 2 = true →
      zeroAt r.payload 28 4 = true → u16 r.payload 0 ≤ 255 ∨ u16 r.payload 0 = 0xFFFF → s.trown.queue.length < 64 →
      Runs (.trCheck r) s (fun t => Same t { s with trown := { s.trown with queue := enqueueAsk 0x0A03 r s.tb.gtc s.trown.queue } })) ∧
    (∀ op, (∀ e ∈ s.trown.queue, if e.2.1.master = r.master then r.urgent = false ∨ e.2.1.urgent = true else e.2.2 ≠ s.tb.gtc) →
      enqueueAsk op r s.tb.gtc s.trown.queue = s.trown.queue ++ [(op, r, s.tb.gtc)]) ∧
    (∀ op, r.urgent = true → (∀ e ∈ s.trown.queue, e.2.1.master = r.master ∧ e.2.1.urgent = false) →
      enqueueAsk op r s.tb.gtc s.trown.queue = (op, r, s.tb.gtc) :: s.trown.queue) ∧
    (∀ time, s.trown.queue = [] → exec (.arbiterDecision time) s = done s) ∧
    (∀ time op g q, s.trown.queue = (op, r, g) :: q → (op = 0x0A01 ∧ s.pair.role ≠ 2) ∨ op = 0x0A03 → Answerable s r →
      let a := askOf r.payload
      (∀ st, askInvalid a s = [st] → ∃ t, exec (.arbiterDecision time) s = .next t ∧ t.repl.tr = s.repl.tr ∧ t.trown.queue = q ∧
        Same t { s with trown := t.trown } ∧ Answered s t r op st (if 0x8A00 < st then trPayload 0 none time s else [])) ∧
      (askInvalid a s = [] →
        (∀ k, askBlocker a 64 s = some k → ∃ t, exec (.arbiterDecision time) s = .next t ∧ t.repl.tr = s.repl.tr ∧ t.trown.queue = q ∧
          Same t { s with trown := t.trown } ∧ Answered s t r op (0x8A00 + k.kind) (trPayload 0 (some k) time s)) ∧
        (op = 0x0A03 → askBlocker a 64 s = none → ∃ t, exec (.arbiterDecision time) s = .next t ∧ t.repl.tr = s.repl.tr ∧
          t.trown.queue = q ∧ Same t { s with trown := t.trown } ∧ Answered s t r op 0 (trPayload 0 none time s)) ∧
        (op = 0x0A01 → askBlocker a 64 s = none → ∃ t n, exec (.arbiterDecision time) s = .next t ∧ t.trown.queue = q ∧
          t.repl.tr.transits = s.repl.tr.transits ++ [n] ∧ n.owner = a.owner ∧ n.machine = askMachine a s ∧ n.start = a.start ∧
          n.stop = a.stop ∧ n.half = a.half ∧ n.line = a.line ∧ n.tag = u32 r.payload 24 ∧ n.source = r.master ∧
          t.trown.grants = min (s.trown.grants + 1) (2 ^ 32 - 1) ∧
          t.pair.decisions = s.pair.decisions ++ [⟨s.tb.gtc, r.master, .answer r op 0 (trPayload (transitId n) none time s)⟩] ∧
          Reported s t 0xCA03 29 (leBytes 4 (transitId n) ++ [0] ++ leBytes 1 r.master ++ leBytes 2 (n.owner.getD 0xFFFF)
            ++ leBytes 8 n.start ++ leBytes 8 n.stop))))

/-- TR_RELEASE and the removal of transits (R421, R422, R439): a transit that has not started leaves, one that has ends at the later of now and
the time asked for, never later than before; the reply follows the commit. A transit leaves by itself a guard time after its end. -/
def Claims.TransitReleases : Prop :=
  ∀ (r : Req) (s : State) (x : Transit),
    let id := u32 r.payload 0
    let e := min x.stop (max (stMs s) (u64 r.payload 8))
    (Admitted 0x0A02 true r s → r.payload.length = 16 → zeroAt r.payload 4 4 = true → u64 r.payload 8 = 0 ∨ stMs s ≤ u64 r.payload 8 →
      (s.pair.role ≠ 2 → transitOf s id = none → Runs (.trRelease r) s (fun t => Same t s ∧ Answered s t r 0x0A02 0x8A09 [])) ∧
      (s.pair.role = 2 → transitOf s id = some x → Runs (.trRelease r) s (fun t => Same t s ∧ Answered s t r 0x0A02 0x2004 [])) ∧
      (s.pair.role ≠ 2 → transitOf s id = some x → e ≤ x.start → Runs (.trRelease r) s (fun t => transitOf t id = none ∧
        (∀ y ∈ s.repl.tr.transits, transitId y ≠ id → y ∈ t.repl.tr.transits) ∧
        ⟨s.tb.gtc, r.master, .answer r 0x0A02 0 (leBytes 8 0)⟩ ∈ t.pair.decisions ∧
        Reported s t 0xCA03 29 (leBytes 4 id ++ [2] ++ leBytes 1 r.master ++ leBytes 2 (x.owner.getD 0xFFFF) ++ leBytes 8 x.start
          ++ leBytes 8 x.stop))) ∧
      (s.pair.role ≠ 2 → transitOf s id = some x → x.start < e → e = x.stop → Runs (.trRelease r) s (fun t =>
        Same t (hold r.master (.answer r 0x0A02 0x0102 (leBytes 8 e)) s))) ∧
      (s.pair.role ≠ 2 → transitOf s id = some x → x.start < e → e ≠ x.stop → Runs (.trRelease r) s (fun t =>
        transitOf t id = some { x with stop := e } ∧ ⟨s.tb.gtc, r.master, .answer r 0x0A02 0 (leBytes 8 e)⟩ ∈ t.pair.decisions ∧
        Reported s t 0xCA03 29 (leBytes 4 id ++ [1] ++ leBytes 1 r.master ++ leBytes 2 (x.owner.getD 0xFFFF) ++ leBytes 8 x.start
          ++ leBytes 8 e)))) ∧
    (∀ i, transitOf s i = some x →
      (s.pair.role ≠ 2 → x.stop + s.repl.tr.cfg.guard ≤ stMs s → ∃ t, exec (.transitRemoval i) s = .next t ∧ transitOf t i = none ∧
        Reported s t 0xCA03 29 (leBytes 4 i ++ [3] ++ [29] ++ leBytes 2 (x.owner.getD 0xFFFF) ++ leBytes 8 x.start ++ leBytes 8 x.stop)) ∧
      (stMs s < x.stop + s.repl.tr.cfg.guard → exec (.transitRemoval i) s = done s))

/-- Keep-out zones (R421, R425 to R427, R439): a zone that a held transit or claim blocks is refused with its kind; else it is in force at once and
reported, and the reply follows the commit; it leaves by command or a guard time after its end. -/
def Claims.Zones : Prop :=
  ∀ (r : Req) (s : State),
    let z := zoneAsk r
    (Admitted 0x0A06 true r s → r.payload.length = 24 + 8 * u8 r.payload 1 → zeroAt r.payload 2 6 = true →
      within (u8 r.payload 1) 3 16 = true → s.pair.role ≠ 2 →
      (z.start < z.stop → convex z.poly = true → (∃ p ∈ z.poly, ptInRange p = false) ∨ repeats z.poly = true →
        Runs (.trZoneSet r) s (fun t => Same t s ∧ Answered s t r 0x0A06 0x8A07 [])) ∧
      ((∀ p ∈ z.poly, ptInRange p = true) → repeats z.poly = false →
        (z.stop ≤ z.start → convex z.poly = true → Runs (.trZoneSet r) s (fun t => Same t s ∧ Answered s t r 0x0A06 0x8A06 [])) ∧
        (z.start < z.stop → convex z.poly = false → Runs (.trZoneSet r) s (fun t => Same t s ∧ Answered s t r 0x0A06 0x8A08 [])) ∧
        (z.start < z.stop → convex z.poly = true →
          (∀ k, zoneBlocker z s = some k →
            Runs (.trZoneSet r) s (fun t => Same t s ∧ Answered s t r 0x0A06 (0x8A00 + k.kind) (zonePayload (some k)))) ∧
          (zoneBlocker z s = none → Runs (.trZoneSet r) s (fun t => zoneOf t z.index = some z ∧ t.repl.tr.transits = s.repl.tr.transits ∧
            (∀ i, i ≠ z.index → zoneOf t i = zoneOf s i) ∧
            t.pair.decisions = s.pair.decisions ++ [⟨s.tb.gtc, r.master, .answer r 0x0A06 0 (zonePayload none)⟩] ∧
            Reported s t 0xCA05 r.master (leBytes 1 z.index ++ [if zoneOf s z.index = none then 0 else 1] ++ leBytes 1 r.master ++ [0])))))) ∧
    (Admitted 0x0A07 true r s → r.payload.length = 4 → zeroAt r.payload 1 3 = true → s.pair.role ≠ 2 → let i := u8 r.payload 0
      (zoneOf s i = none → Runs (.trZoneRemove r) s (fun t => Same t s ∧ Answered s t r 0x0A07 0x0102 r.payload)) ∧
      (zoneOf s i ≠ none → Runs (.trZoneRemove r) s (fun t => zoneOf t i = none ∧ (∀ k, k ≠ i → zoneOf t k = zoneOf s k) ∧
        t.pair.decisions = s.pair.decisions ++ [⟨s.tb.gtc, r.master, .answer r 0x0A07 0 r.payload⟩] ∧
        Reported s t 0xCA05 r.master (leBytes 1 i ++ [2] ++ leBytes 1 r.master ++ [0])))) ∧
    (∀ i x, zoneOf s i = some x →
      (s.pair.role ≠ 2 → x.stop ≠ openEnd → x.stop + s.repl.tr.cfg.guard ≤ stMs s → ∃ t, exec (.zoneRemoval i) s = .next t ∧
        zoneOf t i = none ∧ Reported s t 0xCA05 29 (leBytes 1 i ++ [3] ++ [0xFF] ++ [0])) ∧
      (stMs s < x.stop + s.repl.tr.cfg.guard → exec (.zoneRemoval i) s = done s))

/-- The settings and queries of group 0x0A (R428, R433, R439, R442): the settings wait for the commit, which puts them in force whole; the
queries change nothing, and TR_GET of an ID that no transit holds is refused with 0x8A09. -/
def Claims.ArbiterSettings : Prop :=
  ∀ (r : Req) (s : State), let c := trConfigOf r.payload
    (Admitted 0x0A08 true r s → r.payload.length = 20 → s.pair.role ≠ 2 → c.clearance ≤ 10000 → c.guard ≤ 60000 → c.margin ≤ 5000 →
      within c.uLimit 50 10000 = true → within c.unknown 200 10000 = true → within c.depCount 1 10 = true → within c.ownerLimit 1 64 = true →
      within c.maxDur 10 86400 = true → within c.horizon 10 86400 = true →
      Runs (.trConfigSet r) s (fun t => Same t (hold r.master (.command 0x0A08 r) s))) ∧
    (Admitted 0x0A09 true r s → r.payload.length = 4 + 4 * u8 r.payload 0 → zeroAt r.payload 1 3 = true → s.pair.role ≠ 2 →
      within (u8 r.payload 0) 1 64 = true → (∀ e ∈ trBerthEntries r.payload, e.2.1 ≤ 2 ∧ e.2.2 ≤ 5000) →
      noRepeat ((trBerthEntries r.payload).map (fun e => e.1)) = true →
      Runs (.trBerthSet r) s (fun t => Same t (hold r.master (.command 0x0A09 r) s))) ∧
    (r.sess = none → (commitTrConfig r s).repl.tr = { s.repl.tr with cfg := c } ∧
      Answered s (commitTrConfig r s) r 0x0A08 (if s.repl.tr.cfg = c then 0x0102 else 0) (trConfigPayload c) ∧
      (∀ e ∈ trBerthEntries r.payload, noRepeat ((trBerthEntries r.payload).map (fun e => e.1)) = true →
        trBerthOf (commitTrBerth r s) e.1 = e.2) ∧
      (∀ b, b ∉ (trBerthEntries r.payload).map (fun e => e.1) → trBerthOf (commitTrBerth r s) b = trBerthOf s b)) ∧
    (Admitted 0x0A04 false r s → r.payload.length = 4 →
      (transitOf s (u32 r.payload 0) = none → Runs (.trGet r) s (fun t => Same t s ∧ Answered s t r 0x0A04 0x8A09 [])) ∧
      (∀ x, transitOf s (u32 r.payload 0) = some x → Runs (.trGet r) s (fun t => Same t s ∧ Answered s t r 0x0A04 0
        (leBytes 4 (u32 r.payload 0) ++ leBytes 2 (x.owner.getD 0xFFFF) ++ leBytes 1 x.source ++ leBytes 1 (transitState x s)
          ++ leBytes 8 x.machine ++ leBytes 8 x.start ++ leBytes 8 x.stop ++ leBytes 4 x.tag ++ leBytes 2 x.half ++ leBytes 1 x.line.length
          ++ [0] ++ pointBytes x.line)))) ∧
    (Admitted 0x0A05 false r s → r.payload.length = 4 → u16 r.payload 2 ≤ 4095 →
      u16 r.payload 0 ≤ 255 ∨ u16 r.payload 0 = 0xFFFF ∨ u16 r.payload 0 = 0xFFFE → Runs (.trList r) s (fun t => Same t s ∧
        ∃ next, Answered s t r 0x0A05 0 (leBytes 2 (min (listed (u16 r.payload 0) (u16 r.payload 2) s).length 256) ++ leBytes 2 next
          ++ ((listed (u16 r.payload 0) (u16 r.payload 2) s).take 256).flatMap (fun t => leBytes 4 (transitId t))))) ∧
    (Admitted 0x0A0A false r s → r.payload = [] → Runs (.trStatus r) s (fun t => Same t s ∧ Answered s t r 0x0A0A 0 (trStatusBytes s)))

/-- The conformance monitor (R430 to R438): the fix that completes the departure count outside every watching transit raises
TRANSIT_DEPARTURE and, with 0x04 armed, puts a spot stop in force; without a known fix for the unknown timeout CONFORMANCE_UNKNOWN
is raised; NAP and mode OFF raise nothing, a STANDBY keeps the state and reports nothing. -/
def Claims.Conformance : Prop :=
  ∀ (b : Nat) (s : State),
    (∀ f : MonFix, f.berth = b → s.pair.role ≠ 2 → (trBerthOf s b).1 ≠ 0 → (∀ e, (conformOf s b).lastEpoch = some e → e < f.epoch) →
      f.state ≠ 0 → f.u ≤ s.repl.tr.cfg.uLimit → watchers b (f.epoch * 50) s ≠ [] →
      (∀ x ∈ watchers b (f.epoch * 50) s, lineWithin f.p x.line (marginOf x f.u s) = false) → (conformOf s b).departed = false →
      s.repl.tr.cfg.depCount ≤ (conformOf s b).outCount + 1 → let t := monitorFix f s
      (conformOf t b).departed = true ∧ (conformOf t b).fix = some f.p ∧
      (∃ rest, Reported s t 0xCA01 29 (leBytes 1 b ++ [1] ++ [0] ++ rest)) ∧
      (bit s.repl.armed 4 = true → (berthOf s b).state ≠ 0 → (spotOf t b).inForce = true ∧ (spotOf t b).cause = 2 ∧
        (spotOf t b).seq = ((spotOf s b).seq + 1) % 65536) ∧
      (bit s.repl.armed 4 = false → t.repl.ecl = s.repl.ecl)) ∧
    (s.pair.role ≠ 2 → s.pwr.state ≠ 2 → (trBerthOf s b).1 ≠ 0 → (conformOf s b).unknown = false →
      within (berthOf s b).state 1 4 = true → watchers b (stMs s) s ≠ [] →
      (unknownDue b true s = true → ∃ t, exec (.conformanceUnknownTimeout b) s = .next t ∧ (conformOf t b).unknown = true ∧
        (∃ rest, Reported s t 0xCA02 29 (leBytes 1 b ++ [1] ++ leBytes 1 (conformOf s b).lastBad ++ rest)) ∧
        (bit s.repl.armed 5 = true → (spotOf t b).inForce = true ∧ (spotOf t b).cause = 3)) ∧
      (unknownDue b true s = false → exec (.conformanceUnknownTimeout b) s = done s)) ∧
    (s.pwr.state = 2 ∨ (trBerthOf s b).1 = 0 → exec (.conformanceUnknownTimeout b) s = done s) ∧
    (s.pair.role = 2 → Runs (.conformanceUnknownTimeout b) s (fun t => Same t { s with trown := t.trown } ∧
      ∀ p, Out.event 0xCA02 29 (gtcBytes s ++ p) ∉ newOuts s t)) ∧
    (∀ id x, transitOf s id = some x → x.owner = some b →
      (watches x b (stMs s) s = true → within (berthOf s b).state 1 4 = true → ∃ t, exec (.watchingStart id) s = .next t ∧
        (conformOf t b).watching = true ∧ ((conformOf s b).watching = false → (conformOf t b).watchSince = s.tb.gtc)) ∧
      (watches x b (stMs s) s = false → exec (.watchingStart id) s = done s))

/-! ### The comet log (chapter 16) -/

/-- A master's window on the log (R573, R574): a cursor write clears READY and begins a load, which ends with READY and the record or with
GONE; the read of word 63 advances; FREEZE ends by itself after 10 s and is reported. -/
def Claims.LogWindow : Prop :=
  ∀ (m : Nat) (s : State), m < s.comet.clw.length →
    let c := clwOf s m
    let set (f : Clw → Clw) : State := { s with comet := { s.comet with clw := modNth s.comet.clw m f } }
    (∀ v, m ≤ 3 → windowUp m s = true → frozen s m = false → exec (.clwCursorWrite m v) s =
      done (set (fun c => { c with cursor := v % 2 ^ 32, ready := false, gone := false, loading := true }))) ∧
    (c.loading = false → exec (.clwLoadComplete m) s = done s) ∧
    (c.loading = true → recordAt s c.area c.cursor = none → exec (.clwLoadComplete m) s =
      done (set (fun c => { c with loading := false, gone := true }))) ∧
    (∀ x, c.loading = true → recordAt s c.area c.cursor = some x → exec (.clwLoadComplete m) s =
      done (set (fun c => { c with loading := false, ready := true, buffer := x }))) ∧
    (m ≤ 3 → windowUp m s = true → frozen s m = false → c.advance = true → exec (.clwDataAdvance m) s =
      done { set (fun y => { y with cursor := (c.cursor + 1) % 2 ^ 32, ready := false, gone := false, loading := true }) with
        outs := s.outs ++ [.value (if c.ready = true then u32 c.buffer 252 else 0)] }) ∧
    (m ≤ 3 → windowUp m s = true → frozen s m = false → c.area ≤ 3 → c.freeze = false → tailFrozen s = false →
      exec (.clwFreezeSet m) s = done { s with comet := { s.comet with
        clw := modNth s.comet.clw m (fun c => { c with freeze := true, freezeAt := s.tb.gtc }), frozenSince := s.tb.gtc } }) ∧
    (c.freeze = true → 10000000000 ≤ sinceNs s c.freezeAt → ∃ t, exec (.clwFreezeExpiry m) s = .next t ∧
      Same t (set (fun c => { c with freeze := false })) ∧
      Reported s t 0xCF01 33 ([1] ++ leBytes 1 m ++ [0, 0] ++ leBytes 4 (newestSeq s))) ∧
    (c.freeze = true → sinceNs s c.freezeAt < 10000000000 → exec (.clwFreezeExpiry m) s = done s)

/-- Recording (R564 to R570, R574): the oldest waiting trigger becomes the newest record of the tail, which keeps 4096, under the next sequence
and a seal over the one before; in MISSION also a record of the nucleus, whose flash write runs; a frozen tail outside MISSION takes
nothing. -/
def Claims.CometRecording : Prop :=
  ∀ (w : Waiting16) (l : List Waiting16) (s : State), s.comet.waiting = w :: l → s.pwr.state ≠ 4 →
    (tailFrozen s = false → ∃ t body, exec .cometRecord s = .next t ∧ t.comet.seq = (s.comet.seq + 1) % 2 ^ 32 ∧
      t.comet.tail = ((s.comet.seq, body ++ sealOf (tailHead s) body) :: s.comet.tail).take 4096 ∧
      body.take 22 = leBytes 8 w.gtc.toNat ++ leBytes 4 s.comet.seq ++ leBytes 4 s.pwr.hours ++ leBytes 4 s.pwr.cycles ++ leBytes 1 w.trig
        ++ leBytes 1 w.source) ∧
    (s.vault.life = 1 → s.comet.general.length < 448 → pinnedTrig w.trig = false → ∃ t body, exec .cometRecord s = .next t ∧
      t.comet.general = s.comet.general ++ [body ++ sealOf (chainHead (nucleusStart s) s.comet.general) body] ∧
      t.comet.pinned = s.comet.pinned ∧ t.pwr.flash = s.pwr.flash ++ [⟨2, none⟩]) ∧
    (s.vault.life = 1 → s.comet.general.length < 448 → s.comet.pinned.length < 64 → pinnedTrig w.trig = true → ∃ t body,
      exec .cometRecord s = .next t ∧
      t.comet.general = s.comet.general ++ [body ++ sealOf (chainHead (nucleusStart s) s.comet.general) body] ∧
      t.comet.pinned = s.comet.pinned ++ [body ++ sealOf (chainHead (nucleusStart s) s.comet.pinned) body] ∧
      t.pwr.flash = s.pwr.flash ++ [⟨2, none⟩, ⟨2, none⟩]) ∧
    (s.vault.life = 1 → s.comet.pinned.length < 64 → pinnedTrig w.trig = true → 448 ≤ s.comet.general.length → ∃ t body,
      exec .cometRecord s = .next t ∧ t.comet.general = s.comet.general ∧
      t.comet.pinned = s.comet.pinned ++ [body ++ sealOf (chainHead (nucleusStart s) s.comet.pinned) body] ∧
      t.pwr.flash = s.pwr.flash ++ [⟨2, none⟩]) ∧
    (s.vault.life ≠ 1 → tailFrozen s = true → ∃ t, exec .cometRecord s = .next t ∧ t.comet.tail = s.comet.tail ∧
      t.comet.general = s.comet.general ∧ t.comet.pinned = s.comet.pinned ∧ t.comet.seq = s.comet.seq)

/-- Flash and the flush (R570 to R572, R574): a nucleus write ends; PFAIL_N ends every freeze and begins to write the newest 256 records,
oldest first, to the area that does not hold the valid block, without its valid mark; the completed flush is marked valid. -/
def Claims.CometFlash : Prop :=
  (∀ (pre rest : List FlashJob) (j : FlashJob) (s : State), s.pwr.flash = pre ++ j :: rest → j.kind = 2 → (∀ x ∈ pre, x.kind ≠ 2) →
    exec .nucleusWriteComplete s = done (sleepStep { s with pwr := { s.pwr with flash := pre ++ rest } }) ∧
    ∃ t, exec .nucleusWriteComplete s = .next t ∧ t.pwr.flash = pre ++ rest) ∧
  (∀ (s : State), (∀ x ∈ s.pwr.flash, x.kind ≠ 2) → exec .nucleusWriteComplete s = done (sleepStep s)) ∧
  (∀ (s : State), s.comet.waiting = [] ∨ s.pwr.state = 4 → exec .cometRecord s = done s) ∧
  (∀ (s : State), s.pwr.state = 4 → exec .pfailNFall s = done s) ∧
  (∀ (s : State), s.pwr.state ≠ 4 → s.comet.flushing ≠ none →
    exec .pfailNFall s = done (recordPfail (recordAll (endFreezes { s with pins := { s.pins with pfailN := false } })))) ∧
  (∀ (s : State), s.pwr.state ≠ 4 → s.comet.flushing = none → s.comet.areas.length = 2 → ∃ t a, exec .pfailNFall s = .next t ∧
    t.pins.pfailN = false ∧ (∀ c ∈ t.comet.clw, c.freeze = false) ∧ t.comet.flushing = some (flushTarget s) ∧
    (s.pwr.state = 3 → bit t.pwr.powered 11 = true) ∧ t.comet.areas[flushTarget s]? = some a ∧ a.valid = false ∧ a.count = s.pwr.cycles ∧
    a.records = ((t.comet.tail.take 256).reverse).map (fun x => x.2)) ∧
  (∀ (i : Nat) (s : State), s.comet.flushing = some i → exec .flushComplete s = done { s with
    comet := { s.comet with areas := modNth s.comet.areas i (fun a => { a with valid := true }), flushing := none }
    pwr := { s.pwr with powered := if s.pwr.state = 3 then putBit s.pwr.powered 11 false else s.pwr.powered } }) ∧
  (∀ (s : State), s.comet.flushing = none → exec .flushComplete s = done s)

/-- The commands of group 0x0F (R566, R567, R569, R576): CL_TRIGGER_SET sets one trigger, refusing a value that the catalogue does not hold with
0x8F02; the reads change nothing, and a record that is not held is refused with 0x8F01; CL_MARK fires its trigger; CL_ATTEST signs both
chain heads. -/
def Claims.CometCommands : Prop :=
  ∀ (r : Req) (s : State), let i := u8 r.payload 0
    (Admitted 0x0F01 true r s → r.payload.length = 4 + u8 r.payload 2 → u8 r.payload 1 ≤ 1 → zeroAt r.payload 3 1 = true → i ≤ 63 →
      u8 r.payload 2 ≤ 40 → let ids := (List.range (u8 r.payload 2)).map (fun k => u8 r.payload (4 + k))
      let x : TrigSet := ⟨bit (u8 r.payload 1) 0, ids⟩
      noRepeat ids = true →
      ((∃ k ∈ ids, catalogued k = false) → Runs (.clTriggerSet r) s (fun t => Same t s ∧ Answered s t r 0x0F01 0x8F02 [])) ∧
      ((∀ k ∈ ids, catalogued k = true) → Runs (.clTriggerSet r) s (fun t => trigSet t i = x ∧ (∀ k, k ≠ i → trigSet t k = trigSet s k) ∧
        Same t { s with comet := { s.comet with trigs := t.comet.trigs } } ∧
        Answered s t r 0x0F01 (if trigSet s i = x then 0x0102 else 0) []))) ∧
    (Admitted 0x0F01 true r s → r.payload.length = 4 ∨ r.payload.length = 4 + u8 r.payload 2 → within (u8 r.payload 1) 2 3 = true →
      zeroAt r.payload 3 1 = true → i ≤ 63 → let x : TrigSet := ⟨bit (u8 r.payload 1) 0, defaultSelection⟩
      Runs (.clTriggerSet r) s (fun t => trigSet t i = x ∧ (∀ k, k ≠ i → trigSet t k = trigSet s k) ∧
        Same t { s with comet := { s.comet with trigs := t.comet.trigs } } ∧
        Answered s t r 0x0F01 (if trigSet s i = x then 0x0102 else 0) [])) ∧
    (Admitted 0x0F02 false r s → r.payload.length = 1 → i ≤ 63 →
      Runs (.clTriggerGet r) s (fun t => Same t s ∧ Answered s t r 0x0F02 0 (trigBytes s i))) ∧
    (Admitted 0x0F03 false r s → r.payload = [] → Runs (.clStatus r) s (fun t => Same t s ∧ Answered s t r 0x0F03 0
      (leBytes 4 (newestSeq s) ++ leBytes 4 (oldestSeq s) ++ leBytes 2 s.comet.general.length ++ leBytes 1 s.comet.pinned.length
        ++ leBytes 1 (bitsOf [tailFrozen s, s.comet.validArea.isSome, s.comet.lastFailed]) ++ leBytes 4 s.comet.missed
        ++ leBytes 4 s.pwr.cycles ++ leBytes 4 s.pwr.hours ++ leBytes 8 (bitsOf ((List.range 64).map (fun t => (trigSet s t).enabled)))))) ∧
    (Admitted 0x0F04 false r s → r.payload.length = 8 → zeroAt r.payload 2 2 = true → i ≤ 2 → within (u8 r.payload 1) 1 15 = true →
      (recordAt s i (u32 r.payload 4) = none → Runs (.clRead r) s (fun t => Same t s ∧ Answered s t r 0x0F04 0x8F01 [])) ∧
      (recordAt s i (u32 r.payload 4) ≠ none → let l := recordsFrom s i (u32 r.payload 4) (u8 r.payload 1)
        Runs (.clRead r) s (fun t => Same t s ∧ Answered s t r 0x0F04 0 (leBytes 2 l.length ++ [0, 0] ++ l.flatten)))) ∧
    (Admitted 0x0F05 false r s → r.payload.length = 36 → zeroAt r.payload 1 3 = true → i = 0 ∨ within i 60 63 = true →
      (tailFrozen s = false → (trigSet s i).enabled = true → s.comet.waiting.length < 16 → Runs (.clMark r) s (fun t => Same t s ∧
        ⟨i, s.tb.gtc, r.master, sub r.payload 4 32, none⟩ ∈ t.comet.waiting ∧
        Answered s t r 0x0F05 0 (leBytes 4 ((s.comet.seq + s.comet.waiting.length) % 2 ^ 32)))) ∧
      ((trigSet s i).enabled = false ∨ 16 ≤ s.comet.waiting.length ∨ tailFrozen s = true → Runs (.clMark r) s (fun t => Same t s ∧ Answered s t r 0x0F05 0 (leBytes 4 0xFFFFFFFF)))) ∧
    (Admitted 0x0F06 false r s → r.payload.length = 16 →
      let b := leBytes 2 s.comet.general.length ++ leBytes 1 s.comet.pinned.length ++ [0] ++ nucleusHead s ++ leBytes 4 (newestSeq s)
        ++ tailHead s
      Runs (.clAttest r) s (fun t => Same t (useKey attestHandle { s with free := s.free + 1 }) ∧
        Answered s t r 0x0F06 0 (b ++ ecdsaSign 384 s.free (material s attestHandle) (sha384 (b ++ r.payload)))))

/-! ### The dispatcher and the pack ledger (chapter 12) -/

/-- The setting commands of group 0x0B (R444, R447, R448, R450, R456, R465, R467, R469, R471): what the state does not allow is refused by the code
of Table 12-6 and changes nothing; the rest waits for the commit. -/
def Claims.DispatcherHeld : Prop :=
  ∀ (r : Req) (s : State), s.pair.role ≠ 2 → let p := r.payload
    let id := u32 p 0
    (Admitted 0x0B01 true r s → p.length = 32 + 8 * u8 p 5 + u16 p 26 → u8 p 1 < 8 → u8 p 0 ≤ 63 → u8 p 4 ≤ 15 ∨ u8 p 4 = 0xFF →
      u32 p 8 ≤ s.repl.tr.cfg.horizon * 1000 → 1000 ≤ u32 p 12 → u16 p 24 ≤ 65534 → u16 p 26 ≤ 512 →
      within (u16 p 6) 50 65000 = true →
      let ok := lineValid (pointsOf p 32 (u8 p 5)) = true ∧ (bit (u8 p 1) 1 = true → u8 p 5 ≤ 15) ∧
        u32 p 12 ≤ s.repl.tr.cfg.maxDur * 1000
      (ok → 8192 ≤ s.repl.dp.tasks.length → Runs (.dpTaskAdd r) s (fun t => Same t s ∧ Answered s t r 0x0B01 0x8B01 [])) ∧
      (¬ ok → s.repl.dp.tasks.length < 8192 → Runs (.dpTaskAdd r) s (fun t => Same t s ∧ Answered s t r 0x0B01 0x8B05 [])) ∧
      (ok → s.repl.dp.tasks.length < 8192 → Runs (.dpTaskAdd r) s (fun t => Same t (hold r.master (.command 0x0B01 r) s)))) ∧
    (Admitted 0x0B02 true r s → p.length = 4 →
      (taskOf s id = none → Runs (.dpTaskReady r) s (fun t => Same t s ∧ Answered s t r 0x0B02 0x8B02 [])) ∧
      (∀ x, taskOf s id = some x →
        (x.state ≠ 1 → Runs (.dpTaskReady r) s (fun t => Same t s ∧ Answered s t r 0x0B02 0x8B03 [])) ∧
        (x.state = 1 → Runs (.dpTaskReady r) s (fun t => Same t (hold r.master (.command 0x0B02 r) s))))) ∧
    (Admitted 0x0B03 true r s → p.length = 4 →
      (taskOf s id = none → Runs (.dpTaskCancel r) s (fun t => Same t s ∧ Answered s t r 0x0B03 0x8B02 [])) ∧
      (∀ x, taskOf s id = some x → Runs (.dpTaskCancel r) s (fun t => Same t (hold r.master (.cancel r id (cancelPayload x)) s)))) ∧
    (Admitted 0x0B05 true r s → p.length = 4 → zeroAt p 3 1 = true → 1 ≤ u8 p 0 → u8 p 1 ≤ 50 → within (u8 p 2) 1 16 = true →
      Runs (.dpConfigSet r) s (fun t => Same t (hold r.master (.command 0x0B05 r) s))) ∧
    (Admitted 0x0B06 true r s → p.length = 4 + 8 * u8 p 0 → within (u8 p 0) 1 64 = true → zeroAt p 1 3 = true →
      (∀ i, i < u8 p 0 → u8 p (5 + 8 * i) < 4 ∧ zeroAt p (10 + 8 * i) 2 = true) → noRepeat ((dpBerthEntries p).map (fun e => e.1)) = true →
      Runs (.dpBerthSet r) s (fun t => Same t (hold r.master (.command 0x0B06 r) s))) ∧
    (Admitted 0x0B09 true r s → p.length = 4 + 24 * u8 p 0 → within (u8 p 0) 1 32 = true → zeroAt p 1 3 = true →
      (∀ i, i < u8 p 0 → zeroAt p (7 + 24 * i) 1 = true ∧ zeroAt p (18 + 24 * i) 2 = true) →
      (∀ a ∈ packAsks p, (a.index ≤ 1023 ∨ a.index = 0xFFFF) ∧ a.action ≤ 4 ∧
        (a.action = 0 → within a.ident 1 (2 ^ 64 - 2) = true ∧ within a.rated 1 65534 = true ∧ within a.life 1 1000000 = true)) →
      noRepeat (((packAsks p).filter (fun a => a.index != 0xFFFF)).map (fun a => a.index)) = true →
      let st := (packApplyAll (packAsks p) s.repl.dp.packs []).1
      (u8 p 0 = 1 → u8 p 6 ≠ 0 → (∀ k ∈ s.repl.dp.packs, k.index ≠ u16 p 4) → st = 0x8B07) ∧
      (st ≠ 0 → Runs (.dpPackSet r) s (fun t => Same t s ∧ Answered s t r 0x0B09 st [])) ∧
      (st = 0 → Runs (.dpPackSet r) s (fun t => Same t (hold r.master (.command 0x0B09 r) s)))) ∧
    (Admitted 0x0B0A true r s → p.length = 4 → zeroAt p 1 1 = true → u16 p 2 = 0xFFFF →
      Runs (.dpPackBind r) s (fun t => Same t (hold r.master (.command 0x0B0A r) s))) ∧
    (Admitted 0x0B0A true r s → p.length = 4 → zeroAt p 1 1 = true → u16 p 2 ≤ 1023 →
      (packOf s (u16 p 2) = none → Runs (.dpPackBind r) s (fun t => Same t s ∧ Answered s t r 0x0B0A 0x8B07 [])) ∧
      (∀ k, packOf s (u16 p 2) = some k →
        (k.berth ≠ none → k.berth ≠ some (u8 p 0) → Runs (.dpPackBind r) s (fun t => Same t s ∧ Answered s t r 0x0B0A 0x8B08 [])) ∧
        (k.berth = none ∨ k.berth = some (u8 p 0) → Runs (.dpPackBind r) s (fun t => Same t (hold r.master (.command 0x0B0A r) s)))))

/-- The commits of tasks (R444, R445, R448, R461, R465): a new task is HELD or READY, DP_TASK_READY puts it into ready order under the GTC of the
decision, a cancel takes it out and sends a cancel to the machine that has it; each change is reported. -/
def Claims.TaskCommits : Prop :=
  ∀ (r : Req) (s : State), r.sess = none → let id := u32 r.payload 0
    let tells (t : State) (x : Task) (old new cause : Nat) : Prop := Reported s t 0xCB01 30 (leBytes 4 (taskId x) ++ leBytes 1 old ++ leBytes 1 new
      ++ leBytes 1 cause ++ leBytes 1 x.level ++ leBytes 2 (x.berth.getD 0xFFFF) ++ [0, 0] ++ leBytes 4 x.transit ++ leBytes 4 x.tag)
    (∀ g, s.repl.dp.tasks.length < 8192 → let t := commitTaskAdd r g s
      ∃ x, t.repl.dp.tasks = s.repl.dp.tasks ++ [x] ∧ x = taskAdd r.payload x.slot x.gen g r.master ∧ tells t x 0 x.state 0 ∧
        Answered s t r 0x0B01 0 (leBytes 4 (taskId x) ++ leBytes 1 x.state ++ [0, 0, 0] ++ leBytes 8 x.ready.toNat)) ∧
    (∀ g x, taskOf s id = some x → x.state = 1 → let t := commitTaskReady r g false s
      taskOf t id = some { x with state := 2, ready := g, readySource := r.master } ∧ tells t x 1 2 0 ∧
      Answered s t r 0x0B02 0 (leBytes 4 id ++ [0, 0, 0, 0] ++ leBytes 8 g.toNat)) ∧
    (∀ g, Same (commitTaskReady r g true s) s ∧ Answered s (commitTaskReady r g true s) r 0x0B02 0x8B04 []) ∧
    (∀ p x, taskOf s id = some x → let t := commitCancel r id p s
      taskOf t id = none ∧ Answered s t r 0x0B03 0 p ∧ (x.state = 1 → tells t x 1 7 0) ∧
      (∀ b, x.berth = some b → x.state = 3 ∨ x.state = 4 → tells t x x.state 7 0 ∧
        ∃ f ∈ (berthOf t b).queue, f.ftype = 5 ∧ f.kind = 1 ∧ f.seq = id))

/-- The commits of an assignment's life (R454, R460 to R462): the task becomes ASSIGNED, its TASK frame may go on air, then ACTIVE; at a terminal
change it leaves its slot and is counted. -/
def Claims.AssignmentCommits : Prop :=
  ∀ (id : Nat) (x : Task) (s : State), taskOf s id = some x →
    let tells (t : State) (old new cause : Nat) : Prop := Reported s t 0xCB01 30 (leBytes 4 id ++ leBytes 1 old ++ leBytes 1 new ++ leBytes 1 cause
      ++ leBytes 1 x.level ++ leBytes 2 (x.berth.getD 0xFFFF) ++ [0, 0] ++ leBytes 4 x.transit ++ leBytes 4 x.tag)
    (∀ b y, x.state = 2 → x.berth = some b → transitOf s x.transit = some y → let t := commitAssign id b s
      taskOf t id = some { x with state := 3, commitSt := stMs s } ∧ tells t 2 3 1 ∧
      ⟨5, 0, id, taskBody x y, s.tb.gtc, 0, true, [], 0, true⟩ ∈ (berthOf t b).queue) ∧
    (x.state = 3 → taskOf (commitTaskActive id s) id = some { x with state := 4 } ∧ tells (commitTaskActive id s) 3 4 2) ∧
    (∀ st cause, let t := commitTaskEnd id st cause s
      taskOf t id = none ∧ tells t x.state st cause ∧
      (∀ b, x.berth = some b → (dpCountOf t b).completed = (if st = 5 then min ((dpCountOf s b).completed + 1) (2 ^ 32 - 1) else (dpCountOf s b).completed) ∧
        (dpCountOf t b).failed = (if st = 6 ∨ st = 9 then min ((dpCountOf s b).failed + 1) (2 ^ 32 - 1) else (dpCountOf s b).failed)))

/-- Selection and the dispatcher's timers (R449, R451, R452, R470): no pass runs outside SERVE, in Eclipse, in NAP or on a STANDBY, and then
only the claims of blocked levels follow; a task is
granted only to a berth for which it is eligible, once per space count, within the requests of the pass; a deadline that has passed
ends a waiting task; the counters follow each second. -/
def Claims.SelectionAndTimers : Prop :=
  (∀ s : State, s.pair.role = 2 ∨ s.modes.radio ≠ 2 ∨ eclShown s ≠ 0 ∨ 2 ≤ s.pwr.state → selectionPass s = claimsFollow s) ∧
  (∀ s : State, s.pair.role = 2 ∨ (∀ v ∈ s.repl.dp.levels, v.blocked = false) → claimsFollow s = s) ∧
  (∀ (b : Nat) (head : Option Nat) (p : PassSt) (x : Task), p.granted = false → (passTask b head p x).granted = true →
    eligible x b p.s = true ∧ triedNow x b p.s = false ∧ pastDeadline x p.s = false ∧ p.budget ≠ 0 ∧
    ((levelOf p.s x.level).blocked = true → head = some (taskId x)) ∧
    ((levelOf p.s x.level).claimBerth = none ∨ (levelOf p.s x.level).claimBerth = some b)) ∧
  (∀ (id : Nat) (x : Task) (s : State), taskOf s id = some x → s.pair.role ≠ 2 → x.ending = false →
    (x.state = 1 ∨ x.state = 2 ∧ x.berth = none → x.deadline ≠ 0 → x.deadline < stMs s → ∃ t, exec (.taskDeadline id) s = .next t ∧
      taskOf t id = some { x with ending := true } ∧ t.pair.decisions = s.pair.decisions ++ [⟨s.tb.gtc, 30, .taskEnd x.slot x.gen 8 3⟩]) ∧
    (stMs s ≤ x.deadline ∨ x.deadline = 0 ∨ x.state = 3 ∨ x.state = 4 → exec (.taskDeadline id) s = done s)) ∧
  (∀ (b : Nat) (s : State), b < 256 → look s.repl.mac.berths b ≠ none ∨ look s.repl.dp.berths b ≠ none ∨ look s.dpown.berths b ≠ none → ∃ t, exec .dpCountersUpdate s = .next t ∧
    Same t { s with dpown := t.dpown } ∧ (dpCountOf t b).depth = min (eligibleDepth b s) 8192 ∧
    (dpCountOf t b).busy = ((busyTask s b).isSome :: (dpCountOf s b).busy).take 3600 ∧
    (dpCountOf t b).load = [60, 600, 3600].map (share (dpCountOf t b).busy) ∧ (dpCountOf t b).hist = (dpCountOf s b).hist) ∧
  (∀ s : State, ∃ t, exec .dpCountersUpdate s = .next t ∧ t.dpown.depths = (List.range 64).map (fun l => (readyTasks s l).length))

/-- The commits of the dispatcher's settings (R450, R456, R467, R469, R471): the values named are in force, a pack is bound to one berth, and a
change of the ledger is written to flash. -/
def Claims.DispatcherCommits : Prop :=
  ∀ (r : Req) (s : State), r.sess = none → let p := r.payload
    (let u := { s with repl := { s.repl with dp := { s.repl.dp with bypassLimit := u8 p 0, reserve := u8 p 1, perPass := u8 p 2 } } }
      let same := s.repl.dp.bypassLimit = u8 p 0 ∧ s.repl.dp.reserve = u8 p 1 ∧ s.repl.dp.perPass = u8 p 2
      Answered s (commitDpConfig r s) r 0x0B05 (if same then 0x0102 else 0) p ∧
      ((∀ l, l < 64 → (levelOf s l).blocked = true ∨ headOf s l = none ∨ (levelOf s l).bypass < u8 p 0) → Same (commitDpConfig r s) u) ∧
      (commitDpConfig r s).repl.dp.bypassLimit = u8 p 0 ∧ (commitDpConfig r s).repl.dp.reserve = u8 p 1 ∧
      (commitDpConfig r s).repl.dp.perPass = u8 p 2 ∧
      (∀ l, l < 64 → l < s.repl.dp.levels.length → headOf s l ≠ none → u8 p 0 ≤ (levelOf s l).bypass →
        (levelOf (commitDpConfig r s) l).blocked = true)) ∧
    (u8 p 0 = 1 → let t := commitDpBerth r s
      let b := u8 p 4
      dpBerthOf t b = { dpBerthOf s b with available := bit (u8 p 5) 0, autoBind := bit (u8 p 5) 1, caps := u16 p 6, areas := u16 p 8 } ∧
      (∀ k, k ≠ b → dpBerthOf t k = dpBerthOf s k) ∧ ∃ st, Answered s t r 0x0B06 st p) ∧
    (let a := packApplyAll (packAsks p) s.repl.dp.packs []
     (a.1 ≠ 0 → Same (commitPackSet r s) s ∧ Answered s (commitPackSet r s) r 0x0B09 a.1 []) ∧
     (a.1 = 0 → (commitPackSet r s).repl.dp.packs = a.2.1 ∧ (commitPackSet r s).pwr.flash = s.pwr.flash ++ [⟨3, none⟩] ∧
        Answered s (commitPackSet r s) r 0x0B09 0 (leBytes 2 a.2.1.length ++ [0, 0] ++ a.2.2.flatMap (leBytes 2)))) ∧
    (let i := u16 p 2
      let b := u8 p 0
      let t := commitPackBind r s
      (∀ k, i ≠ 0xFFFF → packOf s i = some k → k.berth = none → boundPack s b = none →
        packOf t i = some { k with berth := some b } ∧ Answered s t r 0x0B0A 0 p ∧
        Reported s t 0xCB03 30 (leBytes 2 i ++ [2] ++ leBytes 1 b ++ leBytes 4 k.cycles ++ leBytes 8 k.ident)) ∧
      (∀ k k0, i ≠ 0xFFFF → packOf s i = some k → k.berth = none → boundPack s b = some k0 → k0.index ≠ i →
        packOf t i = some { k with berth := some b } ∧ Answered s t r 0x0B0A 0 p ∧
        Reported s t 0xCB03 30 (leBytes 2 k0.index ++ [3] ++ leBytes 1 b ++ leBytes 4 k0.cycles ++ leBytes 8 k0.ident) ∧
        Reported s t 0xCB03 30 (leBytes 2 i ++ [2] ++ leBytes 1 b ++ leBytes 4 k.cycles ++ leBytes 8 k.ident)) ∧
      (∀ k, i = 0xFFFF → boundPack s b = some k → (packOf s k.index = some k → packOf t k.index = some { k with berth := none }) ∧
        Answered s t r 0x0B0A 0 p ∧
        Reported s t 0xCB03 30 (leBytes 2 k.index ++ [3] ++ leBytes 1 b ++ leBytes 4 k.cycles ++ leBytes 8 k.ident)))

/-- The queries of group 0x0B change nothing (R473); an ID that no task holds is refused with 0x8B02. -/
def Claims.DispatcherQueries : Prop :=
  ∀ (r : Req) (s : State), let p := r.payload
    (Admitted 0x0B04 false r s → p.length = 4 →
      (taskOf s (u32 p 0) = none → Runs (.dpTaskGet r) s (fun t => Same t s ∧ Answered s t r 0x0B04 0x8B02 [])) ∧
      (∀ x, taskOf s (u32 p 0) = some x → Runs (.dpTaskGet r) s (fun t => Same t s ∧
        let pend := x.state = 2 ∧ x.berth.isSome = true
        Answered s t r 0x0B04 0 (leBytes 4 (u32 p 0) ++ leBytes 1 x.state ++ leBytes 1 x.bypasses
          ++ leBytes 2 (if pend then 0xFFFF else x.berth.getD 0xFFFF) ++ leBytes 8 x.ready.toNat ++ leBytes 1 x.readySource ++ zeros 3
          ++ leBytes 4 (if pend then 0 else x.transit) ++ leBytes 8 x.commitSt ++ zeros 8 ++ leBytes 1 x.level ++ leBytes 1 x.flags
          ++ leBytes 2 x.caps ++ leBytes 1 x.area ++ leBytes 1 x.line.length ++ leBytes 2 x.half ++ leBytes 4 x.offset
          ++ leBytes 4 x.duration ++ leBytes 8 x.deadline ++ leBytes 2 x.energy ++ leBytes 2 x.payload.length ++ leBytes 4 x.tag
          ++ pointBytes x.line ++ x.payload)))) ∧
    (Admitted 0x0B07 false r s → p.length = 4 → zeroAt p 1 3 = true → Runs (.dpBerthGet r) s (fun t =>
      Same t { s with free := s.free + 1 } ∧ let c := dpCountOf s (u8 p 0)
      ∃ v : Int, (∀ a, available s (u8 p 0) = some a → v = a / 100) ∧ Answered s t r 0x0B07 0 (leBytes 1 (u8 p 0)
        ++ leBytes 1 (bitsOf [isIdle s (u8 p 0) (dpBerthOf s (u8 p 0)), (dpBerthOf s (u8 p 0)).available, (berthOf s (u8 p 0)).resting,
          (spotOf s (u8 p 0)).inForce, (List.range 64).any (fun l => (levelOf s l).claimBerth == some (u8 p 0))])
        ++ leBytes 2 c.depth ++ leBytes 4 (((busyTask s (u8 p 0)).map taskId).getD 0)
        ++ leBytes 2 (((boundPack s (u8 p 0)).map (fun k => k.index)).getD 0xFFFF) ++ [0, 0] ++ leInt 4 v
        ++ c.load.flatMap (leBytes 2) ++ [0, 0] ++ c.hist.flatMap (leBytes 4) ++ leBytes 4 c.completed ++ leBytes 4 c.failed))) ∧
    (Admitted 0x0B08 false r s → p = [] → Runs (.dpLevelGet r) s (fun t => Same t s ∧
      Answered s t r 0x0B08 0 ((List.range 64).flatMap (fun l => leBytes 2 (nth s.dpown.depths l 0) ++ leBytes 1 (levelOf s l).bypass
        ++ leBytes 1 (bitsOf [(levelOf s l).blocked, (levelOf s l).claim, (levelOf s l).refusedZone])
        ++ leBytes 4 (((headOf s l).map (fun t => min (sinceNs s t.ready / 1000000) 0xFFFFFFFF)).getD 0)
        ++ leBytes 4 (((headOf s l).map taskId).getD 0) ++ leBytes 2 ((levelOf s l).claimBerth.getD 0xFFFF) ++ [0, 0])))) ∧
    (Admitted 0x0B0B false r s → p.length = 4 → within (u16 p 2) 1 64 = true → u16 p 0 + u16 p 2 ≤ 1024 → Runs (.dpPackGet r) s (fun t =>
      Same t s ∧ Answered s t r 0x0B0B 0 ((List.range (u16 p 2)).flatMap (fun j => packBytes (u16 p 0 + j) s)))) ∧
    (Admitted 0x0B0C false r s → p = [] → Runs (.dpStatus r) s (fun t => Same t s ∧ Answered s t r 0x0B0C 0 (dpStatusBytes s)))

/-! ### The pair (chapter 13) -/

/-- What becomes of a link message (R476, R478): without PD_PAIR, with the link down, of another type or with a wrong CRC nothing happens, nor
does anything at the second copy; a failed tag, or a message before the exchange of LINK_HELLO, is counted and dropped; the rest is
acted on. -/
def Claims.LinkMessages : Prop :=
  (∀ (ty : Nat) (m : LinkMsg) (s : State),
    let there := domOn s 12 = true ∧ s.pair.link ≠ 0 ∧ linkFramed ty m = true
    let proved := (s.pair.link = 1 ∨ s.pair.link = 2) ∧ linkTagOk (linkKeyNow s) m = true ∧ s.pair.helloed = true
    (¬ there → linkVerdict ty m s = 0) ∧ (there → ¬ proved → linkVerdict ty m s = 1) ∧
    (there → proved → linkVerdict ty m s = if m.seq ∈ s.pair.seqSeen then 0 else 2) ∧
    (linkFramed ty m = true ↔ m.type = ty ∧ m.payload.length ≤ 8192 ∧ m.crc = crc32c (leBytes 1 m.type ++ leBytes 1 m.flags
      ++ leBytes 2 m.payload.length ++ leBytes 4 m.cycle ++ leBytes 4 m.seq ++ leBytes 8 m.gtc.toNat ++ m.payload))) ∧
  (∀ (m : LinkMsg) (size : Nat) (content : Repl) (s : State), ∀ x ∈ [(2, Instr.pairRenewRx m), (3, .pairDeltaRx m size content), (4, .pairAckRx m),
      (5, .pairDigestRx m), (6, .pairFixsumRx m), (7, .pairEclipseMsgRx m), (8, .pairTriggerMsgRx m), (9, .pairEfbexRx m),
      (10, .pairFullRx m content), (11, .pairLeaveRx m), (12, .pairHandoverRx m)],
    (linkVerdict x.1 m s = 0 → exec x.2 s = done s) ∧
    (linkVerdict x.1 m s = 1 → x.1 ≠ 7 → x.1 ≠ 8 →
      exec x.2 s = done { s with pair := { s.pair with tagDrops := min (s.pair.tagDrops + 1) (2 ^ 32 - 1) } }))

/-- The commands of group 0x0C (R479, R482, R499, R504, R505): the queries and refusals of Table 13-10, entry into PAIR from SOLO outside SERVE as
STANDBY with 0x0D armed, and the return to SOLO. -/
def Claims.PairCommands : Prop :=
  ∀ (r : Req) (s : State), let p := r.payload
    (Admitted 0x0C02 false r s → p = [] → Runs (.pairGet r) s (fun t => Same t s ∧ Answered s t r 0x0C02 0 (pairGetBytes s))) ∧
    (Admitted 0x0C03 true r s → p = [] → let good := ∃ x, s.pair.partner = some x ∧ x.qualified = true
      (s.pair.role ≠ 1 → Runs (.pairSwitchover r) s (fun t => Same t s ∧ Answered s t r 0x0C03 0x2004 [])) ∧
      (s.pair.role = 1 → s.pair.switchover = none → linkUp s = false →
        Runs (.pairSwitchover r) s (fun t => Same t s ∧ Answered s t r 0x0C03 0x8C01 [])) ∧
      (s.pair.role = 1 → s.pair.switchover = none → linkUp s = true → ¬ good →
        Runs (.pairSwitchover r) s (fun t => Same t s ∧ Answered s t r 0x0C03 0x8C02 [])) ∧
      (s.pair.role = 1 → s.pair.switchover ≠ none → linkUp s = true → good →
        Runs (.pairSwitchover r) s (fun t => Same t s ∧ Answered s t r 0x0C03 0x2003 [])) ∧
      (s.pair.role = 1 → s.pair.switchover = none → linkUp s = true → good → Runs (.pairSwitchover r) s (fun t =>
        ∃ n, airTime s + 2 * (s.repl.cycleT * 250000) ≤ n * 250000 ∧ Same t { s with pair := { s.pair with switchover := some (n, r) } }))) ∧
    (Admitted 0x0C04 true r s → p = [] →
      (s.pair.role = 0 → Runs (.pairResync r) s (fun t => Same t s ∧ Answered s t r 0x0C04 0x2004 [])) ∧
      (s.pair.role ≠ 0 → linkUp s = false → Runs (.pairResync r) s (fun t => Same t s ∧ Answered s t r 0x0C04 0x8C01 [])) ∧
      (s.pair.role = 1 → linkUp s = true → Runs (.pairResync r) s (fun t => Same t s ∧
        Answered s t r 0x0C04 0 (leBytes 4 s.pair.cycle) ∧
        (s.pair.helloed = true → (linkKeyNow s).isSome = true → Out.delta s.pair.lastCommitted true (s.pair.committed.getD s.repl) ∈ newOuts s t))) ∧
      (s.pair.role = 2 → linkUp s = true → Runs (.pairResync r) s (fun t => Answered s t r 0x0C04 0 (leBytes 4 s.pair.cycle) ∧
        t.pair.qualified = false ∧ t.pair.fullDone = false ∧ t.pair.fullRunning = true))) ∧
    (Admitted 0x0C01 true r s → p.length = 12 → u8 p 0 ≤ 1 → u8 p 1 ≤ 1 → within (u16 p 2) 20 200 = true → 10 ≤ u16 p 4 →
      4 * u16 p 4 ≤ 5 * u16 p 2 → within (u16 p 6) 10 600 = true → within (u32 p 8) 100 1000000 = true → s.pair.role = 0 → s.pair.mode = 0 →
      let short := leaseShort s.repl.mac.cfg.lease s.repl.mac.cfg.l (u16 p 2) = true
      (u8 p 0 = 1 → s.vault.life ≠ 1 → ¬ short → partnerActive s = false →
        Runs (.pairConfigSet r) s (fun t => Same t s ∧ Answered s t r 0x0C01 0x2001 [])) ∧
      (u8 p 0 = 1 → s.vault.life = 1 → short → partnerActive s = false →
        Runs (.pairConfigSet r) s (fun t => Same t s ∧ Answered s t r 0x0C01 0x8C03 [])) ∧
      (u8 p 0 = 1 → s.vault.life = 1 → ¬ short → partnerActive s = true → s.modes.radio = 2 →
        Runs (.pairConfigSet r) s (fun t => Same t s ∧ Answered s t r 0x0C01 0x8C04 [])) ∧
      (u8 p 0 = 1 → s.vault.life = 1 → ¬ short → s.modes.radio ≠ 2 → Runs (.pairConfigSet r) s (fun t => t.pair.mode = 1 ∧
        t.pair.role = 2 ∧ t.pair.qualified = false ∧ bit t.repl.armed 13 = true ∧ t.repl.cycleT = u16 p 2 ∧ t.repl.ackLimit = u16 p 4 ∧
        Reported s t 0xCC02 4 ([0, 2, 0, 0] ++ leBytes 8 (partnerId s)))) ∧
      (u8 p 0 = 1 → s.vault.life = 1 → ¬ short → partnerActive s = false → s.modes.radio = 2 → Runs (.pairConfigSet r) s (fun t =>
        t.pair.mode = 1 ∧ t.pair.role = 1 ∧ bit t.repl.armed 13 = true ∧ t.repl.cycleT = u16 p 2 ∧ t.repl.ackLimit = u16 p 4 ∧
        Reported s t 0xCC02 4 ([0, 1, 0, 0] ++ leBytes 8 (partnerId s)))) ∧
      (u8 p 0 = 0 → Runs (.pairConfigSet r) s (fun t => Same t { s with
        repl := { s.repl with cycleT := u16 p 2, ackLimit := u16 p 4 }
        pair := { s.pair with airEvidence := bit (u8 p 1) 0, joinWait := u16 p 6, timeTh := u32 p 8 } } ∧
        ∃ st, Answered s t r 0x0C01 st (p ++ leBytes 1 0 ++ leBytes 1 s.pair.link ++ [0, 0])))) ∧
    (Admitted 0x0C01 true r s → p.length = 12 → u8 p 0 = 0 → u8 p 1 ≤ 1 → u16 p 2 = s.repl.cycleT → u16 p 4 = s.repl.ackLimit →
      within (u16 p 2) 20 200 = true → 10 ≤ u16 p 4 → 4 * u16 p 4 ≤ 5 * u16 p 2 → within (u16 p 6) 10 600 = true →
      within (u32 p 8) 100 1000000 = true → s.pair.role = 1 → s.pair.mode = 1 → Runs (.pairConfigSet r) s (fun t => t.pair.mode = 0 ∧
        t.pair.role = 0 ∧ bit t.repl.armed 13 = false ∧ Reported s t 0xCC02 4 ([1, 0, 0, 0] ++ leBytes 8 (partnerId s)))) ∧
    (Admitted 0x0C01 true r s → p.length = 12 → u8 p 0 = 1 → u8 p 1 ≤ 1 → u16 p 2 ≠ s.repl.cycleT ∨ u16 p 4 ≠ s.repl.ackLimit →
      within (u16 p 2) 20 200 = true → 10 ≤ u16 p 4 → 4 * u16 p 4 ≤ 5 * u16 p 2 → within (u16 p 6) 10 600 = true →
      within (u32 p 8) 100 1000000 = true → s.pair.role = 1 → s.pair.mode = 1 → s.vault.life = 1 →
      leaseShort s.repl.mac.cfg.lease s.repl.mac.cfg.l (u16 p 2) = false → Runs (.pairConfigSet r) s (fun t =>
        Same t (hold r.master (.command 0x0C01 r) { s with pair := { s.pair with
          airEvidence := bit (u8 p 1) 0, joinWait := u16 p 6, timeTh := u32 p 8 } })))

/-- The end of a commit cycle (R13, R484, R485, R487, R492): in SOLO the decisions of the cycle that ends take effect, one stamped with the GTC of
the end waits for the next; an ACTIVE member sends its renewal with air time and ST, and the content, and puts nothing in force
until the ACK has come; a STANDBY looks for a takeover. Elsewhere, and in a block that does not run, nothing ends. -/
def Claims.CycleEnds : Prop :=
  (∀ s : State, domOn s 9 = false ∨ 3 ≤ s.pwr.state ∨ unitNow s % s.repl.mac.cfg.l % max s.repl.cycleT 1 ≠ 0 ∨
    s.pair.lastCycleEnd = some (unitNow s) ∨ s.pair.handing = true → exec .commitCycleEnd s = done s) ∧
  ∀ s : State, domOn s 9 = true → s.pwr.state ≤ 2 → unitNow s % s.repl.mac.cfg.l % s.repl.cycleT = 0 → 0 < s.repl.cycleT →
    s.pair.lastCycleEnd ≠ some (unitNow s) → s.pair.handing = false →
    (s.pair.role = 0 → s.pair.decisions = [] → ∃ t, exec .commitCycleEnd s = .next t ∧ Same t { s with pair := { s.pair with
      lastCycleEnd := some (unitNow s), lastCommitted := s.pair.cycle, cycle := (s.pair.cycle + 1) % 2 ^ 32 } }) ∧
    (∀ g m r, s.pair.role = 0 → s.pair.decisions = [⟨g, m, .command 0x0B05 r⟩] → r.sess = none →
      (g = s.tb.gtc → ∃ t, exec .commitCycleEnd s = .next t ∧ t.pair.decisions = s.pair.decisions ∧ t.repl.dp.perPass = s.repl.dp.perPass) ∧
      (g ≠ s.tb.gtc → ∃ t, exec .commitCycleEnd s = .next t ∧ t.pair.decisions = [] ∧ t.repl.dp.perPass = u8 r.payload 2 ∧
        ∃ st, Answered s t r 0x0B05 st r.payload)) ∧
    (s.pair.role = 1 → s.pair.alone = false → linkUp s = true → s.pair.helloed = true → (linkKeyNow s).isSome = true →
      s.pair.switchover = none → sinceNs s s.pair.lastAck < 3 * (s.repl.cycleT * 250000) → ∃ t k content m, exec .commitCycleEnd s = .next t ∧
        t.pair.ackWait = some (s.pair.cycle, s.tb.gtc, k) ∧ t.pair.cycle = (s.pair.cycle + 1) % 2 ^ 32 ∧
        t.pair.lastCommitted = s.pair.lastCommitted ∧ stillRepl t.repl = stillRepl s.repl ∧ Out.lease 2 ∈ newOuts s t ∧
        Out.link m ∈ newOuts s t ∧ m.type = 2 ∧ m.cycle = s.pair.cycle ∧ m.gtc = s.tb.gtc ∧
        m.payload = gtcBytes s ++ leBytes 8 (airTime s) ++ leBytes 8 s.tb.st ∧
        Out.delta s.pair.cycle false content ∈ newOuts s t ∧ t.pair.proposed = some content) ∧
    (s.pair.role = 2 → exec .commitCycleEnd s = done (takeoverStep { s with pair := { s.pair with lastCycleEnd := some (unitNow s) } }))

/-- The acknowledgement on an ACTIVE member (R485, R487): the awaited ACK within the limit commits the cycle; after the limit it stays uncommitted
and is counted missed; the lease time without an ACK makes the member alone, which is reported. -/
def Claims.CycleAcks : Prop :=
  ∀ (m : LinkMsg) (s : State) (c n : Nat) (e : Gtc), s.pair.role = 1 → s.pair.handing = false → s.pair.ackWait = some (c, e, n) →
    (linkVerdict 4 m s = 2 → u32 m.payload 0 = c → sinceNs s e ≤ s.repl.ackLimit * 100000 → ∃ t, exec (.pairAckRx m) s = .next t ∧
      t.pair.lastCommitted = c ∧ t.pair.cyclesOk = min (s.pair.cyclesOk + 1) (2 ^ 32 - 1) ∧ t.pair.ackWait = none ∧
      t.pair.ackLatency = sinceNs s e / 1000 ∧ t.pair.committed = some (s.pair.proposed.getD s.repl)) ∧
    (linkVerdict 4 m s = 2 → u32 m.payload 0 ≠ c ∨ s.repl.ackLimit * 100000 < sinceNs s e → exec (.pairAckRx m) s =
      done { s with pair := { s.pair with
        seqSeen := (m.seq :: s.pair.seqSeen).take 64, lastEvidence := s.tb.gtc, lastAck := s.tb.gtc } }) ∧
    (s.repl.ackLimit * 100000 < sinceNs s e → exec .pairAckLimit s = done { s with pair := { s.pair with
      cyclesMissed := min (s.pair.cyclesMissed + 1) (2 ^ 32 - 1), ackWait := none, proposed := none } }) ∧
    (sinceNs s e ≤ s.repl.ackLimit * 100000 → exec .pairAckLimit s = done s) ∧
    (s.pair.alone = false → 3 * (s.repl.cycleT * 250000) ≤ sinceNs s s.pair.lastAck → ∃ t, exec .pairAloneTimeout s = .next t ∧
      Same t { s with pair := { s.pair with alone := true } } ∧ Reported s t 0xCC04 4
        ([1] ++ leBytes 1 (if lately s s.pair.lastPin (leaseNs s) = true then 1 else 3) ++ [0, 0] ++ leBytes 4 s.pair.lastCommitted)) ∧
    (sinceNs s s.pair.lastAck < 3 * (s.repl.cycleT * 250000) → exec .pairAloneTimeout s = done s)

/-- What a STANDBY does with deltas and full copies (R481, R482, R485): the delta it expects is in force at once, acknowledged by message and
pulse; an older one is acknowledged again and changes nothing; a gap ends qualification and asks for a full copy; the last part
of a full copy is in force. -/
def Claims.StandbyContent : Prop :=
  ∀ (m : LinkMsg) (size : Nat) (content : Repl) (s : State), s.pair.role = 2 →
    let ack (t : State) : Prop := ∃ k, Out.link k ∈ newOuts s t ∧ k.type = 4 ∧ k.payload = leBytes 4 m.cycle ++ gtcBytes s
    (linkVerdict 3 m s = 2 → size ≤ 524288 → s.pair.fullDone = true →
      (s.pair.handover = none → s.pair.deltaNext = none ∨ s.pair.deltaNext = some m.cycle → ∃ t, exec (.pairDeltaRx m size content) s = .next t ∧
        t.pair.committed = some content ∧ t.pair.lastCommitted = m.cycle ∧ t.pair.deltaNext = some ((m.cycle + 1) % 2 ^ 32) ∧
        t.repl.armed = content.armed ∧ t.repl.tr = content.tr ∧ t.repl.bl = content.bl ∧ t.repl.corr = content.corr ∧
        t.pair.viewCommitted = content.ecl ∧ Out.lease 6 ∈ newOuts s t ∧ ((linkKeyNow t).isSome = true → ack t)) ∧
      (∀ n, s.pair.deltaNext = some n → m.cycle < n → ∃ t, exec (.pairDeltaRx m size content) s = .next t ∧
        stillRepl t.repl = stillRepl s.repl ∧ t.pair.committed = s.pair.committed ∧ t.pair.deltaNext = some n ∧ Out.lease 6 ∈ newOuts s t ∧
        ack t) ∧
      (∀ n, s.pair.deltaNext = some n → n < m.cycle → ∃ t, exec (.pairDeltaRx m size content) s = .next t ∧
        stillRepl t.repl = stillRepl s.repl ∧ t.pair.qualified = false ∧ t.pair.fullDone = false ∧ t.pair.fullRunning = true)) ∧
    (linkVerdict 10 m s = 2 → bit m.flags 1 = false → ∃ t, exec (.pairFullRx m content) s = .next t ∧ t.pair.fullDone = true ∧
      t.pair.fullRunning = false ∧ t.pair.qualified = false ∧ t.pair.committed = some content ∧ t.pair.deltaNext = none ∧
      t.pair.lastCommitted = m.cycle ∧ t.repl.armed = content.armed ∧ t.repl.tr = content.tr ∧ Out.lease 6 ∈ newOuts s t) ∧
    (linkVerdict 10 m s = 2 → bit m.flags 1 = true → ∃ t, exec (.pairFullRx m content) s = .next t ∧ t.pair.fullDone = false ∧
      t.pair.fullRunning = true ∧ t.pair.qualified = false ∧ stillRepl t.repl = stillRepl s.repl)

/-- Qualification and the comparisons of a STANDBY (R290, R481, R482, R490 to R492): the first equal DIGEST after a full copy qualifies it, an
unequal one is counted; deltas that stop while pulses go on end qualification; RENEW renews and brings the air time to within
100 ns; summaries feed the shadow comparison. -/
def Claims.StandbyChecks : Prop :=
  ∀ (m : LinkMsg) (s : State), s.pair.role = 2 →
    (∀ c, linkVerdict 5 m s = 2 → s.pair.committed = some c → s.pair.fullDone = true → s.pair.deltaNext ≠ none →
      m.cycle = s.pair.lastCommitted →
      (stateDigest c = m.payload → s.pair.digestSeen = false → s.pair.qualified = false → ∃ t, exec (.pairDigestRx m) s = .next t ∧
        t.pair.qualified = true ∧ Reported s t 0xCC03 4 ([1, 0, 0, 0] ++ leBytes 4 s.pair.lastCommitted)) ∧
      (stateDigest c ≠ m.payload → ∃ t, exec (.pairDigestRx m) s = .next t ∧ t.pair.qualified = s.pair.qualified ∧
        t.pair.mismatches = min (s.pair.mismatches + 1) (2 ^ 32 - 1))) ∧
    (∀ c : Repl, stateDigest c = sha256 ((List.range 7).flatMap (fun g => sha256 ((Config.entryCodes g c).flatMap sha256)))) ∧
    (s.pair.qualified = true → 3 * (s.repl.cycleT * 250000) ≤ sinceNs s s.pair.lastDelta →
      (∃ g, s.pair.lastPin = some g ∧ sinceNs s g ≤ s.repl.cycleT * 250000) → ∃ t, exec .pairDeltaTimeout s = .next t ∧
        t.pair.qualified = false ∧ Reported s t 0xCC03 4 ([0, 1, 0, 0] ++ leBytes 4 s.pair.lastCommitted)) ∧
    (sinceNs s s.pair.lastDelta < 3 * (s.repl.cycleT * 250000) → exec .pairDeltaTimeout s = done s) ∧
    (linkVerdict 2 m s = 2 → ∃ t, exec (.pairRenewRx m) s = .next t ∧ t.pair.lastRenew = s.tb.gtc ∧
      t.pair.stDiff = ((u64 m.payload 16 + s.pair.halfTrip : Nat) : Int) - (s.tb.st : Int) ∧
      (Agrees s → s.mac.airOffset ≤ (s.tb.st : Int) →
        ((airTime t : Int) - ((u64 m.payload 8 + s.pair.halfTrip : Nat) : Int)).natAbs ≤ 100)) ∧
    (linkVerdict 6 m s = 2 → s.bl.shadowOn = false → exec (.pairFixsumRx m) s = done { s with pair := { s.pair with
      seqSeen := (m.seq :: s.pair.seqSeen).take 64, lastEvidence := s.tb.gtc } }) ∧
    (∀ a x, linkVerdict 6 m s = 2 → fixSumsOf m.payload = [a] → s.bl.shadowOn = true →
      s.bl.shadow.find? (fun y => y.berth == a.berth && y.tag == a.tag) = some x → 3 ≤ a.state → 3 ≤ x.state →
      s.bl.shadowV < (a.u - x.u).natAbs ∨ (s.bl.shadowH : Int) * s.bl.shadowH < (a.e - x.e) * (a.e - x.e) + (a.n - x.n) * (a.n - x.n) →
      ∃ t, exec (.pairFixsumRx m) s = .next t ∧ t.bl.cShadow = min (s.bl.cShadow + 1) (2 ^ 32 - 1))

/-- Takeover (R496 to R498, R501, R627): a qualified STANDBY with 0x0D armed that has had no renewal for four cycles, and hears no air evidence, is
ACTIVE with the committed state in force, its broadcast counter 2^20 ahead; without qualification, arming or silence nothing
happens. -/
def Obligations.Takeover : Prop :=
  ∀ s : State,
    (s.pair.role = 2 → domOn s 9 = true → s.pwr.state ≤ 2 → bit s.repl.armed 13 = true → s.pair.qualified = true →
      4 * (s.repl.cycleT * 250000) ≤ sinceNs s (lastRenewal s) →
      (s.pair.airEvidence = true → airEvidenceHolds s = true → ∃ t, exec .pairTakeoverDetect s = .next t ∧ Same t s ∧
        Reported s t 0xCC07 4 ([1] ++ leBytes 1 s.pair.airHead ++ [0, 0] ++ leBytes 4 s.pair.heardCounter)) ∧
      (s.pair.airEvidence = false ∨ airEvidenceHolds s = false → ∃ t, exec .pairTakeoverDetect s = .next t ∧ t.pair.role = 1 ∧
        t.pair.gap = true ∧ t.pair.takeovers = min (s.pair.takeovers + 1) (2 ^ 32 - 1) ∧
        t.repl.mac.bcounter = (s.pair.committed.getD s.repl).mac.bcounter + 2 ^ 20 ∧
        Reported s t 0xCC02 4 ([2, 1, 5, 0] ++ leBytes 8 (partnerId s)) ∧
        ∃ st, Reported s t 0xCC05 4 (leBytes 4 s.pair.lastCommitted ++ leBytes 4 (min (sinceNs s (lastRenewal s) / 1000) 0xFFFFFFFF)
          ++ leBytes 4 (boundaryUs s) ++ leBytes 1 ((if s.pair.viewCommitted.state = 0 then 0 else 1)
            + (if s.pair.viewPrio.state = 0 then 0 else 2) + (if s.pair.viewPin = true then 4 else 0)) ++ leBytes 1 st ++ [0, 0]))) ∧
    (s.pair.role ≠ 2 ∨ bit s.repl.armed 13 = false ∨ s.pair.qualified = false ∨
      sinceNs s (lastRenewal s) < 4 * (s.repl.cycleT * 250000) → exec .pairTakeoverDetect s = done s) ∧
    (Agrees s → s.pair.role = 2 → s.modes.radio ≠ 2 ∧ s.tb.tpDriven = false)

/-- Link, lanes and roles (R475, R476, R478, R480, R483, R501, R504, R505): lanes set the link state, which is reported; a LINK_HELLO whose tag fails
or with another major sets it too; a valid one opens the exchange, and an ACTIVE partner makes the member STANDBY; the wait for a
partner ends as ACTIVE; a renewal pulse that an ACTIVE member sees is a split. -/
def Claims.LinkAndRoles : Prop :=
  ∀ (m : LinkMsg) (s : State), let p := (helloOf m.payload).1
    (∀ lane up, domOn s 12 = true → lane < 2 → s.pair.lanes.length = 2 → s.pair.lanes[lane]? = some (!up) → s.pair.link ≤ 2 →
      s.pair.link = laneState s.pair.lanes → let new := laneState (s.pair.lanes.set lane up)
      ∃ t, exec (.pairLaneChange lane up) s = .next t ∧ t.pair.lanes = s.pair.lanes.set lane up ∧
        t.pair.link = (if s.pair.link = 0 ∧ linkKeyNow s = none then 4 else new) ∧
        Reported s t 0xCC01 4 (leBytes 1 s.pair.link ++ leBytes 1 new ++ leBytes 1 (bitsOf (s.pair.lanes.set lane up))
          ++ [if up = true then 2 else 1]) ∧
        (new = 0 → t.pair.helloed = false ∧ t.pair.nonce = none ∧ t.pair.peerNonce = none ∧ ∀ o ∈ t.locks, o ≠ 5)) ∧
    (∀ lane up, s.pair.lanes[lane]? = some up ∨ domOn s 12 = false → exec (.pairLaneChange lane up) s = done s) ∧
    (domOn s 12 = false ∨ s.pair.link = 0 ∨ linkFramed 1 m = false → exec (.linkHelloRx m) s = done s) ∧
    (domOn s 12 = true → s.pair.link ≠ 0 → linkFramed 1 m = true →
      (helloTagOk m s = false → exec (.linkHelloRx m) s = done (authFailed (tagDrop s)) ∧ ∃ t, exec (.linkHelloRx m) s = .next t ∧
        t.pair.link = 4 ∧ t.pair.tagDrops = min (s.pair.tagDrops + 1) (2 ^ 32 - 1) ∧ (s.pair.link ≠ 4 → t.pair.helloed = false)) ∧
      (helloTagOk m s = true → p.major ≠ (ownProto s).1 → ∃ t, exec (.linkHelloRx m) s = .next t ∧ t.pair.link = 3 ∧
        t.pair.helloed = false ∧ t.pair.partner = some p) ∧
      (helloTagOk m s = true → p.major = (ownProto s).1 → ∃ t, exec (.linkHelloRx m) s = .next t ∧ t.pair.helloed = true ∧
        t.pair.partner = some p ∧ t.pair.peerNonce = some (helloOf m.payload).2 ∧ t.pair.link = laneState s.pair.lanes ∧
        (p.role = 1 → s.pair.mode = 1 → s.vault.life = 1 → laneState s.pair.lanes ∈ [1, 2] → t.pair.role = 2) ∧
        (s.pair.mode ≠ 1 ∨ s.vault.life ≠ 1 → t.pair.role = s.pair.role))) ∧
    (s.pair.role = 2 → s.pair.mode = 1 → s.vault.life = 1 →
      (s.pair.joinWait * 100000000 ≤ sinceNs s s.pair.lastEvidence → ∃ t, exec .pairJoinWait s = .next t ∧ t.pair.role = 1 ∧
        Reported s t 0xCC02 4 ([2, 1, 4, 0] ++ leBytes 8 (partnerId s))) ∧
      (sinceNs s s.pair.lastEvidence < s.pair.joinWait * 100000000 → exec .pairJoinWait s = done s)) ∧
    (linkVerdict 11 m s = 2 → ∃ t, exec (.pairLeaveRx m) s = .next t ∧
      t.pair.partner = s.pair.partner.map (fun x => { x with role := 0, qualified := false }) ∧
      (s.pair.role = 2 → t.pair.qualified = false) ∧
      Reported s t 0xCC01 4 (leBytes 1 s.pair.link ++ leBytes 1 s.pair.link ++ leBytes 1 (bitsOf s.pair.lanes) ++ [5])) ∧
    (linkVerdict 12 m s = 2 → s.pair.role = 2 → s.pair.qualified = true →
      (m.cycle ≠ s.pair.lastCommitted → ∃ t, exec (.pairHandoverRx m) s = .next t ∧ t.pair.role = 2 ∧ t.pair.handover = some m.cycle) ∧
      (m.cycle = s.pair.lastCommitted → ∃ t, exec (.pairHandoverRx m) s = .next t ∧ t.pair.role = 1 ∧
        t.pair.quietUntil = some (s.tb.gtc + 1000000))) ∧
    (linkVerdict 12 m s = 2 → s.pair.role ≠ 2 ∨ s.pair.qualified = false → exec (.pairHandoverRx m) s = done { s with pair := { s.pair with
      seqSeen := (m.seq :: s.pair.seqSeen).take 64, lastEvidence := s.tb.gtc } }) ∧
    (∀ us, s.pwr.state ≠ 4 →
      (us = 0 ∨ us = 4 ∨ 8 < us → exec (.pairLeasePulseRx us) s = done s) ∧
      (within us 1 3 = true → ∃ t, exec (.pairLeasePulseRx us) s = .next t ∧
        Same t { s with pair := { s.pair with lastEvidence := s.tb.gtc, lastPin := some s.tb.gtc } } ∧
        (s.pair.role = 1 → Reported s t 0xCC07 4 ([3, 0xFF, 0, 0] ++ leBytes 4 0))) ∧
      (within us 5 8 = true → exec (.pairLeasePulseRx us) s = done { s with pair := { s.pair with
        lastEvidence := s.tb.gtc, lastPin := if s.pair.role = 1 then some s.tb.gtc else s.pair.lastPin } }))

/-- Eclipse across the pair (R402, R478, R493 to R495): a STANDBY shows the strongest of the message, the pin and the committed state; a message of
stop counts even where its tag fails, one of release does not; an ACTIVE member acts on the partner's pin while 0x03 is armed and on
its momentary triggers always; a held stop level ends when a newer sequence has been seen and 1 s has passed. Packets of master 4
come over the link. -/
def Obligations.PairEclipse : Prop :=
  ∀ (m : LinkMsg) (s : State),
    let e := eclipseOf m.payload
    let code := u8 m.payload 0
    let seen : State := { s with pair := { s.pair with seqSeen := (m.seq :: s.pair.seqSeen).take 64, lastEvidence := s.tb.gtc } }
    (s.pair.role = 2 → linkVerdict 7 m s = 2 → ∃ t, exec (.pairEclipseMsgRx m) s = .next t ∧ t.pair.viewPrio = e ∧
      (e.state = 0 → s.pair.halfTrip ≤ sinceNs s s.pair.pinSince → t.pair.viewPin = false) ∧
      (e.state ≠ 0 ∨ sinceNs s s.pair.pinSince < s.pair.halfTrip → t.pair.viewPin = s.pair.viewPin) ∧ (e.state = 1 → eclShown t = 1)) ∧
    (s.pair.role = 2 → linkVerdict 7 m s = 1 → ∃ t, exec (.pairEclipseMsgRx m) s = .next t ∧
      t.pair.tagDrops = min (s.pair.tagDrops + 1) (2 ^ 32 - 1) ∧
      t.pair.viewPrio = (if e.state = 1 then e else s.pair.viewPrio)) ∧
    (s.pair.role ≠ 2 → linkVerdict 7 m s = 2 → exec (.pairEclipseMsgRx m) s = done seen) ∧
    (s.pair.role = 1 → linkVerdict 8 m s ≠ 0 → code = 5 ∨ code = 6 → u8 m.payload 1 = 1 → s.repl.ecl.state ≠ 1 → ∃ t,
      exec (.pairTriggerMsgRx m) s = .next t ∧ t.repl.ecl.state = 1 ∧ t.repl.ecl.cause = code ∧
      t.repl.ecl.seq = nextEclSeq s.repl.ecl.seq) ∧
    (s.pair.role = 1 → linkVerdict 8 m s = 2 → code ≠ 5 → code ≠ 6 → ∃ t, exec (.pairTriggerMsgRx m) s = .next t ∧
      t.pair.partnerTrigger = (u8 m.payload 1 == 1)) ∧
    (linkVerdict 8 m s = 1 → u8 m.payload 1 ≠ 1 ∨ s.pair.role ≠ 1 → exec (.pairTriggerMsgRx m) s =
      done { s with pair := { s.pair with tagDrops := min (s.pair.tagDrops + 1) (2 ^ 32 - 1) } }) ∧
    (linkVerdict 8 m s = 2 → s.pair.role ≠ 1 → exec (.pairTriggerMsgRx m) s = done seen) ∧
    (s.pwr.state = 4 → ∀ high, exec (.pairEclInChange high) s = done s) ∧
    (s.pwr.state ≠ 4 → s.pair.role = 2 → ∃ t, exec (.pairEclInChange true) s = .next t ∧ t.pair.viewPin = true ∧ eclShown t = 1 ∧
      t.pair.pinIn = true) ∧
    (s.pwr.state ≠ 4 → s.pair.role = 2 → exec (.pairEclInChange false) s = done { s with pair := { s.pair with pinIn := false } }) ∧
    (s.pwr.state ≠ 4 → s.pair.role = 1 → bit s.repl.armed 3 = true → s.repl.ecl.state = 0 → ∃ t, exec (.pairEclInChange true) s = .next t ∧
      t.repl.ecl.state = 1 ∧ t.repl.ecl.cause = 7) ∧
    (s.pwr.state ≠ 4 → s.pair.role = 0 → exec (.pairEclInChange true) s =
      done { s with pair := { s.pair with pinIn := true, pinSince := s.tb.gtc } }) ∧
    (∀ g q, s.pair.hold = some (g, q) → (s.pair.viewPrio.seq ≠ q → 1000000000 ≤ sinceNs s g →
        exec .standbyStopLevelHoldEnd s = done { s with pair := { s.pair with hold := none } }) ∧
      (s.pair.viewPrio.seq = q ∨ sinceNs s g < 1000000000 → exec .standbyStopLevelHoldEnd s = done s)) ∧
    (linkVerdict 9 m s = 2 → portUp 4 s = true → framed 4 m.payload = false → exec (.pairEfbexRx m) s = done { seen with
      viols := modNth s.viols 4 (fun v => { v with framing := min (v.framing + 1) (2 ^ 32 - 1) }) }) ∧
    (linkVerdict 9 m s = 2 → portUp 4 s = true → framed 4 m.payload = true →
      ((packetFields m.payload).session ≠ 0 → exec (.pairEfbexRx m) s = receive 4 .transport noAddr m.payload seen) ∧
      ((packetFields m.payload).session = 0 → bit (packetFields m.payload).flags 0 = false → (packetFields m.payload).opcode = 0x0903 →
        exec (.pairEfbexRx m) s = exec (.spotStop (reqOf 4 .transport noAddr true 0 (packetFields m.payload))) seen) ∧
      ((packetFields m.payload).session = 0 → bit (packetFields m.payload).flags 0 = true →
        exec (.pairEfbexRx m) s = done (forwardReply (packetFields m.payload) seen)))

/-! ### The vault (chapter 14) -/

/-- The queries of the vault (R513, R520, R544): VAULT_INFO signs what it says and the host's bytes with the attestation key; VAULT_KDF_TEST
computes the derivation of R520 on given inputs; NODE_GET shows a node and the operations on it, and refuses an unknown handle. -/
def Claims.VaultQueries : Prop :=
  ∀ (r : Req) (s : State), let p := r.payload
    (Admitted 0x0D01 false r s → p.length = 16 → let v := s.vault
      let b := leBytes 1 v.life ++ leBytes 1 (bitsOf [v.complete, v.bound, v.share.isSome, v.locked, v.latch, v.tLocked]) ++ [0, 0]
        ++ leBytes 4 (v.kcv.getD 0) ++ leBytes 4 (v.site.getD 0) ++ leBytes 2 v.nodes.length ++ leBytes 2 (persistentUsed s)
        ++ leBytes 1 v.secCounter ++ leBytes 1 v.running ++ leBytes 1 (v.trial.getD 0xFF) ++ leBytes 1 v.trialCount
        ++ x25519Public (material s provHandle) ++ ecdsaPublic 384 (material s attestHandle)
      Runs (.vaultInfo r) s (fun t => Same t (useKey attestHandle (useKey provHandle { s with free := s.free + 1 })) ∧ Answered s t r 0x0D01 0
        (b ++ ecdsaSign 384 s.free (material s attestHandle) (sha384 (b ++ p))))) ∧
    (Admitted 0x0D09 false r s → 40 ≤ p.length → p.length = 40 + u8 p 34 + u16 p 36 → u8 p 35 = 0 → u16 p 38 = 0 →
      within (u16 p 32) 8 1024 = true → u16 p 32 % 8 = 0 → u8 p 34 ≤ 64 → u16 p 36 ≤ 256 → Runs (.vaultKdfTest r) s (fun t => Same t s ∧
        Answered s t r 0x0D09 0 (kdf (sub p 0 32) (sub p 40 (u8 p 34)) (sub p (40 + u8 p 34) (u16 p 36)) (u16 p 32 / 8)))) ∧
    (Admitted 0x0D06 false r s → p.length = 4 →
      (nodeOf s (u32 p 0) = none → Runs (.nodeGet r) s (fun t => Same t s ∧ Answered s t r 0x0D06 0x8D06 [])) ∧
      (∀ n, nodeOf s (u32 p 0) = some n → Runs (.nodeGet r) s (fun t => Same t s ∧ Answered s t r 0x0D06 0
        (leBytes 4 n.handle ++ leBytes 4 n.parent ++ leBytes 1 n.label.length ++ leBytes 1 n.usage ++ leBytes 1 n.depth ++ leBytes 1 n.state
          ++ leBytes 1 n.issue ++ leBytes 1 n.flags ++ [0, 0] ++ n.label ++ zeros (32 - n.label.length) ++ leBytes 4 (opsOn s (u32 p 0))))))

/-- The key tree (R517 to R519, R525, R528): NODE_CREATE adds a VALID node in a free slot under the next issue, answers an existing one with 0x0102,
and works in MISSION alone; NODE_INVALIDATE makes a node INVALID and its VALID descendants ORPHANED and reports it, needs force
for a node in service, and with purge frees the slots of the subtree. -/
def Claims.KeyTree : Prop :=
  ∀ (r : Req) (s : State), let p := r.payload
    (Admitted 0x0D04 true r s → p.length = 40 → u8 p 5 < 4 → u8 p 7 = 0 → zeroAt p (8 + u8 p 6) (32 - u8 p 6) = true → within (u8 p 4) 1 6 = true →
      within (u8 p 6) 1 32 = true → let par := u32 p 0
      let label := sub p 8 (u8 p 6)
      let old := (childOf s par label).filter (fun x => x.state == 0)
      (s.vault.life ≠ 1 → old ≠ none ∨ createStates s par label = [] →
        Runs (.nodeCreate r) s (fun t => Same t s ∧ Answered s t r 0x0D04 0x2001 [])) ∧
      (∀ x, s.vault.life = 1 → old = some x → Runs (.nodeCreate r) s (fun t => Same t s ∧
        Answered s t r 0x0D04 0x0102 (leBytes 4 x.handle ++ leBytes 1 x.depth ++ leBytes 1 x.issue ++ [0, 0]))) ∧
      (s.vault.life = 1 → old = none → nodeOf s par = none → Runs (.nodeCreate r) s (fun t => Same t s ∧ Answered s t r 0x0D04 0x8D06 [])) ∧
      (∀ q, s.vault.life = 1 → old = none → nodeOf s par = some q → createStates s par label = [] → Runs (.nodeCreate r) s (fun t =>
        ∃ n, t.vault.nodes = s.vault.nodes ++ [n] ∧ n.parent = par ∧ n.label = label ∧ n.usage = u8 p 4 ∧ n.depth = q.depth + 1 ∧ n.state = 0 ∧
          n.issue = nextIssue s par label ∧ n.flags = 2 * flag (bit (u8 p 5) 0) + 8 * flag (bit (u8 p 5) 1) + flag (persistentAt s par n.depth) ∧ (∀ m ∈ s.vault.nodes, m.handle % 4096 ≠ n.handle % 4096) ∧
          Same t { s with vault := { s.vault with nodes := t.vault.nodes, gens := t.vault.gens } } ∧
          Answered s t r 0x0D04 0 (leBytes 4 n.handle ++ leBytes 1 n.depth ++ leBytes 1 n.issue ++ [0, 0])))) ∧
    (Admitted 0x0D05 true r s → p.length = 8 → u8 p 4 < 4 → zeroAt p 5 3 = true → s.vault.life = 1 → let h := u32 p 0
      let x := s.vault.nodes.find? (fun n => n.handle == h)
      let below (m : Node) : Prop := ∃ y ∈ subtree s h, y.handle = m.handle ∧ y.state = 0
      (x = none → Runs (.nodeInvalidate r) s (fun t => Same t s ∧ Answered s t r 0x0D05 0x8D06 [])) ∧
      (x ≠ none → inService s h = true → bit (u8 p 4) 0 = false →
        Runs (.nodeInvalidate r) s (fun t => Same t s ∧ Answered s t r 0x0D05 0x8D04 [])) ∧
      (∀ n, x = some n → inService s h = false ∨ bit (u8 p 4) 0 = true → bit (u8 p 4) 1 = false → Runs (.nodeInvalidate r) s (fun t =>
        Answered s t r 0x0D05 (if n.state = 2 then 0x0102 else 0)
          (leBytes 2 ((subtree s h).filter (fun y => y.handle != h && y.state == 0)).length ++ leBytes 2 (opsOn s h)) ∧
        (n.state ≠ 2 → Reported s t 0xCD02 32 (leBytes 4 h ++ leBytes 1 n.state ++ [2, 0] ++ leBytes 1 n.depth ++ [1, 0, 0, 0])) ∧
        t.vault.nodes.length = s.vault.nodes.length ∧
        ∀ (i : Nat) (m : Node), s.vault.nodes[i]? = some m → ∃ u, t.vault.nodes[i]? = some u ∧
          (m.handle = h → u = { m with state := 2 }) ∧ (m.handle ≠ h → below m → u = { m with state := 1 }) ∧
          (m.handle ≠ h → ¬ below m → u = m))) ∧
      (∀ n, x = some n → inService s h = false ∨ bit (u8 p 4) 0 = true → bit (u8 p 4) 1 = true → Runs (.nodeInvalidate r) s (fun t =>
        Answered s t r 0x0D05 (if n.state = 2 ∧ n.purge = true then 0x0102 else 0)
          (leBytes 2 ((subtree s h).filter (fun y => y.handle != h && y.state == 0)).length ++ leBytes 2 (opsOn s h)) ∧
        Reported s t 0xCD02 32 (leBytes 4 h ++ [2, 2, 2] ++ leBytes 1 n.depth ++ leBytes 2 (subtree s h).length ++ [0, 0]) ∧
        ∀ m ∈ t.vault.nodes, inSubtree 7 s h m.handle = true → ∃ o ∈ t.vault.ops, o.node = m.handle)))

/-- Operations of the vault (R523, R526, R529, Table 14-9): an accepted VAULT_CRYPTO joins the operations with its result and starts when one may,
and VAULT_OPERATION_COMPLETE delivers it, frees a purged node, wipes the key of a node no longer VALID and starts those that wait; a failed
open is counted; a node that is unknown, not VALID or of another usage refuses the operation. -/
def Claims.VaultOperations : Prop :=
  ∀ (r : Req) (i : Nat) (s : State), let p := r.payload
    let h := u32 p 0
    let op := u8 p 4
    (Admitted 0x0D07 true r s → 32 ≤ p.length → p.length = 32 + u16 p 8 + u16 p 6 → u8 p 11 = 0 → u32 p 28 = 0 → within op 1 10 = true →
      u8 p 5 ≤ 1 → u16 p 6 ≤ 16384 → u16 p 8 ≤ 1024 → u8 p 10 = 8 ∨ u8 p 10 = 16 → opLengths op (u8 p 10) (u16 p 6) (u16 p 8) = true →
      (opNodeless op = true → h = 0) →
      (cryptoStates s h op = [] → Runs (.vaultCrypto r) s (fun t => ∃ o : VaultOp, o.node = h ∧ o.req = r ∧ o.started = false ∧
        (let u := if op = 8 then { s with free := s.free + 1 } else s
        Same t (startOps (modVault (fun v => { v with ops := enqueueUrgent r.urgent (fun y => !y.started && overtakes r y.req) o v.ops })
          (if opNodeless op = true then u else useKey h u)))) ∧
        (let out := cryptoOut s h op (u8 p 5) (u8 p 10) (sub p 12 16) (sub p 32 (u16 p 8)) (sub p (32 + u16 p 8) (u16 p 6))
        o.out = out.getD [] ∧ o.failed = out.isNone) ∧
        (op = 5 → o.out = hmac (material s h) (sub p (32 + u16 p 8) (u16 p 6)) ∧ o.failed = false) ∧
        (op = 6 → o.out = sha256 (sub p (32 + u16 p 8) (u16 p 6)) ∧ o.failed = false) ∧
        (op = 1 → o.out = gcmSeal ((material s h).take (if u8 p 5 = 0 then 16 else 32)) (sub p 12 12) (sub p 32 (u16 p 8))
          (sub p (32 + u16 p 8) (u16 p 6)) ∧ o.failed = false) ∧
        (op = 2 → o.failed = (gcmOpen ((material s h).take (if u8 p 5 = 0 then 16 else 32)) (sub p 12 12) (sub p 32 (u16 p 8))
          (sub p (32 + u16 p 8) (u16 p 6))).isNone ∧ o.out = (gcmOpen ((material s h).take (if u8 p 5 = 0 then 16 else 32)) (sub p 12 12)
          (sub p 32 (u16 p 8)) (sub p (32 + u16 p 8) (u16 p 6))).getD []) ∧
        (op = 3 → o.out = ccmSeal (u8 p 10) ((material s h).take (if u8 p 5 = 0 then 16 else 32)) (sub p 12 13) (sub p 32 (u16 p 8))
          (sub p (32 + u16 p 8) (u16 p 6)) ∧ o.failed = false) ∧
        (op = 7 → o.out = sha384 (sub p (32 + u16 p 8) (u16 p 6)) ∧ o.failed = false) ∧
        (op = 10 → o.out = x25519 (material s h) (sub p (32 + u16 p 8) (u16 p 6)) ∧ o.failed = false))) ∧
      (opNodeless op = false → nodeOf s h = none → Runs (.vaultCrypto r) s (fun t => Same t s ∧ Answered s t r 0x0D07 0x8D06 [])) ∧
      (∀ n, opNodeless op = false → nodeOf s h = some n → cryptoStates s h op = [0x6003] →
        n.state ≠ 0 ∧ Runs (.vaultCrypto r) s (fun t => Same t s ∧ Answered s t r 0x0D07 0x6003 [])) ∧
      (∀ n, opNodeless op = false → nodeOf s h = some n → cryptoStates s h op = [0x8D07] →
        Runs (.vaultCrypto r) s (fun t => Same t s ∧ Answered s t r 0x0D07 0x8D07 [])) ∧
      (∀ n, opNodeless op = false → nodeOf s h = some n → cryptoStates s h op = [0x8D09] →
        (lockedNode s n = true ∨ rootHeld s = false) ∧
        Runs (.vaultCrypto r) s (fun t => Same t s ∧ Answered s t r 0x0D07 0x8D09 []))) ∧
    (i ∉ runningOps s → exec (.vaultOperationComplete i) s = done s) ∧
    (∀ o, i ∈ runningOps s → s.vault.ops[i]? = some o → Answerable s o.req → ∃ t, exec (.vaultOperationComplete i) s = .next t ∧
      Answered s t o.req 0x0D07 0 (leBytes 2 o.out.length ++ [0, 0] ++ o.out) ∧
      (let left := s.vault.ops.eraseIdx i
      let run := left.filter (fun y => y.started)
      t.vault.ops = beginOps run.length (run.map (fun y => y.node)) left ∧
      (∀ m ∈ t.vault.nodes, m ∈ s.vault.nodes ∧ (m.purge = true → ∃ y ∈ left, y.node = m.handle))) ∧
      (∀ n, nodeOf s o.node = some n → n.state ≠ 0 → look t.vault.cells n.handle = none) ∧
      t.vault.openFails = (if o.failed = true then min (s.vault.openFails + 1) (2 ^ 32 - 1) else s.vault.openFails) ∧
      Same t { s with vault := t.vault }) ∧
    (∀ (n : Nat) (busy : List Nat) (o : VaultOp) (rest : List VaultOp),
      beginOps n busy [] = [] ∧
      (o.started = true → beginOps n busy (o :: rest) = o :: beginOps n busy rest) ∧
      (o.started = false → n < 8 → o.node = 0 ∨ o.node ∉ busy → beginOps n busy (o :: rest) =
        { o with started := true } :: beginOps (n + 1) (o.node :: busy) rest) ∧
      (o.started = false → 8 ≤ n ∨ (o.node ≠ 0 ∧ o.node ∈ busy) → beginOps n busy (o :: rest) = o :: beginOps n (o.node :: busy) rest))

/-- Provisioning and export (R514 to R516, R532): VAULT_PROVISION fuses a root in BLANK once its tag holds, its reserved bytes are zero and
it agrees with what is fused; in mode 1 it restores the lost share of a battery-bound root without authentication; a tag that fails counts as an
authentication failure of the sender; FUSE_WRITE_COMPLETE ends it with the check value; VAULT_EXPORT wraps the material of an exportable node
under 32 fresh random bytes. -/
def Claims.Provisioning : Prop :=
  ∀ (r : Req) (s : State), let p := r.payload
    let pay := leBytes 4 (s.vault.kcv.getD 0) ++ leBytes 4 (s.vault.site.getD 0)
    let k := useKey provHandle s
    (Admitted 0x0D02 true r s → p.length = 100 → u8 p 0 = 0 → zeroAt p 1 3 = true →
      (s.vault.life ≠ 0 → s.vault.locked = false → s.pwr.fuse = none →
        Runs (.vaultProvision r) s (fun t => Same t s ∧ Answered s t r 0x0D02 0x2001 [])) ∧
      (s.vault.life = 0 → s.vault.locked = true → s.pwr.fuse = none →
        Runs (.vaultProvision r) s (fun t => Same t s ∧ Answered s t r 0x0D02 0x8D09 [])) ∧
      (s.vault.life = 0 → s.vault.locked = false → s.pwr.fuse ≠ none →
        Runs (.vaultProvision r) s (fun t => Same t s ∧ Answered s t r 0x0D02 0x2003 [])) ∧
      (s.vault.life = 0 → s.vault.locked = false → s.pwr.fuse = none →
        (unwrapRoot s p = none → Runs (.vaultProvision r) s (fun t => Same t (authFailure r.master k) ∧ t.vault = k.vault ∧ t.pwr = s.pwr ∧
          Answered s t r 0x0D02 0x8D02 [])) ∧
        (∀ w, unwrapRoot s p = some w → let d := drawShare (bit (u8 w 36) 0) k
          (2 ≤ u8 w 36 ∨ zeroAt w 37 11 = false → Runs (.vaultProvision r) s (fun t => Same t k ∧ Answered s t r 0x0D02 0x4001 [])) ∧
          (u8 w 36 < 2 → zeroAt w 37 11 = true →
            (fusesAgree d w = false → Runs (.vaultProvision r) s (fun t => Same t k ∧ Answered s t r 0x0D02 0x8D03 [])) ∧
            (fusesAgree d w = true → s.vault.complete = true → Runs (.vaultProvision r) s (fun t => Same t k ∧ Answered s t r 0x0D02 0 pay)) ∧
            (fusesAgree d w = true → s.vault.complete = false → Runs (.vaultProvision r) s (fun t =>
              Same t { d with pwr := { s.pwr with fuse := some ⟨1, r, w⟩ } } ∧ (bit (u8 w 36) 0 = true → t.vault.share.isSome) ∧
              t.vault.fused = s.vault.fused ∧ t.vault.kcv = s.vault.kcv)))))) ∧
    (Admitted 0x0D02 true r s → p.length = 100 → 2 ≤ u8 p 0 ∨ zeroAt p 1 3 = false → u8 p 0 ≠ 1 →
      Runs (.vaultProvision r) s (fun t => Same t s ∧ Answered s t r 0x0D02 0x4001 [])) ∧
    (Admitted 0x0D02 true { r with auth := true } s → p.length = 100 → u8 p 0 = 1 → zeroAt p 1 3 = true → s.vault.locked = false →
      s.pwr.fuse = none → let may := s.vault.life = 1 ∧ s.vault.bound = true ∧ s.vault.complete = true ∧ s.vault.share = none
      (¬ may → Runs (.vaultProvision r) s (fun t => Same t s ∧ Answered s t r 0x0D02 0x2001 [])) ∧
      (may → unwrapRoot s p = none → Runs (.vaultProvision r) s (fun t => Same t (authFailure r.master k) ∧ t.vault = k.vault ∧
        Answered s t r 0x0D02 0x8D02 [])) ∧
      (∀ w, may → unwrapRoot s p = some w →
        (2 ≤ u8 w 36 ∨ zeroAt w 37 11 = false → Runs (.vaultProvision r) s (fun t => Same t k ∧ Answered s t r 0x0D02 0x4001 [])) ∧
        (u8 w 36 < 2 → zeroAt w 37 11 = true → s.vault.kcv = some (kcvOf (sub w 0 32)) →
          let u := { k with vault := { k.vault with share := some (xorBytes (sub w 0 32) (s.vault.fused.getD [])) } }
          Runs (.vaultProvision r) s (fun t => t.vault = u.vault ∧ (s.pair.link ≠ 4 → Same t u) ∧ Answered s t r 0x0D02 0 pay ∧
            Reported s t 0xCD05 32 [0, 3, 0, 0])) ∧
        (u8 w 36 < 2 → zeroAt w 37 11 = true → s.vault.kcv ≠ some (kcvOf (sub w 0 32)) →
          Runs (.vaultProvision r) s (fun t => Same t k ∧ Answered s t r 0x0D02 0x8D02 [])))) ∧
    (∀ w, s.pwr.fuse = some ⟨1, r, w⟩ → Answerable s r → let v := { s.vault with
        complete := true
        kcv := some (kcvOf (sub w 0 32))
        site := some (u32 w 32)
        bound := bit (u8 w 36) 0
        fused := some (fuseValue s (sub w 0 32) (bit (u8 w 36) 0))
        blown := fuseBytes s w }
      ∃ t, exec .fuseWriteComplete s = .next t ∧ t.pwr.fuse = none ∧ t.vault.complete = true ∧ t.vault.kcv = v.kcv ∧ t.vault.site = v.site ∧
        t.vault.bound = v.bound ∧ t.vault.fused = v.fused ∧ t.vault.blown = v.blown ∧
        (s.pwr.tamperWait = 0 → Same t { s with pwr := { s.pwr with fuse := none }, vault := v }) ∧
        Answered s t r 0x0D02 0 (leBytes 4 (kcvOf (sub w 0 32)) ++ leBytes 4 (u32 w 32))) ∧
    (s.pwr.fuse = none → exec .fuseWriteComplete s = done s) ∧
    (Admitted 0x0D08 true r s → p.length = 36 → let h := u32 p 0
      let held := s.vault.locked = false ∧ rootHeld s = true
      let may (n : Node) := n.state = 0 ∧ bit n.flags 1 = true ∧ (n.usage = 1 ∨ n.usage = 2)
      (s.vault.life = 1 → held → nodeOf s h = none → Runs (.vaultExport r) s (fun t => Same t s ∧ Answered s t r 0x0D08 0x8D06 [])) ∧
      (∀ n, s.vault.life = 1 → held → nodeOf s h = some n → n.state ≠ 0 → bit n.flags 1 = true → n.usage = 1 ∨ n.usage = 2 →
        Runs (.vaultExport r) s (fun t => Same t s ∧ Answered s t r 0x0D08 0x6003 [])) ∧
      (∀ n, s.vault.life = 1 → held → nodeOf s h = some n → n.state = 0 → bit n.flags 1 = false ∨ (n.usage ≠ 1 ∧ n.usage ≠ 2) →
        Runs (.vaultExport r) s (fun t => Same t s ∧ Answered s t r 0x0D08 0x8D08 [])) ∧
      (∀ n, s.vault.life ≠ 1 → held → nodeOf s h = some n → may n → Runs (.vaultExport r) s (fun t => Same t s ∧
        Answered s t r 0x0D08 0x2001 [])) ∧
      (∀ n, s.vault.life = 1 → ¬ held → nodeOf s h = some n → may n → Runs (.vaultExport r) s (fun t => Same t s ∧
        Answered s t r 0x0D08 0x8D09 [])) ∧
      (∀ n, s.vault.life = 1 → held → nodeOf s h = some n → may n → let own := (freshBytes 32 s).1
        let pub := sub p 4 32
        let key := kdf (x25519 own pub) (ascii "ICGAL-WRAP") (x25519Public own ++ pub) 32
        Runs (.vaultExport r) s (fun t => Same t (useKey h (freshBytes 32 s).2) ∧
          Answered s t r 0x0D08 0 (x25519Public own ++
            gcmSeal key (zeros 12) (leBytes 4 h ++ leBytes 8 s.vault.devId) (material s h)))))

/-- The life cycle (R507, R510, R511, Table 14-2): only the transitions of the table, each for the device named, are taken: the reply goes first,
then the fuses are blown with LC_CHANGED, and the WARM reset with cause 34 is due; on the way to RETURN the kill fuse goes first and the
nodes are erased. -/
def Claims.LifeCycle : Prop :=
  ∀ (r : Req) (s : State), let p := r.payload
    let solo := s.pair.role = 0
    let off := s.modes.radio = 0
    (∀ x, lifeStep s x = true ↔ (s.vault.life = 0 ∧ x = 1 ∧ s.vault.complete = true ∧ solo) ∨ (s.vault.life = 0 ∧ x = 2) ∨
      (s.vault.life = 1 ∧ x = 2 ∧ solo ∧ off) ∨ (s.vault.life ≤ 2 ∧ x = 0xFF ∧ off)) ∧
    (Admitted 0x0D03 true r s → p.length = 16 → zeroAt p 1 7 = true → let x := u8 p 0
      (x ≠ 1 → x ≠ 2 → x ≠ 0xFF → Runs (.lcAdvance r) s (fun t => Same t s ∧ Answered s t r 0x0D03 0x4001 [])) ∧
      (x = 1 ∨ x = 2 ∨ x = 0xFF → s.pwr.fuse = none → lifeStep s x = true → u64 p 8 = s.vault.devId → Runs (.lcAdvance r) s (fun t =>
        Same t { s with pwr := { s.pwr with fuse := some ⟨0, r, [BitVec.ofNat 8 x]⟩ } } ∧
        Answered s t r 0x0D03 0 (leBytes 1 s.vault.life ++ leBytes 1 x ++ [0, 0]))) ∧
      (x = 1 ∨ x = 2 ∨ x = 0xFF → s.pwr.fuse = none → lifeStep s x = false ∨ u64 p 8 ≠ s.vault.devId → Runs (.lcAdvance r) s (fun t =>
        Same t s ∧ Answered s t r 0x0D03 0x8D01 [])) ∧
      (x = 1 ∨ x = 2 ∨ x = 0xFF → s.pwr.fuse ≠ none → lifeStep s x = true → u64 p 8 = s.vault.devId → Runs (.lcAdvance r) s (fun t =>
        Same t s ∧ Answered s t r 0x0D03 0x2003 []))) ∧
    (∀ b : Byte, s.pwr.fuse = some ⟨0, r, [b]⟩ → b = 1 ∨ b = 2 ∨ b = 0xFF → let x := b.toNat
      let i := if x = 1 then 2 else if x = 2 then 3 else 4
      ∃ t, exec .fuseWriteComplete s = .next t ∧ t.pwr.fuse = none ∧
        t.vault.lifeFuses = putBit (putBit s.vault.lifeFuses (2 * i) true) (2 * i + 1) true ∧ t.vault.life = lifeOf t.vault.lifeFuses ∧
        (s.vault.lifeFuses < 2 ^ (2 * i) → t.vault.life = x) ∧
        (⟨3, 34, 0xFF, r.master, s.tb.gtc⟩ : ResetDue) ∈ t.pwr.resets ∧
        Reported s t 0xCD01 32 (leBytes 1 s.vault.life ++ leBytes 1 x ++ leBytes 1 r.master ++ [0]) ∧
        (x = 1 → bit t.repl.armed 1 = true) ∧
        (x = 2 → t.vault.kill = true ∧ t.vault.nodes = [] ∧ t.vault.issues = []))

/-- Firmware images (R530, R533, R534): FW_WRITE writes the slot that does not run, its flash write waiting behind the one that runs and its reply coming at
its end, with one of the failure codes where the flash fails; a write at offset 0 begins
the image anew and cancels its trial; FW_ACTIVATE starts a trial of an image that passes every check, confirms the running trial, or
ends it. -/
def Claims.FirmwareImages : Prop :=
  ∀ (r : Req) (s : State), let p := r.payload
    let i := u8 p 0
    (Admitted 0x0D0A true r s → within p.length 9 4104 = true → zeroAt p 1 3 = true → i ≤ 1 → u32 p 4 % 256 = 0 → u32 p 4 ≤ 16776960 →
      u32 p 4 + (p.length - 8) ≤ 16777216 →
      (s.vault.recovery = false → i = s.vault.running → Runs (.fwWrite r) s (fun t => Same t s ∧ Answered s t r 0x0D0A 0x8D0B [])) ∧
      (s.vault.recovery = true ∨ i ≠ s.vault.running → Runs (.fwWrite r) s (fun t =>
        Same t { s with pwr := { s.pwr with flash := enqueueFlash r ⟨1, some r⟩ s.pwr.flash } }))) ∧
    (∀ pre rest, s.pwr.flash = pre ++ ⟨1, some r⟩ :: rest → (∀ j ∈ pre, j.kind = 2) → Answerable s r →
      (∃ t y, exec (.flashWriteComplete true) s = .next t ∧ t.vault.slots = s.vault.slots.set i y ∧ t.pwr.flash = pre ++ rest ∧
        y.bytes = (if u32 p 4 = 0 then p.drop 8 else slotWrite (nth s.vault.slots i Slot.empty) (u32 p 4) (p.drop 8)) ∧
        y = slotFacts y.bytes y.written ∧
        y.written = (if u32 p 4 = 0 then (p.drop 8).length else (nth s.vault.slots i Slot.empty).written + (p.drop 8).length) ∧
        (u32 p 4 = 0 → s.vault.trial = some i → t.vault.trial = none ∧ t.vault.trialCount = 0) ∧
        (u32 p 4 ≠ 0 ∨ s.vault.trial ≠ some i → t.vault.trial = s.vault.trial ∧ t.vault.trialCount = s.vault.trialCount) ∧
        Answered s t r 0x0D0A 0 (leBytes 4 y.written)) ∧
      (∃ t st, exec (.flashWriteComplete false) s = .next t ∧ st ∈ failureCodes ∧ t.vault = s.vault ∧ t.pwr.flash = pre ++ rest ∧
        Answered s t r 0x0D0A st [])) ∧
    ((∀ j ∈ s.pwr.flash, j.kind = 2) → ∀ ok, exec (.flashWriteComplete ok) s = done s) ∧
    (Admitted 0x0D0B true r s → p.length = 4 → zeroAt p 2 2 = true → i ≤ 1 →
      let busy := ∃ j ∈ s.pwr.flash, j.kind = 1 ∧ ∃ q, j.req = some q ∧ u8 q.payload 0 = i
      let pay (v : Vault) := leBytes 1 v.preferred ++ leBytes 1 (v.trial.getD 0xFF) ++ leBytes 1 v.secCounter ++ [0]
      let ends (st : Nat) (v : Vault) := Runs (.fwActivate r) s (fun t => Same t { s with vault := v } ∧ Answered s t r 0x0D0B st (pay v))
      (u8 p 1 = 2 → busy → Runs (.fwActivate r) s (fun t => Same t s ∧ Answered s t r 0x0D0B 0x2003 [])) ∧
      (u8 p 1 = 0 → ¬ busy → imageCheck s i ≠ 0 → Runs (.fwActivate r) s (fun t => Same t s ∧ Answered s t r 0x0D0B 0x8D0A [])) ∧
      (u8 p 1 = 0 → ¬ busy → imageCheck s i = 0 →
        ends (if s.vault.trial = some i ∧ s.vault.trialCount = 0 then 0x0102 else 0) { s.vault with trial := some i, trialCount := 0 }) ∧
      (u8 p 1 = 1 → ¬ busy → ¬ (s.vault.recovery = false ∧ s.vault.trial = some i ∧ s.vault.running = i) →
        Runs (.fwActivate r) s (fun t => Same t s ∧ Answered s t r 0x0D0B 0x2005 [])) ∧
      (u8 p 1 = 1 → ¬ busy → s.vault.recovery = false → s.vault.trial = some i → s.vault.running = i →
        ends 0 { s.vault with
          preferred := i
          trial := none
          trialCount := 0
          secCounter := max s.vault.secCounter (nth s.vault.slots i Slot.empty).security }) ∧
      (u8 p 1 = 2 → ¬ busy →
        ends (if s.vault.trial = none ∧ s.vault.trialCount = 0 then 0x0102 else 0) { s.vault with trial := none, trialCount := 0 }))

/-- Tamper (R535 to R541): settings are held, and weaker ones refused once locked; the second consecutive sample at the active level makes an event,
which enters the record and performs its responses: wipe, erasing the share, a COLD reset with cause 51 (in SLEEP they wait for the wake,
but for the share and the reset); TAMPER_CLEAR clears record and
lock unless an input is active. -/
def Claims.Tamper : Prop :=
  ∀ (r : Req) (n : Nat) (high : Bool) (s : State), s.vault.tamper.length = 4 → let p := r.payload
    let x := nth s.vault.tamper n TamperIn.zero
    let act := if x.mode = 1 then high else !high
    (Admitted 0x0D0C true r s → p.length = 8 → u8 p 0 = n → n ≤ 3 → u8 p 1 ≤ 2 → u8 p 2 ≤ 15 → u8 p 3 ≤ 5 → u8 p 4 ≤ 1 → zeroAt p 5 3 = true →
      let weaker := (x.mode ≠ 0 ∧ u8 p 1 ≠ x.mode) ∨ Nat.land x.responses (u8 p 2) ≠ x.responses ∨ x.period < u8 p 3
      (s.vault.tLocked = true → weaker → Runs (.tamperSet r) s (fun t => Same t s ∧ Answered s t r 0x0D0C 0x2005 [])) ∧
      (s.vault.tLocked = false ∨ ¬ weaker → Runs (.tamperSet r) s (fun t =>
        (nth t.vault.tamper n TamperIn.zero).mode = u8 p 1 ∧ (nth t.vault.tamper n TamperIn.zero).responses = u8 p 2 ∧
        (nth t.vault.tamper n TamperIn.zero).period = u8 p 3 ∧ t.vault.tLocked = (s.vault.tLocked || bit (u8 p 4) 0) ∧
        (∀ k, k ≠ n → t.vault.tamper[k]? = s.vault.tamper[k]?) ∧
        Same t { s with vault := { s.vault with tamper := t.vault.tamper, tLocked := t.vault.tLocked } } ∧
        (let new := leBytes 1 n ++ leBytes 1 (u8 p 1) ++ leBytes 1 (u8 p 2) ++ leBytes 1 (u8 p 3) ++ leBytes 1 (flag t.vault.tLocked) ++ [0, 0, 0]
        let old := leBytes 1 n ++ leBytes 1 x.mode ++ leBytes 1 x.responses ++ leBytes 1 x.period ++ leBytes 1 (flag s.vault.tLocked) ++ [0, 0, 0]
        Answered s t r 0x0D0C (if old = new then 0x0102 else 0) new)))) ∧
    (Admitted 0x0D0D true r s → p = [] →
      ((∃ y ∈ s.vault.tamper, y.mode ≠ 0 ∧ y.last = true) → Runs (.tamperClear r) s (fun t => Same t s ∧ Answered s t r 0x0D0D 0x8D0C [])) ∧
      ((∀ y ∈ s.vault.tamper, y.mode = 0 ∨ y.last = false) →
        let b := leBytes 1 s.vault.inputs ++ [0] ++ leBytes 2 s.vault.events ++ leBytes 4 s.vault.firstRtc
        (s.vault.latch = false → Runs (.tamperClear r) s (fun t => Same t s ∧ Answered s t r 0x0D0D 0x0102 b)) ∧
        (s.vault.latch = true → Runs (.tamperClear r) s (fun t => Answered s t r 0x0D0D 0 b ∧ t.vault = { s.vault with
          latch := false, inputs := 0, firstRtc := 0, events := 0, locked := false, tamperOwed := [] } ∧
          Reported s t 0xCD05 32 [0, 4, 0, 0])))) ∧
    (x.mode = 0 ∨ 4 ≤ n → exec (.tamperSample n high) s = done s) ∧
    (n < 4 → x.mode ≠ 0 → act = false ∨ x.last = false ∨ x.evented = true → exec (.tamperSample n high) s =
      done { s with vault := { s.vault with tamper := modNth s.vault.tamper n (fun y => { y with
        last := act, active := act && y.last, evented := y.evented && act }) } }) ∧
    (n < 4 → x.mode ≠ 0 → act = true → x.last = true → x.evented = false → ∃ t, exec (.tamperSample n high) s = .next t ∧
      t.vault.latch = true ∧ bit t.vault.inputs n = true ∧ t.vault.events = min (s.vault.events + 1) 65535 ∧
      t.vault.firstRtc = (if s.vault.latch = true then s.vault.firstRtc else s.pwr.rtc) ∧
      (s.pwr.state ≤ 2 → s.pwr.fuse = none →
        Reported s t 0xCD03 (10 + n) (leBytes 1 (2 ^ n) ++ leBytes 1 x.responses ++ [0, 0] ++ leBytes 4 t.vault.firstRtc
          ++ leBytes 2 t.vault.events ++ [0, 0]) ∧
        (bit x.responses 0 = true → t.vault.locked = true ∧ t.vault.ops = [] ∧ t.vault.cells = [] ∧ Reported s t 0xCD05 32 [1, 1, 0, 0]) ∧
        (bit x.responses 1 = true → s.vault.bound = true → t.vault.share = none ∧ (s.vault.share ≠ none → t.vault.cells = [])) ∧
        (bit x.responses 2 = true → (⟨4, 51, 0xFF, 0xFF, s.tb.gtc⟩ : ResetDue) ∈ t.pwr.resets) ∧
        (bit x.responses 1 = false → t.vault.share = s.vault.share)) ∧
      (s.pwr.state = 3 → bit t.pwr.tamperWait n = true ∧ (bit x.responses 3 = true → bit t.pwr.wakes 4 = true) ∧
        (bit x.responses 2 = true → (⟨4, 51, 0xFF, 0xFF, s.tb.gtc⟩ : ResetDue) ∈ t.pwr.resets) ∧
        (bit x.responses 1 = true → s.vault.bound = true → t.vault.share = none)) ∧
      (s.pwr.state = 4 → t.pwr = s.pwr ∧ (bit x.responses 1 = true → s.vault.bound = true → t.vault.share = none)))

/-! ### CAN FD (chapter 15) -/

/-- CAN_CONFIG_SET (R546, R548, R563): the settings are in force, a change of mode starts the controller in the mode's state with counters of 0;
a timing outside R546 is refused with 0x8E04, a change of timing while RECOVERING with 0x2003. -/
def Claims.CanConfig : Prop :=
  ∀ (r : Req) (s : State), s.can.ctls.length = 4 → Admitted 0x0E01 true r s → let p := r.payload
    let c := u8 p 0
    let t := timingAt p 4
    let x := ctlOf s c
    let n := t.pre * (1 + t.seg1 + t.seg2)
    let d := t.dpre * (1 + t.dseg1 + t.dseg2)
    let good := t.sjw ≤ t.seg2 ∧ t.dsjw ≤ t.dseg2 ∧ 80 ≤ n ∧ n ≤ 8000 ∧ 10 ≤ d ∧ d ≤ n
    p.length = 16 → u8 p 2 < 8 → zeroAt p 14 2 = true → c ≤ 3 → u8 p 1 ≤ 2 → u8 p 3 ≤ 127 → timingRange t = true →
    (¬ good → ¬ (x.state = 6 ∧ x.timing ≠ t) → Runs (.canConfigSet r) s (fun u => Same u s ∧ Answered s u r 0x0E01 0x8E04 [])) ∧
    (good → x.state = 6 → x.timing ≠ t → Runs (.canConfigSet r) s (fun u => Same u s ∧ Answered s u r 0x0E01 0x2003 [])) ∧
    (good → ¬ (x.state = 6 ∧ x.timing ≠ t) → Runs (.canConfigSet r) s (fun u => let y := ctlOf u c
      y.mode = u8 p 1 ∧ y.flags = u8 p 2 ∧ y.tdc = u8 p 3 ∧ y.timing = t ∧ y.detect = none ∧ y.rejects = x.rejects ∧ y.ext = x.ext ∧
      y.state = (if x.mode ≠ u8 p 1 ∨ x.detect.isSome then (if u8 p 1 = 2 then 3 else u8 p 1) else x.state) ∧
      (x.mode ≠ u8 p 1 ∨ x.detect.isSome → y.txErr = 0 ∧ y.rxErr = 0) ∧
      (x.mode = u8 p 1 → x.detect = none → y.txErr = x.txErr ∧ y.rxErr = x.rxErr) ∧
      y.sync = (u8 p 1 != 0 && (x.sync || x.mode != u8 p 1 || x.detect.isSome || x.timing != t)) ∧ (∀ k, k ≠ c → ctlOf u k = ctlOf s k) ∧
      Answered s u r 0x0E01 (if x.mode = u8 p 1 ∧ x.flags = u8 p 2 ∧ x.tdc = u8 p 3 ∧ x.timing = t ∧ x.detect = none then 0x0102 else 0)
        (leBytes 1 c ++ leBytes 1 (u8 p 1) ++ leBytes 1 (u8 p 2) ++ leBytes 1 (u8 p 3) ++ timingBytes t ++ [0, 0]
        ++ leBytes 1 y.state ++ [0, 0, 0])))

/-- Filters, objects and the stream (R551, R554, R555, R563): CAN_FILTER_SET accepts or rejects a range of standard identifiers or sets extended
entries, of which those that change have their objects cleared; CAN_RX_READ gives the objects and clears NEW and LOST of those read; CAN_STREAM needs a queue bound
to the device; CAN_STATUS shows state and counters. -/
def Claims.CanObjects : Prop :=
  ∀ (r : Req) (s : State), s.can.ctls.length = 4 → let p := r.payload
    let c := u8 p 0
    let x := ctlOf s c
    let frame (u : State) := Same u { s with can := { s.can with ctls := u.can.ctls } } ∧ ∀ k, k ≠ c → ctlOf u k = ctlOf s k
    (Admitted 0x0E02 true r s → p.length = 8 → u8 p 7 = 0 → c ≤ 3 → u8 p 1 = 0 → u16 p 2 ≤ u16 p 4 → u16 p 4 ≤ 2047 → u8 p 6 ≤ 1 →
      Runs (.canFilterSet r) s (fun u => frame u ∧
        Answered s u r 0x0E02 (if rejectsAfter x.rejects (u16 p 2) (u16 p 4) (u8 p 6 == 1) = x.rejects then 0x0102 else 0) p ∧ ∀ i, i < 2048 →
        (i ∈ (ctlOf u c).rejects ↔ if u16 p 2 ≤ i ∧ i ≤ u16 p 4 then u8 p 6 = 0 else i ∈ x.rejects))) ∧
    (Admitted 0x0E02 true r s → p.length = 8 + 12 * u16 p 4 → u8 p 6 = 0 → u8 p 7 = 0 → c ≤ 3 → u8 p 1 = 1 → within (u16 p 4) 1 64 = true →
      u16 p 2 + u16 p 4 ≤ 1024 → (∀ i, i < u16 p 4 → u8 p (16 + 12 * i) ≤ 1 ∧ zeroAt p (17 + 12 * i) 3 = true ∧
        u32 p (8 + 12 * i) < 2 ^ 29 ∧ u32 p (12 + 12 * i) < 2 ^ 29) →
      let es := canExts p
      let new := es.foldl putExt x.ext
      (new = x.ext → Runs (.canFilterSet r) s (fun u => Same u s ∧ Answered s u r 0x0E02 0x0102 p)) ∧
      (new ≠ x.ext → Runs (.canFilterSet r) s (fun u => frame u ∧ Answered s u r 0x0E02 0 p ∧ let y := ctlOf u c
        y.ext = new ∧ y.extHist = x.extHist.filter (fun h => decide (sinceNs s h.1 < 1000000000)) ++ [(s.tb.gtc, x.ext)] ∧
        (∀ o, o ∈ y.objs ↔ o ∈ x.objs ∧ ¬ (o.ext = true ∧ ∃ e ∈ es, e.index = o.index ∧ extEntry x o.index ≠ e))))) ∧
    (Admitted 0x0E03 false r s → p.length = 8 → u8 p 5 ≤ 1 → zeroAt p 6 2 = true → c ≤ 3 → u8 p 1 ≤ 1 → within (u8 p 4) 1 48 = true →
      u16 p 2 + u8 p 4 ≤ (if u8 p 1 = 1 then 1024 else 2048) → let ext := u8 p 1 == 1
      let l := ((List.range (u8 p 4)).map (fun i => u16 p 2 + i)).filter (fun i => u8 p 5 == 0 || x.objs.any (fun o => isObj ext i o && o.new))
      Runs (.canRxRead r) s (fun u => frame u ∧ (∀ o ∈ (ctlOf u c).objs, o.ext = ext → o.index ∈ l → o.new = false ∧ o.lost = false) ∧
        (ctlOf u c).objs.map (fun o => (o.ext, o.index, o.frame)) = x.objs.map (fun o => (o.ext, o.index, o.frame)) ∧
        Answered s u r 0x0E03 0 (leBytes 2 l.length ++ [0, 0] ++ l.flatMap (objectRecord c x ext)))) ∧
    (Admitted 0x0E09 false r s → p.length = 4 → zeroAt p 2 2 = true → c ≤ 63 ∨ c = 0xFF → within (u8 p 1) 1 15 = true →
      (c = 0xFF ∨ sqDeviceBound s c = true → Runs (.canStream r) s (fun u =>
        Same u { s with can := { s.can with queue := c, streamMask := u8 p 1 } } ∧ Answered s u r 0x0E09 0 p)) ∧
      (c ≠ 0xFF → sqDeviceBound s c = false → Runs (.canStream r) s (fun u => Same u s ∧ Answered s u r 0x0E09 0x8E05 []))) ∧
    (Admitted 0x0E08 false r s → p.length = 4 → zeroAt p 1 3 = true → c ≤ 3 → Runs (.canStatus r) s (fun u => Same u s ∧
      Answered s u r 0x0E08 0 (leBytes 1 x.state ++ leBytes 1 (min x.txErr 255) ++ leBytes 1 (min x.rxErr 255) ++ [0]
        ++ leBytes 4 x.cReceived ++ leBytes 4 x.cSent ++ leBytes 4 x.cRejected ++ leBytes 4 x.cLost ++ leBytes 4 x.cStuff ++ leBytes 4 x.cForm
        ++ leBytes 4 x.cCrc ++ leBytes 4 x.cBit ++ leBytes 4 x.cAck ++ leBytes 4 x.cArb ++ leBytes 4 x.cBusOff
        ++ leBytes 8 (x.bufs.map (fun b => 2 ^ b.index)).sum)))

/-- Reception (R545, R551, R552): a valid frame on the bus is counted and stored in the object of its identifier, marked NEW, and LOST where an unread
one was there; a rejected one is counted; an FD frame where FD is off is a form error; a controller in ERROR_ACTIVE or ERROR_PASSIVE
acknowledges it and lowers its receive error counter (by one; from above 127 to a value of 119 to 127 that log entry 26 leaves open); a controller not on the bus hears nothing. -/
def Claims.CanReception : Prop :=
  ∀ (c : Nat) (f : CanFrame) (s : State), let x := ctlOf s c
    let fdError := bit f.flags 0 = true ∧ bit x.flags 0 = false
    let live := within x.state 3 4 = true
    (canOnBus s c = false → exec (.canFrameValid c f) s = done s) ∧
    (canOnBus s c = true → fdError → ∃ t, exec (.canFrameValid c f) s = .next t ∧
      (ctlOf t c).cForm = min (x.cForm + 1) (2 ^ 32 - 1) ∧ (ctlOf t c).objs = x.objs ∧ (ctlOf t c).cReceived = x.cReceived) ∧
    (canOnBus s c = true → ¬ fdError →
      (objectFor x f = none → ∃ t, exec (.canFrameValid c f) s = .next t ∧ (ctlOf t c).cReceived = min (x.cReceived + 1) (2 ^ 32 - 1) ∧
        (ctlOf t c).cRejected = min (x.cRejected + 1) (2 ^ 32 - 1) ∧ (ctlOf t c).objs = x.objs) ∧
      (∀ ext i, objectFor x f = some (ext, i) → let lost := x.objs.any (fun o => isObj ext i o && o.new)
        ∃ t, exec (.canFrameValid c f) s = .next t ∧ (ctlOf t c).cReceived = min (x.cReceived + 1) (2 ^ 32 - 1) ∧
          (ctlOf t c).cRejected = x.cRejected ∧ (ctlOf t c).objs = ⟨ext, i, f, true, lost⟩ :: x.objs.filter (fun o => !isObj ext i o) ∧
          (ctlOf t c).cLost = (if lost = true then min (x.cLost + 1) (2 ^ 32 - 1) else x.cLost))) ∧
    (canOnBus s c = true → ¬ fdError → live → x.detect = none → ∃ t, exec (.canFrameValid c f) s = .next t ∧ Out.canAck c ∈ newOuts s t ∧
      (x.rxErr ≤ 127 → (ctlOf t c).rxErr = x.rxErr - 1) ∧ (127 < x.rxErr → within (ctlOf t c).rxErr 119 127 = true)) ∧
    (wordExt f.word = false → (objectFor x f = none ↔ wordIdent f.word ∈ x.rejects) ∧
      (wordIdent f.word ∉ x.rejects → objectFor x f = some (false, wordIdent f.word))) ∧
    (∀ e l, wordExt f.word = true → extAt x f.gtc = e :: l → e.enable = true → Nat.land (Nat.xor (wordIdent f.word) e.ident) e.mask = 0 →
      objectFor x f = some (true, e.index))

/-- Transmission (R547, R550, R557, R558): CAN_TX takes the buffer named or the lowest free one, refusing a controller not in NORMAL with 0x8E01, no free
buffer with 0x8E02, a stop identifier with 0x8E03; the buffer that wins arbitration is sent with the bit rate switch unless its measured delay exceeds 127 (the secondary sample
point is that delay plus the offset), counted and reported; one that is
aborted, or is single-shot, leaves when its attempt fails. -/
def Claims.CanTransmission : Prop :=
  ∀ (r : Req) (s : State), s.can.ctls.length = 4 → let p := r.payload
    (Admitted 0x0E04 true r s → let c := u8 p 0
      let fd := bit (u8 p 2) 3
      p.length = 8 + dlcLength fd (u8 p 3) → u8 p 2 < 16 → u32 p 4 < 2 ^ 31 → c ≤ 3 → u8 p 1 ≤ 63 ∨ u8 p 1 = 0xFF → u8 p 3 ≤ 15 →
      wordExt (u32 p 4) = true ∨ wordIdent (u32 p 4) < 2048 → let x := ctlOf s c
      let buf := txBuffer x (u8 p 1)
      (x.state ≤ 2 → buf ≠ none → isStopWord s c (u32 p 4) = false →
        Runs (.canTx r) s (fun t => Same t s ∧ Answered s t r 0x0E04 0x8E01 [])) ∧
      (2 < x.state → buf = none → isStopWord s c (u32 p 4) = false →
        Runs (.canTx r) s (fun t => Same t s ∧ Answered s t r 0x0E04 0x8E02 [])) ∧
      (2 < x.state → buf ≠ none → isStopWord s c (u32 p 4) = true →
        Runs (.canTx r) s (fun t => Same t s ∧ Answered s t r 0x0E04 0x8E03 [])) ∧
      (∀ i, 2 < x.state → buf = some i → isStopWord s c (u32 p 4) = false → (∀ b ∈ x.bufs, b.index ≠ i) ∧
        Runs (.canTx r) s (fun t => Same t { s with can := { s.can with ctls := modNth s.can.ctls c (fun y => { y with
          bufs := y.bufs ++ [⟨i, ⟨s.tb.gtc, u32 p 4, u8 p 3, flag fd + 2 * flag (bit (u8 p 2) 2), p.drop 8⟩, bit (u8 p 2) 0, bit (u8 p 2) 1, false⟩] }) } } ∧
          Answered s t r 0x0E04 0 (leBytes 1 i ++ [0, 0, 0])))) ∧
    (Admitted 0x0E05 true r s → p.length = 4 → zeroAt p 2 2 = true → u8 p 0 ≤ 3 → u8 p 1 ≤ 63 ∨ u8 p 1 = 0xFF → let c := u8 p 0
      let named (b : CanBuf) := u8 p 1 = 0xFF ∨ b.index = u8 p 1
      ((∀ b ∈ (ctlOf s c).bufs, ¬ named b) → Runs (.canTxAbort r) s (fun t => Same t s ∧ Answered s t r 0x0E05 0x0102 [])) ∧
      ((∃ b ∈ (ctlOf s c).bufs, named b) → Runs (.canTxAbort r) s (fun t => Answered s t r 0x0E05 0 [] ∧
        Same t { s with can := { s.can with ctls := t.can.ctls } } ∧ (∀ k, k ≠ c → ctlOf t k = ctlOf s k) ∧
        (∀ b ∈ (ctlOf t c).bufs, named b → b.abort = true ∧ canOnBus s c = true) ∧ (∀ b ∈ (ctlOf s c).bufs, ¬ named b → b ∈ (ctlOf t c).bufs)))) ∧
    (∀ c b ok start delay, let x := ctlOf s c
      let y := x.bufs.find? (fun y => y.index == b)
      let sends (y : CanBuf) := canOnBus s c = true ∧ within x.state 3 4 = true ∧ bufWins x.bufs y start = true ∧
        elapsed start y.frame.gtc < 2 ^ 63
      let told (t : State) (y : CanBuf) (result : Nat) := y.report = true → Reported s t 0xCE03 (16 + c) (leBytes 1 c ++ leBytes 1 b
        ++ leBytes 1 result ++ [0] ++ leBytes 4 y.frame.word ++ leBytes 8 (start : Gtc).toNat)
      (y = none → exec (.canTxComplete c b ok start delay) s = done s) ∧
      (∀ z, y = some z → ¬ sends z → exec (.canTxComplete c b ok start delay) s = done s) ∧
      (∀ z, y = some z → sends z → ok = true → ∃ t, exec (.canTxComplete c b ok start delay) s = .next t ∧
        (ctlOf t c).cSent = min (x.cSent + 1) (2 ^ 32 - 1) ∧ (∀ w ∈ (ctlOf t c).bufs, w.index ≠ b) ∧ told t z 0 ∧
        (let fd := bit z.frame.flags 0
        let brs := fd && bit z.frame.flags 1 && decide (delay ≤ 127)
        let offset := if bit x.flags 1 = true then x.tdc else (1 + x.timing.dseg1) * x.timing.dpre
        (ctlOf t c).delay = (if fd = true then delay else x.delay) ∧
        Out.can c { z.frame with gtc := start, flags := flag fd + 2 * flag brs + 4 * flag (fd && x.state == 4) }
          (if brs = true then delay + offset else 0) ∈ newOuts s t)) ∧
      (∀ z, y = some z → sends z → ok = false → z.abort = true → ∃ t, exec (.canTxComplete c b ok start delay) s = .next t ∧
        (ctlOf t c).bufs = x.bufs.filter (fun w => w.index != b) ∧ told t z 1) ∧
      (∀ z, y = some z → sends z → ok = false → z.abort = false → z.single = true → ∃ t,
        exec (.canTxComplete c b ok start delay) s = .next t ∧ (ctlOf t c).bufs = x.bufs.filter (fun w => w.index != b) ∧ told t z 2) ∧
      (∀ z, y = some z → sends z → ok = false → z.abort = false → z.single = false →
        exec (.canTxComplete c b ok start delay) s = done s))

/-- Error states and rate detection (R548, R549, R559): an error is counted by its kind and moves the error counters as ISO 11898-1 has them
(PRESUMED; log entry 26), which decide among ERROR_ACTIVE, ERROR_PASSIVE and BUS_OFF, which recovers at once while 0x0B is armed; CAN_RECOVER starts the recovery, which ends in ERROR_ACTIVE with
counters of 0; a detection tries its entries one dwell time each, adopts the one with eight frames, and ends in LISTEN after its
timeout. -/
def Claims.CanErrors : Prop :=
  ∀ (c : Nat) (s : State), let x := ctlOf s c
    (∀ kind (tx : Bool) extra (exempt : Bool), let e : Instr := .canBusError c kind tx extra exempt
      let live := within x.state 3 4 = true
      let up (k n : Nat) := if kind = k then min (n + 1) (2 ^ 32 - 1) else n
      let n := if kind = 5 then 0
        else if tx = true then (if exempt = true ∧ (kind = 0 ∨ (kind = 4 ∧ x.state = 4)) then 0 else 8) + 8 * extra
        else 1 + 8 * extra
      let te := if tx = true then x.txErr + n else x.txErr
      let re := if tx = true then x.rxErr else x.rxErr + n
      let new := if 255 < te then (if armed s 11 = true then 6 else 5) else if 127 < te ∨ 127 < re then 4 else 3
      let first := if 255 < te then 5 else new
      (canOnBus s c = false ∨ 5 < kind → exec e s = done s) ∧
      (canOnBus s c = true → kind ≤ 5 → ∃ t, exec e s = .next t ∧ let y := ctlOf t c
        y.cStuff = up 0 x.cStuff ∧ y.cForm = up 1 x.cForm ∧ y.cCrc = up 2 x.cCrc ∧ y.cBit = up 3 x.cBit ∧ y.cAck = up 4 x.cAck ∧
        y.cArb = up 5 x.cArb ∧
        (live → y.state = new ∧ y.txErr = te ∧ y.rxErr = re ∧
          (kind ≤ 4 → Out.canErrorFlag c (x.state == 3) ∈ newOuts s t) ∧
          (255 < te → y.bufs = [] ∧ y.cBusOff = min (x.cBusOff + 1) (2 ^ 32 - 1)) ∧
          (first ≠ x.state → (∀ l ∈ s.limiters, ¬ (l.code = 0xCE01 ∧ l.key = c)) → Reported s t 0xCE01 (16 + c) (leBytes 1 c
            ++ leBytes 1 x.state ++ leBytes 1 first ++ [1] ++ leBytes 1 (min te 255) ++ leBytes 1 (min re 255) ++ [0, 0]))) ∧
        (¬ live → y.state = x.state ∧ y.txErr = x.txErr ∧ y.rxErr = x.rxErr ∧ y.bufs = x.bufs) ∧
        (∀ d, x.detect = some d → kind ≤ 2 → y.sync = true ∧ y.detect = some { d with
          entry := (d.entry + 1) % max d.table.length 1
          entrySince := s.tb.gtc
          good := 0
          brs := false }) ∧
        (x.detect = none ∨ 2 < kind → y.detect = x.detect ∧ y.sync = x.sync))) ∧
    (exec (.canBusIdleSync c) s = done (if canRuns s = true then { s with can := { s.can with
      ctls := modNth s.can.ctls c (fun y => { y with sync := false }) } } else s)) ∧
    (∀ r, c = u8 r.payload 0 → Admitted 0x0E07 true r s → r.payload.length = 4 → zeroAt r.payload 1 3 = true → c ≤ 3 →
      (x.state ≠ 5 → Runs (.canRecover r) s (fun t => Same t s ∧ Answered s t r 0x0E07 0x8E06 [])) ∧
      (x.state = 5 → Runs (.canRecover r) s (fun t => (ctlOf t c).state = 6 ∧ Answered s t r 0x0E07 0 []))) ∧
    (canRuns s = true → x.state = 6 → ∃ t, exec (.canRecoveryComplete c) s = .next t ∧ (ctlOf t c).state = 3 ∧ (ctlOf t c).txErr = 0 ∧
      (ctlOf t c).rxErr = 0) ∧
    (canRuns s = false ∨ x.state ≠ 6 → exec (.canRecoveryComplete c) s = done s) ∧
    (∀ r, c = u8 r.payload 0 → s.can.ctls.length = 4 → Admitted 0x0E06 true r s → let p := r.payload
      let ts := (List.range (u8 p 1)).map (fun i => timingAt p (8 + 12 * i))
      p.length = 8 + 12 * u8 p 1 → u8 p 2 ≤ 1 → zeroAt p 6 2 = true → (∀ i, i < u8 p 1 → zeroAt p (18 + 12 * i) 2 = true) → c ≤ 3 →
      within (u8 p 1) 1 16 = true → within (u8 p 3) 1 100 = true → within (u16 p 4) 1 600 = true → (∀ t ∈ ts, timingRange t = true) →
      ((∃ t ∈ ts, timingValid t = false) → Runs (.canRateDetect r) s (fun t => Same t s ∧ Answered s t r 0x0E06 0x8E04 [])) ∧
      ((∀ t ∈ ts, timingValid t = true) → Runs (.canRateDetect r) s (fun t => (ctlOf t c).state = 2 ∧ (ctlOf t c).sync = true ∧
        (ctlOf t c).detect = some ⟨ts, 0, bit (u8 p 2) 0, u8 p 3, u16 p 4, s.tb.gtc, s.tb.gtc, 0, false, 0⟩ ∧ Answered s t r 0x0E06 0 []))) ∧
    (x.detect = none ∨ canRuns s = false → exec (.canRateDwell c) s = done s ∧ exec (.canRateTimeout c) s = done s) ∧
    (∀ d, x.detect = some d → canRuns s = true →
      (d.dwell * 100000000 ≤ sinceNs s d.entrySince → ∃ t, exec (.canRateDwell c) s = .next t ∧ (ctlOf t c).sync = true ∧
        (ctlOf t c).detect = some { d with entry := (d.entry + 1) % max d.table.length 1, entrySince := s.tb.gtc, good := 0, brs := false }) ∧
      (sinceNs s d.entrySince < d.dwell * 100000000 → exec (.canRateDwell c) s = done s) ∧
      (d.timeout * 1000000000 ≤ sinceNs s d.start → ∃ t, exec (.canRateTimeout c) s = .next t ∧ (ctlOf t c).state = 1 ∧
        (ctlOf t c).mode = 1 ∧ (ctlOf t c).timing = x.timing ∧ (ctlOf t c).detect = none ∧
        Reported s t 0xCE02 (16 + c) (leBytes 1 c ++ [1] ++ leBytes 1 d.entry ++ [0] ++ leBytes 4 d.seen)) ∧
      (sinceNs s d.start < d.timeout * 1000000000 → exec (.canRateTimeout c) s = done s) ∧
      (∀ f, d.good = 7 → canOnBus s c = true → bit f.flags 0 = false ∨ bit x.flags 0 = true → ∃ t, exec (.canFrameValid c f) s = .next t ∧ (ctlOf t c).detect = none ∧
        (ctlOf t c).timing = nth d.table d.entry x.timing ∧ (ctlOf t c).state = (if d.normal = true then 3 else 1) ∧
        Reported s t 0xCE02 (16 + c) (leBytes 1 c ++ [0] ++ leBytes 1 d.entry ++ leBytes 1 (flag (d.brs || bit f.flags 1))
          ++ leBytes 4 (d.seen + 1))))

/-- Stop identifiers (R386, R560): the heartbeat of an enabled identifier that demands stop is trigger 4, which enters ECLIPSE while it is armed;
one whose frames come demands nothing. -/
def Claims.StopIdentifiers : Prop :=
  ∀ (i : Nat) (s : State),
    (s.ecl.ids[i]? = none → exec (.canHeartbeatTimeout i) s = done s) ∧
    (∀ x, s.ecl.ids[i]? = some x → x.enabled = false → exec (.canHeartbeatTimeout i) s = done s) ∧
    (∀ x g, s.ecl.ids[i]? = some x → x.enabled = true → x.good = some g → x.heartbeat ≠ 0 → x.heartbeat * 10000000 ≤ sinceNs s g →
      s.pair.role ≠ 2 → armed s 2 = true → s.repl.ecl.state = 0 → ∃ t, exec (.canHeartbeatTimeout i) s = .next t ∧
        t.repl.ecl.state = 1 ∧ t.repl.ecl.cause = 4 ∧ t.repl.ecl.seq = nextEclSeq s.repl.ecl.seq ∧
        Reported s t 0xC901 (16 + x.ctl) (leBytes 1 0 ++ leBytes 1 1 ++ leBytes 1 4 ++ leBytes 1 (16 + x.ctl)
          ++ leBytes 2 (nextEclSeq s.repl.ecl.seq) ++ [0xFF, 0] ++ leBytes 4 0)) ∧
    (∀ x, s.ecl.ids[i]? = some x → x.enabled = true → (∀ y ∈ s.ecl.ids, y.ctl = x.ctl → idDemands s y = false) →
      s.ecl.active.contains (4, 16 + x.ctl) = false → exec (.canHeartbeatTimeout i) s = done s)

/-! ### Power, monitors and calibration (chapter 17) -/

/-- Power states (R579, R580, R602): a change among RUN, DOZE and NAP is in force at once while the radio is OFF, else it waits for the orbit; a
request for SLEEP is refused to a member of a pair and with a wake time in the past, and is deferred with its causes while any
holds; PWR_STATUS changes nothing. -/
def Claims.PowerStates : Prop :=
  ∀ (r : Req) (s : State), let p := r.payload
    let n := u8 p 0
    let wake := u32 p 4
    let late := wake ≠ 0 ∧ wake < s.pwr.rtc + 2
    (Admitted 0x1001 true r s → p.length = 8 → zeroAt p 2 2 = true → n ≤ 3 → u8 p 1 ≤ 2 →
      (n = 3 → s.pair.role ≠ 0 → ¬ late → Runs (.pwrStateSet r) s (fun t => Same t s ∧ Answered s t r 0x1001 0x2002 [])) ∧
      (n = 3 → s.pair.role = 0 → late → Runs (.pwrStateSet r) s (fun t => Same t s ∧ Answered s t r 0x1001 0x9001 [])) ∧
      (n ≤ 2 → s.modes.radio = 0 → Runs (.pwrStateSet r) s (fun t => t.pwr.state = n ∧ t.pwr.requested = n ∧ t.pwr.causes = 0 ∧
        t.pwr.owed = none ∧ Same t { s with pwr := t.pwr, trown := t.trown } ∧
        Answered s t r 0x1001 (if s.pwr.requested = n then 0x0102 else 0) (leBytes 1 n ++ leBytes 1 n ++ [0, 0]) ∧
        (s.pwr.state ≠ n → t.pwr.since = s.tb.gtc ∧
          Reported s t 0xD002 33 (leBytes 1 s.pwr.state ++ leBytes 1 n ++ [0, 0, 0, 0, 0, 0] ++ leBytes 8 0)))) ∧
      (n ≤ 2 → s.modes.radio ≠ 0 → Runs (.pwrStateSet r) s (fun t =>
        Same t { s with pwr := { s.pwr with requested := n, causes := 0, owed := none } } ∧
        Answered s t r 0x1001 (if s.pwr.requested = n then 0x0102 else 0) (leBytes 1 s.pwr.state ++ leBytes 1 n ++ [0, 0]))) ∧
      (n = 3 → s.pair.role = 0 → ¬ late → let asked (c : Nat) (o : Option Req) : State := { s with pwr := { s.pwr with
          requested := 3, wakeState := u8 p 1, wakeTime := wake, causes := c, owed := o } }
        (deferral s = 0 → Runs (.pwrStateSet r) s (fun t => Same t (asked 0 (some r)))) ∧
        (deferral s ≠ 0 → Runs (.pwrStateSet r) s (fun t => Same t (asked (deferral s) none) ∧
          Answered s t r 0x1001 0x0101 (leBytes 1 s.pwr.state ++ [3] ++ leBytes 1 (deferral s) ++ [0]) ∧
          (s.pwr.requested ≠ 3 → Reported s t 0xD002 33 (leBytes 1 s.pwr.state ++ leBytes 1 s.pwr.state ++ [2] ++ leBytes 1 (deferral s)
            ++ [0, 0, 0, 0] ++ leBytes 8 0)))))) ∧
    (Admitted 0x1002 false r s → p = [] → Runs (.pwrStatus r) s (fun t => Same t { s with free := s.free + 1 } ∧
      Answered s t r 0x1002 0 (pwrStatusBytes ((fresh s).1 % 65536) s)))

/-- The supply loop (R593, R594): AVS_FENCE_SET holds fences in order; each update of the loop raises the voltage by 10 mV for a slack below 20 ps,
lowers it by 5 mV after 100 ms above 60 ps, clamped to the fences, or holds the fixed value; it runs while the firmware does. -/
def Claims.SupplyLoop : Prop :=
  ∀ (slack : Int) (s : State),
    (∀ r, Admitted 0x1003 true r s → let p := r.payload
      let fixed := if u8 p 0 = 1 then some (iN 4 p 12) else none
      p.length = 16 → zeroAt p 1 3 = true → u8 p 0 ≤ 1 → withinI (iN 4 p 4) 650 850 = true → withinI (iN 4 p 8) 650 850 = true →
      (u8 p 0 = 1 → withinI (iN 4 p 12) 650 850 = true) →
      (iN 4 p 8 < iN 4 p 4 → Runs (.avsFenceSet r) s (fun t => Same t s ∧ Answered s t r 0x1003 0x4003 [])) ∧
      (iN 4 p 4 ≤ iN 4 p 8 → Runs (.avsFenceSet r) s (fun t =>
        Same t { s with pwr := { s.pwr with avsLo := iN 4 p 4, avsHi := iN 4 p 8, avsFixed := fixed } } ∧
        Answered s t r 0x1003 (if s.pwr.avsLo = iN 4 p 4 ∧ s.pwr.avsHi = iN 4 p 8 ∧ s.pwr.avsFixed = fixed then 0x0102 else 0) p))) ∧
    (fwRuns s = false → exec (.avsTick slack) s = done s) ∧
    (fwRuns s = true → ∃ t, exec (.avsTick slack) s = .next t ∧ t.pwr.avsSlack = slack ∧
      (∀ f, s.pwr.avsFixed = some f → t.pwr.avsV = f) ∧
      (s.pwr.avsFixed = none →
        (slack < 20 → t.pwr.avsV = clampInt s.pwr.avsLo s.pwr.avsHi (s.pwr.avsV + 10)) ∧
        (∀ g, 60 < slack → s.pwr.avsHighSince = some g → 100000000 ≤ sinceNs s g →
          t.pwr.avsV = clampInt s.pwr.avsLo s.pwr.avsHi (s.pwr.avsV - 5)) ∧
        (∀ g, 60 < slack → s.pwr.avsHighSince = some g → sinceNs s g < 100000000 →
          t.pwr.avsV = clampInt s.pwr.avsLo s.pwr.avsHi s.pwr.avsV) ∧
        (20 ≤ slack → slack ≤ 60 ∨ s.pwr.avsHighSince = none → t.pwr.avsV = clampInt s.pwr.avsLo s.pwr.avsHi s.pwr.avsV)) ∧
      t.pwr.avsHighSince = (if 60 < slack then some (s.pwr.avsHighSince.getD s.tb.gtc) else none) ∧
      (t.pwr.avsV ≠ s.pwr.avsV → Out.avs t.pwr.avsV ∈ newOuts s t) ∧
      Same t { s with pwr := { s.pwr with
        avsV := t.pwr.avsV
        avsSlack := slack
        avsHighSince := t.pwr.avsHighSince
        avsNegSince := t.pwr.avsNegSince
        monitors := t.pwr.monitors } })

/-- The watchdog's renewals (R591): a renewal starts the core's timeout anew; at half of it the cores still running report the late ones; WD_SET
sets timeout and escalation window. -/
def Claims.WatchdogRenewals : Prop :=
  ∀ (core : Nat) (s : State),
    exec (.watchdogRenewal core) s = done { s with pwr := { s.pwr with
      renewals := modNth s.pwr.renewals core (fun _ => s.tb.gtc)
      renewed := if core < 8 then putBit s.pwr.renewed core true else s.pwr.renewed } } ∧
    (fwRuns s = true → core < 8 → lateCore s core = true → lateBits s ≠ 255 → ∃ t, exec (.watchdogHalfTimeout core) s = .next t ∧ Same t s ∧
      Reported s t 0xD007 33 (leBytes 1 (lateBits s) ++ [0, 0, 0]
        ++ leBytes 4 (((List.range 8).map (fun c => sinceNs s (nth s.pwr.renewals c 0) / 1000000)).foldl max 0))) ∧
    (fwRuns s = false ∨ 8 ≤ core ∨ lateCore s core = false ∨ lateBits s = 255 → exec (.watchdogHalfTimeout core) s = done s) ∧
    (lateCore s core = true ↔ s.pwr.wdTimeout * 500000 ≤ sinceNs s (nth s.pwr.renewals core 0)) ∧
    (∀ r, Admitted 0x1004 true r s → r.payload.length = 4 → within (u16 r.payload 0) 100 10000 = true →
      within (u16 r.payload 2) 10 3600 = true → Runs (.wdSet r) s (fun t =>
        Same t { s with pwr := { s.pwr with wdTimeout := u16 r.payload 0, wdWindow := u16 r.payload 2 } } ∧
        Answered s t r 0x1004 (if s.pwr.wdTimeout = u16 r.payload 0 ∧ s.pwr.wdWindow = u16 r.payload 2 then 0x0102 else 0) r.payload))

/-- Monitors, temperature and ECC (R578, R595 to R597): the start and end of a monitored condition set its bit and are reported; the junction's level
follows its thresholds with 5 degrees of hysteresis, and 160 degrees makes a COLD reset due, which is held and ends in the boot once the sensor reads below 145; ECC errors are counted and reported. -/
def Claims.Monitors : Prop :=
  ∀ s : State,
    (∀ code value, within code 1 9 = true → code ≠ 6 →
      let told (b : Bool) (t : State) := Same t { s with pwr := { s.pwr with monitors := putBit s.pwr.monitors (code - 1) b } } ∧
        Reported s t 0xD006 33 (leBytes 1 code ++ leBytes 1 (flag b) ++ [0, 0] ++ leInt 4 value)
      (bit s.pwr.monitors (code - 1) = false → (∃ t, exec (.monitorFault code value) s = .next t ∧ told true t) ∧
        exec (.monitorClear code value) s = done s) ∧
      (bit s.pwr.monitors (code - 1) = true → (∃ t, exec (.monitorClear code value) s = .next t ∧ told false t) ∧
        exec (.monitorFault code value) s = done s)) ∧
    (s.pwr.refLost = false → exec .refInRestored s = done s ∧ ∃ t v, exec .refInLost s = .next t ∧
      Same t { s with free := s.free + 1, pwr := { s.pwr with refLost := true, monitors := putBit s.pwr.monitors 5 true } } ∧
      Reported s t 0xD006 33 ([6, 1, 0, 0] ++ leInt 4 v)) ∧
    (s.pwr.refLost = true → exec .refInLost s = done s ∧ ∃ t v, exec .refInRestored s = .next t ∧
      Same t { s with free := s.free + 1, pwr := { s.pwr with refLost := false, monitors := putBit s.pwr.monitors 5 false } } ∧
      Reported s t 0xD006 33 ([6, 0, 0, 0] ++ leInt 4 v)) ∧
    (∀ sensor temp, s.pwr.state ≠ 4 → s.pwr.tripHeld = false → let old := s.pwr.thLevel
      let n := if 15000 ≤ temp ∨ (old = 2 ∧ 14500 < temp) then 2
        else if s.pwr.thWarn ≤ temp ∨ (1 ≤ old ∧ s.pwr.thWarn - 500 < temp) then 1 else 0
      ∃ t, exec (.thermalChange sensor temp) s = .next t ∧ t.pwr.thLevel = n ∧ t.pwr.thTop = temp ∧ t.pwr.thSensor = sensor ∧
        (n ≠ old → Reported s t 0xD005 33 (leBytes 1 n ++ leBytes 1 sensor ++ leInt 2 temp)) ∧
        (16000 ≤ temp → t.pwr.tripHeld = true ∧ (⟨4, 52, 0xFF, 0xFF, s.tb.gtc⟩ : ResetDue) ∈ t.pwr.resets) ∧
        (temp < 16000 → Same t { s with pwr := { s.pwr with thLevel := n, thTop := temp, thSensor := sensor } })) ∧
    (∀ sensor temp, s.pwr.state = 4 → exec (.thermalChange sensor temp) s = done s) ∧
    (∀ sensor temp, s.pwr.state ≠ 4 → s.pwr.tripHeld = true →
      (14500 ≤ temp → exec (.thermalChange sensor temp) s = done { s with pwr := { s.pwr with thTop := temp, thSensor := sensor } }) ∧
      (temp < 14500 → let u := { s with pwr := { s.pwr with thTop := temp, thSensor := sensor, tripHeld := false } }
        (s.pwr.state = 3 ∨ bit s.pwr.powered 10 = true ∨ s.pins.bootSel = 3 → exec (.thermalChange sensor temp) s = done u) ∧
        (s.pwr.state ≠ 3 → bit s.pwr.powered 10 = false → s.pins.bootSel ≠ 3 → exec (.thermalChange sensor temp) s =
          done (coldBoot 52 s.pwr.cycles coldMap { u with pwr := { u.pwr with powered := 0x3FFF } })))) ∧
    (∀ r, Admitted 0x1005 true r s → r.payload.length = 4 → zeroAt r.payload 2 2 = true → within (u16 r.payload 0) 10000 14800 = true →
      let w : Int := u16 r.payload 0
      let old := s.pwr.thLevel
      let n := if 15000 ≤ s.pwr.thTop ∨ (old = 2 ∧ 14500 < s.pwr.thTop) then 2
        else if w ≤ s.pwr.thTop ∨ (1 ≤ old ∧ w - 500 < s.pwr.thTop) then 1 else 0
      Runs (.thermalSet r) s (fun t => Same t { s with pwr := { s.pwr with thWarn := w, thLevel := n } } ∧
        (n ≠ old → Reported s t 0xD005 33 (leBytes 1 n ++ leBytes 1 s.pwr.thSensor ++ leInt 2 s.pwr.thTop)) ∧
        Answered s t r 0x1005 (if s.pwr.thWarn = w then 0x0102 else 0) r.payload)) ∧
    (∀ mem u source address object, within mem 1 2 = false → exec (.memEccError mem u source address object) s = done s) ∧
    (∀ mem source address object, within mem 1 2 = true → ∃ t, exec (.memEccError mem false source address object) s = .next t ∧
      Same t { s with pwr := { s.pwr with
        eccSramC := if mem = 1 then min (s.pwr.eccSramC + 1) (2 ^ 32 - 1) else s.pwr.eccSramC
        eccMemC := if mem = 2 then min (s.pwr.eccMemC + 1) (2 ^ 32 - 1) else s.pwr.eccMemC } } ∧
      ((∀ l ∈ s.limiters, ¬ (l.code = 0xD004 ∧ l.key = mem)) → Reported s t 0xD004 33 (leBytes 1 mem ++ [0] ++ leBytes 1 source ++ [0]
        ++ leBytes 4 1 ++ leBytes 8 address))) ∧
    (∀ mem source address object, within mem 1 2 = true → ∃ t, exec (.memEccError mem true source address object) s = .next t ∧
      Reported s t 0xD004 33 (leBytes 1 mem ++ [1] ++ leBytes 1 source ++ [0] ++ leBytes 4 1 ++ leBytes 8 address) ∧
      t.pwr = { s.pwr with
        eccSramU := if mem = 1 then min (s.pwr.eccSramU + 1) (2 ^ 32 - 1) else s.pwr.eccSramU
        eccMemU := if mem = 2 then min (s.pwr.eccMemU + 1) (2 ^ 32 - 1) else s.pwr.eccMemU } ∧
      (∀ k, mem = 2 → source = 30 → taskOf s object = some k → k.state = 3 ∨ k.state = 4 → k.ending = false →
        t.pair.decisions = s.pair.decisions ++ [⟨s.tb.gtc, 30, .taskEnd k.slot k.gen 9 8⟩]))

/-- The calibration record (R598 to R601): CALIB_READ gives a section; CALIB_WRITE is refused in RETURN, in SERVE outside Eclipse and while another
write runs, else writes; once the flash has it the section is in use, counted and reported. -/
def Claims.Calibration : Prop :=
  ∀ (r : Req) (s : State), let p := r.payload
    let n := u8 p 0
    (Admitted 0x1101 false r s → p.length = 1 → within n 1 8 = true → Runs (.calibRead r) s (fun t => Same t s ∧
      Answered s t r 0x1101 0 (leBytes 1 n ++ leBytes 1 (flag s.pwr.calUser) ++ leBytes 2 s.pwr.calCount ++ nth s.pwr.calib (n - 1) []))) ∧
    (Admitted 0x1102 true r s → within n 1 8 = true → p.length = 4 + calibLength n → zeroAt p 1 3 = true →
      (n = 5 → ∀ h, h < 4 → radioBlockOk (sub (p.drop 4) (168 * h) 168) = true) → let serving := s.modes.radio = 2 ∧ eclShown s = 0
      (s.vault.life = 2 → ¬ serving → s.pwr.flash = [] → Runs (.calibWrite r) s (fun t => Same t s ∧ Answered s t r 0x1102 0x2001 [])) ∧
      (s.vault.life ≠ 2 → serving → s.pwr.flash = [] → Runs (.calibWrite r) s (fun t => Same t s ∧ Answered s t r 0x1102 0x2002 [])) ∧
      (s.vault.life ≠ 2 → ¬ serving → s.pwr.flash ≠ [] → Runs (.calibWrite r) s (fun t => Same t s ∧ Answered s t r 0x1102 0x2003 [])) ∧
      (s.vault.life ≠ 2 → ¬ serving → s.pwr.flash = [] → Runs (.calibWrite r) s (fun t =>
        Same t { s with pwr := { s.pwr with flash := [⟨0, some r⟩] } }))) ∧
    (∀ pre rest, s.pwr.flash = pre ++ ⟨0, some r⟩ :: rest → (∀ j ∈ pre, j.kind = 2) → Answerable s r → within n 1 8 = true →
      (∃ t, exec (.flashWriteComplete true) s = .next t ∧ t.pwr.calib = modNth s.pwr.calib (n - 1) (fun _ => p.drop 4) ∧ t.pwr.calUser = true ∧
        t.pwr.calCount = (s.pwr.calCount + 1) % 65536 ∧ t.pwr.flash = pre ++ rest ∧
        Answered s t r 0x1102 0 (leBytes 2 t.pwr.calCount ++ [0, 0] ++ leBytes 4 (crc32c t.pwr.calib.flatten)) ∧
        Reported s t 0xD101 33 (leBytes 1 n ++ leBytes 1 r.master ++ leBytes 2 t.pwr.calCount ++ leBytes 4 (crc32c t.pwr.calib.flatten))) ∧
      (∃ t, exec (.flashWriteComplete false) s = .next t ∧ t.pwr.calib = s.pwr.calib ∧ t.pwr.calCount = s.pwr.calCount ∧ t.pwr.flash = pre ++ rest ∧
        Answered s t r 0x1102 0x9101 []))

/-! ### Resets, SLEEP and wake (chapter 17) -/

/-- RESET_REPORT for PORT and DOMAIN resets, which start no image (Table 17-14). -/
def portReport (cls cause target master cleared : Nat) (s : State) : List Byte :=
  leBytes 1 cls ++ leBytes 1 cause ++ leBytes 1 target ++ leBytes 1 master ++ leBytes 4 s.pwr.cycles ++ leBytes 4 s.pwr.hours
    ++ leBytes 4 s.vault.fw ++ leBytes 8 cleared ++ leBytes 1 (eclShown s) ++ leBytes 1 s.vault.life ++ [0xFF, 0] ++ leBytes 4 s.pwr.rtc

/-- PORT reset (R60, R85, R119, R586, R589): by a RESET command that has been due for 1 ms, a Function Level Reset or PCIE_PERST_N low, it ends the
port's session, freezing, locks and window on the log and nothing of the other ports, and is reported with CLEARED_MAP. -/
def Claims.PortResets : Prop :=
  ∀ (m : Nat) (s : State),
    (s.pwr.state = 4 → (∀ cause, exec (.portReset m cause) s = done s) ∧ exec .pcieFlr s = done s ∧
      exec .pciePerstLow s = done { s with pwr := { s.pwr with perst := true } }) ∧
    (∀ cause, cause ≠ 1 → ¬ (m = 0 ∧ (cause = 2 ∨ cause = 3)) → exec (.portReset m cause) s = done s) ∧
    (s.pwr.state ≠ 4 →
    let after (m cause master : Nat) (t : State) := sessOf t m = none ∧ nth t.hellos m none = none ∧ frozen t m = false ∧
      (∀ o ∈ t.locks, o ≠ m + 1) ∧ clwOf t m = Clw.zero ∧ t.pwr.portResets = min (s.pwr.portResets + 1) (2 ^ 32 - 1) ∧
      (m = 0 → t.rings = Rings.zero) ∧ (m = 3 → t.spi = ⟨[], false⟩) ∧ (m ≠ 0 → t.rings = s.rings) ∧
      (∀ k, k ≠ m → clwOf t k = clwOf s k ∧ frozen t k = frozen s k) ∧ t.repl.armed = s.repl.armed ∧ t.vault = s.vault ∧
      Reported s t 0xD001 33 (portReport 1 cause m master (if m = 0 then 103 else 101) s)
    (∀ d, m ≤ 3 → dueReset 1 1 m s = some d → ∃ t, exec (.portReset m 1) s = .next t ∧ after m 1 d.master t) ∧
    (dueReset 1 1 m s = none → exec (.portReset m 1) s = done s) ∧
    (∀ cause, cause = 2 ∨ cause = 3 → ∃ t, exec (.portReset 0 cause) s = .next t ∧ after 0 cause 0xFF t) ∧
    (s.pwr.perst = false → (∃ t, exec .pcieFlr s = .next t ∧ after 0 2 0xFF t) ∧
      ∃ t, exec .pciePerstLow s = .next t ∧ t.pwr.perst = true ∧ after 0 3 0xFF t) ∧
    (s.pwr.perst = true → exec .pcieFlr s = done s ∧ exec .pciePerstLow s = done s))

/-- Host-up (R583): in SLEEP a falling SPI_CS_N or a rising PCIE_PERST_N powers the host-port domain, which goes off again after 1 s
unless the host has used it. -/
def Claims.HostUp : Prop :=
  ∀ s : State,
    (s.pwr.state = 3 → s.pwr.hostUp = none → ∀ spi, exec (.hostUpStart spi) s = done { s with pwr := { s.pwr with
      hostUp := some s.tb.gtc, powered := putBit s.pwr.powered 2 true, perst := if spi = true then s.pwr.perst else false } }) ∧
    (s.pwr.state ≠ 3 ∨ s.pwr.hostUp ≠ none → exec (.hostUpStart true) s = done s ∧
      exec (.hostUpStart false) s = done { s with pwr := { s.pwr with perst := false } }) ∧
    (∀ g, s.pwr.state = 3 → s.pwr.hostUp = some g → 1000000000 ≤ sinceNs s g → bit s.pwr.wakes 7 = false → exec .hostUpTimeout s = done { s with pwr := { s.pwr with
      hostUp := none, powered := putBit s.pwr.powered 2 false } }) ∧
    (∀ g, s.pwr.hostUp = some g → s.pwr.state ≠ 3 ∨ sinceNs s g < 1000000000 ∨ bit s.pwr.wakes 7 = true → exec .hostUpTimeout s = done s) ∧
    (s.pwr.hostUp = none → exec .hostUpTimeout s = done s)

/-- DOMAIN reset (R587, R589): 1 ms after the reply to RESET the domain is off; at the earliest 1 ms later it returns, which RESET_REPORT and
DOMAIN_RECOVERED say; one that failed stays off, and so does PD_CTRL where the running image fails a check (the model's choice: log entry
29). What each domain loses is that of Table 17-6 (R12, R590). -/
def Claims.DomainResets : Prop :=
  ∀ (d : Nat) (s : State),
    (dueReset 2 16 d s = none → exec (.domainReset d) s = done s) ∧
    (∀ x, dueReset 2 16 d s = some x → within d 2 13 = true → (∀ o ∈ s.pwr.off, o.dom ≠ d) → ∃ t, exec (.domainReset d) s = .next t ∧
      domOn t d = false ∧ t.pwr.domainResets = min (s.pwr.domainResets + 1) (2 ^ 32 - 1) ∧
      (∃ o ∈ t.pwr.off, o.dom = d ∧ o.since = s.tb.gtc ∧ o.master = x.master) ∧ t.pwr.powered = s.pwr.powered ∧
      (∀ k, k ≠ d → domOn t k = domOn s k) ∧
      (d = 2 → t.rings = Rings.zero ∧ t.spi = ⟨[], false⟩ ∧ sessOf t 0 = none ∧ sessOf t 3 = none) ∧
      (d = 3 → sessOf t 1 = none ∧ sessOf t 2 = none ∧ t.rings = s.rings) ∧
      (d = 4 → t.gnss.chans = [] ∧ t.gnss.timeValid = false) ∧
      (d = 6 → t.bl.filters = []) ∧
      (d = 9 → t.repl.tr.transits = [] ∧ t.repl.tr.zones = [] ∧ t.repl.tr.claims = [] ∧ t.repl.dp.tasks = []) ∧
      (d = 10 → (∀ v ∈ t.sessions, v = none) ∧ t.vault.ops = [] ∧ t.vault.cells = [] ∧
        ∀ n ∈ t.vault.nodes, bit n.flags 0 = true ∨ n.depth = 0) ∧
      (d = 11 → t.bl.filters = [] ∧ t.repl.dp.tasks = [] ∧ ∀ q ∈ t.sqs, q.packets = []) ∧
      (d = 13 → t.can = Can.zero)) ∧
    (∀ x, dueReset 2 16 d s = some x → within d 2 13 = false ∨ (∃ o ∈ s.pwr.off, o.dom = d) → exec (.domainReset d) s =
      done { s with pwr := { s.pwr with resets := s.pwr.resets.eraseP (fun y => y.cls == 2 && y.cause == 16 && y.target == d) } }) ∧
    ((∀ o ∈ s.pwr.off, o.dom ≠ d) → ∀ ok, exec (.domainReturn d ok) s = done s) ∧
    (∀ o ok, s.pwr.off.find? (fun o => o.dom == d) = some o → sinceNs s o.since < 1000000 → exec (.domainReturn d ok) s = done s) ∧
    (∀ o ok, s.pwr.off.find? (fun o => o.dom == d) = some o → 1000000 ≤ sinceNs s o.since →
      let good := ok && (d != 10 || s.vault.recovery || imageCheck s s.vault.running == 0)
      ∃ t, exec (.domainReturn d ok) s = .next t ∧ (∀ x ∈ t.pwr.off, x.dom ≠ d) ∧ t.pwr.powered = (if good = true then s.pwr.powered else putBit s.pwr.powered d false) ∧
      Reported s t 0xD001 33 (portReport 2 16 d o.master (domainMap d) s) ∧
      Reported s t 0xD003 33 (leBytes 1 d ++ leBytes 1 (flag (!good)) ++ [0, 0] ++ leBytes 4 (min (sinceNs s o.since / 1000) 0xFFFFFFFF)))

/-- What a reset of class WARM leaves (R21, R371, R401, R503, R564, R586, Table 17-6): RUN, no session, no lock, the default arming table, MAC and CAN at
their defaults, the changes of mode reported (R48); GTC, RTC, calibration, keys, nucleus, mailboxes and an ECLIPSE in force stay. -/
def warmAfter (cause master : Nat) (s t : State) : Prop :=
  t.pwr.state = 0 ∧ t.pwr.requested = 0 ∧ (∀ v ∈ t.sessions, v = none) ∧ (∀ o ∈ t.locks, o = 0) ∧ t.rings = Rings.zero ∧
    t.repl.armed = 0x0802 + (if s.pair.mode = 1 ∧ s.vault.life = 1 then 2 ^ 13 else 0) ∧ t.repl.bl = [] ∧ t.can = Can.zero ∧
    t.repl.corr.mode = s.corr.modeReq ∧ t.pwr.bootSince = some s.tb.gtc ∧ t.pwr.warmResets = min (s.pwr.warmResets + 1) (2 ^ 32 - 1) ∧ t.tb.gtc = s.tb.gtc ∧ t.tb.st = s.tb.st ∧
    t.pwr.rtc = s.pwr.rtc ∧ t.pwr.calib = s.pwr.calib ∧ t.vault.kcv = s.vault.kcv ∧ t.vault.life = s.vault.life ∧
    t.vault.latch = s.vault.latch ∧ t.comet.general = s.comet.general ∧ t.comet.tail = s.comet.tail ∧
    t.banks.map (fun b => b.inb) = s.banks.map (fun b => b.inb) ∧ (eclShown s = 1 → eclShown t = 1) ∧
    (s.modes.radio ≠ 0 → Reported s t 0xC112 33 ([5] ++ leBytes 1 s.modes.radio ++ [0, 2])) ∧
    (s.pwr.state ≠ 0 → Reported s t 0xC112 33 ([4] ++ leBytes 1 s.pwr.state ++ [0, 0])) ∧
    (s.pair.mode = 1 → s.vault.life = 1 → t.pair.role = 2 ∧ t.pair.qualified = false) ∧
    ∃ rest, Reported s t 0xD001 33 ([3] ++ leBytes 1 cause ++ [0xFF] ++ leBytes 1 master ++ leBytes 4 s.pwr.cycles ++ leBytes 4 s.pwr.hours
      ++ leBytes 4 t.vault.fw ++ leBytes 8 (Nat.lor warmMap (runningMap s)) ++ rest)

/-- What a reset of class COLD leaves (R401, R503, R586, R608, Table 17-6): the power-on state but for what Table 17-6 never clears: fuses (those that
no write was blowing), keys, nucleus, calibration, RTC and tamper record. -/
def coldKeeps (cycles : Nat) (s t : State) : Prop :=
  t.pwr.state = 0 ∧ t.pwr.requested = 0 ∧ (∀ v ∈ t.sessions, v = none) ∧
    t.repl.armed = 0x0802 + (if s.pair.mode = 1 ∧ t.vault.life = 1 then 2 ^ 13 else 0) ∧ t.tb.gtc = 0 ∧ t.tb.st = s.pwr.rtc * 1000000000 ∧
    t.can = Can.zero ∧ t.comet.tail = [] ∧ t.comet.general = s.comet.general ∧ t.pwr.rtc = s.pwr.rtc ∧ t.pwr.cycles = cycles ∧
    t.pwr.calib = s.pwr.calib ∧ (s.pwr.fuse = none → t.vault.kcv = s.vault.kcv ∧ t.vault.life = s.vault.life ∧
      t.vault.blown = s.vault.blown) ∧ t.vault.latch = s.vault.latch ∧
    t.vault.share = s.vault.share ∧ t.pair.takeovers = 0 ∧ t.pwr.bites = 0

/-- What a COLD reset leaves that ends at once: the device has booted, and reports the reset. -/
def coldAfter (cause cycles : Nat) (s t : State) : Prop :=
  coldKeeps cycles s t ∧ t.banks.map (fun b => b.inb) = List.replicate 4 Bank.zero.inb ∧
    ∃ rest, Out.event 0xD001 33 (leBytes 8 0 ++ ([4] ++ leBytes 1 cause ++ [0xFF, 0xFF] ++ leBytes 4 cycles ++ leBytes 4 s.pwr.hours
      ++ leBytes 4 t.vault.fw ++ leBytes 8 (Nat.lor coldMap (runningMap s)) ++ rest)) ∈ newOuts s t

/-- A COLD reset that is held (R596, Table 18-4): the same, but nothing starts and Efbex is not carried. -/
def coldHeld (cycles : Nat) (s t : State) : Prop := coldKeeps cycles s t ∧ t.pwr.powered = 3 ∧ efbexRuns t = false

/-- WARM and COLD resets (R510, R534, R571, R586, R588, R591, R592, R596, R619, R621): each comes of its own causes and leaves what the classes say; one
of class COLD is held while the junction is hot or the straps are reserved; where the DRAM cannot be trained or BOOT_SEL asks for it,
RESET_N leads to recovery with FAULT_N low. -/
def Claims.WarmAndColdResets : Prop :=
  ∀ (sel : Nat) (strap : Bool) (s : State),
    let ends (cause cycles : Nat) (t : State) : Prop := (s.pwr.tripHeld = false ∧ sel ≠ 3 → coldAfter cause cycles s t) ∧
      (s.pwr.tripHeld = true ∨ sel = 3 → coldHeld cycles s t)
    (∀ cause d, cause = 32 ∨ cause = 34 → s.pwr.state ≠ 4 → dueReset 3 cause 0xFF s = some d → ∃ t, exec (.warmReset cause) s = .next t ∧
      warmAfter cause d.master s t) ∧
    (∀ cause, cause = 32 ∨ cause = 34 → s.pwr.state = 4 ∨ dueReset 3 cause 0xFF s = none → exec (.warmReset cause) s = done s) ∧
    (anyBite s = true → escalates s = false → ∃ t, exec (.warmReset 33) s = .next t ∧ warmAfter 33 0xFF s t) ∧
    (anyBite s = false ∨ escalates s = true → exec (.warmReset 33) s = done s) ∧
    (∀ cause, within cause 32 35 = false → exec (.warmReset cause) s = done s) ∧
    (s.pwr.state ≠ 4 → (∃ t, exec (.resetNLow sel strap) s = .next t ∧ ends 49 s.pwr.cycles t ∧ t.pins.bootSel = sel ∧
      t.pair.strapHigh = strap ∧ (s.pwr.tripHeld = false → sel ≠ 3 → s.pins.dramFails = true ∨ sel = 2 →
        t.vault.recovery = true ∧ t.pins.faultN = false)) ∧
      ∃ t, exec (.coldReset 49 sel strap) s = .next t ∧ ends 49 s.pwr.cycles t) ∧
    (s.pwr.state = 4 → exec (.resetNLow sel strap) s = done s ∧ exec (.coldReset 49 sel strap) s = done s ∧
      ∃ t, exec (.coldReset 48 sel strap) s = .next t ∧ ends 48 ((s.pwr.cycles + 1) % 2 ^ 32) t) ∧
    (s.pwr.state ≠ 4 → exec (.coldReset 48 sel strap) s = done s) ∧
    (∀ cause, cause = 51 ∨ cause = 52 → s.pwr.state ≠ 4 → (∃ d ∈ s.pwr.resets, d.cls = 4 ∧ d.cause = cause) → ∃ t,
      exec (.coldReset cause sel strap) s = .next t ∧ ends cause s.pwr.cycles t) ∧
    (∀ cause, cause = 51 ∨ cause = 52 → s.pwr.state = 4 ∨ (∀ d ∈ s.pwr.resets, ¬ (d.cls = 4 ∧ d.cause = cause)) →
      exec (.coldReset cause sel strap) s = done s) ∧
    (bootLate s = true ∨ (anyBite s = true ∧ escalates s = true) → ∃ t, exec (.coldReset 50 sel strap) s = .next t ∧ t.pwr.state = 0 ∧
      t.tb.gtc = 0 ∧ t.comet.tail = [] ∧ t.pwr.bites = 0) ∧
    (∀ cause, within cause 48 52 = false → exec (.coldReset cause sel strap) s = done s) ∧
    (∀ core, biteDue s core = false → exec (.watchdogBite core) s = done s) ∧
    (∀ core, biteDue s core = true → escalates s = false → ∃ t, exec (.watchdogBite core) s = .next t ∧ warmAfter 33 0xFF s t ∧
      t.pwr.bites = min (s.pwr.bites + 1) 65535 ∧ t.pwr.lastBite = some s.tb.gtc) ∧
    (∀ core, biteDue s core = true → escalates s = true → ∃ t, exec (.watchdogBite core) s = .next t ∧ t.pwr.state = 0 ∧ t.tb.gtc = 0 ∧
      t.comet.tail = [] ∧ t.pwr.bites = 0) ∧
    (∀ core, biteDue s core = true ↔ fwRuns s = true ∧ core < 8 ∧ s.pwr.wdTimeout * 1000000 ≤ sinceNs s (nth s.pwr.renewals core 0)) ∧
    (escalates s = true ↔ ∃ g, s.pwr.lastBite = some g ∧ sinceNs s g ≤ s.pwr.wdWindow * 1000000000) ∧
    (∀ g, s.pwr.bootSince = some g → fwRuns s = true → 2000000000 ≤ sinceNs s g → s.pwr.renewed ≠ 255 → ∃ t,
      exec .watchdogBootTimeout s = .next t ∧ t.pwr.state = 0 ∧ t.tb.gtc = 0 ∧ t.comet.tail = [] ∧ t.pwr.bites = 0) ∧
    (s.pwr.bootSince = none ∨ fwRuns s = false ∨ s.pwr.renewed = 255 → exec .watchdogBootTimeout s = done s)

/-- The loss of supplies (R537, R571, R579, R586, R590): without the main supplies only the VBAT domain runs, every session is gone and a flush that runs
is lost; without VBAT share, tamper settings and record, RTC, hours and cycles are gone as well, and what flash and fuses hold stays; under
the reserved straps nothing starts. -/
def Claims.SupplyLoss : Prop :=
  ∀ (sel : Nat) (strap : Bool) (s : State),
    (s.pwr.state = 4 → exec .mainSupplyLoss s = done s) ∧
    (s.pwr.state ≠ 4 → ∃ t, exec .mainSupplyLoss s = .next t ∧ t.pwr = { s.pwr with
        state := 4
        requested := 0
        owed := none
        since := s.tb.gtc
        hostUp := none
        wakes := 0
        retention := false
        tripHeld := false
        powered := 1
        off := []
        flash := []
        resets := [] } ∧
      (∀ v ∈ t.sessions, v = none) ∧ t.comet.flushing = none ∧ t.comet.areas = s.comet.areas ∧ t.vault = s.vault) ∧
    (∃ t, exec (.vbatReset sel strap) s = .next t ∧ t.pwr.state = 0 ∧ t.vault.share = none ∧ t.vault.tLocked = false ∧
      t.vault.latch = false ∧ t.vault.events = 0 ∧ (∀ x ∈ t.vault.tamper, x = TamperIn.zero) ∧ t.pwr.rtc = 0 ∧ t.pwr.hours = 0 ∧
      t.pwr.cycles = 1 ∧ t.tb.gtc = 0 ∧ t.tb.st = 0 ∧ (∀ v ∈ t.sessions, v = none) ∧ t.vault.slots = s.vault.slots ∧
      t.comet.general = s.comet.general ∧ t.comet.pinned = s.comet.pinned ∧ t.comet.tail = [] ∧ t.pwr.calib = s.pwr.calib ∧
      t.pins.bootSel = sel ∧ t.pair.strapHigh = strap ∧
      (s.pwr.fuse = none → t.vault.kcv = s.vault.kcv ∧ t.vault.site = s.vault.site ∧ t.vault.fused = s.vault.fused ∧
        t.vault.life = s.vault.life ∧ t.vault.blown = s.vault.blown) ∧
      (sel = 3 → t.pwr.powered = 3 ∧ efbexRuns t = false) ∧
      (sel ≠ 3 → t.pwr.powered = 0x3FFF ∧
        ∃ rest, Out.event 0xD001 33 (leBytes 8 0 ++ ([5, 64, 0xFF, 0xFF] ++ rest)) ∈ newOuts s t))

/-- SLEEP (R579 to R585): entered once it is requested, the member is SOLO and nothing defers it: sessions end with reason 6, PWR_STATE says it, the core supply goes to its
lower fence; a wake source of Table 17-5 brings the wake state, or a WARM reset with cause 35 where the retained image fails. -/
def Claims.SleepAndWake : Prop :=
  ∀ s : State,
    (s.pwr.requested ≠ 3 ∨ 2 < s.pwr.state ∨ deferral s ≠ 0 ∨ s.pair.role ≠ 0 → exec .sleepEntry s = done s) ∧
    (s.pwr.requested = 3 → s.pwr.state ≤ 2 → deferral s = 0 → s.pair.role = 0 → ∃ t, exec .sleepEntry s = .next t ∧ t.pwr.state = 3 ∧
      t.pwr.since = s.tb.gtc ∧ t.pwr.retention = true ∧ t.pwr.powered = 3 ∧ t.pwr.wakes = 0 ∧ t.pwr.avsV = s.pwr.avsLo ∧ (∀ m, m < 5 → sessOf t m = none) ∧
      t.rings = Rings.zero ∧ Out.avs s.pwr.avsLo ∈ newOuts s t ∧ t.modes.radio = 0 ∧
      (∀ r, s.pwr.owed = some r → Answerable s r → Answered s t r 0x1001 0 (leBytes 1 s.pwr.state ++ [3, 0, 0])) ∧
      Reported s t 0xD002 33 (leBytes 1 s.pwr.state ++ [3, 0, 0, 0, 0, 0, 0] ++ leBytes 8 0)) ∧
    (∀ code ok, s.pwr.state ≠ 3 ∨ wakeHolds code s = false → exec (.wakeSource code ok) s = done s) ∧
    (∀ code, s.pwr.state = 3 → wakeHolds code s = true → ∃ t, exec (.wakeSource code true) s = .next t ∧ t.pwr.state = s.pwr.wakeState ∧
      t.pwr.requested = s.pwr.wakeState ∧ t.pwr.lastWake = code ∧ t.pwr.wakeTime = 0 ∧ t.pwr.retention = false ∧ t.pwr.powered = 0x3FFF ∧
      Reported s t 0xD002 33 ([3] ++ leBytes 1 s.pwr.wakeState ++ [1, 0] ++ leBytes 1 code ++ [0, 0, 0] ++ leBytes 8 sleepMap) ∧
      Reported s t 0xC112 33 ([4, 3] ++ leBytes 1 s.pwr.wakeState ++ [0])) ∧
    (∀ code, s.pwr.state = 3 → wakeHolds code s = true → ∃ t, exec (.wakeSource code false) s = .next t ∧ warmAfter 35 0xFF s t ∧
      t.pwr.lastWake = code) ∧
    (s.pwr.state = 3 → ∃ t, exec (.warmReset 35) s = .next t ∧ warmAfter 35 0xFF s t) ∧
    (wakeHolds 1 s = true ↔ s.pwr.wakeTime ≠ 0 ∧ s.pwr.wakeTime ≤ s.pwr.rtc) ∧
    (wakeHolds 2 s = true ↔ aDemands s = true ∨ bDemands s = true) ∧ (wakeHolds 3 s = true ↔ s.pair.pinIn = true) ∧
    (∀ code, code = 4 ∨ code = 5 → (wakeHolds code s = true ↔ bit s.pwr.wakes code = true)) ∧
    (wakeHolds 6 s = true ↔ ∃ c ∈ s.can.ctls, c.mode ≠ 0 ∧ bit c.flags 2 = true) ∧
    (wakeHolds 7 s = true ↔ s.pwr.hostUp ≠ none ∧ bit s.pwr.wakes 7 = true) ∧
    (∀ code, within code 1 7 = false → wakeHolds code s = false)

/-! ### Time and fuses -/

/-- The commands that can end in a reset of class COLD or VBAT (Table 17-6, Table 17-7). -/
def Claims.endsCold (c : Instr) : Bool :=
  match c with
  | .coldReset _ _ _ => true
  | .vbatReset _ _ => true
  | .resetNLow _ _ => true
  | .watchdogBite _ => true
  | .watchdogBootTimeout => true
  | _ => false

/-- GTC changes by no command but those that can end in a reset of class COLD or VBAT (R136: no command changes its value), and the life-cycle
state and the root's fuses by none but those and the end of a fuse write (R507, R515). -/
def Obligations.ClockAndFuses : Prop :=
  ∀ (c : Instr) (s t : State), exec c s = .next t → Claims.endsCold c = false →
    t.tb.gtc = s.tb.gtc ∧
    (c ≠ .fuseWriteComplete → t.vault.life = s.vault.life ∧ t.vault.kcv = s.vault.kcv ∧ t.vault.site = s.vault.site ∧
      t.vault.bound = s.vault.bound ∧ t.vault.fused = s.vault.fused ∧ t.vault.complete = s.vault.complete ∧
      t.vault.blown = s.vault.blown ∧ t.vault.lifeFuses = s.vault.lifeFuses ∧ t.vault.kill = s.vault.kill)

/-! ### The statements that join claims of one subject -/

/-- The state after reset holds the values the spec gives for a power-on after VBAT loss, and agrees with itself. -/
def Obligations.ResetState : Prop :=
  Claims.ResetAgrees ∧ Claims.ResetValues

/-- Which host commands are refused for freezing, missing authentication or recovery, with no effect. -/
def Obligations.RequestAdmission : Prop :=
  Claims.FrozenRefused ∧ Claims.AuthenticationRequired ∧ Claims.EfbexCarried ∧ Claims.RecoveryServes

/-- GET_INFO, ARM_GET, RESET, EVENT_SET and NET_SET: what they answer and put in force. -/
def Obligations.SystemCommands : Prop :=
  Claims.SystemQueries ∧ Claims.ResetCommand ∧ Claims.SettingsOfChapter2

/-- HELLO in its two phases, GOODBYE and the ends of sessions. -/
def Obligations.SessionLife : Prop :=
  Claims.HelloFirst ∧ Claims.HelloSecond ∧ Claims.Goodbye ∧ Claims.SessionTimers

/-- The steps by which a received packet is framed, checked and executed. -/
def Obligations.PacketProcessing : Prop :=
  Claims.PacketFraming ∧ Claims.PacketChecks ∧ Claims.SequenceRules

/-- The PCIe rings, the UDP transport and the SPI target. -/
def Obligations.Transports : Prop :=
  Claims.RequestRing ∧ Claims.CompletionRing ∧ Claims.UdpTransport ∧ Claims.SpiTarget

/-- Register accesses of the host window, bad accesses, mailbox packets and inbound doorbells. -/
def Obligations.WindowAccesses : Prop :=
  Claims.WindowRegisters ∧ Claims.BadAccess ∧ Claims.WindowCommands ∧ Claims.MailboxMessages ∧ Claims.InboundDoorbells

/-- A post to a full mailbox collides; a read of word 0 latches the message and a read of word 15 clears the full flag. -/
def Obligations.Mailboxes : Prop :=
  Claims.MailboxPost ∧ Claims.MailboxRead

/-- Reading a lock takes it when it is free; only its owner releases it. -/
def Obligations.Locks : Prop :=
  Claims.LockRead ∧ Claims.LockRelease

/-- Spill queues: pushing, popping, flushing and configuring. -/
def Obligations.SpillQueues : Prop :=
  Claims.SpillPush ∧ Claims.SpillPop ∧ Claims.SpillFlush ∧ Claims.SpillConfig

/-- The commands of the timebase and its register reads. -/
def Obligations.TimebaseCommands : Prop :=
  Claims.TimebaseSettings ∧ Claims.TimebaseStep ∧ Claims.TimeRegisters

/-- Sources, offset samples and the states of the timebase. -/
def Obligations.TimebaseLoop : Prop :=
  Claims.TimebaseSources ∧ Claims.OffsetSamples ∧ Claims.TimebaseEvents

/-- Time pulses, time captures and the PTP ports. -/
def Obligations.PulsesAndCaptures : Prop :=
  Claims.TimePulses ∧ Claims.TimeCaptures ∧ Claims.PtpPorts

/-- The commands of the GNSS signal path. -/
def Obligations.GnssCommands : Prop :=
  Claims.GnssSettings ∧ Claims.BandSettings ∧ Claims.GnssQueries

/-- Antenna ports and links, interference and tracking channels. -/
def Obligations.GnssPath : Prop :=
  Claims.AntennaPort ∧ Claims.AntennaLinks ∧ Claims.Interference ∧ Claims.TrackingChannels

/-- Station settings: held for their commit, and in force at once where they are the member's own. -/
def Obligations.StationSettings : Prop :=
  Claims.StationSettingsHeld ∧ Claims.StationCommits ∧ Claims.StationOwnSettings

/-- Station epochs: survey, self-check and integrity. -/
def Obligations.StationWork : Prop :=
  Claims.StationEpoch ∧ Claims.StationIntegrity

/-- ECLIPSE_RELEASE: when it is refused, its commit, and the end of RELEASING. -/
def Obligations.EclipseRelease : Prop :=
  Claims.EclipseReleased ∧ Claims.ReleaseCommit

/-- STOP channels, stop identifiers and the settings of Eclipse. -/
def Obligations.EclipseInputs : Prop :=
  Claims.EclipseSettings ∧ Claims.StopPins ∧ Claims.StopIdentifiers

/-- The commands of the baseline engine and their commits. -/
def Obligations.BaselineSettings : Prop :=
  Claims.BaselineCommands ∧ Claims.BaselineCommits

/-- Observations, solutions and timers of the baseline engine. -/
def Obligations.BaselineWork : Prop :=
  Claims.ObservationArrival ∧ Claims.ObservationSolve ∧ Claims.BaselineTimers

/-- The commands of the radio heads. -/
def Obligations.HeadControl : Prop :=
  Claims.HeadSettings ∧ Claims.HeadCommands

/-- Tuning, scripts, transfers and events of the radio heads. -/
def Obligations.HeadWork : Prop :=
  Claims.HeadChannels ∧ Claims.HeadEvents

/-- ARM_SET and its commit: what may be armed and disarmed. -/
def Obligations.Arming : Prop :=
  Claims.ArmSet ∧ Claims.ArmCommit

/-- The radio mode, and the radio settings with their commits. -/
def Obligations.RadioSettings : Prop :=
  Claims.RadioMode ∧ Claims.RadioSettingsHeld ∧ Claims.RadioCommits

/-- Orbit and berth settings with their commits. -/
def Obligations.OrbitSettings : Prop :=
  Claims.OrbitSettingsHeld ∧ Claims.OrbitCommits ∧ Claims.BerthSettings

/-- Units, orbits and the frames that every machine hears. -/
def Obligations.OrbitsOnAir : Prop :=
  Claims.UnitsAndOrbits ∧ Claims.BroadcastFrames

/-- Reception of frames and what UP frames do. -/
def Obligations.BerthFrames : Prop :=
  Claims.FrameReception ∧ Claims.UpFrames

/-- Joins, from request to session. -/
def Obligations.Joins : Prop :=
  Claims.JoinRequests ∧ Claims.JoinCompletion

/-- Timers of berths, channel changes and air-time buckets. -/
def Obligations.BerthsAndChannels : Prop :=
  Claims.BerthTimers ∧ Claims.ChannelsAndBuckets

/-- Transit requests, grants and releases. -/
def Obligations.Transits : Prop :=
  Claims.TransitRequests ∧ Claims.TransitReleases

/-- Zones, arbiter settings and the watch over machines in transit. -/
def Obligations.ArbiterTables : Prop :=
  Claims.Zones ∧ Claims.ArbiterSettings ∧ Claims.Conformance

/-- The windows on the comet log and its commands. -/
def Obligations.CometReading : Prop :=
  Claims.LogWindow ∧ Claims.CometCommands

/-- Recording a trigger, the nucleus and the flush. -/
def Obligations.CometRecords : Prop :=
  Claims.CometRecording ∧ Claims.CometFlash

/-- The commands of the dispatcher and their commits. -/
def Obligations.DispatcherSettings : Prop :=
  Claims.DispatcherHeld ∧ Claims.DispatcherCommits ∧ Claims.DispatcherQueries

/-- Tasks, assignments, selection passes and timers. -/
def Obligations.TasksAndAssignments : Prop :=
  Claims.TaskCommits ∧ Claims.AssignmentCommits ∧ Claims.SelectionAndTimers

/-- Commands of the pair, its link and its roles. -/
def Obligations.PairAndLink : Prop :=
  Claims.LinkMessages ∧ Claims.PairCommands ∧ Claims.LinkAndRoles

/-- The end of a commit cycle and its acknowledgement. -/
def Obligations.CommitCycles : Prop :=
  Claims.CycleEnds ∧ Claims.CycleAcks

/-- What a STANDBY does with deltas, full copies, digests and summaries. -/
def Obligations.StandbyMember : Prop :=
  Claims.StandbyContent ∧ Claims.StandbyChecks

/-- Queries, key tree and operations of the vault. -/
def Obligations.VaultKeys : Prop :=
  Claims.VaultQueries ∧ Claims.KeyTree ∧ Claims.VaultOperations

/-- Provisioning the root, export and the life cycle. -/
def Obligations.RootAndLifeCycle : Prop :=
  Claims.Provisioning ∧ Claims.LifeCycle

/-- Firmware images and tamper. -/
def Obligations.ImagesAndTamper : Prop :=
  Claims.FirmwareImages ∧ Claims.Tamper

/-- CAN FD settings, filters and objects. -/
def Obligations.CanSettings : Prop :=
  Claims.CanConfig ∧ Claims.CanObjects

/-- CAN FD reception, transmission, errors and rate detection. -/
def Obligations.CanTraffic : Prop :=
  Claims.CanReception ∧ Claims.CanTransmission ∧ Claims.CanErrors

/-- Power states, supply loop, watchdog renewals, monitors and calibration. -/
def Obligations.PowerAndMonitors : Prop :=
  Claims.PowerStates ∧ Claims.SupplyLoop ∧ Claims.WatchdogRenewals ∧ Claims.Monitors ∧ Claims.Calibration

/-- PORT and DOMAIN resets and host-up. -/
def Obligations.PortAndDomainResets : Prop :=
  Claims.PortResets ∧ Claims.HostUp ∧ Claims.DomainResets

/-- WARM, COLD and VBAT resets, SLEEP and wake. -/
def Obligations.DeviceResets : Prop :=
  Claims.WarmAndColdResets ∧ Claims.SupplyLoss ∧ Claims.SleepAndWake
end

