-- ==== Sys2Proof/Laws/Cipher.lean ====
section
/-!
SUPPORT. Sys2Proof/Laws/Cipher.lean: lengths of what the hashes and AES make, and that AES-GCM opens what it sealed.
-/
namespace Sys2Proof.Machine
open Sys2Proof

/-! ### Hashes -/

/-- Little-endian bytes are as many as asked for. -/
theorem leBytes_length (n v : Nat) : (leBytes n v).length = n := by
  induction n generalizing v with
  | zero => rfl
  | succ k ih => simp [leBytes, ih]

/-- So are big-endian bytes. -/
theorem beBytes_length (n v : Nat) : (beBytes n v).length = n := by simp [beBytes, leBytes_length]

/-- The rounds of a hash keep eight words. -/
theorem allRounds_length (h : Sha2) (cs w v : List Nat) (hv : v.length = 8) : (allRounds h cs w v).length = 8 := by
  induction cs generalizing w v with
  | nil => exact hv
  | cons c r ih =>
    refine ih _ _ ?_
    match v, hv with
    | [_, _, _, _, _, _, _, _], _ => rfl

/-- So do its blocks. -/
theorem digestBlocks_length (h : Sha2) (cs : List Nat) (n : Nat) (v : List Nat) (bs : List Byte) (hv : v.length = 8) :
    (digestBlocks h cs n v bs).length = 8 := by
  induction n generalizing v bs with
  | zero => exact hv
  | succ k ih => exact ih _ _ (by simp [List.length_zipWith, allRounds_length _ _ _ _ hv, hv])

/-- SHA-256 makes 32 bytes. -/
theorem sha256_length (bs : List Byte) : (sha256 bs).length = 32 := by
  simp [sha256, sha2, List.length_flatMap, beBytes_length, List.map_const', digestBlocks_length]

/-- The KDF makes what it is asked for, in whole blocks. -/
theorem kdfBlocks_length (n i : Nat) (key body : List Byte) : (kdfBlocks n i key body).length = 32 * n := by
  induction n generalizing i with
  | zero => rfl
  | succ k ih => simp [kdfBlocks, hmac, sha256_length, ih]; omega

/-- The KDF makes as many bytes as asked for. -/
theorem kdf_length (key label context : List Byte) (n : Nat) : (kdf key label context n).length = n := by
  simp only [kdf, List.length_take, kdfBlocks_length]
  omega

/-! ### AES -/

/-- XOR is as long as the shorter list. -/
theorem xorBytes_length (a b : List Byte) : (xorBytes a b).length = min a.length b.length := by simp [xorBytes]

/-- XOR with the same bytes undoes itself. -/
theorem xorBytes_twice (a b : List Byte) (h : a.length ≤ b.length) : xorBytes (xorBytes a b) b = a := by
  induction a generalizing b with
  | nil => rfl
  | cons x r ih =>
    match b, h with
    | y :: t, h =>
      have := ih t (by simpa using h)
      simp only [xorBytes, List.zip_cons_cons, List.map_cons] at this ⊢
      rw [this, BitVec.xor_assoc, BitVec.xor_self, BitVec.xor_zero]

/-- SubBytes and ShiftRows make a block. -/
theorem subShift_length (s : List Byte) : (subShift s).length = 16 := rfl

/-- MixColumns keeps a block. -/
theorem mixColumns_length (s : List Byte) (h : s.length = 16) : (mixColumns s).length = 16 := by
  match s, h with
  | [_, _, _, _, _, _, _, _, _, _, _, _, _, _, _, _], _ => rfl

/-- The rounds keep a block. -/
theorem aesRounds_length (ks : List (List Byte)) (s : List Byte) (hk : ∀ k ∈ ks, k.length = 16) (hs : s.length = 16) :
    (aesRounds ks s).length = 16 := by
  induction ks generalizing s with
  | nil => exact hs
  | cons k r ih =>
    have h1 : k.length = 16 := hk k (by simp)
    cases r with
    | nil => simp [aesRounds, xorBytes_length, subShift_length, h1]
    | cons k2 r2 =>
      refine ih _ (fun x hx => hk x (by simp [hx])) ?_
      simp [xorBytes_length, mixColumns_length _ (subShift_length s), h1]

/-- AES makes a block of a block. -/
theorem aesWith_length (ks : List (List Byte)) (s : List Byte) (hk : ∀ k ∈ ks, k.length = 16) (hn : ks ≠ []) (hs : s.length = 16) :
    (aesWith ks s).length = 16 := by
  match ks, hn, hk with
  | k :: r, _, hk =>
    exact aesRounds_length _ _ (fun x hx => hk x (by simp [List.tail] at hx; simp [hx])) (by simp [xorBytes_length, nth, hs, hk k])

/-- Pieces of a list that is long enough have their length. -/
theorem blocksOf_length {α : Type} (n m : Nat) (l : List α) (h : n * m ≤ l.length) : ∀ k ∈ blocksOf n m l, k.length = m := by
  induction n generalizing l with
  | zero => simp [blocksOf]
  | succ j ih =>
    have h2 : m ≤ l.length := by rw [Nat.succ_mul] at h; omega
    intro k hk
    simp only [blocksOf, List.mem_cons] at hk
    rcases hk with rfl | hk
    · simp [h2]
    · exact ih (l.drop m) (by rw [Nat.succ_mul] at h; simp; omega) k hk

/-- There are as many pieces as asked for. -/
theorem blocksOf_count {α : Type} (n m : Nat) (l : List α) : (blocksOf n m l).length = n := by
  induction n generalizing l with
  | zero => rfl
  | succ j ih => simp [blocksOf, ih]

/-- What the key schedule adds is a word. -/
theorem keyTemp_length (nk i : Nat) (w : List Byte) (h : w.length = 4) : (keyTemp nk i w).length = 4 := by
  unfold keyTemp
  split
  · simp [xorBytes_length, h]
  · split <;> simp [h]

/-- The key schedule of a 32-byte key is made of words. -/
theorem keySched_words (n i : Nat) (w : List (List Byte)) (hw : ∀ x ∈ w, x.length = 4) (hl : 8 ≤ w.length) :
    (∀ x ∈ keySched n 8 i w, x.length = 4) ∧ (keySched n 8 i w).length = w.length + n := by
  induction n generalizing i w with
  | zero => exact ⟨hw, rfl⟩
  | succ k ih =>
    have hn : ∀ j, j < 8 → (nth w j []).length = 4 := by
      intro j hj
      have hjl : j < w.length := by omega
      have h1 : nth w j [] = w[j] := by simp [nth, List.getD_eq_getElem?_getD, List.getElem?_eq_getElem hjl]
      rw [h1]
      exact hw _ (List.getElem_mem hjl)
    have := ih (i + 1) (xorBytes (nth w 7 []) (keyTemp 8 i (nth w 0 [])) :: w)
      (by
        intro x hx
        rcases List.mem_cons.mp hx with rfl | hx
        · simp [xorBytes_length, keyTemp_length, hn]
        · exact hw x hx)
      (by simp; omega)
    refine ⟨this.1, ?_⟩
    rw [show keySched (k + 1) 8 i w = keySched k 8 (i + 1) (xorBytes (nth w 7 []) (keyTemp 8 i (nth w 0 [])) :: w) from rfl, this.2]
    simp
    omega

/-- A list of words is four times as many bytes. -/
theorem flatten_words (l : List (List Byte)) (h : ∀ x ∈ l, x.length = 4) : l.flatten.length = 4 * l.length := by
  induction l with
  | nil => rfl
  | cons x r ih =>
    simp only [List.flatten_cons, List.length_append, List.length_cons, ih (fun y hy => h y (by simp [hy])), h x (by simp)]
    omega

/-- The round keys of a 32-byte key are blocks. -/
theorem roundKeys_blocks (key : List Byte) (h : key.length = 32) : (∀ k ∈ roundKeys key, k.length = 16) ∧ roundKeys key ≠ [] := by
  have hw : ∀ x ∈ (blocksOf 8 4 key).reverse, x.length = 4 := fun x hx => blocksOf_length 8 4 key (by omega) x (by simpa using hx)
  have hk := keySched_words 52 8 (blocksOf 8 4 key).reverse hw (by simp [blocksOf_count])
  have hr : roundKeys key = blocksOf 15 16 (keySched 52 8 8 (blocksOf 8 4 key).reverse).reverse.flatten := by
    simp [roundKeys, h]
  constructor
  · rw [hr]
    apply blocksOf_length
    rw [flatten_words _ (fun x hx => hk.1 x (by simpa using hx))]
    simp [hk.2, blocksOf_count]
  · rw [hr]
    intro he
    have := congrArg List.length he
    simp [blocksOf_count] at this

/-! ### GCM -/

/-- The key stream is whole blocks. -/
theorem ctrStream_length (n c : Nat) (ks : List (List Byte)) (head : List Byte) (hk : ∀ k ∈ ks, k.length = 16) (hn : ks ≠ [])
    (hh : head.length = 12) : (ctrStream n 4 c ks head).length = 16 * n := by
  induction n generalizing c with
  | zero => rfl
  | succ k ih =>
    simp [ctrStream, aesWith_length ks _ hk hn (show (head ++ beBytes 4 c).length = 16 by simp [hh, beBytes_length]), ih]
    omega

/-- GCM under a 32-byte key opens what it sealed. -/
theorem gcm_opens (key nonce aad d : List Byte) (hk : key.length = 32) (hn : nonce.length = 12) :
    (gcmSeal key nonce aad d).length = d.length + 16 ∧ gcmOpen key nonce aad (gcmSeal key nonce aad d) = some d := by
  obtain ⟨h1, h2⟩ := roundKeys_blocks key hk
  have hc : ∀ x : List Byte, (gcmCrypt (roundKeys key) nonce x).length = x.length := by
    intro x
    simp only [gcmCrypt, xorBytes_length, ctrStream_length _ _ _ _ h1 h2 hn]
    omega
  have ht : (gcmTag (roundKeys key) nonce aad (gcmCrypt (roundKeys key) nonce d)).length = 16 := by
    have ha := aesWith_length (roundKeys key) (nonce ++ [0, 0, 0, 1]) h1 h2 (by simp [hn])
    simp only [gcmTag, xorBytes_length, beBytes_length, ha, Nat.min_self]
  have hl : (gcmCrypt (roundKeys key) nonce d ++ gcmTag (roundKeys key) nonce aad (gcmCrypt (roundKeys key) nonce d)).length - 16 =
      (gcmCrypt (roundKeys key) nonce d).length := by simp [ht]
  have hi : gcmCrypt (roundKeys key) nonce (gcmCrypt (roundKeys key) nonce d) = d := by
    have := hc d
    simp only [gcmCrypt] at this ⊢
    rw [this]
    apply xorBytes_twice
    rw [ctrStream_length _ _ _ _ h1 h2 hn]
    omega
  constructor
  · simp [gcmSeal, hc, ht]
  · simp only [gcmOpen, gcmSeal]
    rw [hl, List.take_left', List.drop_left']
    · simp [hc, ht, hi]
    · rfl
    · rfl

end Sys2Proof.Machine
end

