-- ==== Sys2Proof/Laws/State.lean ====
section
/-!
SUPPORT. Sys2Proof/Laws/State.lean: what each update of one part of the state does to every field, by rfl, so that no later proof
unfolds a record update.
-/
namespace Sys2Proof.Machine
open Sys2Proof

/-! ### put -/

@[simp] theorem put_pending (o : Out) (s : State) : (put o s).pending = s.pending := rfl
@[simp] theorem put_outs (o : Out) (s : State) : (put o s).outs = s.outs ++ [o] := rfl
@[simp] theorem put_free (o : Out) (s : State) : (put o s).free = s.free := rfl
@[simp] theorem put_clockStep (o : Out) (s : State) : (put o s).clockStep = s.clockStep := rfl
@[simp] theorem put_sessions (o : Out) (s : State) : (put o s).sessions = s.sessions := rfl
@[simp] theorem put_hellos (o : Out) (s : State) : (put o s).hellos = s.hellos := rfl
@[simp] theorem put_txq (o : Out) (s : State) : (put o s).txq = s.txq := rfl
@[simp] theorem put_viols (o : Out) (s : State) : (put o s).viols = s.viols := rfl
@[simp] theorem put_net (o : Out) (s : State) : (put o s).net = s.net := rfl
@[simp] theorem put_rings (o : Out) (s : State) : (put o s).rings = s.rings := rfl
@[simp] theorem put_spi (o : Out) (s : State) : (put o s).spi = s.spi := rfl
@[simp] theorem put_limiters (o : Out) (s : State) : (put o s).limiters = s.limiters := rfl
@[simp] theorem put_banks (o : Out) (s : State) : (put o s).banks = s.banks := rfl
@[simp] theorem put_locks (o : Out) (s : State) : (put o s).locks = s.locks := rfl
@[simp] theorem put_lckForced (o : Out) (s : State) : (put o s).lckForced = s.lckForced := rfl
@[simp] theorem put_sqs (o : Out) (s : State) : (put o s).sqs = s.sqs := rfl
@[simp] theorem put_repl (o : Out) (s : State) : (put o s).repl = s.repl := rfl
@[simp] theorem put_tb (o : Out) (s : State) : (put o s).tb = s.tb := rfl
@[simp] theorem put_gnss (o : Out) (s : State) : (put o s).gnss = s.gnss := rfl
@[simp] theorem put_corr (o : Out) (s : State) : (put o s).corr = s.corr := rfl
@[simp] theorem put_bl (o : Out) (s : State) : (put o s).bl = s.bl := rfl
@[simp] theorem put_rh (o : Out) (s : State) : (put o s).rh = s.rh := rfl
@[simp] theorem put_mac (o : Out) (s : State) : (put o s).mac = s.mac := rfl
@[simp] theorem put_ecl (o : Out) (s : State) : (put o s).ecl = s.ecl := rfl
@[simp] theorem put_trown (o : Out) (s : State) : (put o s).trown = s.trown := rfl
@[simp] theorem put_dpown (o : Out) (s : State) : (put o s).dpown = s.dpown := rfl
@[simp] theorem put_pair (o : Out) (s : State) : (put o s).pair = s.pair := rfl
@[simp] theorem put_vault (o : Out) (s : State) : (put o s).vault = s.vault := rfl
@[simp] theorem put_can (o : Out) (s : State) : (put o s).can = s.can := rfl
@[simp] theorem put_comet (o : Out) (s : State) : (put o s).comet = s.comet := rfl
@[simp] theorem put_pwr (o : Out) (s : State) : (put o s).pwr = s.pwr := rfl
@[simp] theorem put_modes (o : Out) (s : State) : (put o s).modes = s.modes := rfl
@[simp] theorem put_pins (o : Out) (s : State) : (put o s).pins = s.pins := rfl

/-! ### modSess -/

@[simp] theorem modSess_pending (m : Nat) (f : Session → Session) (s : State) : (modSess m f s).pending = s.pending := rfl
@[simp] theorem modSess_outs (m : Nat) (f : Session → Session) (s : State) : (modSess m f s).outs = s.outs := rfl
@[simp] theorem modSess_free (m : Nat) (f : Session → Session) (s : State) : (modSess m f s).free = s.free := rfl
@[simp] theorem modSess_clockStep (m : Nat) (f : Session → Session) (s : State) : (modSess m f s).clockStep = s.clockStep := rfl
@[simp] theorem modSess_sessions (m : Nat) (f : Session → Session) (s : State) : (modSess m f s).sessions = modNth s.sessions m (fun o => o.map f) := rfl
@[simp] theorem modSess_hellos (m : Nat) (f : Session → Session) (s : State) : (modSess m f s).hellos = s.hellos := rfl
@[simp] theorem modSess_txq (m : Nat) (f : Session → Session) (s : State) : (modSess m f s).txq = s.txq := rfl
@[simp] theorem modSess_viols (m : Nat) (f : Session → Session) (s : State) : (modSess m f s).viols = s.viols := rfl
@[simp] theorem modSess_net (m : Nat) (f : Session → Session) (s : State) : (modSess m f s).net = s.net := rfl
@[simp] theorem modSess_rings (m : Nat) (f : Session → Session) (s : State) : (modSess m f s).rings = s.rings := rfl
@[simp] theorem modSess_spi (m : Nat) (f : Session → Session) (s : State) : (modSess m f s).spi = s.spi := rfl
@[simp] theorem modSess_limiters (m : Nat) (f : Session → Session) (s : State) : (modSess m f s).limiters = s.limiters := rfl
@[simp] theorem modSess_banks (m : Nat) (f : Session → Session) (s : State) : (modSess m f s).banks = s.banks := rfl
@[simp] theorem modSess_locks (m : Nat) (f : Session → Session) (s : State) : (modSess m f s).locks = s.locks := rfl
@[simp] theorem modSess_lckForced (m : Nat) (f : Session → Session) (s : State) : (modSess m f s).lckForced = s.lckForced := rfl
@[simp] theorem modSess_sqs (m : Nat) (f : Session → Session) (s : State) : (modSess m f s).sqs = s.sqs := rfl
@[simp] theorem modSess_repl (m : Nat) (f : Session → Session) (s : State) : (modSess m f s).repl = s.repl := rfl
@[simp] theorem modSess_tb (m : Nat) (f : Session → Session) (s : State) : (modSess m f s).tb = s.tb := rfl
@[simp] theorem modSess_gnss (m : Nat) (f : Session → Session) (s : State) : (modSess m f s).gnss = s.gnss := rfl
@[simp] theorem modSess_corr (m : Nat) (f : Session → Session) (s : State) : (modSess m f s).corr = s.corr := rfl
@[simp] theorem modSess_bl (m : Nat) (f : Session → Session) (s : State) : (modSess m f s).bl = s.bl := rfl
@[simp] theorem modSess_rh (m : Nat) (f : Session → Session) (s : State) : (modSess m f s).rh = s.rh := rfl
@[simp] theorem modSess_mac (m : Nat) (f : Session → Session) (s : State) : (modSess m f s).mac = s.mac := rfl
@[simp] theorem modSess_ecl (m : Nat) (f : Session → Session) (s : State) : (modSess m f s).ecl = s.ecl := rfl
@[simp] theorem modSess_trown (m : Nat) (f : Session → Session) (s : State) : (modSess m f s).trown = s.trown := rfl
@[simp] theorem modSess_dpown (m : Nat) (f : Session → Session) (s : State) : (modSess m f s).dpown = s.dpown := rfl
@[simp] theorem modSess_pair (m : Nat) (f : Session → Session) (s : State) : (modSess m f s).pair = s.pair := rfl
@[simp] theorem modSess_vault (m : Nat) (f : Session → Session) (s : State) : (modSess m f s).vault = s.vault := rfl
@[simp] theorem modSess_can (m : Nat) (f : Session → Session) (s : State) : (modSess m f s).can = s.can := rfl
@[simp] theorem modSess_comet (m : Nat) (f : Session → Session) (s : State) : (modSess m f s).comet = s.comet := rfl
@[simp] theorem modSess_pwr (m : Nat) (f : Session → Session) (s : State) : (modSess m f s).pwr = s.pwr := rfl
@[simp] theorem modSess_modes (m : Nat) (f : Session → Session) (s : State) : (modSess m f s).modes = s.modes := rfl
@[simp] theorem modSess_pins (m : Nat) (f : Session → Session) (s : State) : (modSess m f s).pins = s.pins := rfl

/-! ### modViol -/

@[simp] theorem modViol_pending (m : Nat) (f : Viol → Viol) (s : State) : (modViol m f s).pending = s.pending := rfl
@[simp] theorem modViol_outs (m : Nat) (f : Viol → Viol) (s : State) : (modViol m f s).outs = s.outs := rfl
@[simp] theorem modViol_free (m : Nat) (f : Viol → Viol) (s : State) : (modViol m f s).free = s.free := rfl
@[simp] theorem modViol_clockStep (m : Nat) (f : Viol → Viol) (s : State) : (modViol m f s).clockStep = s.clockStep := rfl
@[simp] theorem modViol_sessions (m : Nat) (f : Viol → Viol) (s : State) : (modViol m f s).sessions = s.sessions := rfl
@[simp] theorem modViol_hellos (m : Nat) (f : Viol → Viol) (s : State) : (modViol m f s).hellos = s.hellos := rfl
@[simp] theorem modViol_txq (m : Nat) (f : Viol → Viol) (s : State) : (modViol m f s).txq = s.txq := rfl
@[simp] theorem modViol_viols (m : Nat) (f : Viol → Viol) (s : State) : (modViol m f s).viols = modNth s.viols m f := rfl
@[simp] theorem modViol_net (m : Nat) (f : Viol → Viol) (s : State) : (modViol m f s).net = s.net := rfl
@[simp] theorem modViol_rings (m : Nat) (f : Viol → Viol) (s : State) : (modViol m f s).rings = s.rings := rfl
@[simp] theorem modViol_spi (m : Nat) (f : Viol → Viol) (s : State) : (modViol m f s).spi = s.spi := rfl
@[simp] theorem modViol_limiters (m : Nat) (f : Viol → Viol) (s : State) : (modViol m f s).limiters = s.limiters := rfl
@[simp] theorem modViol_banks (m : Nat) (f : Viol → Viol) (s : State) : (modViol m f s).banks = s.banks := rfl
@[simp] theorem modViol_locks (m : Nat) (f : Viol → Viol) (s : State) : (modViol m f s).locks = s.locks := rfl
@[simp] theorem modViol_lckForced (m : Nat) (f : Viol → Viol) (s : State) : (modViol m f s).lckForced = s.lckForced := rfl
@[simp] theorem modViol_sqs (m : Nat) (f : Viol → Viol) (s : State) : (modViol m f s).sqs = s.sqs := rfl
@[simp] theorem modViol_repl (m : Nat) (f : Viol → Viol) (s : State) : (modViol m f s).repl = s.repl := rfl
@[simp] theorem modViol_tb (m : Nat) (f : Viol → Viol) (s : State) : (modViol m f s).tb = s.tb := rfl
@[simp] theorem modViol_gnss (m : Nat) (f : Viol → Viol) (s : State) : (modViol m f s).gnss = s.gnss := rfl
@[simp] theorem modViol_corr (m : Nat) (f : Viol → Viol) (s : State) : (modViol m f s).corr = s.corr := rfl
@[simp] theorem modViol_bl (m : Nat) (f : Viol → Viol) (s : State) : (modViol m f s).bl = s.bl := rfl
@[simp] theorem modViol_rh (m : Nat) (f : Viol → Viol) (s : State) : (modViol m f s).rh = s.rh := rfl
@[simp] theorem modViol_mac (m : Nat) (f : Viol → Viol) (s : State) : (modViol m f s).mac = s.mac := rfl
@[simp] theorem modViol_ecl (m : Nat) (f : Viol → Viol) (s : State) : (modViol m f s).ecl = s.ecl := rfl
@[simp] theorem modViol_trown (m : Nat) (f : Viol → Viol) (s : State) : (modViol m f s).trown = s.trown := rfl
@[simp] theorem modViol_dpown (m : Nat) (f : Viol → Viol) (s : State) : (modViol m f s).dpown = s.dpown := rfl
@[simp] theorem modViol_pair (m : Nat) (f : Viol → Viol) (s : State) : (modViol m f s).pair = s.pair := rfl
@[simp] theorem modViol_vault (m : Nat) (f : Viol → Viol) (s : State) : (modViol m f s).vault = s.vault := rfl
@[simp] theorem modViol_can (m : Nat) (f : Viol → Viol) (s : State) : (modViol m f s).can = s.can := rfl
@[simp] theorem modViol_comet (m : Nat) (f : Viol → Viol) (s : State) : (modViol m f s).comet = s.comet := rfl
@[simp] theorem modViol_pwr (m : Nat) (f : Viol → Viol) (s : State) : (modViol m f s).pwr = s.pwr := rfl
@[simp] theorem modViol_modes (m : Nat) (f : Viol → Viol) (s : State) : (modViol m f s).modes = s.modes := rfl
@[simp] theorem modViol_pins (m : Nat) (f : Viol → Viol) (s : State) : (modViol m f s).pins = s.pins := rfl

/-! ### modBank -/

@[simp] theorem modBank_pending (m : Nat) (f : Bank → Bank) (s : State) : (modBank m f s).pending = s.pending := rfl
@[simp] theorem modBank_outs (m : Nat) (f : Bank → Bank) (s : State) : (modBank m f s).outs = s.outs := rfl
@[simp] theorem modBank_free (m : Nat) (f : Bank → Bank) (s : State) : (modBank m f s).free = s.free := rfl
@[simp] theorem modBank_clockStep (m : Nat) (f : Bank → Bank) (s : State) : (modBank m f s).clockStep = s.clockStep := rfl
@[simp] theorem modBank_sessions (m : Nat) (f : Bank → Bank) (s : State) : (modBank m f s).sessions = s.sessions := rfl
@[simp] theorem modBank_hellos (m : Nat) (f : Bank → Bank) (s : State) : (modBank m f s).hellos = s.hellos := rfl
@[simp] theorem modBank_txq (m : Nat) (f : Bank → Bank) (s : State) : (modBank m f s).txq = s.txq := rfl
@[simp] theorem modBank_viols (m : Nat) (f : Bank → Bank) (s : State) : (modBank m f s).viols = s.viols := rfl
@[simp] theorem modBank_net (m : Nat) (f : Bank → Bank) (s : State) : (modBank m f s).net = s.net := rfl
@[simp] theorem modBank_rings (m : Nat) (f : Bank → Bank) (s : State) : (modBank m f s).rings = s.rings := rfl
@[simp] theorem modBank_spi (m : Nat) (f : Bank → Bank) (s : State) : (modBank m f s).spi = s.spi := rfl
@[simp] theorem modBank_limiters (m : Nat) (f : Bank → Bank) (s : State) : (modBank m f s).limiters = s.limiters := rfl
@[simp] theorem modBank_banks (m : Nat) (f : Bank → Bank) (s : State) : (modBank m f s).banks = modNth s.banks m f := rfl
@[simp] theorem modBank_locks (m : Nat) (f : Bank → Bank) (s : State) : (modBank m f s).locks = s.locks := rfl
@[simp] theorem modBank_lckForced (m : Nat) (f : Bank → Bank) (s : State) : (modBank m f s).lckForced = s.lckForced := rfl
@[simp] theorem modBank_sqs (m : Nat) (f : Bank → Bank) (s : State) : (modBank m f s).sqs = s.sqs := rfl
@[simp] theorem modBank_repl (m : Nat) (f : Bank → Bank) (s : State) : (modBank m f s).repl = s.repl := rfl
@[simp] theorem modBank_tb (m : Nat) (f : Bank → Bank) (s : State) : (modBank m f s).tb = s.tb := rfl
@[simp] theorem modBank_gnss (m : Nat) (f : Bank → Bank) (s : State) : (modBank m f s).gnss = s.gnss := rfl
@[simp] theorem modBank_corr (m : Nat) (f : Bank → Bank) (s : State) : (modBank m f s).corr = s.corr := rfl
@[simp] theorem modBank_bl (m : Nat) (f : Bank → Bank) (s : State) : (modBank m f s).bl = s.bl := rfl
@[simp] theorem modBank_rh (m : Nat) (f : Bank → Bank) (s : State) : (modBank m f s).rh = s.rh := rfl
@[simp] theorem modBank_mac (m : Nat) (f : Bank → Bank) (s : State) : (modBank m f s).mac = s.mac := rfl
@[simp] theorem modBank_ecl (m : Nat) (f : Bank → Bank) (s : State) : (modBank m f s).ecl = s.ecl := rfl
@[simp] theorem modBank_trown (m : Nat) (f : Bank → Bank) (s : State) : (modBank m f s).trown = s.trown := rfl
@[simp] theorem modBank_dpown (m : Nat) (f : Bank → Bank) (s : State) : (modBank m f s).dpown = s.dpown := rfl
@[simp] theorem modBank_pair (m : Nat) (f : Bank → Bank) (s : State) : (modBank m f s).pair = s.pair := rfl
@[simp] theorem modBank_vault (m : Nat) (f : Bank → Bank) (s : State) : (modBank m f s).vault = s.vault := rfl
@[simp] theorem modBank_can (m : Nat) (f : Bank → Bank) (s : State) : (modBank m f s).can = s.can := rfl
@[simp] theorem modBank_comet (m : Nat) (f : Bank → Bank) (s : State) : (modBank m f s).comet = s.comet := rfl
@[simp] theorem modBank_pwr (m : Nat) (f : Bank → Bank) (s : State) : (modBank m f s).pwr = s.pwr := rfl
@[simp] theorem modBank_modes (m : Nat) (f : Bank → Bank) (s : State) : (modBank m f s).modes = s.modes := rfl
@[simp] theorem modBank_pins (m : Nat) (f : Bank → Bank) (s : State) : (modBank m f s).pins = s.pins := rfl

/-! ### modPair -/

@[simp] theorem modPair_pending (f : Pair → Pair) (s : State) : (modPair f s).pending = s.pending := rfl
@[simp] theorem modPair_outs (f : Pair → Pair) (s : State) : (modPair f s).outs = s.outs := rfl
@[simp] theorem modPair_free (f : Pair → Pair) (s : State) : (modPair f s).free = s.free := rfl
@[simp] theorem modPair_clockStep (f : Pair → Pair) (s : State) : (modPair f s).clockStep = s.clockStep := rfl
@[simp] theorem modPair_sessions (f : Pair → Pair) (s : State) : (modPair f s).sessions = s.sessions := rfl
@[simp] theorem modPair_hellos (f : Pair → Pair) (s : State) : (modPair f s).hellos = s.hellos := rfl
@[simp] theorem modPair_txq (f : Pair → Pair) (s : State) : (modPair f s).txq = s.txq := rfl
@[simp] theorem modPair_viols (f : Pair → Pair) (s : State) : (modPair f s).viols = s.viols := rfl
@[simp] theorem modPair_net (f : Pair → Pair) (s : State) : (modPair f s).net = s.net := rfl
@[simp] theorem modPair_rings (f : Pair → Pair) (s : State) : (modPair f s).rings = s.rings := rfl
@[simp] theorem modPair_spi (f : Pair → Pair) (s : State) : (modPair f s).spi = s.spi := rfl
@[simp] theorem modPair_limiters (f : Pair → Pair) (s : State) : (modPair f s).limiters = s.limiters := rfl
@[simp] theorem modPair_banks (f : Pair → Pair) (s : State) : (modPair f s).banks = s.banks := rfl
@[simp] theorem modPair_locks (f : Pair → Pair) (s : State) : (modPair f s).locks = s.locks := rfl
@[simp] theorem modPair_lckForced (f : Pair → Pair) (s : State) : (modPair f s).lckForced = s.lckForced := rfl
@[simp] theorem modPair_sqs (f : Pair → Pair) (s : State) : (modPair f s).sqs = s.sqs := rfl
@[simp] theorem modPair_repl (f : Pair → Pair) (s : State) : (modPair f s).repl = s.repl := rfl
@[simp] theorem modPair_tb (f : Pair → Pair) (s : State) : (modPair f s).tb = s.tb := rfl
@[simp] theorem modPair_gnss (f : Pair → Pair) (s : State) : (modPair f s).gnss = s.gnss := rfl
@[simp] theorem modPair_corr (f : Pair → Pair) (s : State) : (modPair f s).corr = s.corr := rfl
@[simp] theorem modPair_bl (f : Pair → Pair) (s : State) : (modPair f s).bl = s.bl := rfl
@[simp] theorem modPair_rh (f : Pair → Pair) (s : State) : (modPair f s).rh = s.rh := rfl
@[simp] theorem modPair_mac (f : Pair → Pair) (s : State) : (modPair f s).mac = s.mac := rfl
@[simp] theorem modPair_ecl (f : Pair → Pair) (s : State) : (modPair f s).ecl = s.ecl := rfl
@[simp] theorem modPair_trown (f : Pair → Pair) (s : State) : (modPair f s).trown = s.trown := rfl
@[simp] theorem modPair_dpown (f : Pair → Pair) (s : State) : (modPair f s).dpown = s.dpown := rfl
@[simp] theorem modPair_pair (f : Pair → Pair) (s : State) : (modPair f s).pair = f s.pair := rfl
@[simp] theorem modPair_vault (f : Pair → Pair) (s : State) : (modPair f s).vault = s.vault := rfl
@[simp] theorem modPair_can (f : Pair → Pair) (s : State) : (modPair f s).can = s.can := rfl
@[simp] theorem modPair_comet (f : Pair → Pair) (s : State) : (modPair f s).comet = s.comet := rfl
@[simp] theorem modPair_pwr (f : Pair → Pair) (s : State) : (modPair f s).pwr = s.pwr := rfl
@[simp] theorem modPair_modes (f : Pair → Pair) (s : State) : (modPair f s).modes = s.modes := rfl
@[simp] theorem modPair_pins (f : Pair → Pair) (s : State) : (modPair f s).pins = s.pins := rfl

/-! ### modPwr -/

@[simp] theorem modPwr_pending (f : Power → Power) (s : State) : (modPwr f s).pending = s.pending := rfl
@[simp] theorem modPwr_outs (f : Power → Power) (s : State) : (modPwr f s).outs = s.outs := rfl
@[simp] theorem modPwr_free (f : Power → Power) (s : State) : (modPwr f s).free = s.free := rfl
@[simp] theorem modPwr_clockStep (f : Power → Power) (s : State) : (modPwr f s).clockStep = s.clockStep := rfl
@[simp] theorem modPwr_sessions (f : Power → Power) (s : State) : (modPwr f s).sessions = s.sessions := rfl
@[simp] theorem modPwr_hellos (f : Power → Power) (s : State) : (modPwr f s).hellos = s.hellos := rfl
@[simp] theorem modPwr_txq (f : Power → Power) (s : State) : (modPwr f s).txq = s.txq := rfl
@[simp] theorem modPwr_viols (f : Power → Power) (s : State) : (modPwr f s).viols = s.viols := rfl
@[simp] theorem modPwr_net (f : Power → Power) (s : State) : (modPwr f s).net = s.net := rfl
@[simp] theorem modPwr_rings (f : Power → Power) (s : State) : (modPwr f s).rings = s.rings := rfl
@[simp] theorem modPwr_spi (f : Power → Power) (s : State) : (modPwr f s).spi = s.spi := rfl
@[simp] theorem modPwr_limiters (f : Power → Power) (s : State) : (modPwr f s).limiters = s.limiters := rfl
@[simp] theorem modPwr_banks (f : Power → Power) (s : State) : (modPwr f s).banks = s.banks := rfl
@[simp] theorem modPwr_locks (f : Power → Power) (s : State) : (modPwr f s).locks = s.locks := rfl
@[simp] theorem modPwr_lckForced (f : Power → Power) (s : State) : (modPwr f s).lckForced = s.lckForced := rfl
@[simp] theorem modPwr_sqs (f : Power → Power) (s : State) : (modPwr f s).sqs = s.sqs := rfl
@[simp] theorem modPwr_repl (f : Power → Power) (s : State) : (modPwr f s).repl = s.repl := rfl
@[simp] theorem modPwr_tb (f : Power → Power) (s : State) : (modPwr f s).tb = s.tb := rfl
@[simp] theorem modPwr_gnss (f : Power → Power) (s : State) : (modPwr f s).gnss = s.gnss := rfl
@[simp] theorem modPwr_corr (f : Power → Power) (s : State) : (modPwr f s).corr = s.corr := rfl
@[simp] theorem modPwr_bl (f : Power → Power) (s : State) : (modPwr f s).bl = s.bl := rfl
@[simp] theorem modPwr_rh (f : Power → Power) (s : State) : (modPwr f s).rh = s.rh := rfl
@[simp] theorem modPwr_mac (f : Power → Power) (s : State) : (modPwr f s).mac = s.mac := rfl
@[simp] theorem modPwr_ecl (f : Power → Power) (s : State) : (modPwr f s).ecl = s.ecl := rfl
@[simp] theorem modPwr_trown (f : Power → Power) (s : State) : (modPwr f s).trown = s.trown := rfl
@[simp] theorem modPwr_dpown (f : Power → Power) (s : State) : (modPwr f s).dpown = s.dpown := rfl
@[simp] theorem modPwr_pair (f : Power → Power) (s : State) : (modPwr f s).pair = s.pair := rfl
@[simp] theorem modPwr_vault (f : Power → Power) (s : State) : (modPwr f s).vault = s.vault := rfl
@[simp] theorem modPwr_can (f : Power → Power) (s : State) : (modPwr f s).can = s.can := rfl
@[simp] theorem modPwr_comet (f : Power → Power) (s : State) : (modPwr f s).comet = s.comet := rfl
@[simp] theorem modPwr_pwr (f : Power → Power) (s : State) : (modPwr f s).pwr = f s.pwr := rfl
@[simp] theorem modPwr_modes (f : Power → Power) (s : State) : (modPwr f s).modes = s.modes := rfl
@[simp] theorem modPwr_pins (f : Power → Power) (s : State) : (modPwr f s).pins = s.pins := rfl

/-! ### modTb -/

@[simp] theorem modTb_pending (f : Timebase → Timebase) (s : State) : (modTb f s).pending = s.pending := rfl
@[simp] theorem modTb_outs (f : Timebase → Timebase) (s : State) : (modTb f s).outs = s.outs := rfl
@[simp] theorem modTb_free (f : Timebase → Timebase) (s : State) : (modTb f s).free = s.free := rfl
@[simp] theorem modTb_clockStep (f : Timebase → Timebase) (s : State) : (modTb f s).clockStep = s.clockStep := rfl
@[simp] theorem modTb_sessions (f : Timebase → Timebase) (s : State) : (modTb f s).sessions = s.sessions := rfl
@[simp] theorem modTb_hellos (f : Timebase → Timebase) (s : State) : (modTb f s).hellos = s.hellos := rfl
@[simp] theorem modTb_txq (f : Timebase → Timebase) (s : State) : (modTb f s).txq = s.txq := rfl
@[simp] theorem modTb_viols (f : Timebase → Timebase) (s : State) : (modTb f s).viols = s.viols := rfl
@[simp] theorem modTb_net (f : Timebase → Timebase) (s : State) : (modTb f s).net = s.net := rfl
@[simp] theorem modTb_rings (f : Timebase → Timebase) (s : State) : (modTb f s).rings = s.rings := rfl
@[simp] theorem modTb_spi (f : Timebase → Timebase) (s : State) : (modTb f s).spi = s.spi := rfl
@[simp] theorem modTb_limiters (f : Timebase → Timebase) (s : State) : (modTb f s).limiters = s.limiters := rfl
@[simp] theorem modTb_banks (f : Timebase → Timebase) (s : State) : (modTb f s).banks = s.banks := rfl
@[simp] theorem modTb_locks (f : Timebase → Timebase) (s : State) : (modTb f s).locks = s.locks := rfl
@[simp] theorem modTb_lckForced (f : Timebase → Timebase) (s : State) : (modTb f s).lckForced = s.lckForced := rfl
@[simp] theorem modTb_sqs (f : Timebase → Timebase) (s : State) : (modTb f s).sqs = s.sqs := rfl
@[simp] theorem modTb_repl (f : Timebase → Timebase) (s : State) : (modTb f s).repl = s.repl := rfl
@[simp] theorem modTb_tb (f : Timebase → Timebase) (s : State) : (modTb f s).tb = f s.tb := rfl
@[simp] theorem modTb_gnss (f : Timebase → Timebase) (s : State) : (modTb f s).gnss = s.gnss := rfl
@[simp] theorem modTb_corr (f : Timebase → Timebase) (s : State) : (modTb f s).corr = s.corr := rfl
@[simp] theorem modTb_bl (f : Timebase → Timebase) (s : State) : (modTb f s).bl = s.bl := rfl
@[simp] theorem modTb_rh (f : Timebase → Timebase) (s : State) : (modTb f s).rh = s.rh := rfl
@[simp] theorem modTb_mac (f : Timebase → Timebase) (s : State) : (modTb f s).mac = s.mac := rfl
@[simp] theorem modTb_ecl (f : Timebase → Timebase) (s : State) : (modTb f s).ecl = s.ecl := rfl
@[simp] theorem modTb_trown (f : Timebase → Timebase) (s : State) : (modTb f s).trown = s.trown := rfl
@[simp] theorem modTb_dpown (f : Timebase → Timebase) (s : State) : (modTb f s).dpown = s.dpown := rfl
@[simp] theorem modTb_pair (f : Timebase → Timebase) (s : State) : (modTb f s).pair = s.pair := rfl
@[simp] theorem modTb_vault (f : Timebase → Timebase) (s : State) : (modTb f s).vault = s.vault := rfl
@[simp] theorem modTb_can (f : Timebase → Timebase) (s : State) : (modTb f s).can = s.can := rfl
@[simp] theorem modTb_comet (f : Timebase → Timebase) (s : State) : (modTb f s).comet = s.comet := rfl
@[simp] theorem modTb_pwr (f : Timebase → Timebase) (s : State) : (modTb f s).pwr = s.pwr := rfl
@[simp] theorem modTb_modes (f : Timebase → Timebase) (s : State) : (modTb f s).modes = s.modes := rfl
@[simp] theorem modTb_pins (f : Timebase → Timebase) (s : State) : (modTb f s).pins = s.pins := rfl

/-! ### modVault -/

@[simp] theorem modVault_pending (f : Vault → Vault) (s : State) : (modVault f s).pending = s.pending := rfl
@[simp] theorem modVault_outs (f : Vault → Vault) (s : State) : (modVault f s).outs = s.outs := rfl
@[simp] theorem modVault_free (f : Vault → Vault) (s : State) : (modVault f s).free = s.free := rfl
@[simp] theorem modVault_clockStep (f : Vault → Vault) (s : State) : (modVault f s).clockStep = s.clockStep := rfl
@[simp] theorem modVault_sessions (f : Vault → Vault) (s : State) : (modVault f s).sessions = s.sessions := rfl
@[simp] theorem modVault_hellos (f : Vault → Vault) (s : State) : (modVault f s).hellos = s.hellos := rfl
@[simp] theorem modVault_txq (f : Vault → Vault) (s : State) : (modVault f s).txq = s.txq := rfl
@[simp] theorem modVault_viols (f : Vault → Vault) (s : State) : (modVault f s).viols = s.viols := rfl
@[simp] theorem modVault_net (f : Vault → Vault) (s : State) : (modVault f s).net = s.net := rfl
@[simp] theorem modVault_rings (f : Vault → Vault) (s : State) : (modVault f s).rings = s.rings := rfl
@[simp] theorem modVault_spi (f : Vault → Vault) (s : State) : (modVault f s).spi = s.spi := rfl
@[simp] theorem modVault_limiters (f : Vault → Vault) (s : State) : (modVault f s).limiters = s.limiters := rfl
@[simp] theorem modVault_banks (f : Vault → Vault) (s : State) : (modVault f s).banks = s.banks := rfl
@[simp] theorem modVault_locks (f : Vault → Vault) (s : State) : (modVault f s).locks = s.locks := rfl
@[simp] theorem modVault_lckForced (f : Vault → Vault) (s : State) : (modVault f s).lckForced = s.lckForced := rfl
@[simp] theorem modVault_sqs (f : Vault → Vault) (s : State) : (modVault f s).sqs = s.sqs := rfl
@[simp] theorem modVault_repl (f : Vault → Vault) (s : State) : (modVault f s).repl = s.repl := rfl
@[simp] theorem modVault_tb (f : Vault → Vault) (s : State) : (modVault f s).tb = s.tb := rfl
@[simp] theorem modVault_gnss (f : Vault → Vault) (s : State) : (modVault f s).gnss = s.gnss := rfl
@[simp] theorem modVault_corr (f : Vault → Vault) (s : State) : (modVault f s).corr = s.corr := rfl
@[simp] theorem modVault_bl (f : Vault → Vault) (s : State) : (modVault f s).bl = s.bl := rfl
@[simp] theorem modVault_rh (f : Vault → Vault) (s : State) : (modVault f s).rh = s.rh := rfl
@[simp] theorem modVault_mac (f : Vault → Vault) (s : State) : (modVault f s).mac = s.mac := rfl
@[simp] theorem modVault_ecl (f : Vault → Vault) (s : State) : (modVault f s).ecl = s.ecl := rfl
@[simp] theorem modVault_trown (f : Vault → Vault) (s : State) : (modVault f s).trown = s.trown := rfl
@[simp] theorem modVault_dpown (f : Vault → Vault) (s : State) : (modVault f s).dpown = s.dpown := rfl
@[simp] theorem modVault_pair (f : Vault → Vault) (s : State) : (modVault f s).pair = s.pair := rfl
@[simp] theorem modVault_vault (f : Vault → Vault) (s : State) : (modVault f s).vault = f s.vault := rfl
@[simp] theorem modVault_can (f : Vault → Vault) (s : State) : (modVault f s).can = s.can := rfl
@[simp] theorem modVault_comet (f : Vault → Vault) (s : State) : (modVault f s).comet = s.comet := rfl
@[simp] theorem modVault_pwr (f : Vault → Vault) (s : State) : (modVault f s).pwr = s.pwr := rfl
@[simp] theorem modVault_modes (f : Vault → Vault) (s : State) : (modVault f s).modes = s.modes := rfl
@[simp] theorem modVault_pins (f : Vault → Vault) (s : State) : (modVault f s).pins = s.pins := rfl

/-! ### modComet -/

@[simp] theorem modComet_pending (f : Comet → Comet) (s : State) : (modComet f s).pending = s.pending := rfl
@[simp] theorem modComet_outs (f : Comet → Comet) (s : State) : (modComet f s).outs = s.outs := rfl
@[simp] theorem modComet_free (f : Comet → Comet) (s : State) : (modComet f s).free = s.free := rfl
@[simp] theorem modComet_clockStep (f : Comet → Comet) (s : State) : (modComet f s).clockStep = s.clockStep := rfl
@[simp] theorem modComet_sessions (f : Comet → Comet) (s : State) : (modComet f s).sessions = s.sessions := rfl
@[simp] theorem modComet_hellos (f : Comet → Comet) (s : State) : (modComet f s).hellos = s.hellos := rfl
@[simp] theorem modComet_txq (f : Comet → Comet) (s : State) : (modComet f s).txq = s.txq := rfl
@[simp] theorem modComet_viols (f : Comet → Comet) (s : State) : (modComet f s).viols = s.viols := rfl
@[simp] theorem modComet_net (f : Comet → Comet) (s : State) : (modComet f s).net = s.net := rfl
@[simp] theorem modComet_rings (f : Comet → Comet) (s : State) : (modComet f s).rings = s.rings := rfl
@[simp] theorem modComet_spi (f : Comet → Comet) (s : State) : (modComet f s).spi = s.spi := rfl
@[simp] theorem modComet_limiters (f : Comet → Comet) (s : State) : (modComet f s).limiters = s.limiters := rfl
@[simp] theorem modComet_banks (f : Comet → Comet) (s : State) : (modComet f s).banks = s.banks := rfl
@[simp] theorem modComet_locks (f : Comet → Comet) (s : State) : (modComet f s).locks = s.locks := rfl
@[simp] theorem modComet_lckForced (f : Comet → Comet) (s : State) : (modComet f s).lckForced = s.lckForced := rfl
@[simp] theorem modComet_sqs (f : Comet → Comet) (s : State) : (modComet f s).sqs = s.sqs := rfl
@[simp] theorem modComet_repl (f : Comet → Comet) (s : State) : (modComet f s).repl = s.repl := rfl
@[simp] theorem modComet_tb (f : Comet → Comet) (s : State) : (modComet f s).tb = s.tb := rfl
@[simp] theorem modComet_gnss (f : Comet → Comet) (s : State) : (modComet f s).gnss = s.gnss := rfl
@[simp] theorem modComet_corr (f : Comet → Comet) (s : State) : (modComet f s).corr = s.corr := rfl
@[simp] theorem modComet_bl (f : Comet → Comet) (s : State) : (modComet f s).bl = s.bl := rfl
@[simp] theorem modComet_rh (f : Comet → Comet) (s : State) : (modComet f s).rh = s.rh := rfl
@[simp] theorem modComet_mac (f : Comet → Comet) (s : State) : (modComet f s).mac = s.mac := rfl
@[simp] theorem modComet_ecl (f : Comet → Comet) (s : State) : (modComet f s).ecl = s.ecl := rfl
@[simp] theorem modComet_trown (f : Comet → Comet) (s : State) : (modComet f s).trown = s.trown := rfl
@[simp] theorem modComet_dpown (f : Comet → Comet) (s : State) : (modComet f s).dpown = s.dpown := rfl
@[simp] theorem modComet_pair (f : Comet → Comet) (s : State) : (modComet f s).pair = s.pair := rfl
@[simp] theorem modComet_vault (f : Comet → Comet) (s : State) : (modComet f s).vault = s.vault := rfl
@[simp] theorem modComet_can (f : Comet → Comet) (s : State) : (modComet f s).can = s.can := rfl
@[simp] theorem modComet_comet (f : Comet → Comet) (s : State) : (modComet f s).comet = f s.comet := rfl
@[simp] theorem modComet_pwr (f : Comet → Comet) (s : State) : (modComet f s).pwr = s.pwr := rfl
@[simp] theorem modComet_modes (f : Comet → Comet) (s : State) : (modComet f s).modes = s.modes := rfl
@[simp] theorem modComet_pins (f : Comet → Comet) (s : State) : (modComet f s).pins = s.pins := rfl

/-! ### modGnss -/

@[simp] theorem modGnss_pending (f : Gnss → Gnss) (s : State) : (modGnss f s).pending = s.pending := rfl
@[simp] theorem modGnss_outs (f : Gnss → Gnss) (s : State) : (modGnss f s).outs = s.outs := rfl
@[simp] theorem modGnss_free (f : Gnss → Gnss) (s : State) : (modGnss f s).free = s.free := rfl
@[simp] theorem modGnss_clockStep (f : Gnss → Gnss) (s : State) : (modGnss f s).clockStep = s.clockStep := rfl
@[simp] theorem modGnss_sessions (f : Gnss → Gnss) (s : State) : (modGnss f s).sessions = s.sessions := rfl
@[simp] theorem modGnss_hellos (f : Gnss → Gnss) (s : State) : (modGnss f s).hellos = s.hellos := rfl
@[simp] theorem modGnss_txq (f : Gnss → Gnss) (s : State) : (modGnss f s).txq = s.txq := rfl
@[simp] theorem modGnss_viols (f : Gnss → Gnss) (s : State) : (modGnss f s).viols = s.viols := rfl
@[simp] theorem modGnss_net (f : Gnss → Gnss) (s : State) : (modGnss f s).net = s.net := rfl
@[simp] theorem modGnss_rings (f : Gnss → Gnss) (s : State) : (modGnss f s).rings = s.rings := rfl
@[simp] theorem modGnss_spi (f : Gnss → Gnss) (s : State) : (modGnss f s).spi = s.spi := rfl
@[simp] theorem modGnss_limiters (f : Gnss → Gnss) (s : State) : (modGnss f s).limiters = s.limiters := rfl
@[simp] theorem modGnss_banks (f : Gnss → Gnss) (s : State) : (modGnss f s).banks = s.banks := rfl
@[simp] theorem modGnss_locks (f : Gnss → Gnss) (s : State) : (modGnss f s).locks = s.locks := rfl
@[simp] theorem modGnss_lckForced (f : Gnss → Gnss) (s : State) : (modGnss f s).lckForced = s.lckForced := rfl
@[simp] theorem modGnss_sqs (f : Gnss → Gnss) (s : State) : (modGnss f s).sqs = s.sqs := rfl
@[simp] theorem modGnss_repl (f : Gnss → Gnss) (s : State) : (modGnss f s).repl = s.repl := rfl
@[simp] theorem modGnss_tb (f : Gnss → Gnss) (s : State) : (modGnss f s).tb = s.tb := rfl
@[simp] theorem modGnss_gnss (f : Gnss → Gnss) (s : State) : (modGnss f s).gnss = f s.gnss := rfl
@[simp] theorem modGnss_corr (f : Gnss → Gnss) (s : State) : (modGnss f s).corr = s.corr := rfl
@[simp] theorem modGnss_bl (f : Gnss → Gnss) (s : State) : (modGnss f s).bl = s.bl := rfl
@[simp] theorem modGnss_rh (f : Gnss → Gnss) (s : State) : (modGnss f s).rh = s.rh := rfl
@[simp] theorem modGnss_mac (f : Gnss → Gnss) (s : State) : (modGnss f s).mac = s.mac := rfl
@[simp] theorem modGnss_ecl (f : Gnss → Gnss) (s : State) : (modGnss f s).ecl = s.ecl := rfl
@[simp] theorem modGnss_trown (f : Gnss → Gnss) (s : State) : (modGnss f s).trown = s.trown := rfl
@[simp] theorem modGnss_dpown (f : Gnss → Gnss) (s : State) : (modGnss f s).dpown = s.dpown := rfl
@[simp] theorem modGnss_pair (f : Gnss → Gnss) (s : State) : (modGnss f s).pair = s.pair := rfl
@[simp] theorem modGnss_vault (f : Gnss → Gnss) (s : State) : (modGnss f s).vault = s.vault := rfl
@[simp] theorem modGnss_can (f : Gnss → Gnss) (s : State) : (modGnss f s).can = s.can := rfl
@[simp] theorem modGnss_comet (f : Gnss → Gnss) (s : State) : (modGnss f s).comet = s.comet := rfl
@[simp] theorem modGnss_pwr (f : Gnss → Gnss) (s : State) : (modGnss f s).pwr = s.pwr := rfl
@[simp] theorem modGnss_modes (f : Gnss → Gnss) (s : State) : (modGnss f s).modes = s.modes := rfl
@[simp] theorem modGnss_pins (f : Gnss → Gnss) (s : State) : (modGnss f s).pins = s.pins := rfl

/-! ### modCorr -/

@[simp] theorem modCorr_pending (f : Corr → Corr) (s : State) : (modCorr f s).pending = s.pending := rfl
@[simp] theorem modCorr_outs (f : Corr → Corr) (s : State) : (modCorr f s).outs = s.outs := rfl
@[simp] theorem modCorr_free (f : Corr → Corr) (s : State) : (modCorr f s).free = s.free := rfl
@[simp] theorem modCorr_clockStep (f : Corr → Corr) (s : State) : (modCorr f s).clockStep = s.clockStep := rfl
@[simp] theorem modCorr_sessions (f : Corr → Corr) (s : State) : (modCorr f s).sessions = s.sessions := rfl
@[simp] theorem modCorr_hellos (f : Corr → Corr) (s : State) : (modCorr f s).hellos = s.hellos := rfl
@[simp] theorem modCorr_txq (f : Corr → Corr) (s : State) : (modCorr f s).txq = s.txq := rfl
@[simp] theorem modCorr_viols (f : Corr → Corr) (s : State) : (modCorr f s).viols = s.viols := rfl
@[simp] theorem modCorr_net (f : Corr → Corr) (s : State) : (modCorr f s).net = s.net := rfl
@[simp] theorem modCorr_rings (f : Corr → Corr) (s : State) : (modCorr f s).rings = s.rings := rfl
@[simp] theorem modCorr_spi (f : Corr → Corr) (s : State) : (modCorr f s).spi = s.spi := rfl
@[simp] theorem modCorr_limiters (f : Corr → Corr) (s : State) : (modCorr f s).limiters = s.limiters := rfl
@[simp] theorem modCorr_banks (f : Corr → Corr) (s : State) : (modCorr f s).banks = s.banks := rfl
@[simp] theorem modCorr_locks (f : Corr → Corr) (s : State) : (modCorr f s).locks = s.locks := rfl
@[simp] theorem modCorr_lckForced (f : Corr → Corr) (s : State) : (modCorr f s).lckForced = s.lckForced := rfl
@[simp] theorem modCorr_sqs (f : Corr → Corr) (s : State) : (modCorr f s).sqs = s.sqs := rfl
@[simp] theorem modCorr_repl (f : Corr → Corr) (s : State) : (modCorr f s).repl = s.repl := rfl
@[simp] theorem modCorr_tb (f : Corr → Corr) (s : State) : (modCorr f s).tb = s.tb := rfl
@[simp] theorem modCorr_gnss (f : Corr → Corr) (s : State) : (modCorr f s).gnss = s.gnss := rfl
@[simp] theorem modCorr_corr (f : Corr → Corr) (s : State) : (modCorr f s).corr = f s.corr := rfl
@[simp] theorem modCorr_bl (f : Corr → Corr) (s : State) : (modCorr f s).bl = s.bl := rfl
@[simp] theorem modCorr_rh (f : Corr → Corr) (s : State) : (modCorr f s).rh = s.rh := rfl
@[simp] theorem modCorr_mac (f : Corr → Corr) (s : State) : (modCorr f s).mac = s.mac := rfl
@[simp] theorem modCorr_ecl (f : Corr → Corr) (s : State) : (modCorr f s).ecl = s.ecl := rfl
@[simp] theorem modCorr_trown (f : Corr → Corr) (s : State) : (modCorr f s).trown = s.trown := rfl
@[simp] theorem modCorr_dpown (f : Corr → Corr) (s : State) : (modCorr f s).dpown = s.dpown := rfl
@[simp] theorem modCorr_pair (f : Corr → Corr) (s : State) : (modCorr f s).pair = s.pair := rfl
@[simp] theorem modCorr_vault (f : Corr → Corr) (s : State) : (modCorr f s).vault = s.vault := rfl
@[simp] theorem modCorr_can (f : Corr → Corr) (s : State) : (modCorr f s).can = s.can := rfl
@[simp] theorem modCorr_comet (f : Corr → Corr) (s : State) : (modCorr f s).comet = s.comet := rfl
@[simp] theorem modCorr_pwr (f : Corr → Corr) (s : State) : (modCorr f s).pwr = s.pwr := rfl
@[simp] theorem modCorr_modes (f : Corr → Corr) (s : State) : (modCorr f s).modes = s.modes := rfl
@[simp] theorem modCorr_pins (f : Corr → Corr) (s : State) : (modCorr f s).pins = s.pins := rfl

/-! ### modBl -/

@[simp] theorem modBl_pending (f : Baseline → Baseline) (s : State) : (modBl f s).pending = s.pending := rfl
@[simp] theorem modBl_outs (f : Baseline → Baseline) (s : State) : (modBl f s).outs = s.outs := rfl
@[simp] theorem modBl_free (f : Baseline → Baseline) (s : State) : (modBl f s).free = s.free := rfl
@[simp] theorem modBl_clockStep (f : Baseline → Baseline) (s : State) : (modBl f s).clockStep = s.clockStep := rfl
@[simp] theorem modBl_sessions (f : Baseline → Baseline) (s : State) : (modBl f s).sessions = s.sessions := rfl
@[simp] theorem modBl_hellos (f : Baseline → Baseline) (s : State) : (modBl f s).hellos = s.hellos := rfl
@[simp] theorem modBl_txq (f : Baseline → Baseline) (s : State) : (modBl f s).txq = s.txq := rfl
@[simp] theorem modBl_viols (f : Baseline → Baseline) (s : State) : (modBl f s).viols = s.viols := rfl
@[simp] theorem modBl_net (f : Baseline → Baseline) (s : State) : (modBl f s).net = s.net := rfl
@[simp] theorem modBl_rings (f : Baseline → Baseline) (s : State) : (modBl f s).rings = s.rings := rfl
@[simp] theorem modBl_spi (f : Baseline → Baseline) (s : State) : (modBl f s).spi = s.spi := rfl
@[simp] theorem modBl_limiters (f : Baseline → Baseline) (s : State) : (modBl f s).limiters = s.limiters := rfl
@[simp] theorem modBl_banks (f : Baseline → Baseline) (s : State) : (modBl f s).banks = s.banks := rfl
@[simp] theorem modBl_locks (f : Baseline → Baseline) (s : State) : (modBl f s).locks = s.locks := rfl
@[simp] theorem modBl_lckForced (f : Baseline → Baseline) (s : State) : (modBl f s).lckForced = s.lckForced := rfl
@[simp] theorem modBl_sqs (f : Baseline → Baseline) (s : State) : (modBl f s).sqs = s.sqs := rfl
@[simp] theorem modBl_repl (f : Baseline → Baseline) (s : State) : (modBl f s).repl = s.repl := rfl
@[simp] theorem modBl_tb (f : Baseline → Baseline) (s : State) : (modBl f s).tb = s.tb := rfl
@[simp] theorem modBl_gnss (f : Baseline → Baseline) (s : State) : (modBl f s).gnss = s.gnss := rfl
@[simp] theorem modBl_corr (f : Baseline → Baseline) (s : State) : (modBl f s).corr = s.corr := rfl
@[simp] theorem modBl_bl (f : Baseline → Baseline) (s : State) : (modBl f s).bl = f s.bl := rfl
@[simp] theorem modBl_rh (f : Baseline → Baseline) (s : State) : (modBl f s).rh = s.rh := rfl
@[simp] theorem modBl_mac (f : Baseline → Baseline) (s : State) : (modBl f s).mac = s.mac := rfl
@[simp] theorem modBl_ecl (f : Baseline → Baseline) (s : State) : (modBl f s).ecl = s.ecl := rfl
@[simp] theorem modBl_trown (f : Baseline → Baseline) (s : State) : (modBl f s).trown = s.trown := rfl
@[simp] theorem modBl_dpown (f : Baseline → Baseline) (s : State) : (modBl f s).dpown = s.dpown := rfl
@[simp] theorem modBl_pair (f : Baseline → Baseline) (s : State) : (modBl f s).pair = s.pair := rfl
@[simp] theorem modBl_vault (f : Baseline → Baseline) (s : State) : (modBl f s).vault = s.vault := rfl
@[simp] theorem modBl_can (f : Baseline → Baseline) (s : State) : (modBl f s).can = s.can := rfl
@[simp] theorem modBl_comet (f : Baseline → Baseline) (s : State) : (modBl f s).comet = s.comet := rfl
@[simp] theorem modBl_pwr (f : Baseline → Baseline) (s : State) : (modBl f s).pwr = s.pwr := rfl
@[simp] theorem modBl_modes (f : Baseline → Baseline) (s : State) : (modBl f s).modes = s.modes := rfl
@[simp] theorem modBl_pins (f : Baseline → Baseline) (s : State) : (modBl f s).pins = s.pins := rfl

/-! ### modOwn -/

@[simp] theorem modOwn_pending (f : MacOwn → MacOwn) (s : State) : (modOwn f s).pending = s.pending := rfl
@[simp] theorem modOwn_outs (f : MacOwn → MacOwn) (s : State) : (modOwn f s).outs = s.outs := rfl
@[simp] theorem modOwn_free (f : MacOwn → MacOwn) (s : State) : (modOwn f s).free = s.free := rfl
@[simp] theorem modOwn_clockStep (f : MacOwn → MacOwn) (s : State) : (modOwn f s).clockStep = s.clockStep := rfl
@[simp] theorem modOwn_sessions (f : MacOwn → MacOwn) (s : State) : (modOwn f s).sessions = s.sessions := rfl
@[simp] theorem modOwn_hellos (f : MacOwn → MacOwn) (s : State) : (modOwn f s).hellos = s.hellos := rfl
@[simp] theorem modOwn_txq (f : MacOwn → MacOwn) (s : State) : (modOwn f s).txq = s.txq := rfl
@[simp] theorem modOwn_viols (f : MacOwn → MacOwn) (s : State) : (modOwn f s).viols = s.viols := rfl
@[simp] theorem modOwn_net (f : MacOwn → MacOwn) (s : State) : (modOwn f s).net = s.net := rfl
@[simp] theorem modOwn_rings (f : MacOwn → MacOwn) (s : State) : (modOwn f s).rings = s.rings := rfl
@[simp] theorem modOwn_spi (f : MacOwn → MacOwn) (s : State) : (modOwn f s).spi = s.spi := rfl
@[simp] theorem modOwn_limiters (f : MacOwn → MacOwn) (s : State) : (modOwn f s).limiters = s.limiters := rfl
@[simp] theorem modOwn_banks (f : MacOwn → MacOwn) (s : State) : (modOwn f s).banks = s.banks := rfl
@[simp] theorem modOwn_locks (f : MacOwn → MacOwn) (s : State) : (modOwn f s).locks = s.locks := rfl
@[simp] theorem modOwn_lckForced (f : MacOwn → MacOwn) (s : State) : (modOwn f s).lckForced = s.lckForced := rfl
@[simp] theorem modOwn_sqs (f : MacOwn → MacOwn) (s : State) : (modOwn f s).sqs = s.sqs := rfl
@[simp] theorem modOwn_repl (f : MacOwn → MacOwn) (s : State) : (modOwn f s).repl = s.repl := rfl
@[simp] theorem modOwn_tb (f : MacOwn → MacOwn) (s : State) : (modOwn f s).tb = s.tb := rfl
@[simp] theorem modOwn_gnss (f : MacOwn → MacOwn) (s : State) : (modOwn f s).gnss = s.gnss := rfl
@[simp] theorem modOwn_corr (f : MacOwn → MacOwn) (s : State) : (modOwn f s).corr = s.corr := rfl
@[simp] theorem modOwn_bl (f : MacOwn → MacOwn) (s : State) : (modOwn f s).bl = s.bl := rfl
@[simp] theorem modOwn_rh (f : MacOwn → MacOwn) (s : State) : (modOwn f s).rh = s.rh := rfl
@[simp] theorem modOwn_mac (f : MacOwn → MacOwn) (s : State) : (modOwn f s).mac = f s.mac := rfl
@[simp] theorem modOwn_ecl (f : MacOwn → MacOwn) (s : State) : (modOwn f s).ecl = s.ecl := rfl
@[simp] theorem modOwn_trown (f : MacOwn → MacOwn) (s : State) : (modOwn f s).trown = s.trown := rfl
@[simp] theorem modOwn_dpown (f : MacOwn → MacOwn) (s : State) : (modOwn f s).dpown = s.dpown := rfl
@[simp] theorem modOwn_pair (f : MacOwn → MacOwn) (s : State) : (modOwn f s).pair = s.pair := rfl
@[simp] theorem modOwn_vault (f : MacOwn → MacOwn) (s : State) : (modOwn f s).vault = s.vault := rfl
@[simp] theorem modOwn_can (f : MacOwn → MacOwn) (s : State) : (modOwn f s).can = s.can := rfl
@[simp] theorem modOwn_comet (f : MacOwn → MacOwn) (s : State) : (modOwn f s).comet = s.comet := rfl
@[simp] theorem modOwn_pwr (f : MacOwn → MacOwn) (s : State) : (modOwn f s).pwr = s.pwr := rfl
@[simp] theorem modOwn_modes (f : MacOwn → MacOwn) (s : State) : (modOwn f s).modes = s.modes := rfl
@[simp] theorem modOwn_pins (f : MacOwn → MacOwn) (s : State) : (modOwn f s).pins = s.pins := rfl

/-! ### modRings -/

@[simp] theorem modRings_pending (f : Rings → Rings) (s : State) : (modRings f s).pending = s.pending := rfl
@[simp] theorem modRings_outs (f : Rings → Rings) (s : State) : (modRings f s).outs = s.outs := rfl
@[simp] theorem modRings_free (f : Rings → Rings) (s : State) : (modRings f s).free = s.free := rfl
@[simp] theorem modRings_clockStep (f : Rings → Rings) (s : State) : (modRings f s).clockStep = s.clockStep := rfl
@[simp] theorem modRings_sessions (f : Rings → Rings) (s : State) : (modRings f s).sessions = s.sessions := rfl
@[simp] theorem modRings_hellos (f : Rings → Rings) (s : State) : (modRings f s).hellos = s.hellos := rfl
@[simp] theorem modRings_txq (f : Rings → Rings) (s : State) : (modRings f s).txq = s.txq := rfl
@[simp] theorem modRings_viols (f : Rings → Rings) (s : State) : (modRings f s).viols = s.viols := rfl
@[simp] theorem modRings_net (f : Rings → Rings) (s : State) : (modRings f s).net = s.net := rfl
@[simp] theorem modRings_rings (f : Rings → Rings) (s : State) : (modRings f s).rings = f s.rings := rfl
@[simp] theorem modRings_spi (f : Rings → Rings) (s : State) : (modRings f s).spi = s.spi := rfl
@[simp] theorem modRings_limiters (f : Rings → Rings) (s : State) : (modRings f s).limiters = s.limiters := rfl
@[simp] theorem modRings_banks (f : Rings → Rings) (s : State) : (modRings f s).banks = s.banks := rfl
@[simp] theorem modRings_locks (f : Rings → Rings) (s : State) : (modRings f s).locks = s.locks := rfl
@[simp] theorem modRings_lckForced (f : Rings → Rings) (s : State) : (modRings f s).lckForced = s.lckForced := rfl
@[simp] theorem modRings_sqs (f : Rings → Rings) (s : State) : (modRings f s).sqs = s.sqs := rfl
@[simp] theorem modRings_repl (f : Rings → Rings) (s : State) : (modRings f s).repl = s.repl := rfl
@[simp] theorem modRings_tb (f : Rings → Rings) (s : State) : (modRings f s).tb = s.tb := rfl
@[simp] theorem modRings_gnss (f : Rings → Rings) (s : State) : (modRings f s).gnss = s.gnss := rfl
@[simp] theorem modRings_corr (f : Rings → Rings) (s : State) : (modRings f s).corr = s.corr := rfl
@[simp] theorem modRings_bl (f : Rings → Rings) (s : State) : (modRings f s).bl = s.bl := rfl
@[simp] theorem modRings_rh (f : Rings → Rings) (s : State) : (modRings f s).rh = s.rh := rfl
@[simp] theorem modRings_mac (f : Rings → Rings) (s : State) : (modRings f s).mac = s.mac := rfl
@[simp] theorem modRings_ecl (f : Rings → Rings) (s : State) : (modRings f s).ecl = s.ecl := rfl
@[simp] theorem modRings_trown (f : Rings → Rings) (s : State) : (modRings f s).trown = s.trown := rfl
@[simp] theorem modRings_dpown (f : Rings → Rings) (s : State) : (modRings f s).dpown = s.dpown := rfl
@[simp] theorem modRings_pair (f : Rings → Rings) (s : State) : (modRings f s).pair = s.pair := rfl
@[simp] theorem modRings_vault (f : Rings → Rings) (s : State) : (modRings f s).vault = s.vault := rfl
@[simp] theorem modRings_can (f : Rings → Rings) (s : State) : (modRings f s).can = s.can := rfl
@[simp] theorem modRings_comet (f : Rings → Rings) (s : State) : (modRings f s).comet = s.comet := rfl
@[simp] theorem modRings_pwr (f : Rings → Rings) (s : State) : (modRings f s).pwr = s.pwr := rfl
@[simp] theorem modRings_modes (f : Rings → Rings) (s : State) : (modRings f s).modes = s.modes := rfl
@[simp] theorem modRings_pins (f : Rings → Rings) (s : State) : (modRings f s).pins = s.pins := rfl

/-! ### modSq -/

@[simp] theorem modSq_pending (q : Nat) (f : SpillQ → SpillQ) (s : State) : (modSq q f s).pending = s.pending := rfl
@[simp] theorem modSq_outs (q : Nat) (f : SpillQ → SpillQ) (s : State) : (modSq q f s).outs = s.outs := rfl
@[simp] theorem modSq_free (q : Nat) (f : SpillQ → SpillQ) (s : State) : (modSq q f s).free = s.free := rfl
@[simp] theorem modSq_clockStep (q : Nat) (f : SpillQ → SpillQ) (s : State) : (modSq q f s).clockStep = s.clockStep := rfl
@[simp] theorem modSq_sessions (q : Nat) (f : SpillQ → SpillQ) (s : State) : (modSq q f s).sessions = s.sessions := rfl
@[simp] theorem modSq_hellos (q : Nat) (f : SpillQ → SpillQ) (s : State) : (modSq q f s).hellos = s.hellos := rfl
@[simp] theorem modSq_txq (q : Nat) (f : SpillQ → SpillQ) (s : State) : (modSq q f s).txq = s.txq := rfl
@[simp] theorem modSq_viols (q : Nat) (f : SpillQ → SpillQ) (s : State) : (modSq q f s).viols = s.viols := rfl
@[simp] theorem modSq_net (q : Nat) (f : SpillQ → SpillQ) (s : State) : (modSq q f s).net = s.net := rfl
@[simp] theorem modSq_rings (q : Nat) (f : SpillQ → SpillQ) (s : State) : (modSq q f s).rings = s.rings := rfl
@[simp] theorem modSq_spi (q : Nat) (f : SpillQ → SpillQ) (s : State) : (modSq q f s).spi = s.spi := rfl
@[simp] theorem modSq_limiters (q : Nat) (f : SpillQ → SpillQ) (s : State) : (modSq q f s).limiters = s.limiters := rfl
@[simp] theorem modSq_banks (q : Nat) (f : SpillQ → SpillQ) (s : State) : (modSq q f s).banks = s.banks := rfl
@[simp] theorem modSq_locks (q : Nat) (f : SpillQ → SpillQ) (s : State) : (modSq q f s).locks = s.locks := rfl
@[simp] theorem modSq_lckForced (q : Nat) (f : SpillQ → SpillQ) (s : State) : (modSq q f s).lckForced = s.lckForced := rfl
@[simp] theorem modSq_sqs (q : Nat) (f : SpillQ → SpillQ) (s : State) : (modSq q f s).sqs = modNth s.sqs q f := rfl
@[simp] theorem modSq_repl (q : Nat) (f : SpillQ → SpillQ) (s : State) : (modSq q f s).repl = s.repl := rfl
@[simp] theorem modSq_tb (q : Nat) (f : SpillQ → SpillQ) (s : State) : (modSq q f s).tb = s.tb := rfl
@[simp] theorem modSq_gnss (q : Nat) (f : SpillQ → SpillQ) (s : State) : (modSq q f s).gnss = s.gnss := rfl
@[simp] theorem modSq_corr (q : Nat) (f : SpillQ → SpillQ) (s : State) : (modSq q f s).corr = s.corr := rfl
@[simp] theorem modSq_bl (q : Nat) (f : SpillQ → SpillQ) (s : State) : (modSq q f s).bl = s.bl := rfl
@[simp] theorem modSq_rh (q : Nat) (f : SpillQ → SpillQ) (s : State) : (modSq q f s).rh = s.rh := rfl
@[simp] theorem modSq_mac (q : Nat) (f : SpillQ → SpillQ) (s : State) : (modSq q f s).mac = s.mac := rfl
@[simp] theorem modSq_ecl (q : Nat) (f : SpillQ → SpillQ) (s : State) : (modSq q f s).ecl = s.ecl := rfl
@[simp] theorem modSq_trown (q : Nat) (f : SpillQ → SpillQ) (s : State) : (modSq q f s).trown = s.trown := rfl
@[simp] theorem modSq_dpown (q : Nat) (f : SpillQ → SpillQ) (s : State) : (modSq q f s).dpown = s.dpown := rfl
@[simp] theorem modSq_pair (q : Nat) (f : SpillQ → SpillQ) (s : State) : (modSq q f s).pair = s.pair := rfl
@[simp] theorem modSq_vault (q : Nat) (f : SpillQ → SpillQ) (s : State) : (modSq q f s).vault = s.vault := rfl
@[simp] theorem modSq_can (q : Nat) (f : SpillQ → SpillQ) (s : State) : (modSq q f s).can = s.can := rfl
@[simp] theorem modSq_comet (q : Nat) (f : SpillQ → SpillQ) (s : State) : (modSq q f s).comet = s.comet := rfl
@[simp] theorem modSq_pwr (q : Nat) (f : SpillQ → SpillQ) (s : State) : (modSq q f s).pwr = s.pwr := rfl
@[simp] theorem modSq_modes (q : Nat) (f : SpillQ → SpillQ) (s : State) : (modSq q f s).modes = s.modes := rfl
@[simp] theorem modSq_pins (q : Nat) (f : SpillQ → SpillQ) (s : State) : (modSq q f s).pins = s.pins := rfl

/-! ### modHead -/

@[simp] theorem modHead_pending (h : Nat) (f : Head → Head) (s : State) : (modHead h f s).pending = s.pending := rfl
@[simp] theorem modHead_outs (h : Nat) (f : Head → Head) (s : State) : (modHead h f s).outs = s.outs := rfl
@[simp] theorem modHead_free (h : Nat) (f : Head → Head) (s : State) : (modHead h f s).free = s.free := rfl
@[simp] theorem modHead_clockStep (h : Nat) (f : Head → Head) (s : State) : (modHead h f s).clockStep = s.clockStep := rfl
@[simp] theorem modHead_sessions (h : Nat) (f : Head → Head) (s : State) : (modHead h f s).sessions = s.sessions := rfl
@[simp] theorem modHead_hellos (h : Nat) (f : Head → Head) (s : State) : (modHead h f s).hellos = s.hellos := rfl
@[simp] theorem modHead_txq (h : Nat) (f : Head → Head) (s : State) : (modHead h f s).txq = s.txq := rfl
@[simp] theorem modHead_viols (h : Nat) (f : Head → Head) (s : State) : (modHead h f s).viols = s.viols := rfl
@[simp] theorem modHead_net (h : Nat) (f : Head → Head) (s : State) : (modHead h f s).net = s.net := rfl
@[simp] theorem modHead_rings (h : Nat) (f : Head → Head) (s : State) : (modHead h f s).rings = s.rings := rfl
@[simp] theorem modHead_spi (h : Nat) (f : Head → Head) (s : State) : (modHead h f s).spi = s.spi := rfl
@[simp] theorem modHead_limiters (h : Nat) (f : Head → Head) (s : State) : (modHead h f s).limiters = s.limiters := rfl
@[simp] theorem modHead_banks (h : Nat) (f : Head → Head) (s : State) : (modHead h f s).banks = s.banks := rfl
@[simp] theorem modHead_locks (h : Nat) (f : Head → Head) (s : State) : (modHead h f s).locks = s.locks := rfl
@[simp] theorem modHead_lckForced (h : Nat) (f : Head → Head) (s : State) : (modHead h f s).lckForced = s.lckForced := rfl
@[simp] theorem modHead_sqs (h : Nat) (f : Head → Head) (s : State) : (modHead h f s).sqs = s.sqs := rfl
@[simp] theorem modHead_repl (h : Nat) (f : Head → Head) (s : State) : (modHead h f s).repl = s.repl := rfl
@[simp] theorem modHead_tb (h : Nat) (f : Head → Head) (s : State) : (modHead h f s).tb = s.tb := rfl
@[simp] theorem modHead_gnss (h : Nat) (f : Head → Head) (s : State) : (modHead h f s).gnss = s.gnss := rfl
@[simp] theorem modHead_corr (h : Nat) (f : Head → Head) (s : State) : (modHead h f s).corr = s.corr := rfl
@[simp] theorem modHead_bl (h : Nat) (f : Head → Head) (s : State) : (modHead h f s).bl = s.bl := rfl
@[simp] theorem modHead_rh (h : Nat) (f : Head → Head) (s : State) : (modHead h f s).rh = modNth s.rh h f := rfl
@[simp] theorem modHead_mac (h : Nat) (f : Head → Head) (s : State) : (modHead h f s).mac = s.mac := rfl
@[simp] theorem modHead_ecl (h : Nat) (f : Head → Head) (s : State) : (modHead h f s).ecl = s.ecl := rfl
@[simp] theorem modHead_trown (h : Nat) (f : Head → Head) (s : State) : (modHead h f s).trown = s.trown := rfl
@[simp] theorem modHead_dpown (h : Nat) (f : Head → Head) (s : State) : (modHead h f s).dpown = s.dpown := rfl
@[simp] theorem modHead_pair (h : Nat) (f : Head → Head) (s : State) : (modHead h f s).pair = s.pair := rfl
@[simp] theorem modHead_vault (h : Nat) (f : Head → Head) (s : State) : (modHead h f s).vault = s.vault := rfl
@[simp] theorem modHead_can (h : Nat) (f : Head → Head) (s : State) : (modHead h f s).can = s.can := rfl
@[simp] theorem modHead_comet (h : Nat) (f : Head → Head) (s : State) : (modHead h f s).comet = s.comet := rfl
@[simp] theorem modHead_pwr (h : Nat) (f : Head → Head) (s : State) : (modHead h f s).pwr = s.pwr := rfl
@[simp] theorem modHead_modes (h : Nat) (f : Head → Head) (s : State) : (modHead h f s).modes = s.modes := rfl
@[simp] theorem modHead_pins (h : Nat) (f : Head → Head) (s : State) : (modHead h f s).pins = s.pins := rfl

/-! ### modCtl -/

@[simp] theorem modCtl_pending (c : Nat) (f : CanCtl → CanCtl) (s : State) : (modCtl c f s).pending = s.pending := rfl
@[simp] theorem modCtl_outs (c : Nat) (f : CanCtl → CanCtl) (s : State) : (modCtl c f s).outs = s.outs := rfl
@[simp] theorem modCtl_free (c : Nat) (f : CanCtl → CanCtl) (s : State) : (modCtl c f s).free = s.free := rfl
@[simp] theorem modCtl_clockStep (c : Nat) (f : CanCtl → CanCtl) (s : State) : (modCtl c f s).clockStep = s.clockStep := rfl
@[simp] theorem modCtl_sessions (c : Nat) (f : CanCtl → CanCtl) (s : State) : (modCtl c f s).sessions = s.sessions := rfl
@[simp] theorem modCtl_hellos (c : Nat) (f : CanCtl → CanCtl) (s : State) : (modCtl c f s).hellos = s.hellos := rfl
@[simp] theorem modCtl_txq (c : Nat) (f : CanCtl → CanCtl) (s : State) : (modCtl c f s).txq = s.txq := rfl
@[simp] theorem modCtl_viols (c : Nat) (f : CanCtl → CanCtl) (s : State) : (modCtl c f s).viols = s.viols := rfl
@[simp] theorem modCtl_net (c : Nat) (f : CanCtl → CanCtl) (s : State) : (modCtl c f s).net = s.net := rfl
@[simp] theorem modCtl_rings (c : Nat) (f : CanCtl → CanCtl) (s : State) : (modCtl c f s).rings = s.rings := rfl
@[simp] theorem modCtl_spi (c : Nat) (f : CanCtl → CanCtl) (s : State) : (modCtl c f s).spi = s.spi := rfl
@[simp] theorem modCtl_limiters (c : Nat) (f : CanCtl → CanCtl) (s : State) : (modCtl c f s).limiters = s.limiters := rfl
@[simp] theorem modCtl_banks (c : Nat) (f : CanCtl → CanCtl) (s : State) : (modCtl c f s).banks = s.banks := rfl
@[simp] theorem modCtl_locks (c : Nat) (f : CanCtl → CanCtl) (s : State) : (modCtl c f s).locks = s.locks := rfl
@[simp] theorem modCtl_lckForced (c : Nat) (f : CanCtl → CanCtl) (s : State) : (modCtl c f s).lckForced = s.lckForced := rfl
@[simp] theorem modCtl_sqs (c : Nat) (f : CanCtl → CanCtl) (s : State) : (modCtl c f s).sqs = s.sqs := rfl
@[simp] theorem modCtl_repl (c : Nat) (f : CanCtl → CanCtl) (s : State) : (modCtl c f s).repl = s.repl := rfl
@[simp] theorem modCtl_tb (c : Nat) (f : CanCtl → CanCtl) (s : State) : (modCtl c f s).tb = s.tb := rfl
@[simp] theorem modCtl_gnss (c : Nat) (f : CanCtl → CanCtl) (s : State) : (modCtl c f s).gnss = s.gnss := rfl
@[simp] theorem modCtl_corr (c : Nat) (f : CanCtl → CanCtl) (s : State) : (modCtl c f s).corr = s.corr := rfl
@[simp] theorem modCtl_bl (c : Nat) (f : CanCtl → CanCtl) (s : State) : (modCtl c f s).bl = s.bl := rfl
@[simp] theorem modCtl_rh (c : Nat) (f : CanCtl → CanCtl) (s : State) : (modCtl c f s).rh = s.rh := rfl
@[simp] theorem modCtl_mac (c : Nat) (f : CanCtl → CanCtl) (s : State) : (modCtl c f s).mac = s.mac := rfl
@[simp] theorem modCtl_ecl (c : Nat) (f : CanCtl → CanCtl) (s : State) : (modCtl c f s).ecl = s.ecl := rfl
@[simp] theorem modCtl_trown (c : Nat) (f : CanCtl → CanCtl) (s : State) : (modCtl c f s).trown = s.trown := rfl
@[simp] theorem modCtl_dpown (c : Nat) (f : CanCtl → CanCtl) (s : State) : (modCtl c f s).dpown = s.dpown := rfl
@[simp] theorem modCtl_pair (c : Nat) (f : CanCtl → CanCtl) (s : State) : (modCtl c f s).pair = s.pair := rfl
@[simp] theorem modCtl_vault (c : Nat) (f : CanCtl → CanCtl) (s : State) : (modCtl c f s).vault = s.vault := rfl
@[simp] theorem modCtl_can (c : Nat) (f : CanCtl → CanCtl) (s : State) : (modCtl c f s).can = { s.can with ctls := modNth s.can.ctls c f } := rfl
@[simp] theorem modCtl_comet (c : Nat) (f : CanCtl → CanCtl) (s : State) : (modCtl c f s).comet = s.comet := rfl
@[simp] theorem modCtl_pwr (c : Nat) (f : CanCtl → CanCtl) (s : State) : (modCtl c f s).pwr = s.pwr := rfl
@[simp] theorem modCtl_modes (c : Nat) (f : CanCtl → CanCtl) (s : State) : (modCtl c f s).modes = s.modes := rfl
@[simp] theorem modCtl_pins (c : Nat) (f : CanCtl → CanCtl) (s : State) : (modCtl c f s).pins = s.pins := rfl

/-! ### modMac -/

@[simp] theorem modMac_pending (f : Mac → Mac) (s : State) : (modMac f s).pending = s.pending := rfl
@[simp] theorem modMac_outs (f : Mac → Mac) (s : State) : (modMac f s).outs = s.outs := rfl
@[simp] theorem modMac_free (f : Mac → Mac) (s : State) : (modMac f s).free = s.free := rfl
@[simp] theorem modMac_clockStep (f : Mac → Mac) (s : State) : (modMac f s).clockStep = s.clockStep := rfl
@[simp] theorem modMac_sessions (f : Mac → Mac) (s : State) : (modMac f s).sessions = s.sessions := rfl
@[simp] theorem modMac_hellos (f : Mac → Mac) (s : State) : (modMac f s).hellos = s.hellos := rfl
@[simp] theorem modMac_txq (f : Mac → Mac) (s : State) : (modMac f s).txq = s.txq := rfl
@[simp] theorem modMac_viols (f : Mac → Mac) (s : State) : (modMac f s).viols = s.viols := rfl
@[simp] theorem modMac_net (f : Mac → Mac) (s : State) : (modMac f s).net = s.net := rfl
@[simp] theorem modMac_rings (f : Mac → Mac) (s : State) : (modMac f s).rings = s.rings := rfl
@[simp] theorem modMac_spi (f : Mac → Mac) (s : State) : (modMac f s).spi = s.spi := rfl
@[simp] theorem modMac_limiters (f : Mac → Mac) (s : State) : (modMac f s).limiters = s.limiters := rfl
@[simp] theorem modMac_banks (f : Mac → Mac) (s : State) : (modMac f s).banks = s.banks := rfl
@[simp] theorem modMac_locks (f : Mac → Mac) (s : State) : (modMac f s).locks = s.locks := rfl
@[simp] theorem modMac_lckForced (f : Mac → Mac) (s : State) : (modMac f s).lckForced = s.lckForced := rfl
@[simp] theorem modMac_sqs (f : Mac → Mac) (s : State) : (modMac f s).sqs = s.sqs := rfl
@[simp] theorem modMac_repl (f : Mac → Mac) (s : State) : (modMac f s).repl = { s.repl with mac := f s.repl.mac } := rfl
@[simp] theorem modMac_tb (f : Mac → Mac) (s : State) : (modMac f s).tb = s.tb := rfl
@[simp] theorem modMac_gnss (f : Mac → Mac) (s : State) : (modMac f s).gnss = s.gnss := rfl
@[simp] theorem modMac_corr (f : Mac → Mac) (s : State) : (modMac f s).corr = s.corr := rfl
@[simp] theorem modMac_bl (f : Mac → Mac) (s : State) : (modMac f s).bl = s.bl := rfl
@[simp] theorem modMac_rh (f : Mac → Mac) (s : State) : (modMac f s).rh = s.rh := rfl
@[simp] theorem modMac_mac (f : Mac → Mac) (s : State) : (modMac f s).mac = s.mac := rfl
@[simp] theorem modMac_ecl (f : Mac → Mac) (s : State) : (modMac f s).ecl = s.ecl := rfl
@[simp] theorem modMac_trown (f : Mac → Mac) (s : State) : (modMac f s).trown = s.trown := rfl
@[simp] theorem modMac_dpown (f : Mac → Mac) (s : State) : (modMac f s).dpown = s.dpown := rfl
@[simp] theorem modMac_pair (f : Mac → Mac) (s : State) : (modMac f s).pair = s.pair := rfl
@[simp] theorem modMac_vault (f : Mac → Mac) (s : State) : (modMac f s).vault = s.vault := rfl
@[simp] theorem modMac_can (f : Mac → Mac) (s : State) : (modMac f s).can = s.can := rfl
@[simp] theorem modMac_comet (f : Mac → Mac) (s : State) : (modMac f s).comet = s.comet := rfl
@[simp] theorem modMac_pwr (f : Mac → Mac) (s : State) : (modMac f s).pwr = s.pwr := rfl
@[simp] theorem modMac_modes (f : Mac → Mac) (s : State) : (modMac f s).modes = s.modes := rfl
@[simp] theorem modMac_pins (f : Mac → Mac) (s : State) : (modMac f s).pins = s.pins := rfl

/-! ### modArb -/

@[simp] theorem modArb_pending (f : Arbiter → Arbiter) (s : State) : (modArb f s).pending = s.pending := rfl
@[simp] theorem modArb_outs (f : Arbiter → Arbiter) (s : State) : (modArb f s).outs = s.outs := rfl
@[simp] theorem modArb_free (f : Arbiter → Arbiter) (s : State) : (modArb f s).free = s.free := rfl
@[simp] theorem modArb_clockStep (f : Arbiter → Arbiter) (s : State) : (modArb f s).clockStep = s.clockStep := rfl
@[simp] theorem modArb_sessions (f : Arbiter → Arbiter) (s : State) : (modArb f s).sessions = s.sessions := rfl
@[simp] theorem modArb_hellos (f : Arbiter → Arbiter) (s : State) : (modArb f s).hellos = s.hellos := rfl
@[simp] theorem modArb_txq (f : Arbiter → Arbiter) (s : State) : (modArb f s).txq = s.txq := rfl
@[simp] theorem modArb_viols (f : Arbiter → Arbiter) (s : State) : (modArb f s).viols = s.viols := rfl
@[simp] theorem modArb_net (f : Arbiter → Arbiter) (s : State) : (modArb f s).net = s.net := rfl
@[simp] theorem modArb_rings (f : Arbiter → Arbiter) (s : State) : (modArb f s).rings = s.rings := rfl
@[simp] theorem modArb_spi (f : Arbiter → Arbiter) (s : State) : (modArb f s).spi = s.spi := rfl
@[simp] theorem modArb_limiters (f : Arbiter → Arbiter) (s : State) : (modArb f s).limiters = s.limiters := rfl
@[simp] theorem modArb_banks (f : Arbiter → Arbiter) (s : State) : (modArb f s).banks = s.banks := rfl
@[simp] theorem modArb_locks (f : Arbiter → Arbiter) (s : State) : (modArb f s).locks = s.locks := rfl
@[simp] theorem modArb_lckForced (f : Arbiter → Arbiter) (s : State) : (modArb f s).lckForced = s.lckForced := rfl
@[simp] theorem modArb_sqs (f : Arbiter → Arbiter) (s : State) : (modArb f s).sqs = s.sqs := rfl
@[simp] theorem modArb_repl (f : Arbiter → Arbiter) (s : State) : (modArb f s).repl = { s.repl with tr := f s.repl.tr } := rfl
@[simp] theorem modArb_tb (f : Arbiter → Arbiter) (s : State) : (modArb f s).tb = s.tb := rfl
@[simp] theorem modArb_gnss (f : Arbiter → Arbiter) (s : State) : (modArb f s).gnss = s.gnss := rfl
@[simp] theorem modArb_corr (f : Arbiter → Arbiter) (s : State) : (modArb f s).corr = s.corr := rfl
@[simp] theorem modArb_bl (f : Arbiter → Arbiter) (s : State) : (modArb f s).bl = s.bl := rfl
@[simp] theorem modArb_rh (f : Arbiter → Arbiter) (s : State) : (modArb f s).rh = s.rh := rfl
@[simp] theorem modArb_mac (f : Arbiter → Arbiter) (s : State) : (modArb f s).mac = s.mac := rfl
@[simp] theorem modArb_ecl (f : Arbiter → Arbiter) (s : State) : (modArb f s).ecl = s.ecl := rfl
@[simp] theorem modArb_trown (f : Arbiter → Arbiter) (s : State) : (modArb f s).trown = s.trown := rfl
@[simp] theorem modArb_dpown (f : Arbiter → Arbiter) (s : State) : (modArb f s).dpown = s.dpown := rfl
@[simp] theorem modArb_pair (f : Arbiter → Arbiter) (s : State) : (modArb f s).pair = s.pair := rfl
@[simp] theorem modArb_vault (f : Arbiter → Arbiter) (s : State) : (modArb f s).vault = s.vault := rfl
@[simp] theorem modArb_can (f : Arbiter → Arbiter) (s : State) : (modArb f s).can = s.can := rfl
@[simp] theorem modArb_comet (f : Arbiter → Arbiter) (s : State) : (modArb f s).comet = s.comet := rfl
@[simp] theorem modArb_pwr (f : Arbiter → Arbiter) (s : State) : (modArb f s).pwr = s.pwr := rfl
@[simp] theorem modArb_modes (f : Arbiter → Arbiter) (s : State) : (modArb f s).modes = s.modes := rfl
@[simp] theorem modArb_pins (f : Arbiter → Arbiter) (s : State) : (modArb f s).pins = s.pins := rfl

/-! ### modDp -/

@[simp] theorem modDp_pending (f : Dispatch → Dispatch) (s : State) : (modDp f s).pending = s.pending := rfl
@[simp] theorem modDp_outs (f : Dispatch → Dispatch) (s : State) : (modDp f s).outs = s.outs := rfl
@[simp] theorem modDp_free (f : Dispatch → Dispatch) (s : State) : (modDp f s).free = s.free := rfl
@[simp] theorem modDp_clockStep (f : Dispatch → Dispatch) (s : State) : (modDp f s).clockStep = s.clockStep := rfl
@[simp] theorem modDp_sessions (f : Dispatch → Dispatch) (s : State) : (modDp f s).sessions = s.sessions := rfl
@[simp] theorem modDp_hellos (f : Dispatch → Dispatch) (s : State) : (modDp f s).hellos = s.hellos := rfl
@[simp] theorem modDp_txq (f : Dispatch → Dispatch) (s : State) : (modDp f s).txq = s.txq := rfl
@[simp] theorem modDp_viols (f : Dispatch → Dispatch) (s : State) : (modDp f s).viols = s.viols := rfl
@[simp] theorem modDp_net (f : Dispatch → Dispatch) (s : State) : (modDp f s).net = s.net := rfl
@[simp] theorem modDp_rings (f : Dispatch → Dispatch) (s : State) : (modDp f s).rings = s.rings := rfl
@[simp] theorem modDp_spi (f : Dispatch → Dispatch) (s : State) : (modDp f s).spi = s.spi := rfl
@[simp] theorem modDp_limiters (f : Dispatch → Dispatch) (s : State) : (modDp f s).limiters = s.limiters := rfl
@[simp] theorem modDp_banks (f : Dispatch → Dispatch) (s : State) : (modDp f s).banks = s.banks := rfl
@[simp] theorem modDp_locks (f : Dispatch → Dispatch) (s : State) : (modDp f s).locks = s.locks := rfl
@[simp] theorem modDp_lckForced (f : Dispatch → Dispatch) (s : State) : (modDp f s).lckForced = s.lckForced := rfl
@[simp] theorem modDp_sqs (f : Dispatch → Dispatch) (s : State) : (modDp f s).sqs = s.sqs := rfl
@[simp] theorem modDp_repl (f : Dispatch → Dispatch) (s : State) : (modDp f s).repl = { s.repl with dp := f s.repl.dp } := rfl
@[simp] theorem modDp_tb (f : Dispatch → Dispatch) (s : State) : (modDp f s).tb = s.tb := rfl
@[simp] theorem modDp_gnss (f : Dispatch → Dispatch) (s : State) : (modDp f s).gnss = s.gnss := rfl
@[simp] theorem modDp_corr (f : Dispatch → Dispatch) (s : State) : (modDp f s).corr = s.corr := rfl
@[simp] theorem modDp_bl (f : Dispatch → Dispatch) (s : State) : (modDp f s).bl = s.bl := rfl
@[simp] theorem modDp_rh (f : Dispatch → Dispatch) (s : State) : (modDp f s).rh = s.rh := rfl
@[simp] theorem modDp_mac (f : Dispatch → Dispatch) (s : State) : (modDp f s).mac = s.mac := rfl
@[simp] theorem modDp_ecl (f : Dispatch → Dispatch) (s : State) : (modDp f s).ecl = s.ecl := rfl
@[simp] theorem modDp_trown (f : Dispatch → Dispatch) (s : State) : (modDp f s).trown = s.trown := rfl
@[simp] theorem modDp_dpown (f : Dispatch → Dispatch) (s : State) : (modDp f s).dpown = s.dpown := rfl
@[simp] theorem modDp_pair (f : Dispatch → Dispatch) (s : State) : (modDp f s).pair = s.pair := rfl
@[simp] theorem modDp_vault (f : Dispatch → Dispatch) (s : State) : (modDp f s).vault = s.vault := rfl
@[simp] theorem modDp_can (f : Dispatch → Dispatch) (s : State) : (modDp f s).can = s.can := rfl
@[simp] theorem modDp_comet (f : Dispatch → Dispatch) (s : State) : (modDp f s).comet = s.comet := rfl
@[simp] theorem modDp_pwr (f : Dispatch → Dispatch) (s : State) : (modDp f s).pwr = s.pwr := rfl
@[simp] theorem modDp_modes (f : Dispatch → Dispatch) (s : State) : (modDp f s).modes = s.modes := rfl
@[simp] theorem modDp_pins (f : Dispatch → Dispatch) (s : State) : (modDp f s).pins = s.pins := rfl

/-! ### modEcl -/

@[simp] theorem modEcl_pending (f : EclCore → EclCore) (s : State) : (modEcl f s).pending = s.pending := rfl
@[simp] theorem modEcl_outs (f : EclCore → EclCore) (s : State) : (modEcl f s).outs = s.outs := rfl
@[simp] theorem modEcl_free (f : EclCore → EclCore) (s : State) : (modEcl f s).free = s.free := rfl
@[simp] theorem modEcl_clockStep (f : EclCore → EclCore) (s : State) : (modEcl f s).clockStep = s.clockStep := rfl
@[simp] theorem modEcl_sessions (f : EclCore → EclCore) (s : State) : (modEcl f s).sessions = s.sessions := rfl
@[simp] theorem modEcl_hellos (f : EclCore → EclCore) (s : State) : (modEcl f s).hellos = s.hellos := rfl
@[simp] theorem modEcl_txq (f : EclCore → EclCore) (s : State) : (modEcl f s).txq = s.txq := rfl
@[simp] theorem modEcl_viols (f : EclCore → EclCore) (s : State) : (modEcl f s).viols = s.viols := rfl
@[simp] theorem modEcl_net (f : EclCore → EclCore) (s : State) : (modEcl f s).net = s.net := rfl
@[simp] theorem modEcl_rings (f : EclCore → EclCore) (s : State) : (modEcl f s).rings = s.rings := rfl
@[simp] theorem modEcl_spi (f : EclCore → EclCore) (s : State) : (modEcl f s).spi = s.spi := rfl
@[simp] theorem modEcl_limiters (f : EclCore → EclCore) (s : State) : (modEcl f s).limiters = s.limiters := rfl
@[simp] theorem modEcl_banks (f : EclCore → EclCore) (s : State) : (modEcl f s).banks = s.banks := rfl
@[simp] theorem modEcl_locks (f : EclCore → EclCore) (s : State) : (modEcl f s).locks = s.locks := rfl
@[simp] theorem modEcl_lckForced (f : EclCore → EclCore) (s : State) : (modEcl f s).lckForced = s.lckForced := rfl
@[simp] theorem modEcl_sqs (f : EclCore → EclCore) (s : State) : (modEcl f s).sqs = s.sqs := rfl
@[simp] theorem modEcl_repl (f : EclCore → EclCore) (s : State) : (modEcl f s).repl = { s.repl with ecl := f s.repl.ecl } := rfl
@[simp] theorem modEcl_tb (f : EclCore → EclCore) (s : State) : (modEcl f s).tb = s.tb := rfl
@[simp] theorem modEcl_gnss (f : EclCore → EclCore) (s : State) : (modEcl f s).gnss = s.gnss := rfl
@[simp] theorem modEcl_corr (f : EclCore → EclCore) (s : State) : (modEcl f s).corr = s.corr := rfl
@[simp] theorem modEcl_bl (f : EclCore → EclCore) (s : State) : (modEcl f s).bl = s.bl := rfl
@[simp] theorem modEcl_rh (f : EclCore → EclCore) (s : State) : (modEcl f s).rh = s.rh := rfl
@[simp] theorem modEcl_mac (f : EclCore → EclCore) (s : State) : (modEcl f s).mac = s.mac := rfl
@[simp] theorem modEcl_ecl (f : EclCore → EclCore) (s : State) : (modEcl f s).ecl = s.ecl := rfl
@[simp] theorem modEcl_trown (f : EclCore → EclCore) (s : State) : (modEcl f s).trown = s.trown := rfl
@[simp] theorem modEcl_dpown (f : EclCore → EclCore) (s : State) : (modEcl f s).dpown = s.dpown := rfl
@[simp] theorem modEcl_pair (f : EclCore → EclCore) (s : State) : (modEcl f s).pair = s.pair := rfl
@[simp] theorem modEcl_vault (f : EclCore → EclCore) (s : State) : (modEcl f s).vault = s.vault := rfl
@[simp] theorem modEcl_can (f : EclCore → EclCore) (s : State) : (modEcl f s).can = s.can := rfl
@[simp] theorem modEcl_comet (f : EclCore → EclCore) (s : State) : (modEcl f s).comet = s.comet := rfl
@[simp] theorem modEcl_pwr (f : EclCore → EclCore) (s : State) : (modEcl f s).pwr = s.pwr := rfl
@[simp] theorem modEcl_modes (f : EclCore → EclCore) (s : State) : (modEcl f s).modes = s.modes := rfl
@[simp] theorem modEcl_pins (f : EclCore → EclCore) (s : State) : (modEcl f s).pins = s.pins := rfl

/-! ### modStation -/

@[simp] theorem modStation_pending (f : CorrSet6 → CorrSet6) (s : State) : (modStation f s).pending = s.pending := rfl
@[simp] theorem modStation_outs (f : CorrSet6 → CorrSet6) (s : State) : (modStation f s).outs = s.outs := rfl
@[simp] theorem modStation_free (f : CorrSet6 → CorrSet6) (s : State) : (modStation f s).free = s.free := rfl
@[simp] theorem modStation_clockStep (f : CorrSet6 → CorrSet6) (s : State) : (modStation f s).clockStep = s.clockStep := rfl
@[simp] theorem modStation_sessions (f : CorrSet6 → CorrSet6) (s : State) : (modStation f s).sessions = s.sessions := rfl
@[simp] theorem modStation_hellos (f : CorrSet6 → CorrSet6) (s : State) : (modStation f s).hellos = s.hellos := rfl
@[simp] theorem modStation_txq (f : CorrSet6 → CorrSet6) (s : State) : (modStation f s).txq = s.txq := rfl
@[simp] theorem modStation_viols (f : CorrSet6 → CorrSet6) (s : State) : (modStation f s).viols = s.viols := rfl
@[simp] theorem modStation_net (f : CorrSet6 → CorrSet6) (s : State) : (modStation f s).net = s.net := rfl
@[simp] theorem modStation_rings (f : CorrSet6 → CorrSet6) (s : State) : (modStation f s).rings = s.rings := rfl
@[simp] theorem modStation_spi (f : CorrSet6 → CorrSet6) (s : State) : (modStation f s).spi = s.spi := rfl
@[simp] theorem modStation_limiters (f : CorrSet6 → CorrSet6) (s : State) : (modStation f s).limiters = s.limiters := rfl
@[simp] theorem modStation_banks (f : CorrSet6 → CorrSet6) (s : State) : (modStation f s).banks = s.banks := rfl
@[simp] theorem modStation_locks (f : CorrSet6 → CorrSet6) (s : State) : (modStation f s).locks = s.locks := rfl
@[simp] theorem modStation_lckForced (f : CorrSet6 → CorrSet6) (s : State) : (modStation f s).lckForced = s.lckForced := rfl
@[simp] theorem modStation_sqs (f : CorrSet6 → CorrSet6) (s : State) : (modStation f s).sqs = s.sqs := rfl
@[simp] theorem modStation_repl (f : CorrSet6 → CorrSet6) (s : State) : (modStation f s).repl = { s.repl with corr := f s.repl.corr } := rfl
@[simp] theorem modStation_tb (f : CorrSet6 → CorrSet6) (s : State) : (modStation f s).tb = s.tb := rfl
@[simp] theorem modStation_gnss (f : CorrSet6 → CorrSet6) (s : State) : (modStation f s).gnss = s.gnss := rfl
@[simp] theorem modStation_corr (f : CorrSet6 → CorrSet6) (s : State) : (modStation f s).corr = s.corr := rfl
@[simp] theorem modStation_bl (f : CorrSet6 → CorrSet6) (s : State) : (modStation f s).bl = s.bl := rfl
@[simp] theorem modStation_rh (f : CorrSet6 → CorrSet6) (s : State) : (modStation f s).rh = s.rh := rfl
@[simp] theorem modStation_mac (f : CorrSet6 → CorrSet6) (s : State) : (modStation f s).mac = s.mac := rfl
@[simp] theorem modStation_ecl (f : CorrSet6 → CorrSet6) (s : State) : (modStation f s).ecl = s.ecl := rfl
@[simp] theorem modStation_trown (f : CorrSet6 → CorrSet6) (s : State) : (modStation f s).trown = s.trown := rfl
@[simp] theorem modStation_dpown (f : CorrSet6 → CorrSet6) (s : State) : (modStation f s).dpown = s.dpown := rfl
@[simp] theorem modStation_pair (f : CorrSet6 → CorrSet6) (s : State) : (modStation f s).pair = s.pair := rfl
@[simp] theorem modStation_vault (f : CorrSet6 → CorrSet6) (s : State) : (modStation f s).vault = s.vault := rfl
@[simp] theorem modStation_can (f : CorrSet6 → CorrSet6) (s : State) : (modStation f s).can = s.can := rfl
@[simp] theorem modStation_comet (f : CorrSet6 → CorrSet6) (s : State) : (modStation f s).comet = s.comet := rfl
@[simp] theorem modStation_pwr (f : CorrSet6 → CorrSet6) (s : State) : (modStation f s).pwr = s.pwr := rfl
@[simp] theorem modStation_modes (f : CorrSet6 → CorrSet6) (s : State) : (modStation f s).modes = s.modes := rfl
@[simp] theorem modStation_pins (f : CorrSet6 → CorrSet6) (s : State) : (modStation f s).pins = s.pins := rfl

/-! ### modBerth -/

@[simp] theorem modBerth_pending (b : Nat) (f : Berth → Berth) (s : State) : (modBerth b f s).pending = s.pending := rfl
@[simp] theorem modBerth_outs (b : Nat) (f : Berth → Berth) (s : State) : (modBerth b f s).outs = s.outs := rfl
@[simp] theorem modBerth_free (b : Nat) (f : Berth → Berth) (s : State) : (modBerth b f s).free = s.free := rfl
@[simp] theorem modBerth_clockStep (b : Nat) (f : Berth → Berth) (s : State) : (modBerth b f s).clockStep = s.clockStep := rfl
@[simp] theorem modBerth_sessions (b : Nat) (f : Berth → Berth) (s : State) : (modBerth b f s).sessions = s.sessions := rfl
@[simp] theorem modBerth_hellos (b : Nat) (f : Berth → Berth) (s : State) : (modBerth b f s).hellos = s.hellos := rfl
@[simp] theorem modBerth_txq (b : Nat) (f : Berth → Berth) (s : State) : (modBerth b f s).txq = s.txq := rfl
@[simp] theorem modBerth_viols (b : Nat) (f : Berth → Berth) (s : State) : (modBerth b f s).viols = s.viols := rfl
@[simp] theorem modBerth_net (b : Nat) (f : Berth → Berth) (s : State) : (modBerth b f s).net = s.net := rfl
@[simp] theorem modBerth_rings (b : Nat) (f : Berth → Berth) (s : State) : (modBerth b f s).rings = s.rings := rfl
@[simp] theorem modBerth_spi (b : Nat) (f : Berth → Berth) (s : State) : (modBerth b f s).spi = s.spi := rfl
@[simp] theorem modBerth_limiters (b : Nat) (f : Berth → Berth) (s : State) : (modBerth b f s).limiters = s.limiters := rfl
@[simp] theorem modBerth_banks (b : Nat) (f : Berth → Berth) (s : State) : (modBerth b f s).banks = s.banks := rfl
@[simp] theorem modBerth_locks (b : Nat) (f : Berth → Berth) (s : State) : (modBerth b f s).locks = s.locks := rfl
@[simp] theorem modBerth_lckForced (b : Nat) (f : Berth → Berth) (s : State) : (modBerth b f s).lckForced = s.lckForced := rfl
@[simp] theorem modBerth_sqs (b : Nat) (f : Berth → Berth) (s : State) : (modBerth b f s).sqs = s.sqs := rfl
@[simp] theorem modBerth_tb (b : Nat) (f : Berth → Berth) (s : State) : (modBerth b f s).tb = s.tb := rfl
@[simp] theorem modBerth_gnss (b : Nat) (f : Berth → Berth) (s : State) : (modBerth b f s).gnss = s.gnss := rfl
@[simp] theorem modBerth_corr (b : Nat) (f : Berth → Berth) (s : State) : (modBerth b f s).corr = s.corr := rfl
@[simp] theorem modBerth_bl (b : Nat) (f : Berth → Berth) (s : State) : (modBerth b f s).bl = s.bl := rfl
@[simp] theorem modBerth_rh (b : Nat) (f : Berth → Berth) (s : State) : (modBerth b f s).rh = s.rh := rfl
@[simp] theorem modBerth_mac (b : Nat) (f : Berth → Berth) (s : State) : (modBerth b f s).mac = s.mac := rfl
@[simp] theorem modBerth_ecl (b : Nat) (f : Berth → Berth) (s : State) : (modBerth b f s).ecl = s.ecl := rfl
@[simp] theorem modBerth_trown (b : Nat) (f : Berth → Berth) (s : State) : (modBerth b f s).trown = s.trown := rfl
@[simp] theorem modBerth_dpown (b : Nat) (f : Berth → Berth) (s : State) : (modBerth b f s).dpown = s.dpown := rfl
@[simp] theorem modBerth_pair (b : Nat) (f : Berth → Berth) (s : State) : (modBerth b f s).pair = s.pair := rfl
@[simp] theorem modBerth_vault (b : Nat) (f : Berth → Berth) (s : State) : (modBerth b f s).vault = s.vault := rfl
@[simp] theorem modBerth_can (b : Nat) (f : Berth → Berth) (s : State) : (modBerth b f s).can = s.can := rfl
@[simp] theorem modBerth_comet (b : Nat) (f : Berth → Berth) (s : State) : (modBerth b f s).comet = s.comet := rfl
@[simp] theorem modBerth_pwr (b : Nat) (f : Berth → Berth) (s : State) : (modBerth b f s).pwr = s.pwr := rfl
@[simp] theorem modBerth_modes (b : Nat) (f : Berth → Berth) (s : State) : (modBerth b f s).modes = s.modes := rfl
@[simp] theorem modBerth_pins (b : Nat) (f : Berth → Berth) (s : State) : (modBerth b f s).pins = s.pins := rfl

/-! ### modConform -/

@[simp] theorem modConform_pending (b : Nat) (f : Conform → Conform) (s : State) : (modConform b f s).pending = s.pending := rfl
@[simp] theorem modConform_outs (b : Nat) (f : Conform → Conform) (s : State) : (modConform b f s).outs = s.outs := rfl
@[simp] theorem modConform_free (b : Nat) (f : Conform → Conform) (s : State) : (modConform b f s).free = s.free := rfl
@[simp] theorem modConform_clockStep (b : Nat) (f : Conform → Conform) (s : State) : (modConform b f s).clockStep = s.clockStep := rfl
@[simp] theorem modConform_sessions (b : Nat) (f : Conform → Conform) (s : State) : (modConform b f s).sessions = s.sessions := rfl
@[simp] theorem modConform_hellos (b : Nat) (f : Conform → Conform) (s : State) : (modConform b f s).hellos = s.hellos := rfl
@[simp] theorem modConform_txq (b : Nat) (f : Conform → Conform) (s : State) : (modConform b f s).txq = s.txq := rfl
@[simp] theorem modConform_viols (b : Nat) (f : Conform → Conform) (s : State) : (modConform b f s).viols = s.viols := rfl
@[simp] theorem modConform_net (b : Nat) (f : Conform → Conform) (s : State) : (modConform b f s).net = s.net := rfl
@[simp] theorem modConform_rings (b : Nat) (f : Conform → Conform) (s : State) : (modConform b f s).rings = s.rings := rfl
@[simp] theorem modConform_spi (b : Nat) (f : Conform → Conform) (s : State) : (modConform b f s).spi = s.spi := rfl
@[simp] theorem modConform_limiters (b : Nat) (f : Conform → Conform) (s : State) : (modConform b f s).limiters = s.limiters := rfl
@[simp] theorem modConform_banks (b : Nat) (f : Conform → Conform) (s : State) : (modConform b f s).banks = s.banks := rfl
@[simp] theorem modConform_locks (b : Nat) (f : Conform → Conform) (s : State) : (modConform b f s).locks = s.locks := rfl
@[simp] theorem modConform_lckForced (b : Nat) (f : Conform → Conform) (s : State) : (modConform b f s).lckForced = s.lckForced := rfl
@[simp] theorem modConform_sqs (b : Nat) (f : Conform → Conform) (s : State) : (modConform b f s).sqs = s.sqs := rfl
@[simp] theorem modConform_repl (b : Nat) (f : Conform → Conform) (s : State) : (modConform b f s).repl = s.repl := rfl
@[simp] theorem modConform_tb (b : Nat) (f : Conform → Conform) (s : State) : (modConform b f s).tb = s.tb := rfl
@[simp] theorem modConform_gnss (b : Nat) (f : Conform → Conform) (s : State) : (modConform b f s).gnss = s.gnss := rfl
@[simp] theorem modConform_corr (b : Nat) (f : Conform → Conform) (s : State) : (modConform b f s).corr = s.corr := rfl
@[simp] theorem modConform_bl (b : Nat) (f : Conform → Conform) (s : State) : (modConform b f s).bl = s.bl := rfl
@[simp] theorem modConform_rh (b : Nat) (f : Conform → Conform) (s : State) : (modConform b f s).rh = s.rh := rfl
@[simp] theorem modConform_mac (b : Nat) (f : Conform → Conform) (s : State) : (modConform b f s).mac = s.mac := rfl
@[simp] theorem modConform_ecl (b : Nat) (f : Conform → Conform) (s : State) : (modConform b f s).ecl = s.ecl := rfl
@[simp] theorem modConform_dpown (b : Nat) (f : Conform → Conform) (s : State) : (modConform b f s).dpown = s.dpown := rfl
@[simp] theorem modConform_pair (b : Nat) (f : Conform → Conform) (s : State) : (modConform b f s).pair = s.pair := rfl
@[simp] theorem modConform_vault (b : Nat) (f : Conform → Conform) (s : State) : (modConform b f s).vault = s.vault := rfl
@[simp] theorem modConform_can (b : Nat) (f : Conform → Conform) (s : State) : (modConform b f s).can = s.can := rfl
@[simp] theorem modConform_comet (b : Nat) (f : Conform → Conform) (s : State) : (modConform b f s).comet = s.comet := rfl
@[simp] theorem modConform_pwr (b : Nat) (f : Conform → Conform) (s : State) : (modConform b f s).pwr = s.pwr := rfl
@[simp] theorem modConform_modes (b : Nat) (f : Conform → Conform) (s : State) : (modConform b f s).modes = s.modes := rfl
@[simp] theorem modConform_pins (b : Nat) (f : Conform → Conform) (s : State) : (modConform b f s).pins = s.pins := rfl

/-! ### modDpCount -/

@[simp] theorem modDpCount_pending (b : Nat) (f : DpCount → DpCount) (s : State) : (modDpCount b f s).pending = s.pending := rfl
@[simp] theorem modDpCount_outs (b : Nat) (f : DpCount → DpCount) (s : State) : (modDpCount b f s).outs = s.outs := rfl
@[simp] theorem modDpCount_free (b : Nat) (f : DpCount → DpCount) (s : State) : (modDpCount b f s).free = s.free := rfl
@[simp] theorem modDpCount_clockStep (b : Nat) (f : DpCount → DpCount) (s : State) : (modDpCount b f s).clockStep = s.clockStep := rfl
@[simp] theorem modDpCount_sessions (b : Nat) (f : DpCount → DpCount) (s : State) : (modDpCount b f s).sessions = s.sessions := rfl
@[simp] theorem modDpCount_hellos (b : Nat) (f : DpCount → DpCount) (s : State) : (modDpCount b f s).hellos = s.hellos := rfl
@[simp] theorem modDpCount_txq (b : Nat) (f : DpCount → DpCount) (s : State) : (modDpCount b f s).txq = s.txq := rfl
@[simp] theorem modDpCount_viols (b : Nat) (f : DpCount → DpCount) (s : State) : (modDpCount b f s).viols = s.viols := rfl
@[simp] theorem modDpCount_net (b : Nat) (f : DpCount → DpCount) (s : State) : (modDpCount b f s).net = s.net := rfl
@[simp] theorem modDpCount_rings (b : Nat) (f : DpCount → DpCount) (s : State) : (modDpCount b f s).rings = s.rings := rfl
@[simp] theorem modDpCount_spi (b : Nat) (f : DpCount → DpCount) (s : State) : (modDpCount b f s).spi = s.spi := rfl
@[simp] theorem modDpCount_limiters (b : Nat) (f : DpCount → DpCount) (s : State) : (modDpCount b f s).limiters = s.limiters := rfl
@[simp] theorem modDpCount_banks (b : Nat) (f : DpCount → DpCount) (s : State) : (modDpCount b f s).banks = s.banks := rfl
@[simp] theorem modDpCount_locks (b : Nat) (f : DpCount → DpCount) (s : State) : (modDpCount b f s).locks = s.locks := rfl
@[simp] theorem modDpCount_lckForced (b : Nat) (f : DpCount → DpCount) (s : State) : (modDpCount b f s).lckForced = s.lckForced := rfl
@[simp] theorem modDpCount_sqs (b : Nat) (f : DpCount → DpCount) (s : State) : (modDpCount b f s).sqs = s.sqs := rfl
@[simp] theorem modDpCount_repl (b : Nat) (f : DpCount → DpCount) (s : State) : (modDpCount b f s).repl = s.repl := rfl
@[simp] theorem modDpCount_tb (b : Nat) (f : DpCount → DpCount) (s : State) : (modDpCount b f s).tb = s.tb := rfl
@[simp] theorem modDpCount_gnss (b : Nat) (f : DpCount → DpCount) (s : State) : (modDpCount b f s).gnss = s.gnss := rfl
@[simp] theorem modDpCount_corr (b : Nat) (f : DpCount → DpCount) (s : State) : (modDpCount b f s).corr = s.corr := rfl
@[simp] theorem modDpCount_bl (b : Nat) (f : DpCount → DpCount) (s : State) : (modDpCount b f s).bl = s.bl := rfl
@[simp] theorem modDpCount_rh (b : Nat) (f : DpCount → DpCount) (s : State) : (modDpCount b f s).rh = s.rh := rfl
@[simp] theorem modDpCount_mac (b : Nat) (f : DpCount → DpCount) (s : State) : (modDpCount b f s).mac = s.mac := rfl
@[simp] theorem modDpCount_ecl (b : Nat) (f : DpCount → DpCount) (s : State) : (modDpCount b f s).ecl = s.ecl := rfl
@[simp] theorem modDpCount_trown (b : Nat) (f : DpCount → DpCount) (s : State) : (modDpCount b f s).trown = s.trown := rfl
@[simp] theorem modDpCount_pair (b : Nat) (f : DpCount → DpCount) (s : State) : (modDpCount b f s).pair = s.pair := rfl
@[simp] theorem modDpCount_vault (b : Nat) (f : DpCount → DpCount) (s : State) : (modDpCount b f s).vault = s.vault := rfl
@[simp] theorem modDpCount_can (b : Nat) (f : DpCount → DpCount) (s : State) : (modDpCount b f s).can = s.can := rfl
@[simp] theorem modDpCount_comet (b : Nat) (f : DpCount → DpCount) (s : State) : (modDpCount b f s).comet = s.comet := rfl
@[simp] theorem modDpCount_pwr (b : Nat) (f : DpCount → DpCount) (s : State) : (modDpCount b f s).pwr = s.pwr := rfl
@[simp] theorem modDpCount_modes (b : Nat) (f : DpCount → DpCount) (s : State) : (modDpCount b f s).modes = s.modes := rfl
@[simp] theorem modDpCount_pins (b : Nat) (f : DpCount → DpCount) (s : State) : (modDpCount b f s).pins = s.pins := rfl

/-! ### modLocal -/

@[simp] theorem modLocal_pending (h : Nat) (f : MacLocal → MacLocal) (s : State) : (modLocal h f s).pending = s.pending := rfl
@[simp] theorem modLocal_outs (h : Nat) (f : MacLocal → MacLocal) (s : State) : (modLocal h f s).outs = s.outs := rfl
@[simp] theorem modLocal_free (h : Nat) (f : MacLocal → MacLocal) (s : State) : (modLocal h f s).free = s.free := rfl
@[simp] theorem modLocal_clockStep (h : Nat) (f : MacLocal → MacLocal) (s : State) : (modLocal h f s).clockStep = s.clockStep := rfl
@[simp] theorem modLocal_sessions (h : Nat) (f : MacLocal → MacLocal) (s : State) : (modLocal h f s).sessions = s.sessions := rfl
@[simp] theorem modLocal_hellos (h : Nat) (f : MacLocal → MacLocal) (s : State) : (modLocal h f s).hellos = s.hellos := rfl
@[simp] theorem modLocal_txq (h : Nat) (f : MacLocal → MacLocal) (s : State) : (modLocal h f s).txq = s.txq := rfl
@[simp] theorem modLocal_viols (h : Nat) (f : MacLocal → MacLocal) (s : State) : (modLocal h f s).viols = s.viols := rfl
@[simp] theorem modLocal_net (h : Nat) (f : MacLocal → MacLocal) (s : State) : (modLocal h f s).net = s.net := rfl
@[simp] theorem modLocal_rings (h : Nat) (f : MacLocal → MacLocal) (s : State) : (modLocal h f s).rings = s.rings := rfl
@[simp] theorem modLocal_spi (h : Nat) (f : MacLocal → MacLocal) (s : State) : (modLocal h f s).spi = s.spi := rfl
@[simp] theorem modLocal_limiters (h : Nat) (f : MacLocal → MacLocal) (s : State) : (modLocal h f s).limiters = s.limiters := rfl
@[simp] theorem modLocal_banks (h : Nat) (f : MacLocal → MacLocal) (s : State) : (modLocal h f s).banks = s.banks := rfl
@[simp] theorem modLocal_locks (h : Nat) (f : MacLocal → MacLocal) (s : State) : (modLocal h f s).locks = s.locks := rfl
@[simp] theorem modLocal_lckForced (h : Nat) (f : MacLocal → MacLocal) (s : State) : (modLocal h f s).lckForced = s.lckForced := rfl
@[simp] theorem modLocal_sqs (h : Nat) (f : MacLocal → MacLocal) (s : State) : (modLocal h f s).sqs = s.sqs := rfl
@[simp] theorem modLocal_repl (h : Nat) (f : MacLocal → MacLocal) (s : State) : (modLocal h f s).repl = s.repl := rfl
@[simp] theorem modLocal_tb (h : Nat) (f : MacLocal → MacLocal) (s : State) : (modLocal h f s).tb = s.tb := rfl
@[simp] theorem modLocal_gnss (h : Nat) (f : MacLocal → MacLocal) (s : State) : (modLocal h f s).gnss = s.gnss := rfl
@[simp] theorem modLocal_corr (h : Nat) (f : MacLocal → MacLocal) (s : State) : (modLocal h f s).corr = s.corr := rfl
@[simp] theorem modLocal_bl (h : Nat) (f : MacLocal → MacLocal) (s : State) : (modLocal h f s).bl = s.bl := rfl
@[simp] theorem modLocal_rh (h : Nat) (f : MacLocal → MacLocal) (s : State) : (modLocal h f s).rh = s.rh := rfl
@[simp] theorem modLocal_mac (h : Nat) (f : MacLocal → MacLocal) (s : State) : (modLocal h f s).mac = { s.mac with heads := modNth s.mac.heads h f } := rfl
@[simp] theorem modLocal_ecl (h : Nat) (f : MacLocal → MacLocal) (s : State) : (modLocal h f s).ecl = s.ecl := rfl
@[simp] theorem modLocal_trown (h : Nat) (f : MacLocal → MacLocal) (s : State) : (modLocal h f s).trown = s.trown := rfl
@[simp] theorem modLocal_dpown (h : Nat) (f : MacLocal → MacLocal) (s : State) : (modLocal h f s).dpown = s.dpown := rfl
@[simp] theorem modLocal_pair (h : Nat) (f : MacLocal → MacLocal) (s : State) : (modLocal h f s).pair = s.pair := rfl
@[simp] theorem modLocal_vault (h : Nat) (f : MacLocal → MacLocal) (s : State) : (modLocal h f s).vault = s.vault := rfl
@[simp] theorem modLocal_can (h : Nat) (f : MacLocal → MacLocal) (s : State) : (modLocal h f s).can = s.can := rfl
@[simp] theorem modLocal_comet (h : Nat) (f : MacLocal → MacLocal) (s : State) : (modLocal h f s).comet = s.comet := rfl
@[simp] theorem modLocal_pwr (h : Nat) (f : MacLocal → MacLocal) (s : State) : (modLocal h f s).pwr = s.pwr := rfl
@[simp] theorem modLocal_modes (h : Nat) (f : MacLocal → MacLocal) (s : State) : (modLocal h f s).modes = s.modes := rfl
@[simp] theorem modLocal_pins (h : Nat) (f : MacLocal → MacLocal) (s : State) : (modLocal h f s).pins = s.pins := rfl

/-! ### hold -/

@[simp] theorem hold_pending (src : Nat) (d : Decision) (s : State) : (hold src d s).pending = s.pending := rfl
@[simp] theorem hold_outs (src : Nat) (d : Decision) (s : State) : (hold src d s).outs = s.outs := rfl
@[simp] theorem hold_free (src : Nat) (d : Decision) (s : State) : (hold src d s).free = s.free := rfl
@[simp] theorem hold_clockStep (src : Nat) (d : Decision) (s : State) : (hold src d s).clockStep = s.clockStep := rfl
@[simp] theorem hold_sessions (src : Nat) (d : Decision) (s : State) : (hold src d s).sessions = s.sessions := rfl
@[simp] theorem hold_hellos (src : Nat) (d : Decision) (s : State) : (hold src d s).hellos = s.hellos := rfl
@[simp] theorem hold_txq (src : Nat) (d : Decision) (s : State) : (hold src d s).txq = s.txq := rfl
@[simp] theorem hold_viols (src : Nat) (d : Decision) (s : State) : (hold src d s).viols = s.viols := rfl
@[simp] theorem hold_net (src : Nat) (d : Decision) (s : State) : (hold src d s).net = s.net := rfl
@[simp] theorem hold_rings (src : Nat) (d : Decision) (s : State) : (hold src d s).rings = s.rings := rfl
@[simp] theorem hold_spi (src : Nat) (d : Decision) (s : State) : (hold src d s).spi = s.spi := rfl
@[simp] theorem hold_limiters (src : Nat) (d : Decision) (s : State) : (hold src d s).limiters = s.limiters := rfl
@[simp] theorem hold_banks (src : Nat) (d : Decision) (s : State) : (hold src d s).banks = s.banks := rfl
@[simp] theorem hold_locks (src : Nat) (d : Decision) (s : State) : (hold src d s).locks = s.locks := rfl
@[simp] theorem hold_lckForced (src : Nat) (d : Decision) (s : State) : (hold src d s).lckForced = s.lckForced := rfl
@[simp] theorem hold_sqs (src : Nat) (d : Decision) (s : State) : (hold src d s).sqs = s.sqs := rfl
@[simp] theorem hold_repl (src : Nat) (d : Decision) (s : State) : (hold src d s).repl = s.repl := rfl
@[simp] theorem hold_tb (src : Nat) (d : Decision) (s : State) : (hold src d s).tb = s.tb := rfl
@[simp] theorem hold_gnss (src : Nat) (d : Decision) (s : State) : (hold src d s).gnss = s.gnss := rfl
@[simp] theorem hold_corr (src : Nat) (d : Decision) (s : State) : (hold src d s).corr = s.corr := rfl
@[simp] theorem hold_bl (src : Nat) (d : Decision) (s : State) : (hold src d s).bl = s.bl := rfl
@[simp] theorem hold_rh (src : Nat) (d : Decision) (s : State) : (hold src d s).rh = s.rh := rfl
@[simp] theorem hold_mac (src : Nat) (d : Decision) (s : State) : (hold src d s).mac = s.mac := rfl
@[simp] theorem hold_ecl (src : Nat) (d : Decision) (s : State) : (hold src d s).ecl = s.ecl := rfl
@[simp] theorem hold_trown (src : Nat) (d : Decision) (s : State) : (hold src d s).trown = s.trown := rfl
@[simp] theorem hold_dpown (src : Nat) (d : Decision) (s : State) : (hold src d s).dpown = s.dpown := rfl
@[simp] theorem hold_pair (src : Nat) (d : Decision) (s : State) : (hold src d s).pair = { s.pair with decisions := s.pair.decisions ++ [⟨s.tb.gtc, src, d⟩] } := rfl
@[simp] theorem hold_vault (src : Nat) (d : Decision) (s : State) : (hold src d s).vault = s.vault := rfl
@[simp] theorem hold_can (src : Nat) (d : Decision) (s : State) : (hold src d s).can = s.can := rfl
@[simp] theorem hold_comet (src : Nat) (d : Decision) (s : State) : (hold src d s).comet = s.comet := rfl
@[simp] theorem hold_pwr (src : Nat) (d : Decision) (s : State) : (hold src d s).pwr = s.pwr := rfl
@[simp] theorem hold_modes (src : Nat) (d : Decision) (s : State) : (hold src d s).modes = s.modes := rfl
@[simp] theorem hold_pins (src : Nat) (d : Decision) (s : State) : (hold src d s).pins = s.pins := rfl

/-! ### askReset -/

@[simp] theorem askReset_pending (cls cause target master : Nat) (s : State) : (askReset cls cause target master s).pending = s.pending := rfl
@[simp] theorem askReset_outs (cls cause target master : Nat) (s : State) : (askReset cls cause target master s).outs = s.outs := rfl
@[simp] theorem askReset_free (cls cause target master : Nat) (s : State) : (askReset cls cause target master s).free = s.free := rfl
@[simp] theorem askReset_clockStep (cls cause target master : Nat) (s : State) : (askReset cls cause target master s).clockStep = s.clockStep := rfl
@[simp] theorem askReset_sessions (cls cause target master : Nat) (s : State) : (askReset cls cause target master s).sessions = s.sessions := rfl
@[simp] theorem askReset_hellos (cls cause target master : Nat) (s : State) : (askReset cls cause target master s).hellos = s.hellos := rfl
@[simp] theorem askReset_txq (cls cause target master : Nat) (s : State) : (askReset cls cause target master s).txq = s.txq := rfl
@[simp] theorem askReset_viols (cls cause target master : Nat) (s : State) : (askReset cls cause target master s).viols = s.viols := rfl
@[simp] theorem askReset_net (cls cause target master : Nat) (s : State) : (askReset cls cause target master s).net = s.net := rfl
@[simp] theorem askReset_rings (cls cause target master : Nat) (s : State) : (askReset cls cause target master s).rings = s.rings := rfl
@[simp] theorem askReset_spi (cls cause target master : Nat) (s : State) : (askReset cls cause target master s).spi = s.spi := rfl
@[simp] theorem askReset_limiters (cls cause target master : Nat) (s : State) : (askReset cls cause target master s).limiters = s.limiters := rfl
@[simp] theorem askReset_banks (cls cause target master : Nat) (s : State) : (askReset cls cause target master s).banks = s.banks := rfl
@[simp] theorem askReset_locks (cls cause target master : Nat) (s : State) : (askReset cls cause target master s).locks = s.locks := rfl
@[simp] theorem askReset_lckForced (cls cause target master : Nat) (s : State) : (askReset cls cause target master s).lckForced = s.lckForced := rfl
@[simp] theorem askReset_sqs (cls cause target master : Nat) (s : State) : (askReset cls cause target master s).sqs = s.sqs := rfl
@[simp] theorem askReset_repl (cls cause target master : Nat) (s : State) : (askReset cls cause target master s).repl = s.repl := rfl
@[simp] theorem askReset_tb (cls cause target master : Nat) (s : State) : (askReset cls cause target master s).tb = s.tb := rfl
@[simp] theorem askReset_gnss (cls cause target master : Nat) (s : State) : (askReset cls cause target master s).gnss = s.gnss := rfl
@[simp] theorem askReset_corr (cls cause target master : Nat) (s : State) : (askReset cls cause target master s).corr = s.corr := rfl
@[simp] theorem askReset_bl (cls cause target master : Nat) (s : State) : (askReset cls cause target master s).bl = s.bl := rfl
@[simp] theorem askReset_rh (cls cause target master : Nat) (s : State) : (askReset cls cause target master s).rh = s.rh := rfl
@[simp] theorem askReset_mac (cls cause target master : Nat) (s : State) : (askReset cls cause target master s).mac = s.mac := rfl
@[simp] theorem askReset_ecl (cls cause target master : Nat) (s : State) : (askReset cls cause target master s).ecl = s.ecl := rfl
@[simp] theorem askReset_trown (cls cause target master : Nat) (s : State) : (askReset cls cause target master s).trown = s.trown := rfl
@[simp] theorem askReset_dpown (cls cause target master : Nat) (s : State) : (askReset cls cause target master s).dpown = s.dpown := rfl
@[simp] theorem askReset_pair (cls cause target master : Nat) (s : State) : (askReset cls cause target master s).pair = s.pair := rfl
@[simp] theorem askReset_vault (cls cause target master : Nat) (s : State) : (askReset cls cause target master s).vault = s.vault := rfl
@[simp] theorem askReset_can (cls cause target master : Nat) (s : State) : (askReset cls cause target master s).can = s.can := rfl
@[simp] theorem askReset_comet (cls cause target master : Nat) (s : State) : (askReset cls cause target master s).comet = s.comet := rfl
@[simp] theorem askReset_pwr (cls cause target master : Nat) (s : State) : (askReset cls cause target master s).pwr = { s.pwr with resets := s.pwr.resets ++ [⟨cls, cause, target, master, s.tb.gtc⟩] } := rfl
@[simp] theorem askReset_modes (cls cause target master : Nat) (s : State) : (askReset cls cause target master s).modes = s.modes := rfl
@[simp] theorem askReset_pins (cls cause target master : Nat) (s : State) : (askReset cls cause target master s).pins = s.pins := rfl

/-! ### Free values -/

@[simp] theorem fresh_pending (s : State) : (fresh s).2.pending = s.pending := rfl
@[simp] theorem freshBytes_pending (n : Nat) (s : State) : (freshBytes n s).2.pending = s.pending := rfl
@[simp] theorem fresh_outs (s : State) : (fresh s).2.outs = s.outs := rfl
@[simp] theorem freshBytes_outs (n : Nat) (s : State) : (freshBytes n s).2.outs = s.outs := rfl
@[simp] theorem fresh_free (s : State) : (fresh s).2.free = s.free + 1 := rfl
@[simp] theorem freshBytes_free (n : Nat) (s : State) : (freshBytes n s).2.free = s.free + 1 := rfl
@[simp] theorem fresh_clockStep (s : State) : (fresh s).2.clockStep = s.clockStep := rfl
@[simp] theorem freshBytes_clockStep (n : Nat) (s : State) : (freshBytes n s).2.clockStep = s.clockStep := rfl
@[simp] theorem fresh_sessions (s : State) : (fresh s).2.sessions = s.sessions := rfl
@[simp] theorem freshBytes_sessions (n : Nat) (s : State) : (freshBytes n s).2.sessions = s.sessions := rfl
@[simp] theorem fresh_hellos (s : State) : (fresh s).2.hellos = s.hellos := rfl
@[simp] theorem freshBytes_hellos (n : Nat) (s : State) : (freshBytes n s).2.hellos = s.hellos := rfl
@[simp] theorem fresh_txq (s : State) : (fresh s).2.txq = s.txq := rfl
@[simp] theorem freshBytes_txq (n : Nat) (s : State) : (freshBytes n s).2.txq = s.txq := rfl
@[simp] theorem fresh_viols (s : State) : (fresh s).2.viols = s.viols := rfl
@[simp] theorem freshBytes_viols (n : Nat) (s : State) : (freshBytes n s).2.viols = s.viols := rfl
@[simp] theorem fresh_net (s : State) : (fresh s).2.net = s.net := rfl
@[simp] theorem freshBytes_net (n : Nat) (s : State) : (freshBytes n s).2.net = s.net := rfl
@[simp] theorem fresh_rings (s : State) : (fresh s).2.rings = s.rings := rfl
@[simp] theorem freshBytes_rings (n : Nat) (s : State) : (freshBytes n s).2.rings = s.rings := rfl
@[simp] theorem fresh_spi (s : State) : (fresh s).2.spi = s.spi := rfl
@[simp] theorem freshBytes_spi (n : Nat) (s : State) : (freshBytes n s).2.spi = s.spi := rfl
@[simp] theorem fresh_limiters (s : State) : (fresh s).2.limiters = s.limiters := rfl
@[simp] theorem freshBytes_limiters (n : Nat) (s : State) : (freshBytes n s).2.limiters = s.limiters := rfl
@[simp] theorem fresh_banks (s : State) : (fresh s).2.banks = s.banks := rfl
@[simp] theorem freshBytes_banks (n : Nat) (s : State) : (freshBytes n s).2.banks = s.banks := rfl
@[simp] theorem fresh_locks (s : State) : (fresh s).2.locks = s.locks := rfl
@[simp] theorem freshBytes_locks (n : Nat) (s : State) : (freshBytes n s).2.locks = s.locks := rfl
@[simp] theorem fresh_lckForced (s : State) : (fresh s).2.lckForced = s.lckForced := rfl
@[simp] theorem freshBytes_lckForced (n : Nat) (s : State) : (freshBytes n s).2.lckForced = s.lckForced := rfl
@[simp] theorem fresh_sqs (s : State) : (fresh s).2.sqs = s.sqs := rfl
@[simp] theorem freshBytes_sqs (n : Nat) (s : State) : (freshBytes n s).2.sqs = s.sqs := rfl
@[simp] theorem fresh_repl (s : State) : (fresh s).2.repl = s.repl := rfl
@[simp] theorem freshBytes_repl (n : Nat) (s : State) : (freshBytes n s).2.repl = s.repl := rfl
@[simp] theorem fresh_tb (s : State) : (fresh s).2.tb = s.tb := rfl
@[simp] theorem freshBytes_tb (n : Nat) (s : State) : (freshBytes n s).2.tb = s.tb := rfl
@[simp] theorem fresh_gnss (s : State) : (fresh s).2.gnss = s.gnss := rfl
@[simp] theorem freshBytes_gnss (n : Nat) (s : State) : (freshBytes n s).2.gnss = s.gnss := rfl
@[simp] theorem fresh_corr (s : State) : (fresh s).2.corr = s.corr := rfl
@[simp] theorem freshBytes_corr (n : Nat) (s : State) : (freshBytes n s).2.corr = s.corr := rfl
@[simp] theorem fresh_bl (s : State) : (fresh s).2.bl = s.bl := rfl
@[simp] theorem freshBytes_bl (n : Nat) (s : State) : (freshBytes n s).2.bl = s.bl := rfl
@[simp] theorem fresh_rh (s : State) : (fresh s).2.rh = s.rh := rfl
@[simp] theorem freshBytes_rh (n : Nat) (s : State) : (freshBytes n s).2.rh = s.rh := rfl
@[simp] theorem fresh_mac (s : State) : (fresh s).2.mac = s.mac := rfl
@[simp] theorem freshBytes_mac (n : Nat) (s : State) : (freshBytes n s).2.mac = s.mac := rfl
@[simp] theorem fresh_ecl (s : State) : (fresh s).2.ecl = s.ecl := rfl
@[simp] theorem freshBytes_ecl (n : Nat) (s : State) : (freshBytes n s).2.ecl = s.ecl := rfl
@[simp] theorem fresh_trown (s : State) : (fresh s).2.trown = s.trown := rfl
@[simp] theorem freshBytes_trown (n : Nat) (s : State) : (freshBytes n s).2.trown = s.trown := rfl
@[simp] theorem fresh_dpown (s : State) : (fresh s).2.dpown = s.dpown := rfl
@[simp] theorem freshBytes_dpown (n : Nat) (s : State) : (freshBytes n s).2.dpown = s.dpown := rfl
@[simp] theorem fresh_pair (s : State) : (fresh s).2.pair = s.pair := rfl
@[simp] theorem freshBytes_pair (n : Nat) (s : State) : (freshBytes n s).2.pair = s.pair := rfl
@[simp] theorem fresh_vault (s : State) : (fresh s).2.vault = s.vault := rfl
@[simp] theorem freshBytes_vault (n : Nat) (s : State) : (freshBytes n s).2.vault = s.vault := rfl
@[simp] theorem fresh_can (s : State) : (fresh s).2.can = s.can := rfl
@[simp] theorem freshBytes_can (n : Nat) (s : State) : (freshBytes n s).2.can = s.can := rfl
@[simp] theorem fresh_comet (s : State) : (fresh s).2.comet = s.comet := rfl
@[simp] theorem freshBytes_comet (n : Nat) (s : State) : (freshBytes n s).2.comet = s.comet := rfl
@[simp] theorem fresh_pwr (s : State) : (fresh s).2.pwr = s.pwr := rfl
@[simp] theorem freshBytes_pwr (n : Nat) (s : State) : (freshBytes n s).2.pwr = s.pwr := rfl
@[simp] theorem fresh_modes (s : State) : (fresh s).2.modes = s.modes := rfl
@[simp] theorem freshBytes_modes (n : Nat) (s : State) : (freshBytes n s).2.modes = s.modes := rfl
@[simp] theorem fresh_pins (s : State) : (fresh s).2.pins = s.pins := rfl
@[simp] theorem freshBytes_pins (n : Nat) (s : State) : (freshBytes n s).2.pins = s.pins := rfl

/-! ### A request becomes outstanding -/

@[simp] theorem accept_pending (op : Nat) (r : Req) (s : State) : (accept op r s).pending = s.pending := by
  unfold accept; split <;> rfl
@[simp] theorem accept_outs (op : Nat) (r : Req) (s : State) : (accept op r s).outs = s.outs := by
  unfold accept; split <;> rfl
@[simp] theorem accept_free (op : Nat) (r : Req) (s : State) : (accept op r s).free = s.free := by
  unfold accept; split <;> rfl
@[simp] theorem accept_clockStep (op : Nat) (r : Req) (s : State) : (accept op r s).clockStep = s.clockStep := by
  unfold accept; split <;> rfl
@[simp] theorem accept_hellos (op : Nat) (r : Req) (s : State) : (accept op r s).hellos = s.hellos := by
  unfold accept; split <;> rfl
@[simp] theorem accept_txq (op : Nat) (r : Req) (s : State) : (accept op r s).txq = s.txq := by
  unfold accept; split <;> rfl
@[simp] theorem accept_viols (op : Nat) (r : Req) (s : State) : (accept op r s).viols = s.viols := by
  unfold accept; split <;> rfl
@[simp] theorem accept_net (op : Nat) (r : Req) (s : State) : (accept op r s).net = s.net := by
  unfold accept; split <;> rfl
@[simp] theorem accept_rings (op : Nat) (r : Req) (s : State) : (accept op r s).rings = s.rings := by
  unfold accept; split <;> rfl
@[simp] theorem accept_spi (op : Nat) (r : Req) (s : State) : (accept op r s).spi = s.spi := by
  unfold accept; split <;> rfl
@[simp] theorem accept_limiters (op : Nat) (r : Req) (s : State) : (accept op r s).limiters = s.limiters := by
  unfold accept; split <;> rfl
@[simp] theorem accept_banks (op : Nat) (r : Req) (s : State) : (accept op r s).banks = s.banks := by
  unfold accept; split <;> rfl
@[simp] theorem accept_locks (op : Nat) (r : Req) (s : State) : (accept op r s).locks = s.locks := by
  unfold accept; split <;> rfl
@[simp] theorem accept_lckForced (op : Nat) (r : Req) (s : State) : (accept op r s).lckForced = s.lckForced := by
  unfold accept; split <;> rfl
@[simp] theorem accept_sqs (op : Nat) (r : Req) (s : State) : (accept op r s).sqs = s.sqs := by
  unfold accept; split <;> rfl
@[simp] theorem accept_repl (op : Nat) (r : Req) (s : State) : (accept op r s).repl = s.repl := by
  unfold accept; split <;> rfl
@[simp] theorem accept_tb (op : Nat) (r : Req) (s : State) : (accept op r s).tb = s.tb := by
  unfold accept; split <;> rfl
@[simp] theorem accept_gnss (op : Nat) (r : Req) (s : State) : (accept op r s).gnss = s.gnss := by
  unfold accept; split <;> rfl
@[simp] theorem accept_corr (op : Nat) (r : Req) (s : State) : (accept op r s).corr = s.corr := by
  unfold accept; split <;> rfl
@[simp] theorem accept_bl (op : Nat) (r : Req) (s : State) : (accept op r s).bl = s.bl := by
  unfold accept; split <;> rfl
@[simp] theorem accept_rh (op : Nat) (r : Req) (s : State) : (accept op r s).rh = s.rh := by
  unfold accept; split <;> rfl
@[simp] theorem accept_mac (op : Nat) (r : Req) (s : State) : (accept op r s).mac = s.mac := by
  unfold accept; split <;> rfl
@[simp] theorem accept_ecl (op : Nat) (r : Req) (s : State) : (accept op r s).ecl = s.ecl := by
  unfold accept; split <;> rfl
@[simp] theorem accept_trown (op : Nat) (r : Req) (s : State) : (accept op r s).trown = s.trown := by
  unfold accept; split <;> rfl
@[simp] theorem accept_dpown (op : Nat) (r : Req) (s : State) : (accept op r s).dpown = s.dpown := by
  unfold accept; split <;> rfl
@[simp] theorem accept_pair (op : Nat) (r : Req) (s : State) : (accept op r s).pair = s.pair := by
  unfold accept; split <;> rfl
@[simp] theorem accept_vault (op : Nat) (r : Req) (s : State) : (accept op r s).vault = s.vault := by
  unfold accept; split <;> rfl
@[simp] theorem accept_can (op : Nat) (r : Req) (s : State) : (accept op r s).can = s.can := by
  unfold accept; split <;> rfl
@[simp] theorem accept_comet (op : Nat) (r : Req) (s : State) : (accept op r s).comet = s.comet := by
  unfold accept; split <;> rfl
@[simp] theorem accept_pwr (op : Nat) (r : Req) (s : State) : (accept op r s).pwr = s.pwr := by
  unfold accept; split <;> rfl
@[simp] theorem accept_modes (op : Nat) (r : Req) (s : State) : (accept op r s).modes = s.modes := by
  unfold accept; split <;> rfl
@[simp] theorem accept_pins (op : Nat) (r : Req) (s : State) : (accept op r s).pins = s.pins := by
  unfold accept; split <;> rfl

end Sys2Proof.Machine
end

