-- ==== Sys2Proof/Laws/Frame.lean ====
section
/-!
SUPPORT. Sys2Proof/Laws/Frame.lean: what sending, replying and reporting can change: the record of outputs, sessions and queues, outbound
mailboxes and doorbells, waiting comet triggers and event limiters, and nothing else.
-/
namespace Sys2Proof.Machine
open Sys2Proof

/-- The state without what sending, replying and reporting move. -/
def hush (s : State) : State :=
  { s with
    outs := []
    sessions := []
    txq := []
    limiters := []
    banks := stillBanks s.banks
    comet := stillComet s.comet
    pair := stillPair s.pair }

theorem map_modNth_same {α β : Type} (g : α → β) (f : α → α) (h : ∀ a, g (f a) = g a) (l : List α) (i : Nat) :
    (modNth l i f).map g = l.map g := by
  unfold modNth
  induction l generalizing i with
  | nil => simp
  | cons a r ih => cases i with
    | zero => simp [h]
    | succ k => simp [ih]

@[simp] theorem stillBanks_modBank (m : Nat) (f : Bank → Bank) (s : State)
    (h : ∀ b : Bank, ({ f b with outb := [], dblOut := 0 } : Bank) = { b with outb := [], dblOut := 0 }) :
    stillBanks (modBank m f s).banks = stillBanks s.banks := map_modNth_same _ _ h _ _

theorem hush_congr {s t : State} (h : hush s = hush t) (f : State → State) (hf : ∀ u, hush (f u) = hush u) :
    hush (f s) = hush t := (hf s).trans h

theorem hush_foldl {α : Type} (f : State → α → State) (hf : ∀ u a, hush (f u a) = hush u) (l : List α) (s : State) :
    hush (l.foldl f s) = hush s := by
  induction l generalizing s with
  | nil => rfl
  | cons a r ih => exact (ih _).trans (hf s a)

theorem hush_put (o : Out) (s : State) : hush (put o s) = hush s := rfl

theorem hush_modSess (m : Nat) (f : Session → Session) (s : State) : hush (modSess m f s) = hush s := rfl

theorem hush_modBank (m : Nat) (f : Bank → Bank) (s : State)
    (h : ∀ b : Bank, ({ f b with outb := [], dblOut := 0 } : Bank) = { b with outb := [], dblOut := 0 }) :
    hush (modBank m f s) = hush s := by
  have := stillBanks_modBank m f s h
  simp only [hush, this]
  rfl

theorem hush_dblOutSet (m b : Nat) (s : State) : hush (dblOutSet m b s) = hush s := by
  unfold dblOutSet
  split <;> simp [hush_put, hush_modBank]

theorem hush_nextLinkSeq (s : State) : hush (nextLinkSeq s) = hush s := rfl

theorem hush_sendLink (type : Nat) (prio : Bool) (p : List Byte) (s : State) : hush (sendLink type prio p s) = hush s := by
  unfold sendLink
  split
  · rfl
  · split <;> rfl

theorem hush_putPacket (m : Nat) (a : UdpAddr) (bs : List Byte) (s : State) : hush (putPacket m a bs s) = hush s := by
  unfold putPacket
  split
  · exact hush_sendLink _ _ _ _
  · rfl

theorem hush_itemBells (m op : Nat) (s : State) : hush (itemBells m op s) = hush s := by
  unfold itemBells
  split
  · rfl
  · rw [hush_dblOutSet]
    split
    · exact hush_dblOutSet _ _ _
    · rfl

theorem hush_sendItem (m : Nat) (w : Waiting) (s : State) : hush (sendItem m w s) = hush s := by
  unfold sendItem
  split
  · rfl
  · split
    · rfl
    · rw [hush_itemBells]; rfl

theorem hush_sendBare (m : Nat) (w : Waiting) (s : State) : hush (sendBare m w s) = hush s := by
  unfold sendBare
  split
  · rw [hush_dblOutSet]; rfl
  · exact hush_putPacket _ _ _ _

theorem hush_waitNotice (m n : Nat) (s : State) : hush (waitNotice m n s) = hush s := by
  unfold waitNotice
  split
  · dsimp only
    split <;> simp [hush_put, hush_modBank]
  · rfl

theorem hush_deliver (t : Gtc) (code src : Nat) (p : List Byte) (m : Nat) (s : State) : hush (deliver t code src p m s) = hush s := by
  unfold deliver
  split
  · rfl
  · split
    · rfl
    · split
      · rw [hush_waitNotice, hush_sendItem]; rfl
      · rfl

theorem hush_postOut (m n : Nat) (ws : List Nat) (s : State) : hush (postOut m n ws s) = hush s := by
  unfold postOut
  dsimp only
  split <;> split <;> simp [hush_deliver, hush_put, hush_modBank]

theorem hush_sendNow (m : Nat) (s : State) (w : Waiting) : hush (sendNow m s w) = hush s := by
  unfold sendNow
  split
  · rfl
  · split
    · rfl
    · split
      · exact hush_putPacket _ _ _ _
      · exact hush_postOut _ _ _ _

theorem hush_postMail (m : Nat) (s : State) : hush (postMail m s) = hush s := by
  unfold postMail
  split
  · rfl
  · exact hush_foldl _ (fun u w => hush_sendNow m u w) _ _

theorem hush_drain (m : Nat) (s : State) : hush (drain m s) = hush s := by
  unfold drain
  split
  · rfl
  · split
    · rfl
    · exact hush_foldl _ (fun u w => hush_sendNow m u w) _ _

theorem hush_sendOf (m : Nat) (s : State) : hush (sendOf m s) = hush s := by
  unfold sendOf
  rw [hush_drain, hush_postMail]

theorem hush_sendStep (s : State) : hush (sendStep s) = hush s := hush_foldl _ (fun u m => hush_sendOf m u) _ _

theorem hush_bareReply (m : Nat) (w : Waiting) (s : State) : hush (bareReply m w s) = hush s := by
  unfold bareReply
  split
  · exact hush_sendBare _ _ _
  · split <;> simp [hush_postOut, hush_sendBare]

theorem hush_mailboxReply (m i : Nat) (ws : List Waiting) (s : State) : hush (mailboxReply m i ws s) = hush s := by
  unfold mailboxReply
  split
  · split
    · rfl
    · split
      · exact hush_sendItem _ _ _
      · rw [hush_postOut, hush_sendItem]
  · rw [hush_postOut]; exact hush_foldl _ (fun u _ => hush_sendItem m _ u) _ _
  · rfl

theorem hush_sendReply (m : Nat) (via : Via) (ws : List Waiting) (s : State) : hush (sendReply m via ws s) = hush s := by
  unfold sendReply
  split
  · exact hush_foldl _ (fun u _ => hush_sendItem m _ u) _ _
  · exact hush_mailboxReply _ _ _ _

theorem hush_cometOffer (id src : Nat) (p : List Byte) (s : State) : hush (cometOffer id src p s) = hush s := by
  unfold cometOffer
  split
  · rfl
  · split <;> rfl

theorem hush_emitAt (t : Gtc) (code src : Nat) (p : List Byte) (s : State) : hush (emitAt t code src p s) = hush s := by
  have h := hush_foldl (fun a m => deliver t code src (leBytes 8 t.toNat ++ p) m a) (fun u m => hush_deliver _ _ _ _ m u)
    [0, 1, 2, 3, 4] (put (.event code src (leBytes 8 t.toNat ++ p)) s)
  unfold emitAt
  split
  · exact h
  · rw [hush_cometOffer]; exact h

theorem hush_emit (code src : Nat) (p : List Byte) (s : State) : hush (emit code src p s) = hush s := hush_emitAt _ _ _ _ _

theorem hush_emitExcept (m0 code src : Nat) (p : List Byte) (s : State) : hush (emitExcept m0 code src p s) = hush s := by
  have h := hush_foldl (fun t m => deliver s.tb.gtc code src (gtcBytes s ++ p) m t) (fun u m => hush_deliver _ _ _ _ m u)
    ([0, 1, 2, 3, 4].filter (fun m => m != m0)) (put (.event code src (gtcBytes s ++ p)) s)
  unfold emitExcept
  split
  · exact h
  · rw [hush_cometOffer]; exact h

theorem hush_limited (code key period : Nat) (f : Nat → State → State) (s : State) (h : ∀ n t, hush (f n t) = hush t) :
    hush (limited code key period f s) = hush s := by
  unfold limited
  split
  · rw [h]; rfl
  · split
    · rfl
    · rw [h]; rfl

theorem hush_policyLimit (src loop inst side qty : Nat) (fence want : Int) (s : State) :
    hush (policyLimit src loop inst side qty fence want s) = hush s := hush_limited _ _ _ _ _ (fun _ _ => hush_emit _ _ _ _)

theorem hush_disagree (src kind unit mview dview : Nat) (s : State) : hush (disagree src kind unit mview dview s) = hush s :=
  hush_limited _ _ _ _ _ (fun _ _ => hush_emit _ _ _ _)

theorem hush_modeChange (src dim old new forcing : Nat) (s : State) : hush (modeChange src dim old new forcing s) = hush s :=
  hush_emit _ _ _ _

theorem hush_reply (r : Req) (op st : Nat) (p : List Byte) (s : State) : hush (reply r op st p s) = hush s := by
  unfold reply
  split
  · rfl
  · rw [hush_bareReply]; rfl
  · split
    · rfl
    · split
      · rw [hush_sendReply]; rfl
      · rfl

theorem hush_endSession (m reason : Nat) (s : State) : hush (endSession m reason s) = hush s := by
  unfold endSession
  dsimp only
  split
  · exact hush_sendOf _ _
  · rw [hush_emitExcept]; exact hush_sendOf m s

theorem hush_goodbyeStep (m : Nat) (s : State) : hush (goodbyeStep m s) = hush s := by
  unfold goodbyeStep
  split
  · rfl
  · split
    · rw [hush_reply]; rfl
    · rfl
  · rfl

theorem hush_sent (m : Nat) (s : State) : hush (sendOf m (goodbyeStep m s)) = hush s := by
  rw [hush_sendOf, hush_goodbyeStep]

theorem hush_endingOf (m : Nat) (s : State) : hush (endingOf m s) = hush s := by
  unfold endingOf
  dsimp only
  split
  · exact hush_sent m s
  · split
    · exact hush_sent m s
    · split
      · rw [hush_endSession]; exact hush_sent m s
      · exact hush_sent m s

theorem hush_endingStep (s : State) : hush (endingStep s) = hush s :=
  hush_foldl _ (fun u m => hush_endingOf m u) _ _

/-! ### Fields of hushed states -/

theorem hush_pending {s t : State} (h : hush s = hush t) : s.pending = t.pending := by
  have k := congrArg State.pending h
  exact k
theorem hush_free {s t : State} (h : hush s = hush t) : s.free = t.free := by
  have k := congrArg State.free h
  exact k
theorem hush_clockStep {s t : State} (h : hush s = hush t) : s.clockStep = t.clockStep := by
  have k := congrArg State.clockStep h
  exact k
theorem hush_hellos {s t : State} (h : hush s = hush t) : s.hellos = t.hellos := by
  have k := congrArg State.hellos h
  exact k
theorem hush_viols {s t : State} (h : hush s = hush t) : s.viols = t.viols := by
  have k := congrArg State.viols h
  exact k
theorem hush_net {s t : State} (h : hush s = hush t) : s.net = t.net := by
  have k := congrArg State.net h
  exact k
theorem hush_rings {s t : State} (h : hush s = hush t) : s.rings = t.rings := by
  have k := congrArg State.rings h
  exact k
theorem hush_spi {s t : State} (h : hush s = hush t) : s.spi = t.spi := by
  have k := congrArg State.spi h
  exact k
theorem hush_locks {s t : State} (h : hush s = hush t) : s.locks = t.locks := by
  have k := congrArg State.locks h
  exact k
theorem hush_lckForced {s t : State} (h : hush s = hush t) : s.lckForced = t.lckForced := by
  have k := congrArg State.lckForced h
  exact k
theorem hush_sqs {s t : State} (h : hush s = hush t) : s.sqs = t.sqs := by
  have k := congrArg State.sqs h
  exact k
theorem hush_repl {s t : State} (h : hush s = hush t) : s.repl = t.repl := by
  have k := congrArg State.repl h
  exact k
theorem hush_tb {s t : State} (h : hush s = hush t) : s.tb = t.tb := by
  have k := congrArg State.tb h
  exact k
theorem hush_gnss {s t : State} (h : hush s = hush t) : s.gnss = t.gnss := by
  have k := congrArg State.gnss h
  exact k
theorem hush_corr {s t : State} (h : hush s = hush t) : s.corr = t.corr := by
  have k := congrArg State.corr h
  exact k
theorem hush_bl {s t : State} (h : hush s = hush t) : s.bl = t.bl := by
  have k := congrArg State.bl h
  exact k
theorem hush_rh {s t : State} (h : hush s = hush t) : s.rh = t.rh := by
  have k := congrArg State.rh h
  exact k
theorem hush_mac {s t : State} (h : hush s = hush t) : s.mac = t.mac := by
  have k := congrArg State.mac h
  exact k
theorem hush_ecl {s t : State} (h : hush s = hush t) : s.ecl = t.ecl := by
  have k := congrArg State.ecl h
  exact k
theorem hush_trown {s t : State} (h : hush s = hush t) : s.trown = t.trown := by
  have k := congrArg State.trown h
  exact k
theorem hush_dpown {s t : State} (h : hush s = hush t) : s.dpown = t.dpown := by
  have k := congrArg State.dpown h
  exact k
theorem hush_vault {s t : State} (h : hush s = hush t) : s.vault = t.vault := by
  have k := congrArg State.vault h
  exact k
theorem hush_can {s t : State} (h : hush s = hush t) : s.can = t.can := by
  have k := congrArg State.can h
  exact k
theorem hush_pwr {s t : State} (h : hush s = hush t) : s.pwr = t.pwr := by
  have k := congrArg State.pwr h
  exact k
theorem hush_modes {s t : State} (h : hush s = hush t) : s.modes = t.modes := by
  have k := congrArg State.modes h
  exact k
theorem hush_pins {s t : State} (h : hush s = hush t) : s.pins = t.pins := by
  have k := congrArg State.pins h
  exact k
theorem hush_banks {s t : State} (h : hush s = hush t) : stillBanks s.banks = stillBanks t.banks := by
  have k := congrArg State.banks h
  exact k
theorem hush_comet {s t : State} (h : hush s = hush t) : stillComet s.comet = stillComet t.comet := by
  have k := congrArg State.comet h
  exact k

theorem hush_pair {s t : State} (h : hush s = hush t) : stillPair s.pair = stillPair t.pair := by
  have k := congrArg State.pair h
  exact k

/-! ### What dblOutSet leaves alone -/

@[simp] theorem dblOutSet_pending (m b : Nat) (s : State) : (dblOutSet m b s).pending = s.pending :=
  hush_pending (hush_dblOutSet m b s)
@[simp] theorem dblOutSet_free (m b : Nat) (s : State) : (dblOutSet m b s).free = s.free :=
  hush_free (hush_dblOutSet m b s)
@[simp] theorem dblOutSet_clockStep (m b : Nat) (s : State) : (dblOutSet m b s).clockStep = s.clockStep :=
  hush_clockStep (hush_dblOutSet m b s)
@[simp] theorem dblOutSet_hellos (m b : Nat) (s : State) : (dblOutSet m b s).hellos = s.hellos :=
  hush_hellos (hush_dblOutSet m b s)
@[simp] theorem dblOutSet_viols (m b : Nat) (s : State) : (dblOutSet m b s).viols = s.viols :=
  hush_viols (hush_dblOutSet m b s)
@[simp] theorem dblOutSet_net (m b : Nat) (s : State) : (dblOutSet m b s).net = s.net :=
  hush_net (hush_dblOutSet m b s)
@[simp] theorem dblOutSet_rings (m b : Nat) (s : State) : (dblOutSet m b s).rings = s.rings :=
  hush_rings (hush_dblOutSet m b s)
@[simp] theorem dblOutSet_spi (m b : Nat) (s : State) : (dblOutSet m b s).spi = s.spi :=
  hush_spi (hush_dblOutSet m b s)
@[simp] theorem dblOutSet_locks (m b : Nat) (s : State) : (dblOutSet m b s).locks = s.locks :=
  hush_locks (hush_dblOutSet m b s)
@[simp] theorem dblOutSet_lckForced (m b : Nat) (s : State) : (dblOutSet m b s).lckForced = s.lckForced :=
  hush_lckForced (hush_dblOutSet m b s)
@[simp] theorem dblOutSet_sqs (m b : Nat) (s : State) : (dblOutSet m b s).sqs = s.sqs :=
  hush_sqs (hush_dblOutSet m b s)
@[simp] theorem dblOutSet_repl (m b : Nat) (s : State) : (dblOutSet m b s).repl = s.repl :=
  hush_repl (hush_dblOutSet m b s)
@[simp] theorem dblOutSet_tb (m b : Nat) (s : State) : (dblOutSet m b s).tb = s.tb :=
  hush_tb (hush_dblOutSet m b s)
@[simp] theorem dblOutSet_gnss (m b : Nat) (s : State) : (dblOutSet m b s).gnss = s.gnss :=
  hush_gnss (hush_dblOutSet m b s)
@[simp] theorem dblOutSet_corr (m b : Nat) (s : State) : (dblOutSet m b s).corr = s.corr :=
  hush_corr (hush_dblOutSet m b s)
@[simp] theorem dblOutSet_bl (m b : Nat) (s : State) : (dblOutSet m b s).bl = s.bl :=
  hush_bl (hush_dblOutSet m b s)
@[simp] theorem dblOutSet_rh (m b : Nat) (s : State) : (dblOutSet m b s).rh = s.rh :=
  hush_rh (hush_dblOutSet m b s)
@[simp] theorem dblOutSet_mac (m b : Nat) (s : State) : (dblOutSet m b s).mac = s.mac :=
  hush_mac (hush_dblOutSet m b s)
@[simp] theorem dblOutSet_ecl (m b : Nat) (s : State) : (dblOutSet m b s).ecl = s.ecl :=
  hush_ecl (hush_dblOutSet m b s)
@[simp] theorem dblOutSet_trown (m b : Nat) (s : State) : (dblOutSet m b s).trown = s.trown :=
  hush_trown (hush_dblOutSet m b s)
@[simp] theorem dblOutSet_dpown (m b : Nat) (s : State) : (dblOutSet m b s).dpown = s.dpown :=
  hush_dpown (hush_dblOutSet m b s)
@[simp] theorem dblOutSet_vault (m b : Nat) (s : State) : (dblOutSet m b s).vault = s.vault :=
  hush_vault (hush_dblOutSet m b s)
@[simp] theorem dblOutSet_can (m b : Nat) (s : State) : (dblOutSet m b s).can = s.can :=
  hush_can (hush_dblOutSet m b s)
@[simp] theorem dblOutSet_pwr (m b : Nat) (s : State) : (dblOutSet m b s).pwr = s.pwr :=
  hush_pwr (hush_dblOutSet m b s)
@[simp] theorem dblOutSet_modes (m b : Nat) (s : State) : (dblOutSet m b s).modes = s.modes :=
  hush_modes (hush_dblOutSet m b s)
@[simp] theorem dblOutSet_pins (m b : Nat) (s : State) : (dblOutSet m b s).pins = s.pins :=
  hush_pins (hush_dblOutSet m b s)
@[simp] theorem dblOutSet_banks (m b : Nat) (s : State) : stillBanks (dblOutSet m b s).banks = stillBanks s.banks :=
  hush_banks (hush_dblOutSet m b s)
@[simp] theorem dblOutSet_comet (m b : Nat) (s : State) : stillComet (dblOutSet m b s).comet = stillComet s.comet :=
  hush_comet (hush_dblOutSet m b s)

/-! ### What sendItem leaves alone -/

@[simp] theorem sendItem_pending (m : Nat) (w : Waiting) (s : State) : (sendItem m w s).pending = s.pending :=
  hush_pending (hush_sendItem m w s)
@[simp] theorem sendItem_free (m : Nat) (w : Waiting) (s : State) : (sendItem m w s).free = s.free :=
  hush_free (hush_sendItem m w s)
@[simp] theorem sendItem_clockStep (m : Nat) (w : Waiting) (s : State) : (sendItem m w s).clockStep = s.clockStep :=
  hush_clockStep (hush_sendItem m w s)
@[simp] theorem sendItem_hellos (m : Nat) (w : Waiting) (s : State) : (sendItem m w s).hellos = s.hellos :=
  hush_hellos (hush_sendItem m w s)
@[simp] theorem sendItem_viols (m : Nat) (w : Waiting) (s : State) : (sendItem m w s).viols = s.viols :=
  hush_viols (hush_sendItem m w s)
@[simp] theorem sendItem_net (m : Nat) (w : Waiting) (s : State) : (sendItem m w s).net = s.net :=
  hush_net (hush_sendItem m w s)
@[simp] theorem sendItem_rings (m : Nat) (w : Waiting) (s : State) : (sendItem m w s).rings = s.rings :=
  hush_rings (hush_sendItem m w s)
@[simp] theorem sendItem_spi (m : Nat) (w : Waiting) (s : State) : (sendItem m w s).spi = s.spi :=
  hush_spi (hush_sendItem m w s)
@[simp] theorem sendItem_locks (m : Nat) (w : Waiting) (s : State) : (sendItem m w s).locks = s.locks :=
  hush_locks (hush_sendItem m w s)
@[simp] theorem sendItem_lckForced (m : Nat) (w : Waiting) (s : State) : (sendItem m w s).lckForced = s.lckForced :=
  hush_lckForced (hush_sendItem m w s)
@[simp] theorem sendItem_sqs (m : Nat) (w : Waiting) (s : State) : (sendItem m w s).sqs = s.sqs :=
  hush_sqs (hush_sendItem m w s)
@[simp] theorem sendItem_repl (m : Nat) (w : Waiting) (s : State) : (sendItem m w s).repl = s.repl :=
  hush_repl (hush_sendItem m w s)
@[simp] theorem sendItem_tb (m : Nat) (w : Waiting) (s : State) : (sendItem m w s).tb = s.tb :=
  hush_tb (hush_sendItem m w s)
@[simp] theorem sendItem_gnss (m : Nat) (w : Waiting) (s : State) : (sendItem m w s).gnss = s.gnss :=
  hush_gnss (hush_sendItem m w s)
@[simp] theorem sendItem_corr (m : Nat) (w : Waiting) (s : State) : (sendItem m w s).corr = s.corr :=
  hush_corr (hush_sendItem m w s)
@[simp] theorem sendItem_bl (m : Nat) (w : Waiting) (s : State) : (sendItem m w s).bl = s.bl :=
  hush_bl (hush_sendItem m w s)
@[simp] theorem sendItem_rh (m : Nat) (w : Waiting) (s : State) : (sendItem m w s).rh = s.rh :=
  hush_rh (hush_sendItem m w s)
@[simp] theorem sendItem_mac (m : Nat) (w : Waiting) (s : State) : (sendItem m w s).mac = s.mac :=
  hush_mac (hush_sendItem m w s)
@[simp] theorem sendItem_ecl (m : Nat) (w : Waiting) (s : State) : (sendItem m w s).ecl = s.ecl :=
  hush_ecl (hush_sendItem m w s)
@[simp] theorem sendItem_trown (m : Nat) (w : Waiting) (s : State) : (sendItem m w s).trown = s.trown :=
  hush_trown (hush_sendItem m w s)
@[simp] theorem sendItem_dpown (m : Nat) (w : Waiting) (s : State) : (sendItem m w s).dpown = s.dpown :=
  hush_dpown (hush_sendItem m w s)
@[simp] theorem sendItem_vault (m : Nat) (w : Waiting) (s : State) : (sendItem m w s).vault = s.vault :=
  hush_vault (hush_sendItem m w s)
@[simp] theorem sendItem_can (m : Nat) (w : Waiting) (s : State) : (sendItem m w s).can = s.can :=
  hush_can (hush_sendItem m w s)
@[simp] theorem sendItem_pwr (m : Nat) (w : Waiting) (s : State) : (sendItem m w s).pwr = s.pwr :=
  hush_pwr (hush_sendItem m w s)
@[simp] theorem sendItem_modes (m : Nat) (w : Waiting) (s : State) : (sendItem m w s).modes = s.modes :=
  hush_modes (hush_sendItem m w s)
@[simp] theorem sendItem_pins (m : Nat) (w : Waiting) (s : State) : (sendItem m w s).pins = s.pins :=
  hush_pins (hush_sendItem m w s)
@[simp] theorem sendItem_banks (m : Nat) (w : Waiting) (s : State) : stillBanks (sendItem m w s).banks = stillBanks s.banks :=
  hush_banks (hush_sendItem m w s)
@[simp] theorem sendItem_comet (m : Nat) (w : Waiting) (s : State) : stillComet (sendItem m w s).comet = stillComet s.comet :=
  hush_comet (hush_sendItem m w s)

/-! ### What sendBare leaves alone -/

@[simp] theorem sendBare_pending (m : Nat) (w : Waiting) (s : State) : (sendBare m w s).pending = s.pending :=
  hush_pending (hush_sendBare m w s)
@[simp] theorem sendBare_free (m : Nat) (w : Waiting) (s : State) : (sendBare m w s).free = s.free :=
  hush_free (hush_sendBare m w s)
@[simp] theorem sendBare_clockStep (m : Nat) (w : Waiting) (s : State) : (sendBare m w s).clockStep = s.clockStep :=
  hush_clockStep (hush_sendBare m w s)
@[simp] theorem sendBare_hellos (m : Nat) (w : Waiting) (s : State) : (sendBare m w s).hellos = s.hellos :=
  hush_hellos (hush_sendBare m w s)
@[simp] theorem sendBare_viols (m : Nat) (w : Waiting) (s : State) : (sendBare m w s).viols = s.viols :=
  hush_viols (hush_sendBare m w s)
@[simp] theorem sendBare_net (m : Nat) (w : Waiting) (s : State) : (sendBare m w s).net = s.net :=
  hush_net (hush_sendBare m w s)
@[simp] theorem sendBare_rings (m : Nat) (w : Waiting) (s : State) : (sendBare m w s).rings = s.rings :=
  hush_rings (hush_sendBare m w s)
@[simp] theorem sendBare_spi (m : Nat) (w : Waiting) (s : State) : (sendBare m w s).spi = s.spi :=
  hush_spi (hush_sendBare m w s)
@[simp] theorem sendBare_locks (m : Nat) (w : Waiting) (s : State) : (sendBare m w s).locks = s.locks :=
  hush_locks (hush_sendBare m w s)
@[simp] theorem sendBare_lckForced (m : Nat) (w : Waiting) (s : State) : (sendBare m w s).lckForced = s.lckForced :=
  hush_lckForced (hush_sendBare m w s)
@[simp] theorem sendBare_sqs (m : Nat) (w : Waiting) (s : State) : (sendBare m w s).sqs = s.sqs :=
  hush_sqs (hush_sendBare m w s)
@[simp] theorem sendBare_repl (m : Nat) (w : Waiting) (s : State) : (sendBare m w s).repl = s.repl :=
  hush_repl (hush_sendBare m w s)
@[simp] theorem sendBare_tb (m : Nat) (w : Waiting) (s : State) : (sendBare m w s).tb = s.tb :=
  hush_tb (hush_sendBare m w s)
@[simp] theorem sendBare_gnss (m : Nat) (w : Waiting) (s : State) : (sendBare m w s).gnss = s.gnss :=
  hush_gnss (hush_sendBare m w s)
@[simp] theorem sendBare_corr (m : Nat) (w : Waiting) (s : State) : (sendBare m w s).corr = s.corr :=
  hush_corr (hush_sendBare m w s)
@[simp] theorem sendBare_bl (m : Nat) (w : Waiting) (s : State) : (sendBare m w s).bl = s.bl :=
  hush_bl (hush_sendBare m w s)
@[simp] theorem sendBare_rh (m : Nat) (w : Waiting) (s : State) : (sendBare m w s).rh = s.rh :=
  hush_rh (hush_sendBare m w s)
@[simp] theorem sendBare_mac (m : Nat) (w : Waiting) (s : State) : (sendBare m w s).mac = s.mac :=
  hush_mac (hush_sendBare m w s)
@[simp] theorem sendBare_ecl (m : Nat) (w : Waiting) (s : State) : (sendBare m w s).ecl = s.ecl :=
  hush_ecl (hush_sendBare m w s)
@[simp] theorem sendBare_trown (m : Nat) (w : Waiting) (s : State) : (sendBare m w s).trown = s.trown :=
  hush_trown (hush_sendBare m w s)
@[simp] theorem sendBare_dpown (m : Nat) (w : Waiting) (s : State) : (sendBare m w s).dpown = s.dpown :=
  hush_dpown (hush_sendBare m w s)
@[simp] theorem sendBare_vault (m : Nat) (w : Waiting) (s : State) : (sendBare m w s).vault = s.vault :=
  hush_vault (hush_sendBare m w s)
@[simp] theorem sendBare_can (m : Nat) (w : Waiting) (s : State) : (sendBare m w s).can = s.can :=
  hush_can (hush_sendBare m w s)
@[simp] theorem sendBare_pwr (m : Nat) (w : Waiting) (s : State) : (sendBare m w s).pwr = s.pwr :=
  hush_pwr (hush_sendBare m w s)
@[simp] theorem sendBare_modes (m : Nat) (w : Waiting) (s : State) : (sendBare m w s).modes = s.modes :=
  hush_modes (hush_sendBare m w s)
@[simp] theorem sendBare_pins (m : Nat) (w : Waiting) (s : State) : (sendBare m w s).pins = s.pins :=
  hush_pins (hush_sendBare m w s)
@[simp] theorem sendBare_banks (m : Nat) (w : Waiting) (s : State) : stillBanks (sendBare m w s).banks = stillBanks s.banks :=
  hush_banks (hush_sendBare m w s)
@[simp] theorem sendBare_comet (m : Nat) (w : Waiting) (s : State) : stillComet (sendBare m w s).comet = stillComet s.comet :=
  hush_comet (hush_sendBare m w s)

@[simp] theorem sendBare_pair (m : Nat) (w : Waiting) (s : State) : stillPair (sendBare m w s).pair = stillPair s.pair :=
  hush_pair (hush_sendBare m w s)

/-! ### What deliver leaves alone -/

@[simp] theorem deliver_pending (t : Gtc) (code src : Nat) (p : List Byte) (m : Nat) (s : State) : (deliver t code src p m s).pending = s.pending :=
  hush_pending (hush_deliver t code src p m s)
@[simp] theorem deliver_free (t : Gtc) (code src : Nat) (p : List Byte) (m : Nat) (s : State) : (deliver t code src p m s).free = s.free :=
  hush_free (hush_deliver t code src p m s)
@[simp] theorem deliver_clockStep (t : Gtc) (code src : Nat) (p : List Byte) (m : Nat) (s : State) : (deliver t code src p m s).clockStep = s.clockStep :=
  hush_clockStep (hush_deliver t code src p m s)
@[simp] theorem deliver_hellos (t : Gtc) (code src : Nat) (p : List Byte) (m : Nat) (s : State) : (deliver t code src p m s).hellos = s.hellos :=
  hush_hellos (hush_deliver t code src p m s)
@[simp] theorem deliver_viols (t : Gtc) (code src : Nat) (p : List Byte) (m : Nat) (s : State) : (deliver t code src p m s).viols = s.viols :=
  hush_viols (hush_deliver t code src p m s)
@[simp] theorem deliver_net (t : Gtc) (code src : Nat) (p : List Byte) (m : Nat) (s : State) : (deliver t code src p m s).net = s.net :=
  hush_net (hush_deliver t code src p m s)
@[simp] theorem deliver_rings (t : Gtc) (code src : Nat) (p : List Byte) (m : Nat) (s : State) : (deliver t code src p m s).rings = s.rings :=
  hush_rings (hush_deliver t code src p m s)
@[simp] theorem deliver_spi (t : Gtc) (code src : Nat) (p : List Byte) (m : Nat) (s : State) : (deliver t code src p m s).spi = s.spi :=
  hush_spi (hush_deliver t code src p m s)
@[simp] theorem deliver_locks (t : Gtc) (code src : Nat) (p : List Byte) (m : Nat) (s : State) : (deliver t code src p m s).locks = s.locks :=
  hush_locks (hush_deliver t code src p m s)
@[simp] theorem deliver_lckForced (t : Gtc) (code src : Nat) (p : List Byte) (m : Nat) (s : State) : (deliver t code src p m s).lckForced = s.lckForced :=
  hush_lckForced (hush_deliver t code src p m s)
@[simp] theorem deliver_sqs (t : Gtc) (code src : Nat) (p : List Byte) (m : Nat) (s : State) : (deliver t code src p m s).sqs = s.sqs :=
  hush_sqs (hush_deliver t code src p m s)
@[simp] theorem deliver_repl (t : Gtc) (code src : Nat) (p : List Byte) (m : Nat) (s : State) : (deliver t code src p m s).repl = s.repl :=
  hush_repl (hush_deliver t code src p m s)
@[simp] theorem deliver_tb (t : Gtc) (code src : Nat) (p : List Byte) (m : Nat) (s : State) : (deliver t code src p m s).tb = s.tb :=
  hush_tb (hush_deliver t code src p m s)
@[simp] theorem deliver_gnss (t : Gtc) (code src : Nat) (p : List Byte) (m : Nat) (s : State) : (deliver t code src p m s).gnss = s.gnss :=
  hush_gnss (hush_deliver t code src p m s)
@[simp] theorem deliver_corr (t : Gtc) (code src : Nat) (p : List Byte) (m : Nat) (s : State) : (deliver t code src p m s).corr = s.corr :=
  hush_corr (hush_deliver t code src p m s)
@[simp] theorem deliver_bl (t : Gtc) (code src : Nat) (p : List Byte) (m : Nat) (s : State) : (deliver t code src p m s).bl = s.bl :=
  hush_bl (hush_deliver t code src p m s)
@[simp] theorem deliver_rh (t : Gtc) (code src : Nat) (p : List Byte) (m : Nat) (s : State) : (deliver t code src p m s).rh = s.rh :=
  hush_rh (hush_deliver t code src p m s)
@[simp] theorem deliver_mac (t : Gtc) (code src : Nat) (p : List Byte) (m : Nat) (s : State) : (deliver t code src p m s).mac = s.mac :=
  hush_mac (hush_deliver t code src p m s)
@[simp] theorem deliver_ecl (t : Gtc) (code src : Nat) (p : List Byte) (m : Nat) (s : State) : (deliver t code src p m s).ecl = s.ecl :=
  hush_ecl (hush_deliver t code src p m s)
@[simp] theorem deliver_trown (t : Gtc) (code src : Nat) (p : List Byte) (m : Nat) (s : State) : (deliver t code src p m s).trown = s.trown :=
  hush_trown (hush_deliver t code src p m s)
@[simp] theorem deliver_dpown (t : Gtc) (code src : Nat) (p : List Byte) (m : Nat) (s : State) : (deliver t code src p m s).dpown = s.dpown :=
  hush_dpown (hush_deliver t code src p m s)
@[simp] theorem deliver_vault (t : Gtc) (code src : Nat) (p : List Byte) (m : Nat) (s : State) : (deliver t code src p m s).vault = s.vault :=
  hush_vault (hush_deliver t code src p m s)
@[simp] theorem deliver_can (t : Gtc) (code src : Nat) (p : List Byte) (m : Nat) (s : State) : (deliver t code src p m s).can = s.can :=
  hush_can (hush_deliver t code src p m s)
@[simp] theorem deliver_pwr (t : Gtc) (code src : Nat) (p : List Byte) (m : Nat) (s : State) : (deliver t code src p m s).pwr = s.pwr :=
  hush_pwr (hush_deliver t code src p m s)
@[simp] theorem deliver_modes (t : Gtc) (code src : Nat) (p : List Byte) (m : Nat) (s : State) : (deliver t code src p m s).modes = s.modes :=
  hush_modes (hush_deliver t code src p m s)
@[simp] theorem deliver_pins (t : Gtc) (code src : Nat) (p : List Byte) (m : Nat) (s : State) : (deliver t code src p m s).pins = s.pins :=
  hush_pins (hush_deliver t code src p m s)
@[simp] theorem deliver_banks (t : Gtc) (code src : Nat) (p : List Byte) (m : Nat) (s : State) : stillBanks (deliver t code src p m s).banks = stillBanks s.banks :=
  hush_banks (hush_deliver t code src p m s)
@[simp] theorem deliver_comet (t : Gtc) (code src : Nat) (p : List Byte) (m : Nat) (s : State) : stillComet (deliver t code src p m s).comet = stillComet s.comet :=
  hush_comet (hush_deliver t code src p m s)

/-! ### What postOut leaves alone -/

@[simp] theorem postOut_pending (m n : Nat) (ws : List Nat) (s : State) : (postOut m n ws s).pending = s.pending :=
  hush_pending (hush_postOut m n ws s)
@[simp] theorem postOut_free (m n : Nat) (ws : List Nat) (s : State) : (postOut m n ws s).free = s.free :=
  hush_free (hush_postOut m n ws s)
@[simp] theorem postOut_clockStep (m n : Nat) (ws : List Nat) (s : State) : (postOut m n ws s).clockStep = s.clockStep :=
  hush_clockStep (hush_postOut m n ws s)
@[simp] theorem postOut_hellos (m n : Nat) (ws : List Nat) (s : State) : (postOut m n ws s).hellos = s.hellos :=
  hush_hellos (hush_postOut m n ws s)
@[simp] theorem postOut_viols (m n : Nat) (ws : List Nat) (s : State) : (postOut m n ws s).viols = s.viols :=
  hush_viols (hush_postOut m n ws s)
@[simp] theorem postOut_net (m n : Nat) (ws : List Nat) (s : State) : (postOut m n ws s).net = s.net :=
  hush_net (hush_postOut m n ws s)
@[simp] theorem postOut_rings (m n : Nat) (ws : List Nat) (s : State) : (postOut m n ws s).rings = s.rings :=
  hush_rings (hush_postOut m n ws s)
@[simp] theorem postOut_spi (m n : Nat) (ws : List Nat) (s : State) : (postOut m n ws s).spi = s.spi :=
  hush_spi (hush_postOut m n ws s)
@[simp] theorem postOut_locks (m n : Nat) (ws : List Nat) (s : State) : (postOut m n ws s).locks = s.locks :=
  hush_locks (hush_postOut m n ws s)
@[simp] theorem postOut_lckForced (m n : Nat) (ws : List Nat) (s : State) : (postOut m n ws s).lckForced = s.lckForced :=
  hush_lckForced (hush_postOut m n ws s)
@[simp] theorem postOut_sqs (m n : Nat) (ws : List Nat) (s : State) : (postOut m n ws s).sqs = s.sqs :=
  hush_sqs (hush_postOut m n ws s)
@[simp] theorem postOut_repl (m n : Nat) (ws : List Nat) (s : State) : (postOut m n ws s).repl = s.repl :=
  hush_repl (hush_postOut m n ws s)
@[simp] theorem postOut_tb (m n : Nat) (ws : List Nat) (s : State) : (postOut m n ws s).tb = s.tb :=
  hush_tb (hush_postOut m n ws s)
@[simp] theorem postOut_gnss (m n : Nat) (ws : List Nat) (s : State) : (postOut m n ws s).gnss = s.gnss :=
  hush_gnss (hush_postOut m n ws s)
@[simp] theorem postOut_corr (m n : Nat) (ws : List Nat) (s : State) : (postOut m n ws s).corr = s.corr :=
  hush_corr (hush_postOut m n ws s)
@[simp] theorem postOut_bl (m n : Nat) (ws : List Nat) (s : State) : (postOut m n ws s).bl = s.bl :=
  hush_bl (hush_postOut m n ws s)
@[simp] theorem postOut_rh (m n : Nat) (ws : List Nat) (s : State) : (postOut m n ws s).rh = s.rh :=
  hush_rh (hush_postOut m n ws s)
@[simp] theorem postOut_mac (m n : Nat) (ws : List Nat) (s : State) : (postOut m n ws s).mac = s.mac :=
  hush_mac (hush_postOut m n ws s)
@[simp] theorem postOut_ecl (m n : Nat) (ws : List Nat) (s : State) : (postOut m n ws s).ecl = s.ecl :=
  hush_ecl (hush_postOut m n ws s)
@[simp] theorem postOut_trown (m n : Nat) (ws : List Nat) (s : State) : (postOut m n ws s).trown = s.trown :=
  hush_trown (hush_postOut m n ws s)
@[simp] theorem postOut_dpown (m n : Nat) (ws : List Nat) (s : State) : (postOut m n ws s).dpown = s.dpown :=
  hush_dpown (hush_postOut m n ws s)
@[simp] theorem postOut_vault (m n : Nat) (ws : List Nat) (s : State) : (postOut m n ws s).vault = s.vault :=
  hush_vault (hush_postOut m n ws s)
@[simp] theorem postOut_can (m n : Nat) (ws : List Nat) (s : State) : (postOut m n ws s).can = s.can :=
  hush_can (hush_postOut m n ws s)
@[simp] theorem postOut_pwr (m n : Nat) (ws : List Nat) (s : State) : (postOut m n ws s).pwr = s.pwr :=
  hush_pwr (hush_postOut m n ws s)
@[simp] theorem postOut_modes (m n : Nat) (ws : List Nat) (s : State) : (postOut m n ws s).modes = s.modes :=
  hush_modes (hush_postOut m n ws s)
@[simp] theorem postOut_pins (m n : Nat) (ws : List Nat) (s : State) : (postOut m n ws s).pins = s.pins :=
  hush_pins (hush_postOut m n ws s)
@[simp] theorem postOut_banks (m n : Nat) (ws : List Nat) (s : State) : stillBanks (postOut m n ws s).banks = stillBanks s.banks :=
  hush_banks (hush_postOut m n ws s)
@[simp] theorem postOut_comet (m n : Nat) (ws : List Nat) (s : State) : stillComet (postOut m n ws s).comet = stillComet s.comet :=
  hush_comet (hush_postOut m n ws s)

/-! ### What bareReply leaves alone -/

@[simp] theorem bareReply_pending (m : Nat) (w : Waiting) (s : State) : (bareReply m w s).pending = s.pending :=
  hush_pending (hush_bareReply m w s)
@[simp] theorem bareReply_free (m : Nat) (w : Waiting) (s : State) : (bareReply m w s).free = s.free :=
  hush_free (hush_bareReply m w s)
@[simp] theorem bareReply_clockStep (m : Nat) (w : Waiting) (s : State) : (bareReply m w s).clockStep = s.clockStep :=
  hush_clockStep (hush_bareReply m w s)
@[simp] theorem bareReply_hellos (m : Nat) (w : Waiting) (s : State) : (bareReply m w s).hellos = s.hellos :=
  hush_hellos (hush_bareReply m w s)
@[simp] theorem bareReply_viols (m : Nat) (w : Waiting) (s : State) : (bareReply m w s).viols = s.viols :=
  hush_viols (hush_bareReply m w s)
@[simp] theorem bareReply_net (m : Nat) (w : Waiting) (s : State) : (bareReply m w s).net = s.net :=
  hush_net (hush_bareReply m w s)
@[simp] theorem bareReply_rings (m : Nat) (w : Waiting) (s : State) : (bareReply m w s).rings = s.rings :=
  hush_rings (hush_bareReply m w s)
@[simp] theorem bareReply_spi (m : Nat) (w : Waiting) (s : State) : (bareReply m w s).spi = s.spi :=
  hush_spi (hush_bareReply m w s)
@[simp] theorem bareReply_locks (m : Nat) (w : Waiting) (s : State) : (bareReply m w s).locks = s.locks :=
  hush_locks (hush_bareReply m w s)
@[simp] theorem bareReply_lckForced (m : Nat) (w : Waiting) (s : State) : (bareReply m w s).lckForced = s.lckForced :=
  hush_lckForced (hush_bareReply m w s)
@[simp] theorem bareReply_sqs (m : Nat) (w : Waiting) (s : State) : (bareReply m w s).sqs = s.sqs :=
  hush_sqs (hush_bareReply m w s)
@[simp] theorem bareReply_repl (m : Nat) (w : Waiting) (s : State) : (bareReply m w s).repl = s.repl :=
  hush_repl (hush_bareReply m w s)
@[simp] theorem bareReply_tb (m : Nat) (w : Waiting) (s : State) : (bareReply m w s).tb = s.tb :=
  hush_tb (hush_bareReply m w s)
@[simp] theorem bareReply_gnss (m : Nat) (w : Waiting) (s : State) : (bareReply m w s).gnss = s.gnss :=
  hush_gnss (hush_bareReply m w s)
@[simp] theorem bareReply_corr (m : Nat) (w : Waiting) (s : State) : (bareReply m w s).corr = s.corr :=
  hush_corr (hush_bareReply m w s)
@[simp] theorem bareReply_bl (m : Nat) (w : Waiting) (s : State) : (bareReply m w s).bl = s.bl :=
  hush_bl (hush_bareReply m w s)
@[simp] theorem bareReply_rh (m : Nat) (w : Waiting) (s : State) : (bareReply m w s).rh = s.rh :=
  hush_rh (hush_bareReply m w s)
@[simp] theorem bareReply_mac (m : Nat) (w : Waiting) (s : State) : (bareReply m w s).mac = s.mac :=
  hush_mac (hush_bareReply m w s)
@[simp] theorem bareReply_ecl (m : Nat) (w : Waiting) (s : State) : (bareReply m w s).ecl = s.ecl :=
  hush_ecl (hush_bareReply m w s)
@[simp] theorem bareReply_trown (m : Nat) (w : Waiting) (s : State) : (bareReply m w s).trown = s.trown :=
  hush_trown (hush_bareReply m w s)
@[simp] theorem bareReply_dpown (m : Nat) (w : Waiting) (s : State) : (bareReply m w s).dpown = s.dpown :=
  hush_dpown (hush_bareReply m w s)
@[simp] theorem bareReply_vault (m : Nat) (w : Waiting) (s : State) : (bareReply m w s).vault = s.vault :=
  hush_vault (hush_bareReply m w s)
@[simp] theorem bareReply_can (m : Nat) (w : Waiting) (s : State) : (bareReply m w s).can = s.can :=
  hush_can (hush_bareReply m w s)
@[simp] theorem bareReply_pwr (m : Nat) (w : Waiting) (s : State) : (bareReply m w s).pwr = s.pwr :=
  hush_pwr (hush_bareReply m w s)
@[simp] theorem bareReply_modes (m : Nat) (w : Waiting) (s : State) : (bareReply m w s).modes = s.modes :=
  hush_modes (hush_bareReply m w s)
@[simp] theorem bareReply_pins (m : Nat) (w : Waiting) (s : State) : (bareReply m w s).pins = s.pins :=
  hush_pins (hush_bareReply m w s)
@[simp] theorem bareReply_banks (m : Nat) (w : Waiting) (s : State) : stillBanks (bareReply m w s).banks = stillBanks s.banks :=
  hush_banks (hush_bareReply m w s)
@[simp] theorem bareReply_comet (m : Nat) (w : Waiting) (s : State) : stillComet (bareReply m w s).comet = stillComet s.comet :=
  hush_comet (hush_bareReply m w s)

@[simp] theorem bareReply_pair (m : Nat) (w : Waiting) (s : State) : stillPair (bareReply m w s).pair = stillPair s.pair :=
  hush_pair (hush_bareReply m w s)

/-! ### What sendReply leaves alone -/

@[simp] theorem sendReply_pending (m : Nat) (via : Via) (ws : List Waiting) (s : State) : (sendReply m via ws s).pending = s.pending :=
  hush_pending (hush_sendReply m via ws s)
@[simp] theorem sendReply_free (m : Nat) (via : Via) (ws : List Waiting) (s : State) : (sendReply m via ws s).free = s.free :=
  hush_free (hush_sendReply m via ws s)
@[simp] theorem sendReply_clockStep (m : Nat) (via : Via) (ws : List Waiting) (s : State) : (sendReply m via ws s).clockStep = s.clockStep :=
  hush_clockStep (hush_sendReply m via ws s)
@[simp] theorem sendReply_hellos (m : Nat) (via : Via) (ws : List Waiting) (s : State) : (sendReply m via ws s).hellos = s.hellos :=
  hush_hellos (hush_sendReply m via ws s)
@[simp] theorem sendReply_viols (m : Nat) (via : Via) (ws : List Waiting) (s : State) : (sendReply m via ws s).viols = s.viols :=
  hush_viols (hush_sendReply m via ws s)
@[simp] theorem sendReply_net (m : Nat) (via : Via) (ws : List Waiting) (s : State) : (sendReply m via ws s).net = s.net :=
  hush_net (hush_sendReply m via ws s)
@[simp] theorem sendReply_rings (m : Nat) (via : Via) (ws : List Waiting) (s : State) : (sendReply m via ws s).rings = s.rings :=
  hush_rings (hush_sendReply m via ws s)
@[simp] theorem sendReply_spi (m : Nat) (via : Via) (ws : List Waiting) (s : State) : (sendReply m via ws s).spi = s.spi :=
  hush_spi (hush_sendReply m via ws s)
@[simp] theorem sendReply_locks (m : Nat) (via : Via) (ws : List Waiting) (s : State) : (sendReply m via ws s).locks = s.locks :=
  hush_locks (hush_sendReply m via ws s)
@[simp] theorem sendReply_lckForced (m : Nat) (via : Via) (ws : List Waiting) (s : State) : (sendReply m via ws s).lckForced = s.lckForced :=
  hush_lckForced (hush_sendReply m via ws s)
@[simp] theorem sendReply_sqs (m : Nat) (via : Via) (ws : List Waiting) (s : State) : (sendReply m via ws s).sqs = s.sqs :=
  hush_sqs (hush_sendReply m via ws s)
@[simp] theorem sendReply_repl (m : Nat) (via : Via) (ws : List Waiting) (s : State) : (sendReply m via ws s).repl = s.repl :=
  hush_repl (hush_sendReply m via ws s)
@[simp] theorem sendReply_tb (m : Nat) (via : Via) (ws : List Waiting) (s : State) : (sendReply m via ws s).tb = s.tb :=
  hush_tb (hush_sendReply m via ws s)
@[simp] theorem sendReply_gnss (m : Nat) (via : Via) (ws : List Waiting) (s : State) : (sendReply m via ws s).gnss = s.gnss :=
  hush_gnss (hush_sendReply m via ws s)
@[simp] theorem sendReply_corr (m : Nat) (via : Via) (ws : List Waiting) (s : State) : (sendReply m via ws s).corr = s.corr :=
  hush_corr (hush_sendReply m via ws s)
@[simp] theorem sendReply_bl (m : Nat) (via : Via) (ws : List Waiting) (s : State) : (sendReply m via ws s).bl = s.bl :=
  hush_bl (hush_sendReply m via ws s)
@[simp] theorem sendReply_rh (m : Nat) (via : Via) (ws : List Waiting) (s : State) : (sendReply m via ws s).rh = s.rh :=
  hush_rh (hush_sendReply m via ws s)
@[simp] theorem sendReply_mac (m : Nat) (via : Via) (ws : List Waiting) (s : State) : (sendReply m via ws s).mac = s.mac :=
  hush_mac (hush_sendReply m via ws s)
@[simp] theorem sendReply_ecl (m : Nat) (via : Via) (ws : List Waiting) (s : State) : (sendReply m via ws s).ecl = s.ecl :=
  hush_ecl (hush_sendReply m via ws s)
@[simp] theorem sendReply_trown (m : Nat) (via : Via) (ws : List Waiting) (s : State) : (sendReply m via ws s).trown = s.trown :=
  hush_trown (hush_sendReply m via ws s)
@[simp] theorem sendReply_dpown (m : Nat) (via : Via) (ws : List Waiting) (s : State) : (sendReply m via ws s).dpown = s.dpown :=
  hush_dpown (hush_sendReply m via ws s)
@[simp] theorem sendReply_vault (m : Nat) (via : Via) (ws : List Waiting) (s : State) : (sendReply m via ws s).vault = s.vault :=
  hush_vault (hush_sendReply m via ws s)
@[simp] theorem sendReply_can (m : Nat) (via : Via) (ws : List Waiting) (s : State) : (sendReply m via ws s).can = s.can :=
  hush_can (hush_sendReply m via ws s)
@[simp] theorem sendReply_pwr (m : Nat) (via : Via) (ws : List Waiting) (s : State) : (sendReply m via ws s).pwr = s.pwr :=
  hush_pwr (hush_sendReply m via ws s)
@[simp] theorem sendReply_modes (m : Nat) (via : Via) (ws : List Waiting) (s : State) : (sendReply m via ws s).modes = s.modes :=
  hush_modes (hush_sendReply m via ws s)
@[simp] theorem sendReply_pins (m : Nat) (via : Via) (ws : List Waiting) (s : State) : (sendReply m via ws s).pins = s.pins :=
  hush_pins (hush_sendReply m via ws s)
@[simp] theorem sendReply_banks (m : Nat) (via : Via) (ws : List Waiting) (s : State) : stillBanks (sendReply m via ws s).banks = stillBanks s.banks :=
  hush_banks (hush_sendReply m via ws s)
@[simp] theorem sendReply_comet (m : Nat) (via : Via) (ws : List Waiting) (s : State) : stillComet (sendReply m via ws s).comet = stillComet s.comet :=
  hush_comet (hush_sendReply m via ws s)

@[simp] theorem sendReply_pair (m : Nat) (via : Via) (ws : List Waiting) (s : State) : stillPair (sendReply m via ws s).pair = stillPair s.pair :=
  hush_pair (hush_sendReply m via ws s)

/-! ### What cometOffer leaves alone -/

@[simp] theorem cometOffer_pending (id src : Nat) (p : List Byte) (s : State) : (cometOffer id src p s).pending = s.pending :=
  hush_pending (hush_cometOffer id src p s)
@[simp] theorem cometOffer_free (id src : Nat) (p : List Byte) (s : State) : (cometOffer id src p s).free = s.free :=
  hush_free (hush_cometOffer id src p s)
@[simp] theorem cometOffer_clockStep (id src : Nat) (p : List Byte) (s : State) : (cometOffer id src p s).clockStep = s.clockStep :=
  hush_clockStep (hush_cometOffer id src p s)
@[simp] theorem cometOffer_hellos (id src : Nat) (p : List Byte) (s : State) : (cometOffer id src p s).hellos = s.hellos :=
  hush_hellos (hush_cometOffer id src p s)
@[simp] theorem cometOffer_viols (id src : Nat) (p : List Byte) (s : State) : (cometOffer id src p s).viols = s.viols :=
  hush_viols (hush_cometOffer id src p s)
@[simp] theorem cometOffer_net (id src : Nat) (p : List Byte) (s : State) : (cometOffer id src p s).net = s.net :=
  hush_net (hush_cometOffer id src p s)
@[simp] theorem cometOffer_rings (id src : Nat) (p : List Byte) (s : State) : (cometOffer id src p s).rings = s.rings :=
  hush_rings (hush_cometOffer id src p s)
@[simp] theorem cometOffer_spi (id src : Nat) (p : List Byte) (s : State) : (cometOffer id src p s).spi = s.spi :=
  hush_spi (hush_cometOffer id src p s)
@[simp] theorem cometOffer_locks (id src : Nat) (p : List Byte) (s : State) : (cometOffer id src p s).locks = s.locks :=
  hush_locks (hush_cometOffer id src p s)
@[simp] theorem cometOffer_lckForced (id src : Nat) (p : List Byte) (s : State) : (cometOffer id src p s).lckForced = s.lckForced :=
  hush_lckForced (hush_cometOffer id src p s)
@[simp] theorem cometOffer_sqs (id src : Nat) (p : List Byte) (s : State) : (cometOffer id src p s).sqs = s.sqs :=
  hush_sqs (hush_cometOffer id src p s)
@[simp] theorem cometOffer_repl (id src : Nat) (p : List Byte) (s : State) : (cometOffer id src p s).repl = s.repl :=
  hush_repl (hush_cometOffer id src p s)
@[simp] theorem cometOffer_tb (id src : Nat) (p : List Byte) (s : State) : (cometOffer id src p s).tb = s.tb :=
  hush_tb (hush_cometOffer id src p s)
@[simp] theorem cometOffer_gnss (id src : Nat) (p : List Byte) (s : State) : (cometOffer id src p s).gnss = s.gnss :=
  hush_gnss (hush_cometOffer id src p s)
@[simp] theorem cometOffer_corr (id src : Nat) (p : List Byte) (s : State) : (cometOffer id src p s).corr = s.corr :=
  hush_corr (hush_cometOffer id src p s)
@[simp] theorem cometOffer_bl (id src : Nat) (p : List Byte) (s : State) : (cometOffer id src p s).bl = s.bl :=
  hush_bl (hush_cometOffer id src p s)
@[simp] theorem cometOffer_rh (id src : Nat) (p : List Byte) (s : State) : (cometOffer id src p s).rh = s.rh :=
  hush_rh (hush_cometOffer id src p s)
@[simp] theorem cometOffer_mac (id src : Nat) (p : List Byte) (s : State) : (cometOffer id src p s).mac = s.mac :=
  hush_mac (hush_cometOffer id src p s)
@[simp] theorem cometOffer_ecl (id src : Nat) (p : List Byte) (s : State) : (cometOffer id src p s).ecl = s.ecl :=
  hush_ecl (hush_cometOffer id src p s)
@[simp] theorem cometOffer_trown (id src : Nat) (p : List Byte) (s : State) : (cometOffer id src p s).trown = s.trown :=
  hush_trown (hush_cometOffer id src p s)
@[simp] theorem cometOffer_dpown (id src : Nat) (p : List Byte) (s : State) : (cometOffer id src p s).dpown = s.dpown :=
  hush_dpown (hush_cometOffer id src p s)
@[simp] theorem cometOffer_vault (id src : Nat) (p : List Byte) (s : State) : (cometOffer id src p s).vault = s.vault :=
  hush_vault (hush_cometOffer id src p s)
@[simp] theorem cometOffer_can (id src : Nat) (p : List Byte) (s : State) : (cometOffer id src p s).can = s.can :=
  hush_can (hush_cometOffer id src p s)
@[simp] theorem cometOffer_pwr (id src : Nat) (p : List Byte) (s : State) : (cometOffer id src p s).pwr = s.pwr :=
  hush_pwr (hush_cometOffer id src p s)
@[simp] theorem cometOffer_modes (id src : Nat) (p : List Byte) (s : State) : (cometOffer id src p s).modes = s.modes :=
  hush_modes (hush_cometOffer id src p s)
@[simp] theorem cometOffer_pins (id src : Nat) (p : List Byte) (s : State) : (cometOffer id src p s).pins = s.pins :=
  hush_pins (hush_cometOffer id src p s)
@[simp] theorem cometOffer_banks (id src : Nat) (p : List Byte) (s : State) : stillBanks (cometOffer id src p s).banks = stillBanks s.banks :=
  hush_banks (hush_cometOffer id src p s)
@[simp] theorem cometOffer_comet (id src : Nat) (p : List Byte) (s : State) : stillComet (cometOffer id src p s).comet = stillComet s.comet :=
  hush_comet (hush_cometOffer id src p s)

/-! ### What emitAt leaves alone -/

@[simp] theorem emitAt_pending (t : Gtc) (code src : Nat) (p : List Byte) (s : State) : (emitAt t code src p s).pending = s.pending :=
  hush_pending (hush_emitAt t code src p s)
@[simp] theorem emitAt_free (t : Gtc) (code src : Nat) (p : List Byte) (s : State) : (emitAt t code src p s).free = s.free :=
  hush_free (hush_emitAt t code src p s)
@[simp] theorem emitAt_clockStep (t : Gtc) (code src : Nat) (p : List Byte) (s : State) : (emitAt t code src p s).clockStep = s.clockStep :=
  hush_clockStep (hush_emitAt t code src p s)
@[simp] theorem emitAt_hellos (t : Gtc) (code src : Nat) (p : List Byte) (s : State) : (emitAt t code src p s).hellos = s.hellos :=
  hush_hellos (hush_emitAt t code src p s)
@[simp] theorem emitAt_viols (t : Gtc) (code src : Nat) (p : List Byte) (s : State) : (emitAt t code src p s).viols = s.viols :=
  hush_viols (hush_emitAt t code src p s)
@[simp] theorem emitAt_net (t : Gtc) (code src : Nat) (p : List Byte) (s : State) : (emitAt t code src p s).net = s.net :=
  hush_net (hush_emitAt t code src p s)
@[simp] theorem emitAt_rings (t : Gtc) (code src : Nat) (p : List Byte) (s : State) : (emitAt t code src p s).rings = s.rings :=
  hush_rings (hush_emitAt t code src p s)
@[simp] theorem emitAt_spi (t : Gtc) (code src : Nat) (p : List Byte) (s : State) : (emitAt t code src p s).spi = s.spi :=
  hush_spi (hush_emitAt t code src p s)
@[simp] theorem emitAt_locks (t : Gtc) (code src : Nat) (p : List Byte) (s : State) : (emitAt t code src p s).locks = s.locks :=
  hush_locks (hush_emitAt t code src p s)
@[simp] theorem emitAt_lckForced (t : Gtc) (code src : Nat) (p : List Byte) (s : State) : (emitAt t code src p s).lckForced = s.lckForced :=
  hush_lckForced (hush_emitAt t code src p s)
@[simp] theorem emitAt_sqs (t : Gtc) (code src : Nat) (p : List Byte) (s : State) : (emitAt t code src p s).sqs = s.sqs :=
  hush_sqs (hush_emitAt t code src p s)
@[simp] theorem emitAt_repl (t : Gtc) (code src : Nat) (p : List Byte) (s : State) : (emitAt t code src p s).repl = s.repl :=
  hush_repl (hush_emitAt t code src p s)
@[simp] theorem emitAt_tb (t : Gtc) (code src : Nat) (p : List Byte) (s : State) : (emitAt t code src p s).tb = s.tb :=
  hush_tb (hush_emitAt t code src p s)
@[simp] theorem emitAt_gnss (t : Gtc) (code src : Nat) (p : List Byte) (s : State) : (emitAt t code src p s).gnss = s.gnss :=
  hush_gnss (hush_emitAt t code src p s)
@[simp] theorem emitAt_corr (t : Gtc) (code src : Nat) (p : List Byte) (s : State) : (emitAt t code src p s).corr = s.corr :=
  hush_corr (hush_emitAt t code src p s)
@[simp] theorem emitAt_bl (t : Gtc) (code src : Nat) (p : List Byte) (s : State) : (emitAt t code src p s).bl = s.bl :=
  hush_bl (hush_emitAt t code src p s)
@[simp] theorem emitAt_rh (t : Gtc) (code src : Nat) (p : List Byte) (s : State) : (emitAt t code src p s).rh = s.rh :=
  hush_rh (hush_emitAt t code src p s)
@[simp] theorem emitAt_mac (t : Gtc) (code src : Nat) (p : List Byte) (s : State) : (emitAt t code src p s).mac = s.mac :=
  hush_mac (hush_emitAt t code src p s)
@[simp] theorem emitAt_ecl (t : Gtc) (code src : Nat) (p : List Byte) (s : State) : (emitAt t code src p s).ecl = s.ecl :=
  hush_ecl (hush_emitAt t code src p s)
@[simp] theorem emitAt_trown (t : Gtc) (code src : Nat) (p : List Byte) (s : State) : (emitAt t code src p s).trown = s.trown :=
  hush_trown (hush_emitAt t code src p s)
@[simp] theorem emitAt_dpown (t : Gtc) (code src : Nat) (p : List Byte) (s : State) : (emitAt t code src p s).dpown = s.dpown :=
  hush_dpown (hush_emitAt t code src p s)
@[simp] theorem emitAt_vault (t : Gtc) (code src : Nat) (p : List Byte) (s : State) : (emitAt t code src p s).vault = s.vault :=
  hush_vault (hush_emitAt t code src p s)
@[simp] theorem emitAt_can (t : Gtc) (code src : Nat) (p : List Byte) (s : State) : (emitAt t code src p s).can = s.can :=
  hush_can (hush_emitAt t code src p s)
@[simp] theorem emitAt_pwr (t : Gtc) (code src : Nat) (p : List Byte) (s : State) : (emitAt t code src p s).pwr = s.pwr :=
  hush_pwr (hush_emitAt t code src p s)
@[simp] theorem emitAt_modes (t : Gtc) (code src : Nat) (p : List Byte) (s : State) : (emitAt t code src p s).modes = s.modes :=
  hush_modes (hush_emitAt t code src p s)
@[simp] theorem emitAt_pins (t : Gtc) (code src : Nat) (p : List Byte) (s : State) : (emitAt t code src p s).pins = s.pins :=
  hush_pins (hush_emitAt t code src p s)
@[simp] theorem emitAt_banks (t : Gtc) (code src : Nat) (p : List Byte) (s : State) : stillBanks (emitAt t code src p s).banks = stillBanks s.banks :=
  hush_banks (hush_emitAt t code src p s)
@[simp] theorem emitAt_comet (t : Gtc) (code src : Nat) (p : List Byte) (s : State) : stillComet (emitAt t code src p s).comet = stillComet s.comet :=
  hush_comet (hush_emitAt t code src p s)

/-! ### What emit leaves alone -/

@[simp] theorem emit_pending (code src : Nat) (p : List Byte) (s : State) : (emit code src p s).pending = s.pending :=
  hush_pending (hush_emit code src p s)
@[simp] theorem emit_free (code src : Nat) (p : List Byte) (s : State) : (emit code src p s).free = s.free :=
  hush_free (hush_emit code src p s)
@[simp] theorem emit_clockStep (code src : Nat) (p : List Byte) (s : State) : (emit code src p s).clockStep = s.clockStep :=
  hush_clockStep (hush_emit code src p s)
@[simp] theorem emit_hellos (code src : Nat) (p : List Byte) (s : State) : (emit code src p s).hellos = s.hellos :=
  hush_hellos (hush_emit code src p s)
@[simp] theorem emit_viols (code src : Nat) (p : List Byte) (s : State) : (emit code src p s).viols = s.viols :=
  hush_viols (hush_emit code src p s)
@[simp] theorem emit_net (code src : Nat) (p : List Byte) (s : State) : (emit code src p s).net = s.net :=
  hush_net (hush_emit code src p s)
@[simp] theorem emit_rings (code src : Nat) (p : List Byte) (s : State) : (emit code src p s).rings = s.rings :=
  hush_rings (hush_emit code src p s)
@[simp] theorem emit_spi (code src : Nat) (p : List Byte) (s : State) : (emit code src p s).spi = s.spi :=
  hush_spi (hush_emit code src p s)
@[simp] theorem emit_locks (code src : Nat) (p : List Byte) (s : State) : (emit code src p s).locks = s.locks :=
  hush_locks (hush_emit code src p s)
@[simp] theorem emit_lckForced (code src : Nat) (p : List Byte) (s : State) : (emit code src p s).lckForced = s.lckForced :=
  hush_lckForced (hush_emit code src p s)
@[simp] theorem emit_sqs (code src : Nat) (p : List Byte) (s : State) : (emit code src p s).sqs = s.sqs :=
  hush_sqs (hush_emit code src p s)
@[simp] theorem emit_repl (code src : Nat) (p : List Byte) (s : State) : (emit code src p s).repl = s.repl :=
  hush_repl (hush_emit code src p s)
@[simp] theorem emit_tb (code src : Nat) (p : List Byte) (s : State) : (emit code src p s).tb = s.tb :=
  hush_tb (hush_emit code src p s)
@[simp] theorem emit_gnss (code src : Nat) (p : List Byte) (s : State) : (emit code src p s).gnss = s.gnss :=
  hush_gnss (hush_emit code src p s)
@[simp] theorem emit_corr (code src : Nat) (p : List Byte) (s : State) : (emit code src p s).corr = s.corr :=
  hush_corr (hush_emit code src p s)
@[simp] theorem emit_bl (code src : Nat) (p : List Byte) (s : State) : (emit code src p s).bl = s.bl :=
  hush_bl (hush_emit code src p s)
@[simp] theorem emit_rh (code src : Nat) (p : List Byte) (s : State) : (emit code src p s).rh = s.rh :=
  hush_rh (hush_emit code src p s)
@[simp] theorem emit_mac (code src : Nat) (p : List Byte) (s : State) : (emit code src p s).mac = s.mac :=
  hush_mac (hush_emit code src p s)
@[simp] theorem emit_ecl (code src : Nat) (p : List Byte) (s : State) : (emit code src p s).ecl = s.ecl :=
  hush_ecl (hush_emit code src p s)
@[simp] theorem emit_trown (code src : Nat) (p : List Byte) (s : State) : (emit code src p s).trown = s.trown :=
  hush_trown (hush_emit code src p s)
@[simp] theorem emit_dpown (code src : Nat) (p : List Byte) (s : State) : (emit code src p s).dpown = s.dpown :=
  hush_dpown (hush_emit code src p s)
@[simp] theorem emit_vault (code src : Nat) (p : List Byte) (s : State) : (emit code src p s).vault = s.vault :=
  hush_vault (hush_emit code src p s)
@[simp] theorem emit_can (code src : Nat) (p : List Byte) (s : State) : (emit code src p s).can = s.can :=
  hush_can (hush_emit code src p s)
@[simp] theorem emit_pwr (code src : Nat) (p : List Byte) (s : State) : (emit code src p s).pwr = s.pwr :=
  hush_pwr (hush_emit code src p s)
@[simp] theorem emit_modes (code src : Nat) (p : List Byte) (s : State) : (emit code src p s).modes = s.modes :=
  hush_modes (hush_emit code src p s)
@[simp] theorem emit_pins (code src : Nat) (p : List Byte) (s : State) : (emit code src p s).pins = s.pins :=
  hush_pins (hush_emit code src p s)
@[simp] theorem emit_banks (code src : Nat) (p : List Byte) (s : State) : stillBanks (emit code src p s).banks = stillBanks s.banks :=
  hush_banks (hush_emit code src p s)
@[simp] theorem emit_comet (code src : Nat) (p : List Byte) (s : State) : stillComet (emit code src p s).comet = stillComet s.comet :=
  hush_comet (hush_emit code src p s)

/-! ### What emitExcept leaves alone -/

@[simp] theorem emitExcept_pending (m0 code src : Nat) (p : List Byte) (s : State) : (emitExcept m0 code src p s).pending = s.pending :=
  hush_pending (hush_emitExcept m0 code src p s)
@[simp] theorem emitExcept_free (m0 code src : Nat) (p : List Byte) (s : State) : (emitExcept m0 code src p s).free = s.free :=
  hush_free (hush_emitExcept m0 code src p s)
@[simp] theorem emitExcept_clockStep (m0 code src : Nat) (p : List Byte) (s : State) : (emitExcept m0 code src p s).clockStep = s.clockStep :=
  hush_clockStep (hush_emitExcept m0 code src p s)
@[simp] theorem emitExcept_hellos (m0 code src : Nat) (p : List Byte) (s : State) : (emitExcept m0 code src p s).hellos = s.hellos :=
  hush_hellos (hush_emitExcept m0 code src p s)
@[simp] theorem emitExcept_viols (m0 code src : Nat) (p : List Byte) (s : State) : (emitExcept m0 code src p s).viols = s.viols :=
  hush_viols (hush_emitExcept m0 code src p s)
@[simp] theorem emitExcept_net (m0 code src : Nat) (p : List Byte) (s : State) : (emitExcept m0 code src p s).net = s.net :=
  hush_net (hush_emitExcept m0 code src p s)
@[simp] theorem emitExcept_rings (m0 code src : Nat) (p : List Byte) (s : State) : (emitExcept m0 code src p s).rings = s.rings :=
  hush_rings (hush_emitExcept m0 code src p s)
@[simp] theorem emitExcept_spi (m0 code src : Nat) (p : List Byte) (s : State) : (emitExcept m0 code src p s).spi = s.spi :=
  hush_spi (hush_emitExcept m0 code src p s)
@[simp] theorem emitExcept_locks (m0 code src : Nat) (p : List Byte) (s : State) : (emitExcept m0 code src p s).locks = s.locks :=
  hush_locks (hush_emitExcept m0 code src p s)
@[simp] theorem emitExcept_lckForced (m0 code src : Nat) (p : List Byte) (s : State) : (emitExcept m0 code src p s).lckForced = s.lckForced :=
  hush_lckForced (hush_emitExcept m0 code src p s)
@[simp] theorem emitExcept_sqs (m0 code src : Nat) (p : List Byte) (s : State) : (emitExcept m0 code src p s).sqs = s.sqs :=
  hush_sqs (hush_emitExcept m0 code src p s)
@[simp] theorem emitExcept_repl (m0 code src : Nat) (p : List Byte) (s : State) : (emitExcept m0 code src p s).repl = s.repl :=
  hush_repl (hush_emitExcept m0 code src p s)
@[simp] theorem emitExcept_tb (m0 code src : Nat) (p : List Byte) (s : State) : (emitExcept m0 code src p s).tb = s.tb :=
  hush_tb (hush_emitExcept m0 code src p s)
@[simp] theorem emitExcept_gnss (m0 code src : Nat) (p : List Byte) (s : State) : (emitExcept m0 code src p s).gnss = s.gnss :=
  hush_gnss (hush_emitExcept m0 code src p s)
@[simp] theorem emitExcept_corr (m0 code src : Nat) (p : List Byte) (s : State) : (emitExcept m0 code src p s).corr = s.corr :=
  hush_corr (hush_emitExcept m0 code src p s)
@[simp] theorem emitExcept_bl (m0 code src : Nat) (p : List Byte) (s : State) : (emitExcept m0 code src p s).bl = s.bl :=
  hush_bl (hush_emitExcept m0 code src p s)
@[simp] theorem emitExcept_rh (m0 code src : Nat) (p : List Byte) (s : State) : (emitExcept m0 code src p s).rh = s.rh :=
  hush_rh (hush_emitExcept m0 code src p s)
@[simp] theorem emitExcept_mac (m0 code src : Nat) (p : List Byte) (s : State) : (emitExcept m0 code src p s).mac = s.mac :=
  hush_mac (hush_emitExcept m0 code src p s)
@[simp] theorem emitExcept_ecl (m0 code src : Nat) (p : List Byte) (s : State) : (emitExcept m0 code src p s).ecl = s.ecl :=
  hush_ecl (hush_emitExcept m0 code src p s)
@[simp] theorem emitExcept_trown (m0 code src : Nat) (p : List Byte) (s : State) : (emitExcept m0 code src p s).trown = s.trown :=
  hush_trown (hush_emitExcept m0 code src p s)
@[simp] theorem emitExcept_dpown (m0 code src : Nat) (p : List Byte) (s : State) : (emitExcept m0 code src p s).dpown = s.dpown :=
  hush_dpown (hush_emitExcept m0 code src p s)
@[simp] theorem emitExcept_vault (m0 code src : Nat) (p : List Byte) (s : State) : (emitExcept m0 code src p s).vault = s.vault :=
  hush_vault (hush_emitExcept m0 code src p s)
@[simp] theorem emitExcept_can (m0 code src : Nat) (p : List Byte) (s : State) : (emitExcept m0 code src p s).can = s.can :=
  hush_can (hush_emitExcept m0 code src p s)
@[simp] theorem emitExcept_pwr (m0 code src : Nat) (p : List Byte) (s : State) : (emitExcept m0 code src p s).pwr = s.pwr :=
  hush_pwr (hush_emitExcept m0 code src p s)
@[simp] theorem emitExcept_modes (m0 code src : Nat) (p : List Byte) (s : State) : (emitExcept m0 code src p s).modes = s.modes :=
  hush_modes (hush_emitExcept m0 code src p s)
@[simp] theorem emitExcept_pins (m0 code src : Nat) (p : List Byte) (s : State) : (emitExcept m0 code src p s).pins = s.pins :=
  hush_pins (hush_emitExcept m0 code src p s)
@[simp] theorem emitExcept_banks (m0 code src : Nat) (p : List Byte) (s : State) : stillBanks (emitExcept m0 code src p s).banks = stillBanks s.banks :=
  hush_banks (hush_emitExcept m0 code src p s)
@[simp] theorem emitExcept_comet (m0 code src : Nat) (p : List Byte) (s : State) : stillComet (emitExcept m0 code src p s).comet = stillComet s.comet :=
  hush_comet (hush_emitExcept m0 code src p s)

/-! ### What policyLimit leaves alone -/

@[simp] theorem policyLimit_pending (src loop inst side qty : Nat) (fence want : Int) (s : State) : (policyLimit src loop inst side qty fence want s).pending = s.pending :=
  hush_pending (hush_policyLimit src loop inst side qty fence want s)
@[simp] theorem policyLimit_free (src loop inst side qty : Nat) (fence want : Int) (s : State) : (policyLimit src loop inst side qty fence want s).free = s.free :=
  hush_free (hush_policyLimit src loop inst side qty fence want s)
@[simp] theorem policyLimit_clockStep (src loop inst side qty : Nat) (fence want : Int) (s : State) : (policyLimit src loop inst side qty fence want s).clockStep = s.clockStep :=
  hush_clockStep (hush_policyLimit src loop inst side qty fence want s)
@[simp] theorem policyLimit_hellos (src loop inst side qty : Nat) (fence want : Int) (s : State) : (policyLimit src loop inst side qty fence want s).hellos = s.hellos :=
  hush_hellos (hush_policyLimit src loop inst side qty fence want s)
@[simp] theorem policyLimit_viols (src loop inst side qty : Nat) (fence want : Int) (s : State) : (policyLimit src loop inst side qty fence want s).viols = s.viols :=
  hush_viols (hush_policyLimit src loop inst side qty fence want s)
@[simp] theorem policyLimit_net (src loop inst side qty : Nat) (fence want : Int) (s : State) : (policyLimit src loop inst side qty fence want s).net = s.net :=
  hush_net (hush_policyLimit src loop inst side qty fence want s)
@[simp] theorem policyLimit_rings (src loop inst side qty : Nat) (fence want : Int) (s : State) : (policyLimit src loop inst side qty fence want s).rings = s.rings :=
  hush_rings (hush_policyLimit src loop inst side qty fence want s)
@[simp] theorem policyLimit_spi (src loop inst side qty : Nat) (fence want : Int) (s : State) : (policyLimit src loop inst side qty fence want s).spi = s.spi :=
  hush_spi (hush_policyLimit src loop inst side qty fence want s)
@[simp] theorem policyLimit_locks (src loop inst side qty : Nat) (fence want : Int) (s : State) : (policyLimit src loop inst side qty fence want s).locks = s.locks :=
  hush_locks (hush_policyLimit src loop inst side qty fence want s)
@[simp] theorem policyLimit_lckForced (src loop inst side qty : Nat) (fence want : Int) (s : State) : (policyLimit src loop inst side qty fence want s).lckForced = s.lckForced :=
  hush_lckForced (hush_policyLimit src loop inst side qty fence want s)
@[simp] theorem policyLimit_sqs (src loop inst side qty : Nat) (fence want : Int) (s : State) : (policyLimit src loop inst side qty fence want s).sqs = s.sqs :=
  hush_sqs (hush_policyLimit src loop inst side qty fence want s)
@[simp] theorem policyLimit_repl (src loop inst side qty : Nat) (fence want : Int) (s : State) : (policyLimit src loop inst side qty fence want s).repl = s.repl :=
  hush_repl (hush_policyLimit src loop inst side qty fence want s)
@[simp] theorem policyLimit_tb (src loop inst side qty : Nat) (fence want : Int) (s : State) : (policyLimit src loop inst side qty fence want s).tb = s.tb :=
  hush_tb (hush_policyLimit src loop inst side qty fence want s)
@[simp] theorem policyLimit_gnss (src loop inst side qty : Nat) (fence want : Int) (s : State) : (policyLimit src loop inst side qty fence want s).gnss = s.gnss :=
  hush_gnss (hush_policyLimit src loop inst side qty fence want s)
@[simp] theorem policyLimit_corr (src loop inst side qty : Nat) (fence want : Int) (s : State) : (policyLimit src loop inst side qty fence want s).corr = s.corr :=
  hush_corr (hush_policyLimit src loop inst side qty fence want s)
@[simp] theorem policyLimit_bl (src loop inst side qty : Nat) (fence want : Int) (s : State) : (policyLimit src loop inst side qty fence want s).bl = s.bl :=
  hush_bl (hush_policyLimit src loop inst side qty fence want s)
@[simp] theorem policyLimit_rh (src loop inst side qty : Nat) (fence want : Int) (s : State) : (policyLimit src loop inst side qty fence want s).rh = s.rh :=
  hush_rh (hush_policyLimit src loop inst side qty fence want s)
@[simp] theorem policyLimit_mac (src loop inst side qty : Nat) (fence want : Int) (s : State) : (policyLimit src loop inst side qty fence want s).mac = s.mac :=
  hush_mac (hush_policyLimit src loop inst side qty fence want s)
@[simp] theorem policyLimit_ecl (src loop inst side qty : Nat) (fence want : Int) (s : State) : (policyLimit src loop inst side qty fence want s).ecl = s.ecl :=
  hush_ecl (hush_policyLimit src loop inst side qty fence want s)
@[simp] theorem policyLimit_trown (src loop inst side qty : Nat) (fence want : Int) (s : State) : (policyLimit src loop inst side qty fence want s).trown = s.trown :=
  hush_trown (hush_policyLimit src loop inst side qty fence want s)
@[simp] theorem policyLimit_dpown (src loop inst side qty : Nat) (fence want : Int) (s : State) : (policyLimit src loop inst side qty fence want s).dpown = s.dpown :=
  hush_dpown (hush_policyLimit src loop inst side qty fence want s)
@[simp] theorem policyLimit_vault (src loop inst side qty : Nat) (fence want : Int) (s : State) : (policyLimit src loop inst side qty fence want s).vault = s.vault :=
  hush_vault (hush_policyLimit src loop inst side qty fence want s)
@[simp] theorem policyLimit_can (src loop inst side qty : Nat) (fence want : Int) (s : State) : (policyLimit src loop inst side qty fence want s).can = s.can :=
  hush_can (hush_policyLimit src loop inst side qty fence want s)
@[simp] theorem policyLimit_pwr (src loop inst side qty : Nat) (fence want : Int) (s : State) : (policyLimit src loop inst side qty fence want s).pwr = s.pwr :=
  hush_pwr (hush_policyLimit src loop inst side qty fence want s)
@[simp] theorem policyLimit_modes (src loop inst side qty : Nat) (fence want : Int) (s : State) : (policyLimit src loop inst side qty fence want s).modes = s.modes :=
  hush_modes (hush_policyLimit src loop inst side qty fence want s)
@[simp] theorem policyLimit_pins (src loop inst side qty : Nat) (fence want : Int) (s : State) : (policyLimit src loop inst side qty fence want s).pins = s.pins :=
  hush_pins (hush_policyLimit src loop inst side qty fence want s)
@[simp] theorem policyLimit_banks (src loop inst side qty : Nat) (fence want : Int) (s : State) : stillBanks (policyLimit src loop inst side qty fence want s).banks = stillBanks s.banks :=
  hush_banks (hush_policyLimit src loop inst side qty fence want s)
@[simp] theorem policyLimit_comet (src loop inst side qty : Nat) (fence want : Int) (s : State) : stillComet (policyLimit src loop inst side qty fence want s).comet = stillComet s.comet :=
  hush_comet (hush_policyLimit src loop inst side qty fence want s)

/-! ### What disagree leaves alone -/

@[simp] theorem disagree_pending (src kind unit mview dview : Nat) (s : State) : (disagree src kind unit mview dview s).pending = s.pending :=
  hush_pending (hush_disagree src kind unit mview dview s)
@[simp] theorem disagree_free (src kind unit mview dview : Nat) (s : State) : (disagree src kind unit mview dview s).free = s.free :=
  hush_free (hush_disagree src kind unit mview dview s)
@[simp] theorem disagree_clockStep (src kind unit mview dview : Nat) (s : State) : (disagree src kind unit mview dview s).clockStep = s.clockStep :=
  hush_clockStep (hush_disagree src kind unit mview dview s)
@[simp] theorem disagree_hellos (src kind unit mview dview : Nat) (s : State) : (disagree src kind unit mview dview s).hellos = s.hellos :=
  hush_hellos (hush_disagree src kind unit mview dview s)
@[simp] theorem disagree_viols (src kind unit mview dview : Nat) (s : State) : (disagree src kind unit mview dview s).viols = s.viols :=
  hush_viols (hush_disagree src kind unit mview dview s)
@[simp] theorem disagree_net (src kind unit mview dview : Nat) (s : State) : (disagree src kind unit mview dview s).net = s.net :=
  hush_net (hush_disagree src kind unit mview dview s)
@[simp] theorem disagree_rings (src kind unit mview dview : Nat) (s : State) : (disagree src kind unit mview dview s).rings = s.rings :=
  hush_rings (hush_disagree src kind unit mview dview s)
@[simp] theorem disagree_spi (src kind unit mview dview : Nat) (s : State) : (disagree src kind unit mview dview s).spi = s.spi :=
  hush_spi (hush_disagree src kind unit mview dview s)
@[simp] theorem disagree_locks (src kind unit mview dview : Nat) (s : State) : (disagree src kind unit mview dview s).locks = s.locks :=
  hush_locks (hush_disagree src kind unit mview dview s)
@[simp] theorem disagree_lckForced (src kind unit mview dview : Nat) (s : State) : (disagree src kind unit mview dview s).lckForced = s.lckForced :=
  hush_lckForced (hush_disagree src kind unit mview dview s)
@[simp] theorem disagree_sqs (src kind unit mview dview : Nat) (s : State) : (disagree src kind unit mview dview s).sqs = s.sqs :=
  hush_sqs (hush_disagree src kind unit mview dview s)
@[simp] theorem disagree_repl (src kind unit mview dview : Nat) (s : State) : (disagree src kind unit mview dview s).repl = s.repl :=
  hush_repl (hush_disagree src kind unit mview dview s)
@[simp] theorem disagree_tb (src kind unit mview dview : Nat) (s : State) : (disagree src kind unit mview dview s).tb = s.tb :=
  hush_tb (hush_disagree src kind unit mview dview s)
@[simp] theorem disagree_gnss (src kind unit mview dview : Nat) (s : State) : (disagree src kind unit mview dview s).gnss = s.gnss :=
  hush_gnss (hush_disagree src kind unit mview dview s)
@[simp] theorem disagree_corr (src kind unit mview dview : Nat) (s : State) : (disagree src kind unit mview dview s).corr = s.corr :=
  hush_corr (hush_disagree src kind unit mview dview s)
@[simp] theorem disagree_bl (src kind unit mview dview : Nat) (s : State) : (disagree src kind unit mview dview s).bl = s.bl :=
  hush_bl (hush_disagree src kind unit mview dview s)
@[simp] theorem disagree_rh (src kind unit mview dview : Nat) (s : State) : (disagree src kind unit mview dview s).rh = s.rh :=
  hush_rh (hush_disagree src kind unit mview dview s)
@[simp] theorem disagree_mac (src kind unit mview dview : Nat) (s : State) : (disagree src kind unit mview dview s).mac = s.mac :=
  hush_mac (hush_disagree src kind unit mview dview s)
@[simp] theorem disagree_ecl (src kind unit mview dview : Nat) (s : State) : (disagree src kind unit mview dview s).ecl = s.ecl :=
  hush_ecl (hush_disagree src kind unit mview dview s)
@[simp] theorem disagree_trown (src kind unit mview dview : Nat) (s : State) : (disagree src kind unit mview dview s).trown = s.trown :=
  hush_trown (hush_disagree src kind unit mview dview s)
@[simp] theorem disagree_dpown (src kind unit mview dview : Nat) (s : State) : (disagree src kind unit mview dview s).dpown = s.dpown :=
  hush_dpown (hush_disagree src kind unit mview dview s)
@[simp] theorem disagree_vault (src kind unit mview dview : Nat) (s : State) : (disagree src kind unit mview dview s).vault = s.vault :=
  hush_vault (hush_disagree src kind unit mview dview s)
@[simp] theorem disagree_can (src kind unit mview dview : Nat) (s : State) : (disagree src kind unit mview dview s).can = s.can :=
  hush_can (hush_disagree src kind unit mview dview s)
@[simp] theorem disagree_pwr (src kind unit mview dview : Nat) (s : State) : (disagree src kind unit mview dview s).pwr = s.pwr :=
  hush_pwr (hush_disagree src kind unit mview dview s)
@[simp] theorem disagree_modes (src kind unit mview dview : Nat) (s : State) : (disagree src kind unit mview dview s).modes = s.modes :=
  hush_modes (hush_disagree src kind unit mview dview s)
@[simp] theorem disagree_pins (src kind unit mview dview : Nat) (s : State) : (disagree src kind unit mview dview s).pins = s.pins :=
  hush_pins (hush_disagree src kind unit mview dview s)
@[simp] theorem disagree_banks (src kind unit mview dview : Nat) (s : State) : stillBanks (disagree src kind unit mview dview s).banks = stillBanks s.banks :=
  hush_banks (hush_disagree src kind unit mview dview s)
@[simp] theorem disagree_comet (src kind unit mview dview : Nat) (s : State) : stillComet (disagree src kind unit mview dview s).comet = stillComet s.comet :=
  hush_comet (hush_disagree src kind unit mview dview s)

/-! ### What modeChange leaves alone -/

@[simp] theorem modeChange_pending (src dim old new forcing : Nat) (s : State) : (modeChange src dim old new forcing s).pending = s.pending :=
  hush_pending (hush_modeChange src dim old new forcing s)
@[simp] theorem modeChange_free (src dim old new forcing : Nat) (s : State) : (modeChange src dim old new forcing s).free = s.free :=
  hush_free (hush_modeChange src dim old new forcing s)
@[simp] theorem modeChange_clockStep (src dim old new forcing : Nat) (s : State) : (modeChange src dim old new forcing s).clockStep = s.clockStep :=
  hush_clockStep (hush_modeChange src dim old new forcing s)
@[simp] theorem modeChange_hellos (src dim old new forcing : Nat) (s : State) : (modeChange src dim old new forcing s).hellos = s.hellos :=
  hush_hellos (hush_modeChange src dim old new forcing s)
@[simp] theorem modeChange_viols (src dim old new forcing : Nat) (s : State) : (modeChange src dim old new forcing s).viols = s.viols :=
  hush_viols (hush_modeChange src dim old new forcing s)
@[simp] theorem modeChange_net (src dim old new forcing : Nat) (s : State) : (modeChange src dim old new forcing s).net = s.net :=
  hush_net (hush_modeChange src dim old new forcing s)
@[simp] theorem modeChange_rings (src dim old new forcing : Nat) (s : State) : (modeChange src dim old new forcing s).rings = s.rings :=
  hush_rings (hush_modeChange src dim old new forcing s)
@[simp] theorem modeChange_spi (src dim old new forcing : Nat) (s : State) : (modeChange src dim old new forcing s).spi = s.spi :=
  hush_spi (hush_modeChange src dim old new forcing s)
@[simp] theorem modeChange_locks (src dim old new forcing : Nat) (s : State) : (modeChange src dim old new forcing s).locks = s.locks :=
  hush_locks (hush_modeChange src dim old new forcing s)
@[simp] theorem modeChange_lckForced (src dim old new forcing : Nat) (s : State) : (modeChange src dim old new forcing s).lckForced = s.lckForced :=
  hush_lckForced (hush_modeChange src dim old new forcing s)
@[simp] theorem modeChange_sqs (src dim old new forcing : Nat) (s : State) : (modeChange src dim old new forcing s).sqs = s.sqs :=
  hush_sqs (hush_modeChange src dim old new forcing s)
@[simp] theorem modeChange_repl (src dim old new forcing : Nat) (s : State) : (modeChange src dim old new forcing s).repl = s.repl :=
  hush_repl (hush_modeChange src dim old new forcing s)
@[simp] theorem modeChange_tb (src dim old new forcing : Nat) (s : State) : (modeChange src dim old new forcing s).tb = s.tb :=
  hush_tb (hush_modeChange src dim old new forcing s)
@[simp] theorem modeChange_gnss (src dim old new forcing : Nat) (s : State) : (modeChange src dim old new forcing s).gnss = s.gnss :=
  hush_gnss (hush_modeChange src dim old new forcing s)
@[simp] theorem modeChange_corr (src dim old new forcing : Nat) (s : State) : (modeChange src dim old new forcing s).corr = s.corr :=
  hush_corr (hush_modeChange src dim old new forcing s)
@[simp] theorem modeChange_bl (src dim old new forcing : Nat) (s : State) : (modeChange src dim old new forcing s).bl = s.bl :=
  hush_bl (hush_modeChange src dim old new forcing s)
@[simp] theorem modeChange_rh (src dim old new forcing : Nat) (s : State) : (modeChange src dim old new forcing s).rh = s.rh :=
  hush_rh (hush_modeChange src dim old new forcing s)
@[simp] theorem modeChange_mac (src dim old new forcing : Nat) (s : State) : (modeChange src dim old new forcing s).mac = s.mac :=
  hush_mac (hush_modeChange src dim old new forcing s)
@[simp] theorem modeChange_ecl (src dim old new forcing : Nat) (s : State) : (modeChange src dim old new forcing s).ecl = s.ecl :=
  hush_ecl (hush_modeChange src dim old new forcing s)
@[simp] theorem modeChange_trown (src dim old new forcing : Nat) (s : State) : (modeChange src dim old new forcing s).trown = s.trown :=
  hush_trown (hush_modeChange src dim old new forcing s)
@[simp] theorem modeChange_dpown (src dim old new forcing : Nat) (s : State) : (modeChange src dim old new forcing s).dpown = s.dpown :=
  hush_dpown (hush_modeChange src dim old new forcing s)
@[simp] theorem modeChange_vault (src dim old new forcing : Nat) (s : State) : (modeChange src dim old new forcing s).vault = s.vault :=
  hush_vault (hush_modeChange src dim old new forcing s)
@[simp] theorem modeChange_can (src dim old new forcing : Nat) (s : State) : (modeChange src dim old new forcing s).can = s.can :=
  hush_can (hush_modeChange src dim old new forcing s)
@[simp] theorem modeChange_pwr (src dim old new forcing : Nat) (s : State) : (modeChange src dim old new forcing s).pwr = s.pwr :=
  hush_pwr (hush_modeChange src dim old new forcing s)
@[simp] theorem modeChange_modes (src dim old new forcing : Nat) (s : State) : (modeChange src dim old new forcing s).modes = s.modes :=
  hush_modes (hush_modeChange src dim old new forcing s)
@[simp] theorem modeChange_pins (src dim old new forcing : Nat) (s : State) : (modeChange src dim old new forcing s).pins = s.pins :=
  hush_pins (hush_modeChange src dim old new forcing s)
@[simp] theorem modeChange_banks (src dim old new forcing : Nat) (s : State) : stillBanks (modeChange src dim old new forcing s).banks = stillBanks s.banks :=
  hush_banks (hush_modeChange src dim old new forcing s)
@[simp] theorem modeChange_comet (src dim old new forcing : Nat) (s : State) : stillComet (modeChange src dim old new forcing s).comet = stillComet s.comet :=
  hush_comet (hush_modeChange src dim old new forcing s)

/-! ### What reply leaves alone -/

@[simp] theorem reply_pending (r : Req) (op st : Nat) (p : List Byte) (s : State) : (reply r op st p s).pending = s.pending :=
  hush_pending (hush_reply r op st p s)
@[simp] theorem reply_free (r : Req) (op st : Nat) (p : List Byte) (s : State) : (reply r op st p s).free = s.free :=
  hush_free (hush_reply r op st p s)
@[simp] theorem reply_clockStep (r : Req) (op st : Nat) (p : List Byte) (s : State) : (reply r op st p s).clockStep = s.clockStep :=
  hush_clockStep (hush_reply r op st p s)
@[simp] theorem reply_hellos (r : Req) (op st : Nat) (p : List Byte) (s : State) : (reply r op st p s).hellos = s.hellos :=
  hush_hellos (hush_reply r op st p s)
@[simp] theorem reply_viols (r : Req) (op st : Nat) (p : List Byte) (s : State) : (reply r op st p s).viols = s.viols :=
  hush_viols (hush_reply r op st p s)
@[simp] theorem reply_net (r : Req) (op st : Nat) (p : List Byte) (s : State) : (reply r op st p s).net = s.net :=
  hush_net (hush_reply r op st p s)
@[simp] theorem reply_rings (r : Req) (op st : Nat) (p : List Byte) (s : State) : (reply r op st p s).rings = s.rings :=
  hush_rings (hush_reply r op st p s)
@[simp] theorem reply_spi (r : Req) (op st : Nat) (p : List Byte) (s : State) : (reply r op st p s).spi = s.spi :=
  hush_spi (hush_reply r op st p s)
@[simp] theorem reply_locks (r : Req) (op st : Nat) (p : List Byte) (s : State) : (reply r op st p s).locks = s.locks :=
  hush_locks (hush_reply r op st p s)
@[simp] theorem reply_lckForced (r : Req) (op st : Nat) (p : List Byte) (s : State) : (reply r op st p s).lckForced = s.lckForced :=
  hush_lckForced (hush_reply r op st p s)
@[simp] theorem reply_sqs (r : Req) (op st : Nat) (p : List Byte) (s : State) : (reply r op st p s).sqs = s.sqs :=
  hush_sqs (hush_reply r op st p s)
@[simp] theorem reply_repl (r : Req) (op st : Nat) (p : List Byte) (s : State) : (reply r op st p s).repl = s.repl :=
  hush_repl (hush_reply r op st p s)
@[simp] theorem reply_tb (r : Req) (op st : Nat) (p : List Byte) (s : State) : (reply r op st p s).tb = s.tb :=
  hush_tb (hush_reply r op st p s)
@[simp] theorem reply_gnss (r : Req) (op st : Nat) (p : List Byte) (s : State) : (reply r op st p s).gnss = s.gnss :=
  hush_gnss (hush_reply r op st p s)
@[simp] theorem reply_corr (r : Req) (op st : Nat) (p : List Byte) (s : State) : (reply r op st p s).corr = s.corr :=
  hush_corr (hush_reply r op st p s)
@[simp] theorem reply_bl (r : Req) (op st : Nat) (p : List Byte) (s : State) : (reply r op st p s).bl = s.bl :=
  hush_bl (hush_reply r op st p s)
@[simp] theorem reply_rh (r : Req) (op st : Nat) (p : List Byte) (s : State) : (reply r op st p s).rh = s.rh :=
  hush_rh (hush_reply r op st p s)
@[simp] theorem reply_mac (r : Req) (op st : Nat) (p : List Byte) (s : State) : (reply r op st p s).mac = s.mac :=
  hush_mac (hush_reply r op st p s)
@[simp] theorem reply_ecl (r : Req) (op st : Nat) (p : List Byte) (s : State) : (reply r op st p s).ecl = s.ecl :=
  hush_ecl (hush_reply r op st p s)
@[simp] theorem reply_trown (r : Req) (op st : Nat) (p : List Byte) (s : State) : (reply r op st p s).trown = s.trown :=
  hush_trown (hush_reply r op st p s)
@[simp] theorem reply_dpown (r : Req) (op st : Nat) (p : List Byte) (s : State) : (reply r op st p s).dpown = s.dpown :=
  hush_dpown (hush_reply r op st p s)
@[simp] theorem reply_vault (r : Req) (op st : Nat) (p : List Byte) (s : State) : (reply r op st p s).vault = s.vault :=
  hush_vault (hush_reply r op st p s)
@[simp] theorem reply_can (r : Req) (op st : Nat) (p : List Byte) (s : State) : (reply r op st p s).can = s.can :=
  hush_can (hush_reply r op st p s)
@[simp] theorem reply_pwr (r : Req) (op st : Nat) (p : List Byte) (s : State) : (reply r op st p s).pwr = s.pwr :=
  hush_pwr (hush_reply r op st p s)
@[simp] theorem reply_modes (r : Req) (op st : Nat) (p : List Byte) (s : State) : (reply r op st p s).modes = s.modes :=
  hush_modes (hush_reply r op st p s)
@[simp] theorem reply_pins (r : Req) (op st : Nat) (p : List Byte) (s : State) : (reply r op st p s).pins = s.pins :=
  hush_pins (hush_reply r op st p s)
@[simp] theorem reply_banks (r : Req) (op st : Nat) (p : List Byte) (s : State) : stillBanks (reply r op st p s).banks = stillBanks s.banks :=
  hush_banks (hush_reply r op st p s)
@[simp] theorem reply_comet (r : Req) (op st : Nat) (p : List Byte) (s : State) : stillComet (reply r op st p s).comet = stillComet s.comet :=
  hush_comet (hush_reply r op st p s)

@[simp] theorem reply_pair (r : Req) (op st : Nat) (p : List Byte) (s : State) : stillPair (reply r op st p s).pair = stillPair s.pair :=
  hush_pair (hush_reply r op st p s)

/-! ### What sendOf leaves alone -/

@[simp] theorem sendOf_pending (m : Nat) (s : State) : (sendOf m s).pending = s.pending :=
  hush_pending (hush_sendOf m s)
@[simp] theorem sendOf_free (m : Nat) (s : State) : (sendOf m s).free = s.free :=
  hush_free (hush_sendOf m s)
@[simp] theorem sendOf_clockStep (m : Nat) (s : State) : (sendOf m s).clockStep = s.clockStep :=
  hush_clockStep (hush_sendOf m s)
@[simp] theorem sendOf_hellos (m : Nat) (s : State) : (sendOf m s).hellos = s.hellos :=
  hush_hellos (hush_sendOf m s)
@[simp] theorem sendOf_viols (m : Nat) (s : State) : (sendOf m s).viols = s.viols :=
  hush_viols (hush_sendOf m s)
@[simp] theorem sendOf_net (m : Nat) (s : State) : (sendOf m s).net = s.net :=
  hush_net (hush_sendOf m s)
@[simp] theorem sendOf_rings (m : Nat) (s : State) : (sendOf m s).rings = s.rings :=
  hush_rings (hush_sendOf m s)
@[simp] theorem sendOf_spi (m : Nat) (s : State) : (sendOf m s).spi = s.spi :=
  hush_spi (hush_sendOf m s)
@[simp] theorem sendOf_locks (m : Nat) (s : State) : (sendOf m s).locks = s.locks :=
  hush_locks (hush_sendOf m s)
@[simp] theorem sendOf_lckForced (m : Nat) (s : State) : (sendOf m s).lckForced = s.lckForced :=
  hush_lckForced (hush_sendOf m s)
@[simp] theorem sendOf_sqs (m : Nat) (s : State) : (sendOf m s).sqs = s.sqs :=
  hush_sqs (hush_sendOf m s)
@[simp] theorem sendOf_repl (m : Nat) (s : State) : (sendOf m s).repl = s.repl :=
  hush_repl (hush_sendOf m s)
@[simp] theorem sendOf_tb (m : Nat) (s : State) : (sendOf m s).tb = s.tb :=
  hush_tb (hush_sendOf m s)
@[simp] theorem sendOf_gnss (m : Nat) (s : State) : (sendOf m s).gnss = s.gnss :=
  hush_gnss (hush_sendOf m s)
@[simp] theorem sendOf_corr (m : Nat) (s : State) : (sendOf m s).corr = s.corr :=
  hush_corr (hush_sendOf m s)
@[simp] theorem sendOf_bl (m : Nat) (s : State) : (sendOf m s).bl = s.bl :=
  hush_bl (hush_sendOf m s)
@[simp] theorem sendOf_rh (m : Nat) (s : State) : (sendOf m s).rh = s.rh :=
  hush_rh (hush_sendOf m s)
@[simp] theorem sendOf_mac (m : Nat) (s : State) : (sendOf m s).mac = s.mac :=
  hush_mac (hush_sendOf m s)
@[simp] theorem sendOf_ecl (m : Nat) (s : State) : (sendOf m s).ecl = s.ecl :=
  hush_ecl (hush_sendOf m s)
@[simp] theorem sendOf_trown (m : Nat) (s : State) : (sendOf m s).trown = s.trown :=
  hush_trown (hush_sendOf m s)
@[simp] theorem sendOf_dpown (m : Nat) (s : State) : (sendOf m s).dpown = s.dpown :=
  hush_dpown (hush_sendOf m s)
@[simp] theorem sendOf_vault (m : Nat) (s : State) : (sendOf m s).vault = s.vault :=
  hush_vault (hush_sendOf m s)
@[simp] theorem sendOf_can (m : Nat) (s : State) : (sendOf m s).can = s.can :=
  hush_can (hush_sendOf m s)
@[simp] theorem sendOf_pwr (m : Nat) (s : State) : (sendOf m s).pwr = s.pwr :=
  hush_pwr (hush_sendOf m s)
@[simp] theorem sendOf_modes (m : Nat) (s : State) : (sendOf m s).modes = s.modes :=
  hush_modes (hush_sendOf m s)
@[simp] theorem sendOf_pins (m : Nat) (s : State) : (sendOf m s).pins = s.pins :=
  hush_pins (hush_sendOf m s)
@[simp] theorem sendOf_banks (m : Nat) (s : State) : stillBanks (sendOf m s).banks = stillBanks s.banks :=
  hush_banks (hush_sendOf m s)
@[simp] theorem sendOf_comet (m : Nat) (s : State) : stillComet (sendOf m s).comet = stillComet s.comet :=
  hush_comet (hush_sendOf m s)

@[simp] theorem sendOf_pair (m : Nat) (s : State) : stillPair (sendOf m s).pair = stillPair s.pair :=
  hush_pair (hush_sendOf m s)

/-! ### What endSession leaves alone -/

@[simp] theorem endSession_pending (m reason : Nat) (s : State) : (endSession m reason s).pending = s.pending :=
  hush_pending (hush_endSession m reason s)
@[simp] theorem endSession_free (m reason : Nat) (s : State) : (endSession m reason s).free = s.free :=
  hush_free (hush_endSession m reason s)
@[simp] theorem endSession_clockStep (m reason : Nat) (s : State) : (endSession m reason s).clockStep = s.clockStep :=
  hush_clockStep (hush_endSession m reason s)
@[simp] theorem endSession_hellos (m reason : Nat) (s : State) : (endSession m reason s).hellos = s.hellos :=
  hush_hellos (hush_endSession m reason s)
@[simp] theorem endSession_viols (m reason : Nat) (s : State) : (endSession m reason s).viols = s.viols :=
  hush_viols (hush_endSession m reason s)
@[simp] theorem endSession_net (m reason : Nat) (s : State) : (endSession m reason s).net = s.net :=
  hush_net (hush_endSession m reason s)
@[simp] theorem endSession_rings (m reason : Nat) (s : State) : (endSession m reason s).rings = s.rings :=
  hush_rings (hush_endSession m reason s)
@[simp] theorem endSession_spi (m reason : Nat) (s : State) : (endSession m reason s).spi = s.spi :=
  hush_spi (hush_endSession m reason s)
@[simp] theorem endSession_locks (m reason : Nat) (s : State) : (endSession m reason s).locks = s.locks :=
  hush_locks (hush_endSession m reason s)
@[simp] theorem endSession_lckForced (m reason : Nat) (s : State) : (endSession m reason s).lckForced = s.lckForced :=
  hush_lckForced (hush_endSession m reason s)
@[simp] theorem endSession_sqs (m reason : Nat) (s : State) : (endSession m reason s).sqs = s.sqs :=
  hush_sqs (hush_endSession m reason s)
@[simp] theorem endSession_repl (m reason : Nat) (s : State) : (endSession m reason s).repl = s.repl :=
  hush_repl (hush_endSession m reason s)
@[simp] theorem endSession_tb (m reason : Nat) (s : State) : (endSession m reason s).tb = s.tb :=
  hush_tb (hush_endSession m reason s)
@[simp] theorem endSession_gnss (m reason : Nat) (s : State) : (endSession m reason s).gnss = s.gnss :=
  hush_gnss (hush_endSession m reason s)
@[simp] theorem endSession_corr (m reason : Nat) (s : State) : (endSession m reason s).corr = s.corr :=
  hush_corr (hush_endSession m reason s)
@[simp] theorem endSession_bl (m reason : Nat) (s : State) : (endSession m reason s).bl = s.bl :=
  hush_bl (hush_endSession m reason s)
@[simp] theorem endSession_rh (m reason : Nat) (s : State) : (endSession m reason s).rh = s.rh :=
  hush_rh (hush_endSession m reason s)
@[simp] theorem endSession_mac (m reason : Nat) (s : State) : (endSession m reason s).mac = s.mac :=
  hush_mac (hush_endSession m reason s)
@[simp] theorem endSession_ecl (m reason : Nat) (s : State) : (endSession m reason s).ecl = s.ecl :=
  hush_ecl (hush_endSession m reason s)
@[simp] theorem endSession_trown (m reason : Nat) (s : State) : (endSession m reason s).trown = s.trown :=
  hush_trown (hush_endSession m reason s)
@[simp] theorem endSession_dpown (m reason : Nat) (s : State) : (endSession m reason s).dpown = s.dpown :=
  hush_dpown (hush_endSession m reason s)
@[simp] theorem endSession_vault (m reason : Nat) (s : State) : (endSession m reason s).vault = s.vault :=
  hush_vault (hush_endSession m reason s)
@[simp] theorem endSession_can (m reason : Nat) (s : State) : (endSession m reason s).can = s.can :=
  hush_can (hush_endSession m reason s)
@[simp] theorem endSession_pwr (m reason : Nat) (s : State) : (endSession m reason s).pwr = s.pwr :=
  hush_pwr (hush_endSession m reason s)
@[simp] theorem endSession_modes (m reason : Nat) (s : State) : (endSession m reason s).modes = s.modes :=
  hush_modes (hush_endSession m reason s)
@[simp] theorem endSession_pins (m reason : Nat) (s : State) : (endSession m reason s).pins = s.pins :=
  hush_pins (hush_endSession m reason s)
@[simp] theorem endSession_banks (m reason : Nat) (s : State) : stillBanks (endSession m reason s).banks = stillBanks s.banks :=
  hush_banks (hush_endSession m reason s)
@[simp] theorem endSession_comet (m reason : Nat) (s : State) : stillComet (endSession m reason s).comet = stillComet s.comet :=
  hush_comet (hush_endSession m reason s)

@[simp] theorem endSession_pair (m reason : Nat) (s : State) : stillPair (endSession m reason s).pair = stillPair s.pair :=
  hush_pair (hush_endSession m reason s)

/-! ### What endingStep leaves alone -/

@[simp] theorem endingStep_pending  (s : State) : (endingStep s).pending = s.pending :=
  hush_pending (hush_endingStep s)
@[simp] theorem endingStep_free  (s : State) : (endingStep s).free = s.free :=
  hush_free (hush_endingStep s)
@[simp] theorem endingStep_clockStep  (s : State) : (endingStep s).clockStep = s.clockStep :=
  hush_clockStep (hush_endingStep s)
@[simp] theorem endingStep_hellos  (s : State) : (endingStep s).hellos = s.hellos :=
  hush_hellos (hush_endingStep s)
@[simp] theorem endingStep_viols  (s : State) : (endingStep s).viols = s.viols :=
  hush_viols (hush_endingStep s)
@[simp] theorem endingStep_net  (s : State) : (endingStep s).net = s.net :=
  hush_net (hush_endingStep s)
@[simp] theorem endingStep_rings  (s : State) : (endingStep s).rings = s.rings :=
  hush_rings (hush_endingStep s)
@[simp] theorem endingStep_spi  (s : State) : (endingStep s).spi = s.spi :=
  hush_spi (hush_endingStep s)
@[simp] theorem endingStep_locks  (s : State) : (endingStep s).locks = s.locks :=
  hush_locks (hush_endingStep s)
@[simp] theorem endingStep_lckForced  (s : State) : (endingStep s).lckForced = s.lckForced :=
  hush_lckForced (hush_endingStep s)
@[simp] theorem endingStep_sqs  (s : State) : (endingStep s).sqs = s.sqs :=
  hush_sqs (hush_endingStep s)
@[simp] theorem endingStep_repl  (s : State) : (endingStep s).repl = s.repl :=
  hush_repl (hush_endingStep s)
@[simp] theorem endingStep_tb  (s : State) : (endingStep s).tb = s.tb :=
  hush_tb (hush_endingStep s)
@[simp] theorem endingStep_gnss  (s : State) : (endingStep s).gnss = s.gnss :=
  hush_gnss (hush_endingStep s)
@[simp] theorem endingStep_corr  (s : State) : (endingStep s).corr = s.corr :=
  hush_corr (hush_endingStep s)
@[simp] theorem endingStep_bl  (s : State) : (endingStep s).bl = s.bl :=
  hush_bl (hush_endingStep s)
@[simp] theorem endingStep_rh  (s : State) : (endingStep s).rh = s.rh :=
  hush_rh (hush_endingStep s)
@[simp] theorem endingStep_mac  (s : State) : (endingStep s).mac = s.mac :=
  hush_mac (hush_endingStep s)
@[simp] theorem endingStep_ecl  (s : State) : (endingStep s).ecl = s.ecl :=
  hush_ecl (hush_endingStep s)
@[simp] theorem endingStep_trown  (s : State) : (endingStep s).trown = s.trown :=
  hush_trown (hush_endingStep s)
@[simp] theorem endingStep_dpown  (s : State) : (endingStep s).dpown = s.dpown :=
  hush_dpown (hush_endingStep s)
@[simp] theorem endingStep_vault  (s : State) : (endingStep s).vault = s.vault :=
  hush_vault (hush_endingStep s)
@[simp] theorem endingStep_can  (s : State) : (endingStep s).can = s.can :=
  hush_can (hush_endingStep s)
@[simp] theorem endingStep_pwr  (s : State) : (endingStep s).pwr = s.pwr :=
  hush_pwr (hush_endingStep s)
@[simp] theorem endingStep_modes  (s : State) : (endingStep s).modes = s.modes :=
  hush_modes (hush_endingStep s)
@[simp] theorem endingStep_pins  (s : State) : (endingStep s).pins = s.pins :=
  hush_pins (hush_endingStep s)
@[simp] theorem endingStep_banks  (s : State) : stillBanks (endingStep s).banks = stillBanks s.banks :=
  hush_banks (hush_endingStep s)
@[simp] theorem endingStep_comet  (s : State) : stillComet (endingStep s).comet = stillComet s.comet :=
  hush_comet (hush_endingStep s)

@[simp] theorem endingStep_pair  (s : State) : stillPair (endingStep s).pair = stillPair s.pair :=
  hush_pair (hush_endingStep s)

/-! ### What sendStep leaves alone -/

@[simp] theorem sendStep_pending  (s : State) : (sendStep s).pending = s.pending :=
  hush_pending (hush_sendStep s)
@[simp] theorem sendStep_free  (s : State) : (sendStep s).free = s.free :=
  hush_free (hush_sendStep s)
@[simp] theorem sendStep_clockStep  (s : State) : (sendStep s).clockStep = s.clockStep :=
  hush_clockStep (hush_sendStep s)
@[simp] theorem sendStep_hellos  (s : State) : (sendStep s).hellos = s.hellos :=
  hush_hellos (hush_sendStep s)
@[simp] theorem sendStep_viols  (s : State) : (sendStep s).viols = s.viols :=
  hush_viols (hush_sendStep s)
@[simp] theorem sendStep_net  (s : State) : (sendStep s).net = s.net :=
  hush_net (hush_sendStep s)
@[simp] theorem sendStep_rings  (s : State) : (sendStep s).rings = s.rings :=
  hush_rings (hush_sendStep s)
@[simp] theorem sendStep_spi  (s : State) : (sendStep s).spi = s.spi :=
  hush_spi (hush_sendStep s)
@[simp] theorem sendStep_locks  (s : State) : (sendStep s).locks = s.locks :=
  hush_locks (hush_sendStep s)
@[simp] theorem sendStep_lckForced  (s : State) : (sendStep s).lckForced = s.lckForced :=
  hush_lckForced (hush_sendStep s)
@[simp] theorem sendStep_sqs  (s : State) : (sendStep s).sqs = s.sqs :=
  hush_sqs (hush_sendStep s)
@[simp] theorem sendStep_repl  (s : State) : (sendStep s).repl = s.repl :=
  hush_repl (hush_sendStep s)
@[simp] theorem sendStep_tb  (s : State) : (sendStep s).tb = s.tb :=
  hush_tb (hush_sendStep s)
@[simp] theorem sendStep_gnss  (s : State) : (sendStep s).gnss = s.gnss :=
  hush_gnss (hush_sendStep s)
@[simp] theorem sendStep_corr  (s : State) : (sendStep s).corr = s.corr :=
  hush_corr (hush_sendStep s)
@[simp] theorem sendStep_bl  (s : State) : (sendStep s).bl = s.bl :=
  hush_bl (hush_sendStep s)
@[simp] theorem sendStep_rh  (s : State) : (sendStep s).rh = s.rh :=
  hush_rh (hush_sendStep s)
@[simp] theorem sendStep_mac  (s : State) : (sendStep s).mac = s.mac :=
  hush_mac (hush_sendStep s)
@[simp] theorem sendStep_ecl  (s : State) : (sendStep s).ecl = s.ecl :=
  hush_ecl (hush_sendStep s)
@[simp] theorem sendStep_trown  (s : State) : (sendStep s).trown = s.trown :=
  hush_trown (hush_sendStep s)
@[simp] theorem sendStep_dpown  (s : State) : (sendStep s).dpown = s.dpown :=
  hush_dpown (hush_sendStep s)
@[simp] theorem sendStep_vault  (s : State) : (sendStep s).vault = s.vault :=
  hush_vault (hush_sendStep s)
@[simp] theorem sendStep_can  (s : State) : (sendStep s).can = s.can :=
  hush_can (hush_sendStep s)
@[simp] theorem sendStep_pwr  (s : State) : (sendStep s).pwr = s.pwr :=
  hush_pwr (hush_sendStep s)
@[simp] theorem sendStep_modes  (s : State) : (sendStep s).modes = s.modes :=
  hush_modes (hush_sendStep s)
@[simp] theorem sendStep_pins  (s : State) : (sendStep s).pins = s.pins :=
  hush_pins (hush_sendStep s)
@[simp] theorem sendStep_banks  (s : State) : stillBanks (sendStep s).banks = stillBanks s.banks :=
  hush_banks (hush_sendStep s)
@[simp] theorem sendStep_comet  (s : State) : stillComet (sendStep s).comet = stillComet s.comet :=
  hush_comet (hush_sendStep s)

@[simp] theorem sendStep_pair  (s : State) : stillPair (sendStep s).pair = stillPair s.pair :=
  hush_pair (hush_sendStep s)

/-! ### Reporting leaves the pair alone -/

theorem pair_foldl {α : Type} (f : State → α → State) (hf : ∀ u a, (f u a).pair = u.pair) (l : List α) (s : State) :
    (l.foldl f s).pair = s.pair := by
  induction l generalizing s with
  | nil => rfl
  | cons a r ih => exact (ih _).trans (hf s a)

@[simp] theorem dblOutSet_pair (m b : Nat) (s : State) : (dblOutSet m b s).pair = s.pair := by
  unfold dblOutSet
  split <;> rfl

@[simp] theorem itemBells_pair (m op : Nat) (s : State) : (itemBells m op s).pair = s.pair := by
  unfold itemBells
  split
  · rfl
  · rw [dblOutSet_pair]; split <;> simp

@[simp] theorem sendItem_pair (m : Nat) (w : Waiting) (s : State) : (sendItem m w s).pair = s.pair := by
  unfold sendItem
  split
  · rfl
  · split <;> simp

@[simp] theorem waitNotice_pair (m n : Nat) (s : State) : (waitNotice m n s).pair = s.pair := by
  unfold waitNotice
  split
  · dsimp only
    split <;> rfl
  · rfl

@[simp] theorem deliver_pair (t : Gtc) (code src : Nat) (p : List Byte) (m : Nat) (s : State) :
    (deliver t code src p m s).pair = s.pair := by
  unfold deliver
  split
  · rfl
  · split
    · rfl
    · split <;> simp

@[simp] theorem postOut_pair (m n : Nat) (ws : List Nat) (s : State) : (postOut m n ws s).pair = s.pair := by
  unfold postOut
  dsimp only
  split <;> split <;> simp

@[simp] theorem cometOffer_pair (id src : Nat) (p : List Byte) (s : State) : (cometOffer id src p s).pair = s.pair := by
  unfold cometOffer
  split
  · rfl
  · split <;> rfl

@[simp] theorem emitAt_pair (t : Gtc) (code src : Nat) (p : List Byte) (s : State) : (emitAt t code src p s).pair = s.pair := by
  have h := pair_foldl (fun a m => deliver t code src (leBytes 8 t.toNat ++ p) m a) (fun u m => deliver_pair _ _ _ _ m u)
    [0, 1, 2, 3, 4] (put (.event code src (leBytes 8 t.toNat ++ p)) s)
  unfold emitAt
  split
  · exact h
  · rw [cometOffer_pair]; exact h

@[simp] theorem emit_pair (code src : Nat) (p : List Byte) (s : State) : (emit code src p s).pair = s.pair := emitAt_pair _ _ _ _ _

@[simp] theorem emitExcept_pair (m0 code src : Nat) (p : List Byte) (s : State) : (emitExcept m0 code src p s).pair = s.pair := by
  have h := pair_foldl (fun t m => deliver s.tb.gtc code src (gtcBytes s ++ p) m t) (fun u m => deliver_pair _ _ _ _ m u)
    ([0, 1, 2, 3, 4].filter (fun m => m != m0)) (put (.event code src (gtcBytes s ++ p)) s)
  unfold emitExcept
  split
  · exact h
  · rw [cometOffer_pair]; exact h

theorem limited_pair (code key period : Nat) (f : Nat → State → State) (s : State) (h : ∀ n t, (f n t).pair = t.pair) :
    (limited code key period f s).pair = s.pair := by
  unfold limited
  split
  · rw [h]
  · split
    · rfl
    · rw [h]

@[simp] theorem policyLimit_pair (src loop inst side qty : Nat) (fence want : Int) (s : State) :
    (policyLimit src loop inst side qty fence want s).pair = s.pair := limited_pair _ _ _ _ _ (fun _ _ => emit_pair _ _ _ _)

@[simp] theorem disagree_pair (src kind unit mview dview : Nat) (s : State) : (disagree src kind unit mview dview s).pair = s.pair :=
  limited_pair _ _ _ _ _ (fun _ _ => emit_pair _ _ _ _)

@[simp] theorem modeChange_pair (src dim old new forcing : Nat) (s : State) : (modeChange src dim old new forcing s).pair = s.pair :=
  emit_pair _ _ _ _


end Sys2Proof.Machine
end

