-- ==== Sys2Proof/Laws/Settle.lean ====
section
/-!
SUPPORT. Sys2Proof/Laws/Settle.lean: what `settle`, which ends every command, can do: it makes the modes and pins agree with the rest of the
state (`agrees_settle`), leaves alone what `core` keeps (`core_settle`), and only adds to the record of outputs.
-/
namespace Sys2Proof.Machine
open Sys2Proof

/-! ### States that differ only in what sending moves -/

theorem core_of_hush {s t : State} (h : hush s = hush t) : core s = core t := by
  simp only [core, stillPins, stillHeads, stillRepl, hush_pending h, hush_free h, hush_clockStep h, hush_hellos h, hush_viols h,
    hush_net h, hush_rings h, hush_spi h, hush_locks h, hush_lckForced h, hush_sqs h, hush_repl h, hush_tb h, hush_gnss h,
    hush_corr h, hush_bl h, hush_rh h, hush_mac h, hush_ecl h, hush_trown h, hush_dpown h, hush_pair h, hush_vault h, hush_can h,
    hush_pwr h, hush_pins h, hush_banks h, hush_comet h]

@[simp] theorem core_put (o : Out) (s : State) : core (put o s) = core s := rfl
@[simp] theorem core_modSess (m : Nat) (f : Session → Session) (s : State) : core (modSess m f s) = core s := rfl
@[simp] theorem core_emit (code src : Nat) (p : List Byte) (s : State) : core (emit code src p s) = core s :=
  core_of_hush (hush_emit _ _ _ _)
@[simp] theorem core_emitAt (t : Gtc) (code src : Nat) (p : List Byte) (s : State) : core (emitAt t code src p s) = core s :=
  core_of_hush (hush_emitAt _ _ _ _ _)
@[simp] theorem core_emitExcept (m0 code src : Nat) (p : List Byte) (s : State) : core (emitExcept m0 code src p s) = core s :=
  core_of_hush (hush_emitExcept _ _ _ _ _)
@[simp] theorem core_reply (r : Req) (op st : Nat) (p : List Byte) (s : State) : core (reply r op st p s) = core s :=
  core_of_hush (hush_reply _ _ _ _ _)
@[simp] theorem core_sendReply (m : Nat) (v : Via) (ws : List Waiting) (s : State) : core (sendReply m v ws s) = core s :=
  core_of_hush (hush_sendReply _ _ _ _)
@[simp] theorem core_deliver (t : Gtc) (code src : Nat) (p : List Byte) (m : Nat) (s : State) :
    core (deliver t code src p m s) = core s := core_of_hush (hush_deliver _ _ _ _ _ _)
@[simp] theorem core_sendOf (m : Nat) (s : State) : core (sendOf m s) = core s := core_of_hush (hush_sendOf _ _)
@[simp] theorem core_sendStep (s : State) : core (sendStep s) = core s := core_of_hush (hush_sendStep _)
@[simp] theorem core_modeChange (a b c d e : Nat) (s : State) : core (modeChange a b c d e s) = core s :=
  core_of_hush (hush_modeChange _ _ _ _ _ _)
@[simp] theorem core_policyLimit (a b c d e : Nat) (f g : Int) (s : State) : core (policyLimit a b c d e f g s) = core s :=
  core_of_hush (hush_policyLimit _ _ _ _ _ _ _ _)
@[simp] theorem core_disagree (a b c d e : Nat) (s : State) : core (disagree a b c d e s) = core s :=
  core_of_hush (hush_disagree _ _ _ _ _ _)
@[simp] theorem core_endSession (m n : Nat) (s : State) : core (endSession m n s) = core s :=
  core_of_hush (hush_endSession _ _ _)
@[simp] theorem core_endingStep (s : State) : core (endingStep s) = core s := core_of_hush (hush_endingStep _)
@[simp] theorem core_postOut (m n : Nat) (ws : List Nat) (s : State) : core (postOut m n ws s) = core s :=
  core_of_hush (hush_postOut _ _ _ _)
@[simp] theorem core_accept (op : Nat) (r : Req) (s : State) : core (accept op r s) = core s := by
  unfold accept; split <;> rfl

/-! ### The parts of settle -/

theorem core_agreeStep (s : State) : core (agreeStep s) = core s := rfl

theorem core_timeStep (s : State) : core (timeStep s) = core s := by
  unfold timeStep
  dsimp only
  split
  · rfl
  · rw [core_modeChange]; rfl

theorem core_idleStep (s : State) : core (idleStep s) = core s := by
  simp [core, idleStep, stillRepl, stillHeads, stillPins, stillBanks, stillComet, Function.comp_def]

theorem map_modNth_test (l : List Head) (h : Nat) :
    (modNth l h (fun y => { y with test := none })).map (fun x => { x with test := none }) =
      l.map (fun x => { x with test := none }) :=
  map_modNth_same (fun x : Head => { x with test := none }) (fun y => { y with test := none }) (fun _ => rfl) l h

theorem core_heads (s : State) (l : List Head)
    (h : l.map (fun x => { x with test := none }) = s.rh.map (fun x => ({ x with test := none } : Head))) :
    core { s with rh := l } = core s := by
  simp only [core, stillHeads, stillRepl, stillPins, stillBanks, stillComet, h]

theorem core_foldl {α : Type} (f : State → α → State) (hf : ∀ u a, core (f u a) = core u) (l : List α) (s : State) :
    core (l.foldl f s) = core s := by
  induction l generalizing s with
  | nil => rfl
  | cons a r ih => exact (ih _).trans (hf s a)

theorem core_endTests (s : State) : core (endTests s) = core s := by
  unfold endTests
  apply core_foldl
  intro u a
  split
  · rfl
  · rw [core_emit]
    exact core_heads u _ (map_modNth_test u.rh a)

theorem core_serveEntry (b : Bool) (s : State) : core (serveEntry b s) = core s := by
  cases b <;> rfl

theorem core_jumpMeters (a b : Nat) (s : State) : core (jumpMeters a b s) = core s := rfl

theorem core_radioStep (b q : Bool) (s : State) : core (radioStep b q s) = core s := by
  have hm (n : Nat × Nat) : core { s with modes := { s.modes with radio := n.1, radioForce := n.2 } } = core s := rfl
  unfold radioStep
  dsimp only
  split
  · rfl
  · have h2 (n : Nat × Nat) (c d : Prop) [Decidable c] [Decidable d] (x y : Nat) :
        core (if c then
          let s0 := if d then { s with modes := { s.modes with radio := n.1, radioForce := n.2 } }
            else jumpMeters x y { s with modes := { s.modes with radio := n.1, radioForce := n.2 } }
          { s0 with mac := { s0.mac with airOffset := 0, lastUnit := none, lastOrbit := none } }
          else { s with modes := { s.modes with radio := n.1, radioForce := n.2 } }) = core s := by
      split
      · dsimp only
        split <;> rfl
      · rfl
    have h3 (u : State) (c : Prop) [Decidable c] (hu : core u = core s) : core (if c then serveEntry b u else u) = core s := by
      split
      · rw [core_serveEntry, hu]
      · exact hu
    have h4 (u : State) (c : Prop) [Decidable c] (hu : core u = core s) : core (if c then endTests u else u) = core s := by
      split
      · rw [core_endTests, hu]
      · exact hu
    split
    · exact h4 _ _ (h3 _ _ (h2 _ _ _ _ _))
    · rw [core_modeChange]; exact h4 _ _ (h3 _ _ (h2 _ _ _ _ _))

/-- Settling leaves alone everything that `core` keeps. -/
@[simp] theorem core_settle (s : State) : core (settle s) = core s := by
  unfold settle
  rw [core_agreeStep, core_sendStep, core_endingStep, core_timeStep, core_radioStep, core_idleStep]

/-! ### Agreement -/

/-- Settling makes modes, pins and time-pulse drive agree with the rest of the state. -/
theorem agrees_settle (s : State) : Agrees (settle s) := by
  unfold settle
  generalize sendStep (endingStep (timeStep (radioStep true false (idleStep s)))) = u
  exact ⟨rfl, rfl, rfl⟩

/-! ### The record of outputs only grows -/

/-- What a state's record of outputs begins with. -/
def Grows (s t : State) : Prop := ∃ l, t.outs = s.outs ++ l

theorem Grows.refl (s : State) : Grows s s := ⟨[], by simp⟩

theorem Grows.trans {a b c : State} (h : Grows a b) (k : Grows b c) : Grows a c := by
  obtain ⟨l, hl⟩ := h
  obtain ⟨m, hm⟩ := k
  exact ⟨l ++ m, by rw [hm, hl, List.append_assoc]⟩

theorem Grows.of_eq {a b : State} (h : b.outs = a.outs) : Grows a b := ⟨[], by simp [h]⟩

theorem grows_put (o : Out) (s : State) : Grows s (put o s) := ⟨[o], rfl⟩

theorem grows_foldl {α : Type} (f : State → α → State) (hf : ∀ u a, Grows u (f u a)) (l : List α) (s : State) :
    Grows s (l.foldl f s) := by
  induction l generalizing s with
  | nil => exact Grows.refl s
  | cons a r ih => exact (hf s a).trans (ih _)

theorem grows_dblOutSet (m b : Nat) (s : State) : Grows s (dblOutSet m b s) := by
  unfold dblOutSet
  split
  · exact ⟨[.msix 2], rfl⟩
  · exact Grows.of_eq rfl

theorem grows_putPacket (m : Nat) (a : UdpAddr) (bs : List Byte) (s : State) : Grows s (putPacket m a bs s) := by
  unfold putPacket
  split
  · unfold sendLink
    split
    · exact Grows.refl s
    · split
      · exact ⟨_, rfl⟩
      · exact Grows.refl s
  · exact grows_put _ _

theorem grows_itemBells (m op : Nat) (s : State) : Grows s (itemBells m op s) := by
  unfold itemBells
  split
  · exact Grows.refl s
  · refine Grows.trans ?_ (grows_dblOutSet _ _ _)
    split
    · exact grows_dblOutSet _ _ _
    · exact Grows.refl s

theorem grows_sendItem (m : Nat) (w : Waiting) (s : State) : Grows s (sendItem m w s) := by
  unfold sendItem
  split
  · exact Grows.refl s
  · split
    · exact Grows.refl s
    · refine Grows.trans ?_ (grows_itemBells _ _ _)
      exact Grows.of_eq rfl

theorem grows_sendBare (m : Nat) (w : Waiting) (s : State) : Grows s (sendBare m w s) := by
  unfold sendBare
  split
  · exact (Grows.of_eq rfl).trans (grows_dblOutSet _ _ _)
  · exact grows_putPacket _ _ _ _

theorem grows_waitNotice (m n : Nat) (s : State) : Grows s (waitNotice m n s) := by
  unfold waitNotice
  split
  · dsimp only
    split
    · exact (Grows.of_eq rfl).trans (grows_put _ _)
    · exact Grows.of_eq rfl
  · exact Grows.refl s

theorem grows_deliver (t : Gtc) (code src : Nat) (p : List Byte) (m : Nat) (s : State) : Grows s (deliver t code src p m s) := by
  unfold deliver
  split
  · exact Grows.refl s
  · split
    · exact Grows.refl s
    · split
      · refine Grows.trans ?_ (grows_waitNotice _ _ _)
        refine Grows.trans ?_ (grows_sendItem _ _ _)
        exact Grows.of_eq rfl
      · exact Grows.of_eq rfl

theorem grows_postOut (m n : Nat) (ws : List Nat) (s : State) : Grows s (postOut m n ws s) := by
  unfold postOut
  dsimp only
  split
  · split
    · exact ((Grows.of_eq rfl).trans (grows_put _ _)).trans (grows_deliver _ _ _ _ _ _)
    · exact (Grows.of_eq rfl).trans (grows_deliver _ _ _ _ _ _)
  · split
    · exact (Grows.of_eq rfl).trans (grows_put _ _)
    · exact Grows.of_eq rfl

theorem grows_sendNow (m : Nat) (s : State) (w : Waiting) : Grows s (sendNow m s w) := by
  unfold sendNow
  split
  · exact Grows.refl s
  · split
    · exact Grows.refl s
    · split
      · refine Grows.trans ?_ (grows_putPacket _ _ _ _)
        exact Grows.of_eq rfl
      · refine Grows.trans ?_ (grows_postOut _ _ _ _)
        exact Grows.of_eq rfl

theorem grows_sendOf (m : Nat) (s : State) : Grows s (sendOf m s) := by
  have hp : Grows s (postMail m s) := by
    unfold postMail
    split
    · exact Grows.refl s
    · exact (Grows.of_eq rfl).trans (grows_foldl _ (fun u w => grows_sendNow m u w) _ _)
  have hd (u : State) : Grows u (drain m u) := by
    unfold drain
    split
    · exact Grows.refl u
    · split
      · exact Grows.refl u
      · exact (Grows.of_eq rfl).trans (grows_foldl _ (fun u w => grows_sendNow m u w) _ _)
  exact hp.trans (hd _)

theorem grows_sendStep (s : State) : Grows s (sendStep s) := grows_foldl _ (fun u m => grows_sendOf m u) _ _

theorem grows_bareReply (m : Nat) (w : Waiting) (s : State) : Grows s (bareReply m w s) := by
  unfold bareReply
  split
  · exact grows_sendBare _ _ _
  · split
    · exact grows_postOut _ _ _ _
    · exact (grows_sendBare _ _ _).trans (grows_postOut _ _ _ _)

theorem grows_mailboxReply (m i : Nat) (ws : List Waiting) (s : State) : Grows s (mailboxReply m i ws s) := by
  unfold mailboxReply
  split
  · split
    · exact Grows.refl s
    · split
      · exact grows_sendItem _ _ _
      · exact (grows_sendItem _ _ _).trans (grows_postOut _ _ _ _)
  · exact (grows_foldl _ (fun u _ => grows_sendItem m _ u) _ _).trans (grows_postOut _ _ _ _)
  · exact Grows.refl s

theorem grows_sendReply (m : Nat) (via : Via) (ws : List Waiting) (s : State) : Grows s (sendReply m via ws s) := by
  unfold sendReply
  split
  · exact grows_foldl _ (fun u _ => grows_sendItem m _ u) _ _
  · exact grows_mailboxReply _ _ _ _

theorem outs_cometOffer (id src : Nat) (p : List Byte) (s : State) : (cometOffer id src p s).outs = s.outs := by
  unfold cometOffer
  split
  · rfl
  · split <;> rfl

theorem grows_emitAt (t : Gtc) (code src : Nat) (p : List Byte) (s : State) :
    Grows (put (.event code src (leBytes 8 t.toNat ++ p)) s) (emitAt t code src p s) := by
  have h := grows_foldl (fun a m => deliver t code src (leBytes 8 t.toNat ++ p) m a) (fun u m => grows_deliver _ _ _ _ m u)
    [0, 1, 2, 3, 4] (put (.event code src (leBytes 8 t.toNat ++ p)) s)
  unfold emitAt
  split
  · exact h
  · exact h.trans (Grows.of_eq (outs_cometOffer _ _ _ _))

theorem grows_emitExcept (m0 code src : Nat) (p : List Byte) (s : State) :
    Grows (put (.event code src (gtcBytes s ++ p)) s) (emitExcept m0 code src p s) := by
  have h := grows_foldl (fun t m => deliver s.tb.gtc code src (gtcBytes s ++ p) m t) (fun u m => grows_deliver _ _ _ _ m u)
    ([0, 1, 2, 3, 4].filter (fun m => m != m0)) (put (.event code src (gtcBytes s ++ p)) s)
  unfold emitExcept
  split
  · exact h
  · exact h.trans (Grows.of_eq (outs_cometOffer _ _ _ _))

theorem grows_emit (code src : Nat) (p : List Byte) (s : State) : Grows s (emit code src p s) :=
  (grows_put _ _).trans (grows_emitAt _ _ _ _ _)

theorem grows_modeChange (a b c d e : Nat) (s : State) : Grows s (modeChange a b c d e s) := grows_emit _ _ _ _

theorem grows_reply (r : Req) (op st : Nat) (p : List Byte) (s : State) : Grows s (reply r op st p s) := by
  unfold reply
  split
  · exact grows_put _ _
  · exact (grows_put _ _).trans (grows_bareReply _ _ _)
  · split
    · exact Grows.refl s
    · split
      · exact ((grows_put _ _).trans (Grows.of_eq rfl)).trans (grows_sendReply _ _ _ _)
      · exact Grows.refl s

theorem grows_endSession (m n : Nat) (s : State) : Grows s (endSession m n s) := by
  unfold endSession
  dsimp only
  split
  · exact grows_sendOf _ _
  · exact (((grows_sendOf m s).trans (Grows.of_eq rfl)).trans (grows_put _ _)).trans (grows_emitExcept _ _ _ _ _)

theorem grows_goodbyeStep (m : Nat) (s : State) : Grows s (goodbyeStep m s) := by
  unfold goodbyeStep
  split
  · exact Grows.refl s
  · split
    · exact (Grows.of_eq rfl).trans (grows_reply _ _ _ _ _)
    · exact Grows.refl s
  · exact Grows.refl s

theorem grows_endingOf (m : Nat) (s : State) : Grows s (endingOf m s) := by
  have h : Grows s (sendOf m (goodbyeStep m s)) := (grows_goodbyeStep m s).trans (grows_sendOf _ _)
  unfold endingOf
  dsimp only
  split
  · exact h
  · split
    · exact h
    · split
      · exact h.trans (grows_endSession _ _ _)
      · exact h

theorem grows_endingStep (s : State) : Grows s (endingStep s) := by
  unfold endingStep
  exact grows_foldl (fun t m => endingOf m t) (fun u m => grows_endingOf m u) _ s

theorem grows_timeStep (s : State) : Grows s (timeStep s) := by
  unfold timeStep
  dsimp only
  split
  · exact Grows.of_eq rfl
  · refine Grows.trans ?_ (grows_modeChange _ _ _ _ _ _)
    exact Grows.of_eq rfl

theorem grows_endTests (s : State) : Grows s (endTests s) := by
  unfold endTests
  apply grows_foldl
  intro u a
  split
  · exact Grows.refl u
  · exact (Grows.of_eq rfl).trans (grows_emit _ _ _ _)

theorem outs_serveEntry (b : Bool) (s : State) : (serveEntry b s).outs = s.outs := by cases b <;> rfl

theorem grows_radioStep (b q : Bool) (s : State) : Grows s (radioStep b q s) := by
  unfold radioStep
  dsimp only
  split
  · exact Grows.of_eq rfl
  · have h2 (n : Nat × Nat) (c d : Prop) [Decidable c] [Decidable d] (x y : Nat) :
        Grows s (if c then
          let s0 := if d then { s with modes := { s.modes with radio := n.1, radioForce := n.2 } }
            else jumpMeters x y { s with modes := { s.modes with radio := n.1, radioForce := n.2 } }
          { s0 with mac := { s0.mac with airOffset := 0, lastUnit := none, lastOrbit := none } }
          else { s with modes := { s.modes with radio := n.1, radioForce := n.2 } }) := by
      split
      · dsimp only
        split <;> exact Grows.of_eq rfl
      · exact Grows.of_eq rfl
    have h3 (u : State) (c : Prop) [Decidable c] (hu : Grows s u) : Grows s (if c then serveEntry b u else u) := by
      split
      · exact hu.trans (Grows.of_eq (outs_serveEntry b u))
      · exact hu
    have h4 (u : State) (c : Prop) [Decidable c] (hu : Grows s u) : Grows s (if c then endTests u else u) := by
      split
      · exact hu.trans (grows_endTests u)
      · exact hu
    split
    · exact h4 _ _ (h3 _ _ (h2 _ _ _ _ _))
    · exact (h4 _ _ (h3 _ _ (h2 _ _ _ _ _))).trans (grows_modeChange _ _ _ _ _ _)

theorem grows_agreeStep (s : State) : Grows s (agreeStep s) := Grows.of_eq rfl

theorem grows_idleStep (s : State) : Grows s (idleStep s) := Grows.of_eq rfl

theorem grows_settle (s : State) : Grows s (settle s) := by
  unfold settle
  refine Grows.trans ?_ (grows_agreeStep _)
  refine Grows.trans ?_ (grows_sendStep _)
  exact (((grows_idleStep s).trans (grows_radioStep true false _)).trans (grows_timeStep _)).trans (grows_endingStep _)

/-! ### What was answered and reported -/

theorem mem_newOuts_of_grows {s a b : State} {o : Out} (h : Grows s a) (k : Grows (put o a) b) : o ∈ newOuts s b := by
  obtain ⟨l, hl⟩ := h
  obtain ⟨m, hm⟩ := k
  simp [newOuts, hm, hl]

theorem newOuts_mono {s a b : State} {o : Out} (hs : Grows s a) (h : o ∈ newOuts s a) (k : Grows a b) : o ∈ newOuts s b := by
  obtain ⟨l, hl⟩ := hs
  obtain ⟨m, hm⟩ := k
  simp only [newOuts, hm, hl, List.append_assoc, List.drop_left] at h ⊢
  simp_all

theorem reported_emit (code src : Nat) (p : List Byte) (s a : State) (h : Grows s a) (hg : a.tb.gtc = s.tb.gtc) :
    Reported s (emit code src p a) code src p := by
  have := grows_emitAt a.tb.gtc code src p a
  unfold Reported gtcBytes
  rw [← hg]
  exact mem_newOuts_of_grows h this

/-- A reply to a request that is answerable is put out. -/
theorem answered_reply (r : Req) (op st : Nat) (p : List Byte) (s a : State) (h : Grows s a) (ha : Answerable a r) :
    Answered s (reply r op st p a) r op st p := by
  unfold Answered
  refine mem_newOuts_of_grows h ?_
  unfold reply
  rcases ha with ha | ha | ⟨v, hv, hs⟩
  · simp only [ha]; exact Grows.refl _
  · simp only [ha]; exact grows_bareReply _ _ _
  · by_cases h0 : v.id = 0
    · simp only [hs, h0]; exact grows_bareReply _ _ _
    · obtain ⟨n, hn⟩ := Nat.exists_eq_succ_of_ne_zero h0
      simp only [hs, hv, hn, Nat.succ_eq_add_one, ↓reduceIte]
      exact (Grows.of_eq rfl).trans (grows_sendReply _ _ _ _)

theorem answered_settle {s t : State} {r : Req} {op st : Nat} {p : List Byte} (hs : Grows s t) (h : Answered s t r op st p) :
    Answered s (settle t) r op st p := newOuts_mono hs h (grows_settle t)

theorem reported_settle {s t : State} {code src : Nat} {p : List Byte} (hs : Grows s t) (h : Reported s t code src p) :
    Reported s (settle t) code src p := newOuts_mono hs h (grows_settle t)

/-! ### Accepting a request -/

theorem grows_accept (op : Nat) (r : Req) (s : State) : Grows s (accept op r s) := Grows.of_eq (by simp)

theorem modNth_getD_option {α : Type} (l : List (Option α)) (m : Nat) (f : α → α) :
    nth (modNth l m (fun o => o.map f)) m none = (nth l m none).map f := by
  unfold nth modNth
  induction l generalizing m with
  | nil => simp
  | cons a r ih => cases m with
    | zero => simp
    | succ k => simpa using ih k

@[simp] theorem sessOf_modSess (m : Nat) (f : Session → Session) (s : State) :
    sessOf (modSess m f s) m = (sessOf s m).map f := modNth_getD_option _ _ _

theorem answerable_of_sessions {s a : State} {r : Req} (h : Answerable s r)
    (hs : sessOf a r.master = sessOf s r.master) : Answerable a r := by
  rcases h with h | h | ⟨v, hv, h⟩
  · exact .inl h
  · exact .inr (.inl h)
  · exact .inr (.inr ⟨v, hs.trans hv, h⟩)

theorem answerable_accept {op : Nat} {s : State} {r : Req} (h : Answerable s r) : Answerable (accept op r s) r := by
  rcases h with h | h | ⟨v, hv, h⟩
  · exact .inl h
  · exact .inr (.inl h)
  · refine .inr (.inr ?_)
    unfold accept
    split
    · exact ⟨v, hv, h⟩
    · exact ⟨{ v with outstanding := v.outstanding ++ [⟨r.tag, op, r.seq⟩] }, by rw [sessOf_modSess, hv]; rfl, h⟩

/-! ### Requests -/

/-- An admitted request whose checks answer at once: its reply, settled. -/
theorem runCommand_reply {op : Nat} {always : Bool} {r : Req} {s : State} (body : State → Ans) {st : Nat} {p : List Byte} {u : State}
    (h : Admitted op always r s) (hb : body (accept op r s) = .reply st p u) :
    runCommand op always r body s = reply r op st p u := by
  unfold runCommand
  simp [h.1, h.2.1, hb, finish]

/-- An admitted request that is answered later. -/
theorem runCommand_later {op : Nat} {always : Bool} {r : Req} {s : State} (body : State → Ans) {u : State}
    (h : Admitted op always r s) (hb : body (accept op r s) = .later u) : runCommand op always r body s = u := by
  unfold runCommand
  simp [h.1, h.2.1, hb, finish]

/-- A command that is refused by steps 9 to 11 of R54 only replies. -/
theorem runCommand_refused {op : Nat} {always : Bool} {r : Req} {s : State} (body : State → Ans) {st : Nat}
    (h : efbexRuns s = true) (hr : refusal op always r s = some st) : runCommand op always r body s = reply r op st [] s := by
  unfold runCommand
  simp [h, hr]

/-- A command while Efbex is not carried changes nothing. -/
theorem runCommand_off {op : Nat} {always : Bool} {r : Req} {s : State} (body : State → Ans) (h : efbexRuns s = false) :
    runCommand op always r body s = s := by
  unfold runCommand
  simp [h]

/-- Checks that all pass. -/
theorem checked_pass (size reserved range unique : Bool) (states : List Nat) (s : State) (k : State → Ans) (h1 : size = true)
    (h2 : reserved = true) (h3 : range = true) (h4 : unique = true) (h5 : states = []) :
    checked size reserved range unique states s k = k s := by
  simp [checked, h1, h2, h3, h4, h5]

/-- A request that is answered at once: the next state, what it keeps, its answer. -/
theorem done_reply {op st : Nat} {r : Req} {p : List Byte} {s u : State} (hg : Grows s u) (ha : Answerable u r) :
    ∃ t, done (reply r op st p u) = .next t ∧ core t = core u ∧ Answered s t r op st p :=
  ⟨_, rfl, by simp, answered_settle (hg.trans (grows_reply _ _ _ _ _)) (answered_reply _ _ _ _ _ _ hg ha)⟩

end Sys2Proof.Machine
end

