-- ==== Sys2Proof/Laws/Sessions.lean ====
section
/-!
SUPPORT. Sys2Proof/Laws/Sessions.lean: what sending, replying, reporting and settling can do to a session: end it, or move its queues and its
device sequence; never its identity, version, mask, keys, address or expected sequence, and a bound end stays bound.
-/
namespace Sys2Proof.Machine
open Sys2Proof

/-- What sending may change in a session: everything here stays. -/
structure SessStep (v w : Session) : Prop where
  id : w.id = v.id
  major : w.major = v.major
  minor : w.minor = v.minor
  authenticated : w.authenticated = v.authenticated
  mask : w.mask = v.mask
  keyIn : w.keyIn = v.keyIn
  keyOut : w.keyOut = v.keyOut
  addr : w.addr = v.addr
  next : w.next = v.next
  last : w.last = v.last
  reasm : w.reasm = v.reasm
  ending : v.ending.isSome = true → w.ending.isSome = true

theorem SessStep.refl (v : Session) : SessStep v v :=
  ⟨rfl, rfl, rfl, rfl, rfl, rfl, rfl, rfl, rfl, rfl, rfl, fun h => h⟩

theorem SessStep.trans {a b c : Session} (h : SessStep a b) (k : SessStep b c) : SessStep a c :=
  ⟨k.id.trans h.id, k.major.trans h.major, k.minor.trans h.minor, k.authenticated.trans h.authenticated, k.mask.trans h.mask,
    k.keyIn.trans h.keyIn, k.keyOut.trans h.keyOut, k.addr.trans h.addr, k.next.trans h.next, k.last.trans h.last,
    k.reasm.trans h.reasm, fun e => k.ending (h.ending e)⟩

/-- Every session of `t` comes from the session of the same master in `s`. -/
def SessKept (s t : State) : Prop := ∀ m w, sessOf t m = some w → ∃ v, sessOf s m = some v ∧ SessStep v w

theorem SessKept.refl (s : State) : SessKept s s := fun _ w h => ⟨w, h, SessStep.refl w⟩

theorem SessKept.trans {a b c : State} (h : SessKept a b) (k : SessKept b c) : SessKept a c := by
  intro m w hw
  obtain ⟨v, hv, hs⟩ := k m w hw
  obtain ⟨u, hu, hr⟩ := h m v hv
  exact ⟨u, hu, hr.trans hs⟩

theorem SessKept.of_eq {a b : State} (h : b.sessions = a.sessions) : SessKept a b := by
  intro m w hw
  refine ⟨w, ?_, SessStep.refl w⟩
  unfold sessOf at *
  rw [← h]; exact hw

theorem nth_modNth_ne {α : Type} (l : List α) (m k : Nat) (f : α → α) (d : α) (h : k ≠ m) :
    nth (modNth l m f) k d = nth l k d := by
  unfold nth modNth
  induction l generalizing m k with
  | nil => simp
  | cons a r ih => cases m with
    | zero => cases k with
      | zero => exact absurd rfl h
      | succ j => simp
    | succ n => cases k with
      | zero => simp
      | succ j => simpa using ih n j (by omega)

theorem sessOf_modSess_ne (m k : Nat) (f : Session → Session) (s : State) (h : k ≠ m) : sessOf (modSess m f s) k = sessOf s k :=
  nth_modNth_ne _ _ _ _ _ h

theorem sessKept_modSess (m : Nat) (f : Session → Session) (s : State) (h : ∀ v, SessStep v (f v)) :
    SessKept s (modSess m f s) := by
  intro k w hw
  by_cases hk : k = m
  · subst hk
    rw [sessOf_modSess] at hw
    cases hv : sessOf s k with
    | none => rw [hv] at hw; cases hw
    | some v =>
      rw [hv] at hw
      cases hw
      exact ⟨v, rfl, h v⟩
  · rw [sessOf_modSess_ne m k f s hk] at hw
    exact ⟨w, hw, SessStep.refl w⟩

theorem sessKept_put (o : Out) (s : State) : SessKept s (put o s) := SessKept.of_eq rfl
theorem sessKept_modBank (m : Nat) (f : Bank → Bank) (s : State) : SessKept s (modBank m f s) := SessKept.of_eq rfl

theorem sessKept_foldl {α : Type} (f : State → α → State) (hf : ∀ u a, SessKept u (f u a)) (l : List α) (s : State) :
    SessKept s (l.foldl f s) := by
  induction l generalizing s with
  | nil => exact SessKept.refl s
  | cons a r ih => exact (hf s a).trans (ih _)

theorem dblOutSet_sessions (m b : Nat) (s : State) : (dblOutSet m b s).sessions = s.sessions := by
  unfold dblOutSet
  split <;> rfl

theorem sessKept_dblOutSet (m b : Nat) (s : State) : SessKept s (dblOutSet m b s) := SessKept.of_eq (dblOutSet_sessions m b s)

theorem takeSeq_step (v : Session) (w : Waiting) : SessStep v (takeSeq v w).2 := by
  unfold takeSeq
  split
  · exact SessStep.refl v
  · refine ⟨rfl, rfl, rfl, rfl, rfl, rfl, rfl, rfl, rfl, rfl, rfl, fun h => ?_⟩
    dsimp only
    split
    · rfl
    · exact h

theorem sessKept_take (m : Nat) (v : Session) (w : Waiting) (s : State) (h : sessOf s m = some v) :
    SessKept s (modSess m (fun _ => (takeSeq v w).2) s) := by
  intro k x hx
  by_cases hk : k = m
  · subst hk
    rw [sessOf_modSess, h] at hx
    cases hx
    exact ⟨v, h, takeSeq_step v w⟩
  · rw [sessOf_modSess_ne m k _ s hk] at hx
    exact ⟨x, hx, SessStep.refl x⟩

theorem sessKept_itemBells (m op : Nat) (s : State) : SessKept s (itemBells m op s) := by
  unfold itemBells
  split
  · exact SessKept.refl s
  · refine SessKept.trans ?_ (sessKept_dblOutSet _ _ _)
    split
    · exact sessKept_dblOutSet _ _ _
    · exact SessKept.refl s

theorem putPacket_sessions (m : Nat) (a : UdpAddr) (bs : List Byte) (s : State) : (putPacket m a bs s).sessions = s.sessions := by
  unfold putPacket
  split
  · unfold sendLink
    split
    · rfl
    · split <;> rfl
  · rfl

theorem sessKept_putPacket (m : Nat) (a : UdpAddr) (bs : List Byte) (s : State) : SessKept s (putPacket m a bs s) :=
  SessKept.of_eq (putPacket_sessions m a bs s)

theorem sessKept_sendItem (m : Nat) (w : Waiting) (s : State) : SessKept s (sendItem m w s) := by
  unfold sendItem
  split
  · exact SessKept.refl s
  · split
    · exact SessKept.refl s
    · refine SessKept.trans ?_ (sessKept_itemBells _ _ _)
      exact sessKept_modSess _ _ _ (fun v => ⟨rfl, rfl, rfl, rfl, rfl, rfl, rfl, rfl, rfl, rfl, rfl, fun h => h⟩)

theorem sessKept_sendBare (m : Nat) (w : Waiting) (s : State) : SessKept s (sendBare m w s) := by
  unfold sendBare
  split
  · exact SessKept.of_eq (dblOutSet_sessions _ _ _)
  · exact sessKept_putPacket _ _ _ _

theorem makeRoom_step (v : Session) : SessStep v (makeRoom v) := by
  unfold makeRoom
  split
  · exact SessStep.refl v
  · split
    · exact SessStep.refl v
    · exact ⟨rfl, rfl, rfl, rfl, rfl, rfl, rfl, rfl, rfl, rfl, rfl, fun h => h⟩

theorem sessKept_waitNotice (m k : Nat) (s : State) : SessKept s (waitNotice m k s) := by
  unfold waitNotice
  split
  · dsimp only
    split <;> exact SessKept.of_eq rfl
  · exact SessKept.refl s

theorem sessKept_deliver (t : Gtc) (code src : Nat) (p : List Byte) (m : Nat) (s : State) :
    SessKept s (deliver t code src p m s) := by
  unfold deliver
  split
  · exact SessKept.refl s
  · split
    · exact SessKept.refl s
    · split
      · exact ((sessKept_modSess _ _ _ makeRoom_step).trans (sessKept_sendItem _ _ _)).trans (sessKept_waitNotice _ _ _)
      · exact sessKept_modSess _ _ _ (fun v => ⟨rfl, rfl, rfl, rfl, rfl, rfl, rfl, rfl, rfl, rfl, rfl, fun h => h⟩)

theorem sessKept_postOut (m n : Nat) (ws : List Nat) (s : State) : SessKept s (postOut m n ws s) := by
  unfold postOut
  dsimp only
  split
  · refine SessKept.trans ?_ (sessKept_deliver _ _ _ _ _ _)
    split <;> exact SessKept.of_eq rfl
  · split <;> exact SessKept.of_eq rfl

theorem sessKept_sendNow (m : Nat) (s : State) (w : Waiting) : SessKept s (sendNow m s w) := by
  unfold sendNow
  split
  · exact SessKept.refl s
  · rename_i v hv
    split
    · exact SessKept.refl s
    · dsimp only
      split
      · exact (sessKept_take m v w s hv).trans (sessKept_putPacket _ _ _ _)
      · exact (sessKept_take m v w s hv).trans (sessKept_postOut _ _ _ _)

theorem sessKept_postMail (m : Nat) (s : State) : SessKept s (postMail m s) := by
  unfold postMail
  split
  · exact SessKept.refl s
  · refine SessKept.trans ?_ (sessKept_foldl _ (fun u w => sessKept_sendNow m u w) _ _)
    exact sessKept_modSess _ _ _ (fun v => ⟨rfl, rfl, rfl, rfl, rfl, rfl, rfl, rfl, rfl, rfl, rfl, fun h => h⟩)

theorem sessKept_drain (m : Nat) (s : State) : SessKept s (drain m s) := by
  unfold drain
  split
  · exact SessKept.refl s
  · split
    · exact SessKept.refl s
    · refine SessKept.trans ?_ (sessKept_foldl _ (fun u w => sessKept_sendNow m u w) _ _)
      exact sessKept_modSess _ _ _ (fun v => ⟨rfl, rfl, rfl, rfl, rfl, rfl, rfl, rfl, rfl, rfl, rfl, fun h => h⟩)

theorem sessKept_sendOf (m : Nat) (s : State) : SessKept s (sendOf m s) :=
  (sessKept_postMail m s).trans (sessKept_drain m _)

theorem sessKept_sendStep (s : State) : SessKept s (sendStep s) := by
  unfold sendStep
  exact sessKept_foldl (fun t m => sendOf m t) (fun u m => sessKept_sendOf m u) _ s

theorem sessKept_bareReply (m : Nat) (w : Waiting) (s : State) : SessKept s (bareReply m w s) := by
  unfold bareReply
  split
  · exact sessKept_sendBare _ _ _
  · split
    · exact sessKept_postOut _ _ _ _
    · exact (sessKept_sendBare _ _ _).trans (sessKept_postOut _ _ _ _)

theorem sessKept_mailboxReply (m i : Nat) (ws : List Waiting) (s : State) : SessKept s (mailboxReply m i ws s) := by
  unfold mailboxReply
  split
  · split
    · exact SessKept.refl s
    · split
      · exact sessKept_sendItem _ _ _
      · exact (sessKept_sendItem _ _ _).trans (sessKept_postOut _ _ _ _)
  · exact (sessKept_foldl _ (fun u _ => sessKept_sendItem m _ u) _ _).trans (sessKept_postOut _ _ _ _)
  · exact SessKept.refl s

theorem sessKept_sendReply (m : Nat) (via : Via) (ws : List Waiting) (s : State) : SessKept s (sendReply m via ws s) := by
  unfold sendReply
  split
  · exact sessKept_foldl _ (fun u _ => sessKept_sendItem m _ u) _ _
  · exact sessKept_mailboxReply _ _ _ _

theorem sessions_cometOffer (id src : Nat) (p : List Byte) (s : State) : (cometOffer id src p s).sessions = s.sessions := by
  unfold cometOffer
  split
  · rfl
  · split <;> rfl

theorem sessKept_emitAt (t : Gtc) (code src : Nat) (p : List Byte) (s : State) : SessKept s (emitAt t code src p s) := by
  have h := (sessKept_put (.event code src (leBytes 8 t.toNat ++ p)) s).trans
    (sessKept_foldl (fun a m => deliver t code src (leBytes 8 t.toNat ++ p) m a) (fun u m => sessKept_deliver _ _ _ _ m u) [0, 1, 2, 3, 4] _)
  unfold emitAt
  split
  · exact h
  · exact h.trans (SessKept.of_eq (sessions_cometOffer _ _ _ _))

theorem sessKept_emit (code src : Nat) (p : List Byte) (s : State) : SessKept s (emit code src p s) := sessKept_emitAt _ _ _ _ _

theorem sessKept_emitExcept (m0 code src : Nat) (p : List Byte) (s : State) : SessKept s (emitExcept m0 code src p s) := by
  have h := (sessKept_put (.event code src (gtcBytes s ++ p)) s).trans
    (sessKept_foldl (fun t m => deliver s.tb.gtc code src (gtcBytes s ++ p) m t) (fun u m => sessKept_deliver _ _ _ _ m u)
      ([0, 1, 2, 3, 4].filter (fun m => m != m0)) _)
  unfold emitExcept
  split
  · exact h
  · exact h.trans (SessKept.of_eq (sessions_cometOffer _ _ _ _))

theorem sessKept_modeChange (a b c d e : Nat) (s : State) : SessKept s (modeChange a b c d e s) := sessKept_emit _ _ _ _

theorem sessKept_reply (r : Req) (op st : Nat) (p : List Byte) (s : State) : SessKept s (reply r op st p s) := by
  unfold reply
  split
  · exact sessKept_put _ _
  · exact (sessKept_put _ _).trans (sessKept_bareReply _ _ _)
  · split
    · exact SessKept.refl s
    · split
      · refine SessKept.trans ?_ (sessKept_sendReply _ _ _ _)
        exact (sessKept_put _ _).trans (sessKept_modSess _ _ _
          (fun v => ⟨rfl, rfl, rfl, rfl, rfl, rfl, rfl, rfl, rfl, rfl, rfl, fun h => h⟩))
      · exact SessKept.refl s

theorem sessOf_set_none (s : State) (m k : Nat) (w : Session) (h : sessOf { s with sessions := s.sessions.set m none } k = some w) :
    sessOf s k = some w := by
  unfold sessOf nth at *
  dsimp only at h
  rw [List.getD_eq_getElem?_getD, List.getElem?_set] at h
  rw [List.getD_eq_getElem?_getD]
  split at h
  · split at h <;> simp at h
  · exact h

theorem sessKept_endSession (m reason : Nat) (s : State) : SessKept s (endSession m reason s) := by
  unfold endSession
  dsimp only
  split
  · exact sessKept_sendOf m s
  · refine (sessKept_sendOf m s).trans (SessKept.trans ?_ (sessKept_emitExcept _ _ _ _ _))
    intro k w hw
    exact ⟨w, sessOf_set_none _ m k w hw, SessStep.refl w⟩

theorem sessKept_goodbyeStep (m : Nat) (s : State) : SessKept s (goodbyeStep m s) := by
  unfold goodbyeStep
  split
  · exact SessKept.refl s
  · split
    · refine SessKept.trans ?_ (sessKept_reply _ _ _ _ _)
      exact sessKept_modSess _ _ _
        (fun v => ⟨rfl, rfl, rfl, rfl, rfl, rfl, rfl, rfl, rfl, rfl, rfl, fun h => by simpa using h⟩)
    · exact SessKept.refl s
  · exact SessKept.refl s

theorem sessKept_endingOf (m : Nat) (s : State) : SessKept s (endingOf m s) := by
  have h : SessKept s (sendOf m (goodbyeStep m s)) := (sessKept_goodbyeStep m s).trans (sessKept_sendOf _ _)
  unfold endingOf
  dsimp only
  split
  · exact h
  · split
    · exact h
    · split
      · exact h.trans (sessKept_endSession _ _ _)
      · exact h

theorem sessKept_endingStep (s : State) : SessKept s (endingStep s) := by
  unfold endingStep
  exact sessKept_foldl (fun t m => endingOf m t) (fun u m => sessKept_endingOf m u) _ s

theorem sessKept_timeStep (s : State) : SessKept s (timeStep s) := by
  unfold timeStep
  dsimp only
  split
  · exact SessKept.of_eq rfl
  · refine SessKept.trans ?_ (sessKept_modeChange _ _ _ _ _ _)
    exact SessKept.of_eq rfl

theorem sessKept_endTests (s : State) : SessKept s (endTests s) := by
  unfold endTests
  apply sessKept_foldl
  intro u a
  split
  · exact SessKept.refl u
  · refine SessKept.trans ?_ (sessKept_emit _ _ _ _)
    exact SessKept.of_eq rfl

theorem sessions_serveEntry (b : Bool) (s : State) : (serveEntry b s).sessions = s.sessions := by cases b <;> rfl

theorem sessKept_radioStep (b q : Bool) (s : State) : SessKept s (radioStep b q s) := by
  unfold radioStep
  dsimp only
  split
  · exact SessKept.of_eq rfl
  · have h2 (n : Nat × Nat) (c d : Prop) [Decidable c] [Decidable d] (x y : Nat) :
        SessKept s (if c then
          let s0 := if d then { s with modes := { s.modes with radio := n.1, radioForce := n.2 } }
            else jumpMeters x y { s with modes := { s.modes with radio := n.1, radioForce := n.2 } }
          { s0 with mac := { s0.mac with airOffset := 0, lastUnit := none, lastOrbit := none } }
          else { s with modes := { s.modes with radio := n.1, radioForce := n.2 } }) := by
      split
      · dsimp only
        split <;> exact SessKept.of_eq rfl
      · exact SessKept.of_eq rfl
    have h3 (u : State) (c : Prop) [Decidable c] (hu : SessKept s u) : SessKept s (if c then serveEntry b u else u) := by
      split
      · exact hu.trans (SessKept.of_eq (sessions_serveEntry b u))
      · exact hu
    have h4 (u : State) (c : Prop) [Decidable c] (hu : SessKept s u) : SessKept s (if c then endTests u else u) := by
      split
      · exact hu.trans (sessKept_endTests u)
      · exact hu
    split
    · exact h4 _ _ (h3 _ _ (h2 _ _ _ _ _))
    · exact (h4 _ _ (h3 _ _ (h2 _ _ _ _ _))).trans (sessKept_modeChange _ _ _ _ _ _)

theorem sessKept_idleStep (s : State) : SessKept s (idleStep s) := SessKept.of_eq rfl

theorem sessKept_agreeStep (s : State) : SessKept s (agreeStep s) := SessKept.of_eq rfl

/-- Settling ends sessions or moves their queues, and nothing else of them. -/
theorem sessKept_settle (s : State) : SessKept s (settle s) := by
  unfold settle
  exact (((((sessKept_idleStep s).trans (sessKept_radioStep true false _)).trans (sessKept_timeStep _)).trans
    (sessKept_endingStep _)).trans (sessKept_sendStep _)).trans (sessKept_agreeStep _)

theorem sessKept_accept (op : Nat) (r : Req) (s : State) : SessKept s (accept op r s) := by
  unfold accept
  split
  · exact SessKept.refl s
  · exact sessKept_modSess _ _ _ (fun v => ⟨rfl, rfl, rfl, rfl, rfl, rfl, rfl, rfl, rfl, rfl, rfl, fun h => h⟩)

/-! ### Sending and reporting end no session -/

/-- Every session of `s` is still there in `t`. -/
def SessHeld (s t : State) : Prop := ∀ m v, sessOf s m = some v → ∃ w, sessOf t m = some w ∧ SessStep v w

theorem SessHeld.refl (s : State) : SessHeld s s := fun _ w h => ⟨w, h, SessStep.refl w⟩

theorem SessHeld.trans {a b c : State} (h : SessHeld a b) (k : SessHeld b c) : SessHeld a c := by
  intro m v hv
  obtain ⟨u, hu, hr⟩ := h m v hv
  obtain ⟨w, hw, hs⟩ := k m u hu
  exact ⟨w, hw, hr.trans hs⟩

theorem SessHeld.of_eq {a b : State} (h : b.sessions = a.sessions) : SessHeld a b := by
  intro m w hw
  refine ⟨w, ?_, SessStep.refl w⟩
  unfold sessOf at *
  rw [h]; exact hw

theorem sessHeld_modSess (m : Nat) (f : Session → Session) (s : State) (h : ∀ v, sessOf s m = some v → SessStep v (f v)) :
    SessHeld s (modSess m f s) := by
  intro k v hv
  by_cases hk : k = m
  · subst hk
    exact ⟨f v, by rw [sessOf_modSess, hv]; rfl, h v hv⟩
  · exact ⟨v, by rw [sessOf_modSess_ne m k f s hk]; exact hv, SessStep.refl v⟩

theorem sessHeld_foldl {α : Type} (f : State → α → State) (hf : ∀ u a, SessHeld u (f u a)) (l : List α) (s : State) :
    SessHeld s (l.foldl f s) := by
  induction l generalizing s with
  | nil => exact SessHeld.refl s
  | cons a r ih => exact (hf s a).trans (ih _)

theorem itemBells_sessions (m op : Nat) (s : State) : (itemBells m op s).sessions = s.sessions := by
  unfold itemBells
  split
  · rfl
  · rw [dblOutSet_sessions]
    split
    · exact dblOutSet_sessions _ _ _
    · rfl

theorem waitNotice_sessions (m k : Nat) (s : State) : (waitNotice m k s).sessions = s.sessions := by
  unfold waitNotice
  split
  · dsimp only
    split <;> rfl
  · rfl

theorem sessHeld_sendItem (m : Nat) (w : Waiting) (s : State) : SessHeld s (sendItem m w s) := by
  unfold sendItem
  split
  · exact SessHeld.refl s
  · split
    · exact SessHeld.refl s
    · refine SessHeld.trans ?_ (SessHeld.of_eq (itemBells_sessions _ _ _))
      exact sessHeld_modSess _ _ _ (fun v _ => ⟨rfl, rfl, rfl, rfl, rfl, rfl, rfl, rfl, rfl, rfl, rfl, fun h => h⟩)

theorem sessHeld_deliver (t : Gtc) (code src : Nat) (p : List Byte) (m : Nat) (s : State) :
    SessHeld s (deliver t code src p m s) := by
  unfold deliver
  split
  · exact SessHeld.refl s
  · split
    · exact SessHeld.refl s
    · split
      · exact ((sessHeld_modSess _ _ _ (fun v _ => makeRoom_step v)).trans (sessHeld_sendItem _ _ _)).trans
          (SessHeld.of_eq (waitNotice_sessions _ _ _))
      · exact sessHeld_modSess _ _ _ (fun v _ => ⟨rfl, rfl, rfl, rfl, rfl, rfl, rfl, rfl, rfl, rfl, rfl, fun h => h⟩)

theorem sessHeld_emitAt (t : Gtc) (code src : Nat) (p : List Byte) (s : State) : SessHeld s (emitAt t code src p s) := by
  have h := (SessHeld.of_eq (b := put (.event code src (leBytes 8 t.toNat ++ p)) s) (a := s) rfl).trans
    (sessHeld_foldl (fun a m => deliver t code src (leBytes 8 t.toNat ++ p) m a) (fun u m => sessHeld_deliver _ _ _ _ m u) [0, 1, 2, 3, 4] _)
  unfold emitAt
  split
  · exact h
  · exact h.trans (SessHeld.of_eq (sessions_cometOffer _ _ _ _))

theorem sessHeld_emit (code src : Nat) (p : List Byte) (s : State) : SessHeld s (emit code src p s) := sessHeld_emitAt _ _ _ _ _

theorem sessHeld_emitExcept (m0 code src : Nat) (p : List Byte) (s : State) : SessHeld s (emitExcept m0 code src p s) := by
  have h := (SessHeld.of_eq (b := put (.event code src (gtcBytes s ++ p)) s) (a := s) rfl).trans
    (sessHeld_foldl (fun t m => deliver s.tb.gtc code src (gtcBytes s ++ p) m t) (fun u m => sessHeld_deliver _ _ _ _ m u)
      ([0, 1, 2, 3, 4].filter (fun m => m != m0)) _)
  unfold emitExcept
  split
  · exact h
  · exact h.trans (SessHeld.of_eq (sessions_cometOffer _ _ _ _))

theorem sessHeld_take (m : Nat) (v : Session) (w : Waiting) (s : State) (h : sessOf s m = some v) :
    SessHeld s (modSess m (fun _ => (takeSeq v w).2) s) := by
  refine sessHeld_modSess _ _ _ (fun u hu => ?_)
  rw [h] at hu
  cases hu
  exact takeSeq_step v w

theorem sessHeld_postOut (m n : Nat) (ws : List Nat) (s : State) : SessHeld s (postOut m n ws s) := by
  unfold postOut
  dsimp only
  split
  · refine SessHeld.trans ?_ (sessHeld_deliver _ _ _ _ _ _)
    split <;> exact SessHeld.of_eq rfl
  · split <;> exact SessHeld.of_eq rfl

theorem sessHeld_sendNow (m : Nat) (s : State) (w : Waiting) : SessHeld s (sendNow m s w) := by
  unfold sendNow
  split
  · exact SessHeld.refl s
  · rename_i v hv
    split
    · exact SessHeld.refl s
    · dsimp only
      split
      · exact (sessHeld_take m v w s hv).trans (SessHeld.of_eq (putPacket_sessions _ _ _ _))
      · exact (sessHeld_take m v w s hv).trans (sessHeld_postOut _ _ _ _)

/-- Sending what waits ends no session. -/
theorem sessHeld_sendOf (m : Nat) (s : State) : SessHeld s (sendOf m s) := by
  unfold sendOf
  refine SessHeld.trans (b := postMail m s) ?_ ?_
  · unfold postMail
    split
    · exact SessHeld.refl s
    · refine SessHeld.trans ?_ (sessHeld_foldl _ (fun u w => sessHeld_sendNow m u w) _ _)
      exact sessHeld_modSess _ _ _ (fun v _ => ⟨rfl, rfl, rfl, rfl, rfl, rfl, rfl, rfl, rfl, rfl, rfl, fun h => h⟩)
  · unfold drain
    split
    · exact SessHeld.refl _
    · split
      · exact SessHeld.refl _
      · refine SessHeld.trans ?_ (sessHeld_foldl _ (fun u w => sessHeld_sendNow m u w) _ _)
        exact sessHeld_modSess _ _ _ (fun v _ => ⟨rfl, rfl, rfl, rfl, rfl, rfl, rfl, rfl, rfl, rfl, rfl, fun h => h⟩)

theorem answerable_held {s a : State} {r : Req} (h : Answerable s r) (k : SessHeld s a) : Answerable a r := by
  rcases h with h | h | ⟨v, hv, h⟩
  · exact .inl h
  · exact .inr (.inl h)
  · obtain ⟨w, hw, hs⟩ := k _ v hv
    exact .inr (.inr ⟨w, hw, by rw [hs.id]; exact h⟩)

theorem sessHeld_accept (op : Nat) (r : Req) (s : State) : SessHeld s (accept op r s) := by
  unfold accept
  split
  · exact SessHeld.refl s
  · exact sessHeld_modSess _ _ _ (fun v _ => ⟨rfl, rfl, rfl, rfl, rfl, rfl, rfl, rfl, rfl, rfl, rfl, fun h => h⟩)

/-! ### Requests that are answered -/

/-- An admitted request that is answered at once. -/
theorem exec_reply {c : Instr} {op st : Nat} {al : Bool} {r : Req} {s u : State} {p : List Byte} (body : State → Ans)
    (hx : exec c s = done (runCommand op al r body s)) (h : Admitted op al r s) (hb : body (accept op r s) = .reply st p u) :
    exec c s = .next (settle (reply r op st p u)) := by
  rw [hx, runCommand_reply body h hb, done]

/-- An admitted request that is answered later. -/
theorem exec_later {c : Instr} {op : Nat} {al : Bool} {r : Req} {s u : State} (body : State → Ans)
    (hx : exec c s = done (runCommand op al r body s)) (h : Admitted op al r s) (hb : body (accept op r s) = .later u) :
    exec c s = .next (settle u) := by
  rw [hx, runCommand_later body h hb, done]

/-- An admitted request that is answered at once: what the next state is but for what replies move, and the answer. -/
theorem runs_reply {c : Instr} {op st : Nat} {al : Bool} {r : Req} {s u v : State} {p : List Byte} (body : State → Ans)
    (hx : exec c s = done (runCommand op al r body s)) (h : Admitted op al r s) (hb : body (accept op r s) = .reply st p u)
    (hc : core u = core v) (hg : Grows s u) (hs : SessHeld (accept op r s) u) :
    Runs c s (fun t => Same t v ∧ Answered s t r op st p) := by
  refine ⟨settle (reply r op st p u), by rw [hx, runCommand_reply body h hb]; rfl, ?_, ?_⟩
  · simp [Same, hc]
  · exact answered_settle (hg.trans (grows_reply _ _ _ _ _))
      (answered_reply _ _ _ _ _ _ hg (answerable_held h.2.2 ((sessHeld_accept op r s).trans hs)))

/-- An admitted request that is answered later: what the next state is but for what replies move. -/
theorem runs_later {c : Instr} {op : Nat} {al : Bool} {r : Req} {s u v : State} (body : State → Ans)
    (hx : exec c s = done (runCommand op al r body s)) (h : Admitted op al r s) (hb : body (accept op r s) = .later u)
    (hc : core u = core v) : Runs c s (fun t => Same t v) :=
  ⟨settle u, by rw [hx, runCommand_later body h hb]; rfl, by simp [Same, hc]⟩

end Sys2Proof.Machine
end

