-- ==== Sys2Proof/Tests/Slice0.lean ====
section
/-!
SUPPORT. Sys2Proof/Tests/Slice0.lean: own tests: commands that are not well formed, and for the claims of the statements concrete states and
operands that meet their hypotheses, with what the spec says must come of them.
-/
namespace Sys2Proof.Tests
open Sys2Proof Sys2Proof.Machine
set_option Elab.async false
set_option maxRecDepth 100000

/-! ### Helpers -/

/-- A request of master 0 with a proved tag and no session of its own. -/
def host (p : List Byte) : Req := ⟨0, 7, true, .transport, none, noAddr, 0, p, false⟩

/-- The reply to a request of `host`. -/
def replied (t : State) : Option (Nat × Nat × List Byte) :=
  t.outs.findSome? (fun x => match x with
    | .reply _ op 7 st p => some (op, st, p)
    | _ => none)

/-- The first event with a code: its source and its payload after the GTC. -/
def told (code : Nat) (t : State) : Option (Nat × List Byte) :=
  t.outs.findSome? (fun x => match x with
    | .event c src p => if c = code then some (src, p.drop 8) else none
    | _ => none)

/-- Whether a command ends in a next state of which `f` holds. -/
def leads (c : Instr) (s : State) (f : State → Bool) : Bool :=
  match exec c s with
  | .next t => f t
  | _ => false

/-- The command is answered with a status and a payload. -/
def answers (c : Instr) (s : State) (op st : Nat) (p : List Byte) : Bool := leads c s (fun t => replied t == some (op, st, p))

/-- The state after reset with Eclipse CLEAR. -/
def clear : State := { State.reset with repl := { State.reset.repl with ecl := { State.reset.repl.ecl with state := 0 } } }

/-- The state after reset at a later GTC. -/
def later (ns : Nat) (s : State) : State := { s with tb := { s.tb with gtc := BitVec.ofNat 64 ns } }

/-- A session of master 0 with major 2 and every event group. -/
def session : Session :=
  { id := 5, major := 2, minor := 7, authenticated := false, mask := 0x3FFFE, keyIn := zeros 32, keyOut := zeros 32, addr := noAddr,
    next := 1, dev := 0, last := 0, outstanding := [], cache := [], reasm := none, queue := [], mid := none, lost := 0, lostSince := 0, lostTotal := 0,
    ending := none }

/-- The state after reset with a session of master 0. -/
def served (v : Session) : State := { State.reset with sessions := [some v, none, none, none, none] }

/-- The payload with bytes put in from an offset. -/
def patch (p : List Byte) (o : Nat) (d : List Byte) : List Byte := p.take o ++ d ++ p.drop (o + d.length)

/-- Every command row is admitted after reset when its tag was proved. -/
theorem witness_admitted (op : Nat) (always : Bool) (p : List Byte) : Admitted op always (host p) State.reset := by
  refine ⟨by decide, ?_, Or.inl rfl⟩
  simp [refusal, recoveryOut, frozenOut, authMissing, reqSess, host, frozen, violOf, State.reset, Vault.shipped, Viol.zero, nth]

/-! ### Commands that are not well formed -/

/-- A request of a sixth master is not well formed. -/
theorem test_wf_master : (Instr.getInfo { host [] with master := 5 }).wf = false := by decide
/-- A tag of more than 16 bits is not. -/
theorem test_wf_tag : (Instr.getInfo { host [] with tag := 65536 }).wf = false := by decide
/-- A payload above the reassembly limit is not (R56). -/
theorem test_wf_payload (p : List Byte) (h : 65536 < p.length) : (Instr.getInfo (host p)).wf = false := by
  have : ¬ p.length ≤ 65536 := by omega
  simp [Instr.wf, Req.wf, host, this]
/-- Mailbox 15 takes no packet (R107). -/
theorem test_wf_mailbox : (Instr.getInfo { host [] with via := .mailbox 15 }).wf = false := by decide
/-- The pair link has no mailboxes. -/
theorem test_wf_link_mailbox : (Instr.getInfo { host [] with master := 4, via := .mailbox 0 }).wf = false := by decide
/-- The ILAS configuration of Table 5-1. -/
def ilas : JesdCfg := jesdTable

/-- Indices beyond what the part has are not well formed: masters, mailboxes, locks, queues, sources, pulses, heads, berths, antenna ports,
bands, channels, controllers, cores, domains and the rest. -/
theorem test_wf_indices : ([.efbexPacketRx 5 noAddr [], .fragmentTimeout 5, .sessionIdleTimeout 5, .eventsLost 5, .udpDatagramRx 3 noAddr 0 false 0 [],
    .spiUnknownCommand 256, .registerWrite 5 false 0 4 0 0, .registerWrite 0 false 0 9 0 0, .registerWrite 0 false 0 8 (2 ^ 64) 0,
    .readClearRegister 5 false 0 4 false, .mbxPost 4 0 0, .mbxPost 0 16 0, .mbxPost 0 0 (2 ^ 32), .mbxLatch 0 16, .mbxReadEnd 4 0,
    .mbxInboundProcess 0 16, .dblInWakeSet 4, .eclipseDoorbell 4, .lckRead 0 64, .lckRead 5 0, .lckReleaseWrite 5 0,
    .lckReleaseWrite 0 (2 ^ 32), .sqPushLenWrite 0 64 0, .sqPushWrite 0 0 (2 ^ 32), .sqPopRead 0 64 false, .sqFlushRequest 5 0,
    .sqFlushTimeout 64, .tbrGtcLoRead 5, .clwCursorWrite 4 0, .clwCursorWrite 0 (2 ^ 32), .clwLoadComplete 4, .clwDataAdvance 4,
    .clwFreezeSet 4, .clwFreezeExpiry 4] : List Instr).all (fun c => !c.wf) = true := by decide
/-- The same for the timebase, the GNSS path, the heads and the berths. -/
theorem test_wf_units : ([.sourceLost 0, .sourceLost 4, .sourceSwitchTimer 4, .tpPulseInstant 4, .tcEdge 4 false, .ptpAnnounceTimeout 2,
    .jesdCgsDone 4, .jesdIlasEnd 4 ilas, .jesdLinkError 4 0 0, .offsetSample 4,
    .ptpMessageRx 2 0 false [], .ptpIntervalTx 0 0 4, .linkOutageTimeout 4, .channelLoss 1024, .blSilenceTimeout 256,
    .blRetentionExpiry 256, .rhTestDurationEnd 4, .rhRxclkPresent 4, .rhRxclkLost 4, .rhBurstLimit 4, .rhIrqEdge 4, .rhIrqRepeat 4,
    .dutyBucketEnd 32, .deliveryResend 256, .joinTimeout 256, .adriftEntry 256, .adriftLimit 256, .holdTimeExpiry 256, .zoneRemoval 256,
    .conformanceUnknownTimeout 256, .pairLaneChange 2 true, .vaultOperationComplete 8, .tamperSample 4 true, .canHeartbeatTimeout 4,
    .canFrameValid 4 ⟨0, 0, 0, 0, []⟩, .canFrameValid 0 ⟨0, 0, 16, 0, []⟩, .canFrameValid 0 ⟨0, 0, 0, 0, zeros 65⟩, .canTxComplete 0 64 true 0 0,
    .canBusError 4 0 false 0 false, .canBusIdleSync 4, .canRecoveryComplete 4, .canRateDwell 4, .canRateTimeout 4, .portReset 4 1, .domainReset 14,
    .domainReturn 14 true, .coldReset 48 4 false, .vbatReset 4 false, .resetNLow 4 false, .watchdogHalfTimeout 8, .watchdogBite 8,
    .watchdogRenewal 8] : List Instr).all (fun c => !c.wf) = true := by decide

/-! ### The block, its sessions and the system group -/

/-- A command waits in front, and none does. -/
theorem witness_front : ({ State.reset with pending := [.spiStatus] } : State).pending = .spiStatus :: [] ∧ State.reset.pending = [] ∧
    State.reset.spi.inbound = [] ∧ State.reset.rings.rqSlots = [] := by decide +kernel

/-- One idle step is one nanosecond of the clock. -/
theorem test_idle : (match step State.reset with | .next t => decide (t.tb.gtc = 1) | _ => false) = true := by decide +kernel

/-- The state after reset agrees with itself and steps. -/
theorem witness_agrees : Agrees State.reset ∧ (match step State.reset with | .next _ => true | _ => false) = true := by
  refine ⟨⟨rfl, rfl, rfl⟩, by decide +kernel⟩

/-- A command that resets nothing runs, and its kind is not one that can end cold. -/
theorem witness_clock : leads .refInLost State.reset (fun _ => true) = true := by decide +kernel

/-- Master 0 frozen: PORT_UNFREEZE by another is refused with the cause (R37). -/
def ice (m : Nat) : State := { State.reset with viols := modNth State.reset.viols m (fun v => { v with cause := 1 }) }

/-- A frozen master's command, and one without a proved tag in MISSION and in BLANK. -/
theorem witness_refused : frozen (ice 0) 0 = true ∧ efbexRuns (ice 0) = true ∧ recoveryOut 0x0A0A (host []) (ice 0) = false ∧
    answers (.trStatus (host [])) (ice 0) 0x0A0A 0x7F01 [] = true ∧
    answers (.trStatus { host [] with auth := false }) { State.reset with vault := { State.reset.vault with life := 1 } } 0x0A0A 0x6001 [] = true ∧
    answers (.wdSet { host [] with auth := false }) State.reset 0x1004 0x6001 [] = true ∧
    answers (.trStatus { host [] with auth := false }) State.reset 0x0A0A 0x6001 [] = false := by decide +kernel

/-- Efbex is not carried in SLEEP; in recovery only a few commands are served, on two ports. -/
theorem witness_not_carried : efbexRuns { State.reset with pwr := { State.reset.pwr with state := 3 } } = false ∧
    answers (.trStatus (host [])) { State.reset with vault := { State.reset.vault with recovery := true } } 0x0A0A 0x1004 [] = true ∧
    efbexRuns { State.reset with vault := { State.reset.vault with recovery := true } } = true := by decide +kernel

/-- GET_INFO and ARM_GET have no payload; the default arming table is 0x0802. -/
theorem test_system_queries : leads (.getInfo (host [])) State.reset (fun t => (replied t).map (fun x => x.2.1) == some 0) = true ∧
    leads (.armGet (host [])) State.reset (fun t => (replied t).map (fun x => x.2.2.take 2) == some (leBytes 2 0x0802)) = true := by
  decide +kernel

/-- RESET of class PORT names a port, of class DOMAIN a domain, of class WARM nothing; each is due 1 ms after the reply. -/
theorem test_reset : leads (.reset (host [1, 3, 0, 0])) State.reset (fun t => t.pwr.resets == [⟨1, 1, 3, 0, 0⟩]) = true ∧
    leads (.reset (host [2, 13, 0, 0])) State.reset (fun t => t.pwr.resets == [⟨2, 16, 13, 0, 0⟩]) = true ∧
    leads (.reset (host [3, 0, 0, 0])) State.reset (fun t => t.pwr.resets == [⟨3, 32, 0xFF, 0, 0⟩]) = true := by decide +kernel

/-- EVENT_SET masks groups 1 to 17; NET_SET stores the address or finds it unchanged. -/
theorem test_settings_2 : sessOf (served session) 0 = some session ∧
    answers (.eventSet (host (leBytes 4 0x3FFFC))) (served session) 0x0105 0 (leBytes 4 0x3FFFC) = true ∧
    answers (.eventSet (host (leBytes 4 0x3FFFE))) (served session) 0x0105 0x0102 (leBytes 4 0x3FFFE) = true ∧
    netRange ([1, 16, 0, 0] ++ leBytes 4 0xA9FE0901 ++ zeros 4) = true ∧
    answers (.netSet (host ([1, 16, 0, 0] ++ leBytes 4 0xA9FE0901 ++ zeros 4))) State.reset 0x0106 0x0102
      ([1, 16] ++ leBytes 2 61360 ++ leBytes 4 0xA9FE0901 ++ zeros 4) = true ∧
    leads (.netSet (host ([2, 24, 0, 4] ++ leBytes 4 0xA9FE0902 ++ zeros 4))) State.reset
      (fun t => t.net[1]? == some ⟨24, 1024, 0xA9FE0902, 0⟩) = true := by decide +kernel

/-- PORT_UNFREEZE names its own master, one that is not frozen, and one that is. -/
theorem test_port_unfreeze : answers (.portUnfreeze (host [0, 0, 0, 0])) State.reset 0x0120 0x6005 [] = true ∧
    answers (.portUnfreeze (host [4, 0, 0, 0])) State.reset 0x0120 0x0102 [4, 0, 0, 0] = true ∧
    answers (.portUnfreeze (host [1, 0, 0, 0])) (ice 1) 0x0120 0 [1, 1, 0, 0] = true := by decide +kernel

/-- A HELLO phase 1 payload: kind and offers; no event group. -/
def hello (kind : Nat) (offers : List Byte) : List Byte :=
  [1] ++ leBytes 1 offers.length ++ (offers ++ zeros 4).take 4 ++ leBytes 1 kind ++ zeros 53

/-- HELLO phase 1: offers without a common version, with major 2 minor 3 of an open kind, and of an authenticated kind. -/
theorem test_hello_first : (hello 0 [0x23]).length = 60 ∧ helloReserved (hello 0 [0x23]) = true ∧ helloRange (hello 0 [0x23]) = true ∧
    helloRange (hello 1 [0x10, 0x2F, 0x23, 0x17]) = true ∧ chosenVersion (offers (hello 0 [0x30])) = none ∧
    chosenVersion (offers (hello 0 [0x17])) = some (1, 7) ∧ chosenVersion (offers (hello 1 [0x10, 0x2F, 0x23, 0x17])) = some (2, 3) ∧
    answers (.helloPhase1 (host (hello 0 [0x30]))) State.reset 0x0101 0x1002 ([0, 0, 3, 7] ++ zeros 56) = true ∧
    (portKey State.reset 0).1 = 0 := by decide +kernel

/-- A HELLO of master 0 awaits its phase 2; TH is zeros. -/
def waiting : State :=
  { State.reset with hellos := [some ⟨9, 2, 3, 0, zeros 32, zeros 32, zeros 32, noAddr⟩, none, none, none, none] }

/-- HELLO phase 2 with the right TH, with another, and the third failure in a row. -/
theorem test_hello_second : leads (.helloPhase2 (host ([2, 0, 0, 0] ++ zeros 32))) waiting
      (fun t => (sessOf t 0).map (fun v => (v.id, v.authenticated, v.next)) == some (9, true, 1)) = true ∧
    leads (.helloPhase2 (host ([2, 0, 0, 0, 1] ++ zeros 31))) waiting (fun t => (violOf t 0).helloFails == 1 && !frozen t 0) = true ∧
    leads (.helloPhase2 (host ([2, 0, 0, 0, 1] ++ zeros 31)))
      { waiting with viols := modNth waiting.viols 0 (fun v => { v with helloFails := 2 }) } (fun t => frozen t 0) = true := by decide +kernel

/-- GOODBYE without a session of its own ends the master's session. -/
theorem test_goodbye : leads (.goodbye (host [])) (served session) (fun t => (sessOf t 0).isNone && (replied t).isSome) = true := by
  decide +kernel

/-- 30 s without a packet, and one nanosecond less; lost events; a message without its next fragment for 100 ms. -/
theorem test_session_timers : leads (.sessionIdleTimeout 0) (later 30000000000 (served session))
      (fun t => told 0xC101 t == some (0, [0, 2, 0, 0, 5, 0, 0, 0])) = true ∧
    leads (.sessionIdleTimeout 0) (later 29999999999 (served session)) (fun t => (sessOf t 0).isSome) = true ∧
    leads (.eventsLost 0) (served { session with lost := 3 }) (fun t => (sessOf t 0).map (fun v => v.lost) == some 0) = true ∧
    leads (.fragmentTimeout 0) (later 100000000 (served { session with reasm := some ⟨0x0103, 7, 0, [], 0, .transport, noAddr, false⟩ }))
      (fun t => (sessOf t 0).map (fun v => v.reasm.isNone) == some true) = true := by decide +kernel

/-! ### Packets, transports and the host window -/

/-- A packet of 24 bytes and a payload (Table 2-1), with its CRC. -/
def packet (ver op tag flags seq sess : Nat) (p : List Byte) : List Byte :=
  let b := [0xEF] ++ leBytes 1 ver ++ leBytes 2 op ++ leBytes 2 tag ++ leBytes 2 flags ++ leBytes 4 seq ++ leBytes 2 p.length ++ [0, 0]
    ++ leBytes 4 sess ++ p
  b ++ leBytes 4 (crc32c b)

/-- A packet that is framed; one byte short is a framing error; one without a session is answered 0x1008. -/
theorem test_framing : framed 0 (packet 0x23 0x0103 7 0 1 0 []) = true ∧ framed 0 ((packet 0x23 0x0103 7 0 1 0 []).drop 1) = false ∧
    portUp 0 State.reset = true ∧ portUp 0 { State.reset with pwr := { State.reset.pwr with state := 3 } } = false ∧
    leads (.efbexPacketRx 0 noAddr [0xEF]) State.reset (fun t => (violOf t 0).framing == 1) = true ∧
    answers (.efbexPacketRx 0 noAddr (packet 0x23 0x0103 7 0 1 0 [])) State.reset 0x0103 0x1008 [] = true := by decide +kernel

/-- The steps of R54 in a session of major 2 minor 7: a proved tag is missing, the sequence is off, the version byte differs, a reserved
flag is set, the opcode is unknown, the command is executed. -/
theorem test_packet_checks : let s := served session
    leads (.efbexPacketRx 0 noAddr (packet 0x27 0x0103 7 2 1 5 [] ++ zeros 16)) s (fun t => (replied t).map (fun x => x.2.1) == some 0x6002) = true ∧
    answers (.efbexPacketRx 0 noAddr (packet 0x27 0x0103 7 0 9 5 [])) s 0x0103 0x1003 (leBytes 4 1) = true ∧
    answers (.efbexPacketRx 0 noAddr (packet 0x17 0x0103 7 0 1 5 [])) s 0x0103 0x1002 [] = true ∧
    answers (.efbexPacketRx 0 noAddr (packet 0x27 0x0103 7 0x20 1 5 [])) s 0x0103 0x4001 [] = true ∧
    answers (.efbexPacketRx 0 noAddr (packet 0x27 0x7777 7 0 1 5 [])) s 0x7777 0x1004 [] = true ∧
    answers (.efbexPacketRx 0 noAddr (packet 0x27 0x0A09 7 0 1 5 [])) s 0x0A09 0x6001 [] = true ∧
    leads (.efbexPacketRx 0 noAddr (packet 0x27 0x0103 7 0 1 5 [])) s (fun t => (replied t).map (fun x => x.2.1) == some 0
      && (sessOf t 0).map (fun v => v.next) == some 2) = true := by decide +kernel

/-- A request 64 before the expected sequence is answered from the cache or 0x1007; one 65 before is out of sequence. -/
theorem test_sequences : let s := served { session with next := 100 }
    answers (.efbexPacketRx 0 noAddr (packet 0x27 0x0103 7 0 36 5 [])) s 0x0103 0x1007 [] = true ∧
    answers (.efbexPacketRx 0 noAddr (packet 0x27 0x0103 7 0 35 5 [])) s 0x0103 0x1003 (leBytes 4 100) = true ∧
    leads (.efbexPacketRx 0 noAddr (packet 0x27 0x0103 7 0 36 5 [])) (served { session with next := 100, cache := [(36, [])] })
      (fun t => t.outs.isEmpty) = true := by decide +kernel

/-- Rings with both enable bits set. -/
def ringed : State := { State.reset with rings := { State.reset.rings with rqEn := true, cqEn := true } }

/-- Request slots: not ready, a length of 24, one of 23; a PCIe error. -/
theorem test_request_ring : windowUp 0 ringed = true ∧ rqReady ringed = true ∧ rqReady State.reset = false ∧
    leads (.rqTailWrite 1 [leBytes 2 24 ++ zeros 30] false) ringed (fun t => t.rings.rqHead == 1 && !t.rings.slotErr) = true ∧
    leads (.rqTailWrite 1 [leBytes 2 23 ++ zeros 30] false) ringed (fun t => t.rings.slotErr && t.rings.rqDropped == 1) = true ∧
    leads (.rqTailWrite 1 [] true) ringed (fun t => t.rings.dmaErr) = true := by decide +kernel

/-- A packet that waits, on a ring with space, and a full ring. -/
theorem witness_completion_ring : (nextOut 0 { ringed with sessions := [some { session with queue := [⟨0xC104, 0, 16, 0, .transport, noAddr, [], false, false, false, 0, 0, false⟩] }, none, none, none, none] }).isSome = true ∧
    cqFull ringed.rings = false ∧ cqFull { ringed.rings with cqHead := 1 } = true := by decide +kernel

/-- A packet that waits leaves by the completion ring, packet before header, or stops the rings at a PCIe error; CQ_HEAD; SPI READ clocks
out two dummy bytes and the packet, which leaves once it has been read whole. -/
theorem test_completion : let waits (m : Nat) : State := { ringed with sessions := State.reset.sessions.set m (some { session with queue := [⟨0xC104, 0, 16, 0, .transport, noAddr, [], false, false, false, 0, 0, false⟩] }) }
    leads (.cqSlotWrite false) (waits 0) (fun t => t.rings.cqTail == 1 && (match t.outs with
      | [.cqPacket 0 p, .cqHeader 0 h, .msix 0] => p.length == 24 && h == [24, 0, 3, 0, 0, 0, 0, 0]
      | _ => false)) = true ∧
    leads (.cqSlotWrite true) (waits 0) (fun t => t.rings.dmaErr && t.rings.cqTail == 0) = true ∧ leads (.cqHeadWrite 5) ringed (fun t => t.rings.cqHead == 5) = true ∧
    leads (.spiRead 25) (waits 3) (fun t => (sessOf t 3).any (fun v => v.queue.length == 1)) = true ∧
    leads (.spiRead 26) (waits 3) (fun t => (sessOf t 3).any (fun v => v.queue.isEmpty) && (match t.outs with
      | [.spi b] => b.length == 26 && b.take 3 == [0, 0, 0xEF]
      | _ => false)) = true := by decide +kernel

/-- UDP: fragmented, for the port's Efbex port 61360, for another; SPI: STATUS, a third WRITE, an unknown command. -/
theorem test_udp_spi : portUp 1 State.reset = true ∧
    leads (.udpDatagramRx 1 noAddr 61360 true 0 []) State.reset (fun t => (violOf t 1).framing == 1) = true ∧
    leads (.udpDatagramRx 1 noAddr 61361 false 0 []) State.reset (fun t => (violOf t 1).framing == 0) = true ∧
    leads (.udpDatagramRx 1 noAddr 61360 false 0 []) State.reset (fun t => (violOf t 1).framing == 1) = true ∧
    spiUp State.reset = true ∧ leads .spiStatus State.reset (fun t => t.outs == [.spi [2, 0, 0, 0]]) = true ∧
    leads (.spiWrite [] false) { State.reset with spi := ⟨[[], []], false⟩ } (fun t => t.spi.lastDropped) = true ∧
    leads (.spiUnknownCommand 7) State.reset (fun t => t.outs.isEmpty) = true := by decide +kernel

/-- R61 with its ring enabled and not, at the smallest and largest size. -/
theorem test_ring_registers : leads (.registerWrite 0 true 0x008 4 32 0) ringed (fun t => t.rings.rqEntries == 16) = true ∧
    leads (.registerWrite 0 true 0x008 4 256 0) State.reset (fun t => t.rings.rqEntries == 256) = true ∧
    leads (.registerWrite 0 true 0x028 4 16 0) State.reset (fun t => t.rings.cqEntries == 16) = true ∧
    leads (.registerWrite 0 true 0x020 4 0x1000 0) State.reset (fun t => t.rings.cqBase == 0x1000) = true := by decide +kernel

/-- A 4-byte write, a misaligned one, one below the bank, one of a frozen master, and a read that clears. -/
theorem test_window_registers : windowUp 3 State.reset = true ∧
    leads (.registerWrite 3 false 0x1814 4 0xFFFFF 0) State.reset (fun t => (bankOf t 3).mbxWakeEn == 0xFFFF) = true ∧
    leads (.registerWrite 0 false 0x1002 4 0 0) State.reset (fun t => frozen t 0 && told 0xC102 t == some (0, [0, 1, 0, 0])) = true ∧
    leads (.registerWrite 0 false 0x0FFC 4 0 0) State.reset (fun t => frozen t 0) = true ∧
    leads (.registerWrite 0 false 0x1814 4 5 0) (ice 0) (fun t => (violOf t 0).dropped == 1 && (bankOf t 0).mbxWakeEn == 0) = true ∧
    leads (.readClearRegister 0 false 0x3210 4 true) { State.reset with lckForced := 9 } (fun t => t.outs == [.value 9] && t.lckForced == 1) = true := by
  decide +kernel

/-- A bank with one message of mailbox 0 unread and staged words. -/
def posted (full : Bool) : State := { State.reset with banks := modNth State.reset.banks 0 (fun b => { b with
  inb := modNth b.inb 0 (fun x => { x with full := full, staging := List.replicate 16 3, data := List.replicate 16 2 }) }) }

/-- R101: a post to an empty and to a full mailbox. -/
theorem test_mailbox_post : leads (.mbxPost 0 0 9) (posted false) (fun t => (nth (bankOf t 0).inb 0 MbxIn.zero).full && !(nth (bankOf t 0).inb 0 MbxIn.zero).coll
      && (nth (bankOf t 0).inb 0 MbxIn.zero).data == List.replicate 15 3 ++ [9]) = true ∧
    leads (.mbxPost 0 0 9) (posted true) (fun t => (nth (bankOf t 0).inb 0 MbxIn.zero).coll) = true := by decide +kernel

/-- An outbound message, latched or not, with a post since the latch or not. -/
def outbound (since : Bool) : State := { State.reset with banks := modNth State.reset.banks 0 (fun b => { b with
  outb := modNth b.outb 0 (fun x => { x with full := true, data := List.replicate 16 4, latch := List.replicate 16 5, latched := true, postedSince := since }) }) }

/-- R102: the latch, and the read of word 15 without and with a post since it. -/
theorem test_mailbox_read : leads (.mbxLatch 0 0) (outbound true) (fun t => t.outs == [.value 4]
      && (nth (bankOf t 0).outb 0 MbxOut.zero).latch == List.replicate 16 4) = true ∧
    leads (.mbxReadEnd 0 0) (outbound false) (fun t => t.outs == [.value 5] && !(nth (bankOf t 0).outb 0 MbxOut.zero).full) = true ∧
    leads (.mbxReadEnd 0 0) (outbound true) (fun t => (nth (bankOf t 0).outb 0 MbxOut.zero).full && (nth (bankOf t 0).outb 0 MbxOut.zero).coll) = true := by
  decide +kernel

/-- An inbound message of kind 2, and one of a kind that is none. -/
theorem test_mailbox_messages : leads (.mbxInboundProcess 0 0) (posted true) (fun t => (violOf t 0).framing == 0 && !(nth (bankOf t 0).inb 0 MbxIn.zero).full) = true ∧
    leads (.mbxInboundProcess 0 0) { State.reset with banks := modNth State.reset.banks 0 (fun b => { b with
      inb := modNth b.inb 0 (fun x => { x with full := true, data := [5] ++ List.replicate 15 0 }) }) } (fun t => (violOf t 0).framing == 1) = true := by
  decide +kernel

/-- WAKE while PD_CTRL runs reads back 0; ECLIPSE from a frozen master. -/
theorem test_doorbells : leads (.dblInWakeSet 0) State.reset (fun t => !(bankOf t 0).dblWake) = true ∧
    leads (.eclipseDoorbell 3) { clear with viols := (ice 3).viols } (fun t => t.repl.ecl.state == 1 && t.repl.ecl.cause == 6) = true := by decide +kernel

/-- R116 and R118: a free lock, a lock held by master 1 read by itself and by master 2, its release by its owner and by another. -/
theorem test_locks : leads (.lckRead 1 63) State.reset (fun t => t.outs == [.value 0] && t.locks[63]? == some 2) = true ∧
    leads (.lckRead 1 0) { State.reset with locks := State.reset.locks.set 0 2 } (fun t => t.outs == [.value 2] && t.locks[0]? == some 2) = true ∧
    leads (.lckRead 2 0) { State.reset with locks := State.reset.locks.set 0 2 } (fun t => t.outs == [.value 2]) = true ∧
    leads (.lckReleaseWrite 1 0) { State.reset with locks := State.reset.locks.set 0 2 } (fun t => t.locks[0]? == some 0) = true ∧
    leads (.lckReleaseWrite 2 0) { State.reset with locks := State.reset.locks.set 0 2 } (fun t => frozen t 2 && t.locks[0]? == some 2) = true := by
  decide +kernel

/-- Queue 0 bound from master 0 to master 1, enabled, with 1 MB between. -/
def queued (x : SpillQ) : State := { State.reset with sqs := State.reset.sqs.set 0 { x with en := true, producer := 0, consumer := 1, middle := 1 } }

/-- A packet of 16 bytes is pushed in 4 words, the last one completing it; a full queue drops it whole. -/
theorem test_spill_push : sqCapacity (sqOf (queued SpillQ.zero) 0) = 2 ^ 20 + 1024 ∧
    leads (.sqPushLenWrite 0 0 16) (queued SpillQ.zero) (fun t => (sqOf t 0).push == some (16, [], false)) = true ∧
    leads (.sqPushWrite 0 0 4) (queued { SpillQ.zero with push := some (16, [1, 2, 3], false) })
      (fun t => (sqOf t 0).packets == [[1, 2, 3, 4].flatMap (leBytes 4)] && (sqOf t 0).push.isNone) = true ∧
    leads (.sqPushWrite 0 0 4) (queued { SpillQ.zero with push := some (16, [1, 2], false) }) (fun t => (sqOf t 0).push == some (16, [1, 2, 4], false)) = true ∧
    leads (.sqPushLenWrite 0 0 16) { queued SpillQ.zero with sqs := State.reset.sqs.set 0 { SpillQ.zero with
      en := true, producer := 0, consumer := 1, middle := 0, packets := List.replicate 16 (zeros 16) } } (fun t => (sqOf t 0).ovf && (sqOf t 0).dropped == 1) = true := by
  decide +kernel

/-- The consumer reads the words of the head packet; the last removes it; an uncorrectable error discards it. -/
theorem test_spill_pop : let s := queued { SpillQ.zero with packets := [[1, 0, 0, 0, 2, 0, 0, 0]] }
    leads (.sqPopRead 1 0 false) s (fun t => t.outs == [.value 1] && (sqOf t 0).popPos == 1) = true ∧
    leads (.sqPopRead 1 0 false) (queued { SpillQ.zero with packets := [[1, 0, 0, 0, 2, 0, 0, 0]], popPos := 1 })
      (fun t => t.outs == [.value 2] && (sqOf t 0).packets.isEmpty) = true ∧
    leads (.sqPopRead 1 0 true) s (fun t => (sqOf t 0).ecc && (sqOf t 0).packets.isEmpty) = true := by decide +kernel

/-- A flush of an idle queue, of one whose producer is inside a packet, and 100 ms later. -/
theorem test_spill_flush : let x := { SpillQ.zero with packets := [[1, 0, 0, 0]] }
    leads (.sqFlushRequest 0 0) (queued x) (fun t => (sqOf t 0).packets.isEmpty) = true ∧
    leads (.sqFlushRequest 0 0) (queued { x with push := some (16, [], false) }) (fun t => (sqOf t 0).flushAt == some 0 && !(sqOf t 0).packets.isEmpty) = true ∧
    leads (.sqFlushTimeout 0) (later 100000000 (queued { x with push := some (16, [], false), flushAt := some 0 }))
      (fun t => (sqOf t 0).packets.isEmpty && (sqOf t 0).abandon) = true ∧
    leads (.sqFlushTimeout 0) (later 99999999 (queued { x with push := some (16, [], false), flushAt := some 0 })) (fun t => !(sqOf t 0).packets.isEmpty) = true := by
  decide +kernel

/-- WIN_READ and WIN_WRITE of one word, and of a bad address. -/
theorem test_window_commands : winRange (leBytes 4 0x1814 ++ [1, 0, 0, 0]) = true ∧
    answers (.winRead (host (leBytes 4 0x1814 ++ [1, 0, 0, 0]))) State.reset 0x0201 0 ([1, 0, 0, 0] ++ zeros 4) = true ∧
    answers (.winWrite (host (leBytes 4 0x1814 ++ [1, 0, 0, 0, 9, 0, 0, 0]))) State.reset 0x0202 0 [1, 0, 0, 0] = true ∧
    answers (.winRead (host (leBytes 4 0xB000 ++ [1, 0, 0, 0]))) State.reset 0x0201 0x8201 [0, 0, 0, 0] = true ∧
    answers (.winWrite (host (leBytes 4 0xB000 ++ [1, 0, 0, 0, 9, 0, 0, 0]))) State.reset 0x0202 0x8201 [0, 0, 0, 0] = true := by decide +kernel

/-- SQ_CONFIG of a free queue, of an enabled one, and one beyond 1024 MB in all. -/
theorem test_spill_config : answers (.sqConfig (host [1, 0, 16, 64])) State.reset 0x0203 0 ([1, 0, 16, 64] ++ leBytes 2 316 ++ [0, 0]) = true ∧
    answers (.sqConfig (host [0, 0, 1, 1])) (queued SpillQ.zero) 0x0203 0x2003 [] = true ∧
    answers (.sqConfig (host [1, 0, 1, 64])) { State.reset with sqs := List.replicate 64 { SpillQ.zero with middle := 16 } } 0x0203 0x8202 [] = true := by
  decide +kernel

/-- A read of TBR_GTC_LO. -/
theorem test_time_registers : leads (.tbrGtcLoRead 4) (later 0x100000005 State.reset) (fun t => t.outs == [.value 5]) = true := by decide +kernel

/-! ### The timebase -/

/-- The payload of TB_SERVO_SET with slew fences. -/
def servoOf (lo hi : Int) : List Byte :=
  [0, 0, 0, 0] ++ leBytes 4 50000 ++ leBytes 4 625000 ++ leInt 2 lo ++ leInt 2 hi ++ leBytes 4 100 ++ leBytes 4 10000000 ++ leBytes 4 60 ++ leBytes 4 1

/-- The payload of TP_SET: enabled or not, its start in s. -/
def pulseSet (flags start : Nat) : List Byte :=
  [3] ++ leBytes 1 flags ++ [0, 0] ++ leBytes 8 start ++ leBytes 4 0 ++ leBytes 8 1000 ++ leBytes 4 10 ++ leBytes 4 0

/-- TB_GET; TB_SERVO_SET with its fences at their limits and in the wrong order; TP_SET with a start that is past, one to come, and one
that changes nothing; TC_SET; UTC_SET. -/
theorem test_timebase_settings : answers (.tbGet (host [])) State.reset 0x0301 0 (tbGetPayload State.reset) = true ∧
    answers (.tbServoSet (host (servoOf 1 0))) State.reset 0x0303 0x4003 [] = true ∧
    answers (.tbServoSet (host (servoOf (-1000) 1000))) State.reset 0x0303 0 (servoOf (-1000) 1000) = true ∧
    answers (.tpSet (host (pulseSet 1 0))) State.reset 0x0305 0x8301 [] = true ∧
    leads (.tpSet (host (pulseSet 1 1))) State.reset (fun t => (pulseOf t 3).enable && (pulseOf t 3).start == 1000000000) = true ∧
    answers (.tpSet (host (pulseSet 0 0))) State.reset 0x0305 0x0102 (pulseSet 0 0) = true ∧
    answers (.tcSet (host [3, 7, 0, 0])) State.reset 0x0306 0 [3, 7, 0, 0] = true ∧
    answers (.utcSet (host (leBytes 2 255 ++ [3, 0]))) State.reset 0x0308 0 (leBytes 2 255 ++ [3, 0]) = true := by decide +kernel

/-- GNSS is in use and PTP A is qualified. -/
def sourced (state : Nat) : State := modSrc 2 (fun q => { q with qualified := true }) (modSrc 1 (fun q => { q with qualified := true })
  { State.reset with tb := { State.reset.tb with state := state, source := 1 } })

/-- TB_SOURCE_SET keeps the source in use, leaves it for another, or for none. -/
theorem test_timebase_sources : leads (.tbSourceSet (host [3, 2, 1, 0])) (sourced 1) (fun t => t.tb.source == 1 && t.tb.ranking == [3, 2, 1]) = true ∧
    leads (.tbSourceSet (host [3, 2, 0, 0])) (sourced 1) (fun t => t.tb.source == 2 && t.tb.state == 2) = true ∧
    leads (.tbSourceSet (host [3, 0, 0, 0])) (sourced 1) (fun t => t.tb.source == 0 && t.tb.state == 3) = true ∧
    answers (.ptpSet (host [1, 3, 0, 0, 0, 0, 3, 0, 0, 0, 0, 0])) State.reset 0x0307 0x8303 [] = true ∧
    answers (.ptpSet (host [2, 1, 0, 127, 0, 0, 2, 0, 0, 0, 0, 0])) { State.reset with tb := { State.reset.tb with source := 3 } } 0x0307 0x2003 [] = true ∧
    answers (.ptpSet (host [2, 1, 0, 127, 0, 0, 2, 0, 0, 0, 0, 0])) State.reset 0x0307 0 [2, 1, 0, 127, 0, 0, 2, 0, 0, 0, 0, 0] = true := by decide +kernel

/-- A state of the timebase with an offset of 20 ms. -/
def offset (state : Nat) (need : Bool) : State :=
  let s := sourced state
  { s with tb := { s.tb with e := 20000000, stepNeeded := need, st := 1000000000 } }

/-- TB_STEP of mode 0 without and with STEP_NEEDED, of mode 1 from LOCKED and from UNQUALIFIED. -/
theorem test_timebase_step : answers (.tbStep (host ([0] ++ zeros 15))) (offset 3 false) 0x0304 0x8302 [] = true ∧
    leads (.tbStep (host ([0] ++ zeros 15))) (offset 3 true) (fun t => t.tb.state == 1 && t.tb.st == 980000000) = true ∧
    leads (.tbStep (host ([1] ++ zeros 7 ++ leInt 8 (-5)))) (offset 1 false) (fun t => t.tb.state == 3 && t.tb.st == 999999995) = true ∧
    leads (.tbStep (host ([1] ++ zeros 7 ++ leInt 8 (-5)))) (offset 4 false) (fun t => t.tb.state == 4 && t.tb.st == 999999995) = true := by decide +kernel

/-- A sample that waits for its OFFSET_SAMPLE. -/
def sampled (n : Nat) (x : Sample) (s : State) : State := awaitSample n x s

/-- The tenth sample of GNSS in FREE; a sample 1 ns beyond the threshold of 10 ms in LOCKED; samples at and beyond it in HOLDOVER; the
armed step; none that waits. -/
theorem test_offset_samples : qualifyCount 1 = 10 ∧
    leads (.offsetSample 1) (sampled 1 ⟨true, 4, -7, false⟩ (modSrc 1 (fun q => { q with count := 9 }) State.reset)) (fun t => t.tb.state == 1 && t.tb.source == 1 && t.tb.st == 7) = true ∧
    (servoSet (sourced 1).tb).stepTh = 10000000 ∧
    leads (.offsetSample 1) (sampled 1 ⟨true, 4, 10000001, false⟩ (sourced 1)) (fun t => t.tb.y == (sourced 1).tb.y && t.tb.e == 10000001) = true ∧
    leads (.offsetSample 1) (sampled 1 ⟨true, 4, 10000000, false⟩ (sourced 3)) (fun t => t.tb.state == 2) = true ∧
    leads (.offsetSample 1) (sampled 1 ⟨true, 4, 10000001, false⟩ (sourced 3)) (fun t => t.tb.state == 3 && t.tb.stepNeeded && told 0xC302 t == some (31, leInt 8 10000001)) = true ∧
    leads (.offsetSample 1) (sampled 1 ⟨true, 4, 20000000, false⟩ { offset 3 true with repl := { State.reset.repl with armed := 2 ^ 12 } })
      (fun t => t.tb.state == 1 && t.tb.st == 980000000 && told 0xC303 t == some (31, leInt 8 (-20000000) ++ [2, 0, 0, 0])) = true ∧
    leads (.offsetSample 2) (sourced 1) (fun t => t.tb.state == 1) = true := by decide +kernel

/-- A second without PPS twice over, and 1 ns less; 10 s of a better source; the holdover limit; the minute of TB_STEP_NEEDED; the RTC. -/
theorem test_timebase_events : let alone := modSrc 2 (fun q => { q with qualified := false }) (sourced 1)
    lossDue 1 (later 2000000000 alone) = true ∧ lossDue 1 (later 1999999999 alone) = false ∧
    leads (.sourceLost 1) (later 2000000000 alone) (fun t => t.tb.state == 3 && t.tb.source == 0) = true ∧
    leads (.sourceSwitchTimer 1) (later 10000000000 { sourced 1 with tb := { (sourced 1).tb with source := 2 } }) (fun t => t.tb.source == 1) = true ∧
    leads (.sourceSwitchTimer 1) (later 9999999999 { sourced 1 with tb := { (sourced 1).tb with source := 2 } }) (fun t => t.tb.source == 2) = true ∧
    leads .holdoverLimit (later 14400000000000 (sourced 3)) (fun t => t.tb.state == 4) = true ∧
    leads .holdoverLimit (later 14399999999999 (sourced 3)) (fun t => t.tb.state == 3) = true ∧
    leads .tbStepNeededRepeat (later 60000000000 (offset 3 true)) (fun t => told 0xC302 t == some (31, leInt 8 20000000)) = true ∧
    leads .rtcSecondUpdate (offset 1 false) (fun t => t.pwr.rtc == 1) = true := by decide +kernel

/-- An output programmed from 1 s on, at ST 1 s in a state. -/
def pulsing (state : Nat) (squelch : Bool) : State :=
  modPulse 0 (fun p => { p with enable := true, squelch := squelch, start := 1000000000, period := 1000000000 }) (offset state false)

/-- A pulse of a driven output, one that SQUELCH skips, one of an output that is not driven. -/
theorem test_time_pulses : instantDue (pulseOf (pulsing 1 true) 0) 1000000000 = true ∧ instantDue (pulseOf (pulsing 1 true) 0) 999999999 = false ∧
    instantStale (pulseOf (pulsing 1 true) 0) = false ∧ tpDrivenOf (pulsing 1 true) = true ∧ quality (pulsing 1 true).tb < 3 ∧ 3 ≤ quality (pulsing 0 true).tb ∧
    leads (.tpPulseInstant 0) (pulsing 1 true) (fun t => t.outs.contains (.pulse 0 1000000000 (quality (pulsing 1 true).tb) (!(pulseOf (pulsing 1 true) 0).activeLow) (pulseOf (pulsing 1 true) 0).width)) = true ∧
    leads (.tpPulseInstant 0) (pulsing 0 true) (fun t => (pulseOf t 0).skipped == 1) = true ∧
    leads (.tpPulseInstant 0) { pulsing 1 true with pair := { State.reset.pair with role := 2 } } (fun t => (pulseOf t 0).missed) = true := by decide +kernel

/-- An edge 20 ns after the last one, one 19 ns after it, and one on a full queue. -/
theorem test_time_captures : let s := modCapture 0 (fun c => { c with rising := true, last := some 0 }) State.reset
    leads (.tcEdge 0 false) (later 20 s) (fun t => (told 0xC305 t).isSome && !(nth t.tb.captures 0 Capture.zero).ovf) = true ∧
    leads (.tcEdge 0 false) (later 19 s) (fun t => (told 0xC305 t).isNone && (nth t.tb.captures 0 Capture.zero).ovf) = true ∧
    leads (.tcEdge 0 false) (later 20 (modCapture 0 (fun c => { c with queue := List.replicate 16 ⟨0, 0, false⟩ }) s)) (fun t => (nth t.tb.captures 0 Capture.zero).ovf) = true := by
  decide +kernel

/-- A PTP port of the default profile in a state. -/
def ptpOn (state : Nat) : State := modPtp 0 (fun q => { q with profile := 1, state := state }) State.reset

/-- A message of IEEE 1588-2019 in its bytes: clock of its sender, sdo and type, domain, sequence, body. -/
def ptpMsg (clock kind domain seq : Nat) (body : List Byte) : List Byte :=
  beBytes 1 kind ++ [2] ++ beBytes 2 (34 + body.length) ++ beBytes 1 domain ++ zeros 15 ++ beBytes 8 clock ++ beBytes 2 1
    ++ beBytes 2 seq ++ [0, 0] ++ body

/-- What such a message spells. -/
def ptpRead (clock kind domain seq : Nat) (body : List Byte) : PtpMsg := ⟨kind, 0, 2, domain, 0, 0, ⟨clock, 1⟩, seq, body, []⟩

/-- An Announce, a Sync and a Delay_Req of another clock are for a port of the default profile, whatever its own clock is. -/
theorem witness_ptp_messages : ∃ c : Nat, (c = 77 ∨ c = 78) ∧ ∀ kind n, (kind = 11 ∧ n = 30) ∨ (kind < 2 ∧ n = 10) →
    ptpParse (ptpMsg c kind 0 5 (zeros n)) = some (ptpRead c kind 0 5 (zeros n)) ∧ ptpSupported false (ptpRead c kind 0 5 (zeros n)) = true ∧
    ptpForPort (ptpOf (ptpOn 9) 0) false (ptpRead c kind 0 5 (zeros n)) = true := by
  have own : ∃ c : Nat, (c = 77 ∨ c = 78) ∧ c ≠ (ownPort 0).clock := by
    by_cases h : (ownPort 0).clock = 77
    · exact ⟨78, .inr rfl, by omega⟩
    · exact ⟨77, .inl rfl, fun e => h e.symm⟩
  obtain ⟨c, hc, ne⟩ := own
  refine ⟨c, hc, ?_⟩
  rintro kind n (⟨rfl, rfl⟩ | ⟨hk, rfl⟩)
  · refine ⟨by rcases hc with rfl | rfl <;> decide +kernel, by rcases hc with rfl | rfl <;> decide +kernel, ?_⟩
    simp [ptpForPort, ptpRead, ne]
    decide +kernel
  · have hk : kind = 0 ∨ kind = 1 := by omega
    refine ⟨by rcases hc with rfl | rfl <;> rcases hk with rfl | rfl <;> decide +kernel,
      by rcases hc with rfl | rfl <;> rcases hk with rfl | rfl <;> decide +kernel, ?_⟩
    simp [ptpForPort, ptpRead, ne]
    decide +kernel

/-- A foreign master that was heard at GTC 0. -/
def heard : Foreign := ⟨⟨77, 1⟩, ⟨128, 6, 0x21, 0, 128, 77, 0, 0x20⟩, 0, true⟩

/-- PTP messages: a management message, an Announce of another domain; the time-out of three intervals of 2 s; Sync, Announce and
Pdelay_Req that leave. -/
theorem test_ptp_ports : leads (.ptpMessageRx 0 0 false (ptpMsg 77 13 0 0 (zeros 14))) (ptpOn 4) (fun t => (ptpOf t 0).errors == 1) = true ∧
    leads (.ptpMessageRx 0 0 false (ptpMsg 77 11 1 0 (zeros 30))) (ptpOn 4) (fun t => (ptpOf t 0).foreign.isEmpty) = true ∧
    leads (.ptpAnnounceTimeout 0) (later 6000000000 (modPtp 0 (fun q => { q with foreign := [heard] }) (ptpOn 4))) (fun t => (ptpOf t 0).foreign.isEmpty) = true ∧
    leads (.ptpAnnounceTimeout 0) (later 5999999999 (modPtp 0 (fun q => { q with foreign := [heard] }) (ptpOn 4))) (fun t => !(ptpOf t 0).foreign.isEmpty) = true ∧
    leads (.ptpIntervalTx 0 0 0) (modPtp 0 (fun q => { q with flags := 2 }) (ptpOn 6)) (fun t => nth (ptpOf t 0).txSeq 0 0 == 1 && t.outs.length == 1) = true ∧
    leads (.ptpIntervalTx 0 0 1) (ptpOn 6) (fun t => nth (ptpOf t 0).txSeq 1 0 == 1 && t.outs.length == 1) = true ∧
    leads (.ptpIntervalTx 0 0 3) (modPtp 0 (fun q => { q with profile := 2 }) (ptpOn 6)) (fun t => (ptpOf t 0).pdelay.isSome) = true := by decide +kernel

/-! ### The GNSS signal path -/

/-- Settings at the ends of their ranges; channel fences that do not sum to 32; a queue without the device as its producer. -/
theorem test_gnss_settings : answers (.gnSignalSet (host (leBytes 4 0x7FFFF ++ [30, 0, 0, 0]))) State.reset 0x0403 0 (leBytes 4 0x7FFFF ++ [30, 0, 0, 0]) = true ∧
    answers (.gnChanAlloc (host [32, 0, 0, 0])) State.reset 0x0404 0 [32, 0, 0, 0] = true ∧
    answers (.gnChanAlloc (host [32, 1, 0, 0])) State.reset 0x0404 0x8402 [] = true ∧
    leads (.gnLoopSet (host ([0, 20] ++ leBytes 2 200 ++ leBytes 2 300 ++ leBytes 2 100 ++ [100, 0, 0, 0] ++ [0xE0, 32, 0, 0]))) State.reset
      (fun t => t.gnss.loops.all (fun l => l.coherent == 20 && l.probes == [-32, 32, 0, 0])) = true ∧
    answers (.gnBearingSet (host ([5, 200] ++ leBytes 2 499 ++ leBytes 2 500 ++ leBytes 2 10 ++ leBytes 2 2400 ++ [32, 0]))) State.reset 0x0408 0
      ([5, 200] ++ leBytes 2 499 ++ leBytes 2 500 ++ leBytes 2 10 ++ leBytes 2 2400 ++ [32, 0]) = true ∧
    answers (.gnObsStream (host [63, 1, 1, 0])) State.reset 0x040B 0x8404 [] = true ∧
    answers (.gnObsStream (host [0xFF, 20, 15, 0])) State.reset 0x040B 0 [0xFF, 20, 15, 0] = true ∧
    answers (.gnAcqSet (host ([3, 64] ++ leBytes 2 20000 ++ leBytes 2 100 ++ [0, 0]))) State.reset 0x040C 0 ([3, 64] ++ leBytes 2 20000 ++ leBytes 2 100 ++ [0, 0]) = true := by
  decide +kernel

/-- The payload of GN_FENCE_SET for the gain of band stream 15. -/
def gainFence (lo hi : Int) : List Byte := [2, 0, 15, 0, 0, 0, 0, 0] ++ leInt 4 lo ++ leInt 4 hi ++ zeros 4

/-- Fences in the wrong order and equal; a noise capture on a link that is down; alarm settings. -/
theorem test_band_settings : answers (.gnFenceSet (host (gainFence 1 0))) State.reset 0x0406 0x4003 [] = true ∧
    leads (.gnFenceSet (host (gainFence (-2400) (-2400)))) State.reset (fun t => (bandOf t 15).agcHi == -2400 && bandOf t 14 == Band.zero 14) = true ∧
    answers (.gnJnSet (host [15, 1, 0, 0, 0, 0, 0, 0])) State.reset 0x0407 0x8401 [] = true ∧
    leads (.gnJnSet (host [15, 0, 240, 0, 40, 0, 0, 0])) State.reset (fun t => (bandOf t 15).alarm == 240 && (bandOf t 15).hyst == 40) = true := by decide +kernel

/-- GN_STATUS, GN_SAT_GET; GN_SAT_EXCLUDE of an identifier that is none, of a satellite, and again. -/
theorem test_gnss_queries : answers (.gnStatus (host [])) State.reset 0x0402 0 (gnStatusBytes State.reset) = true ∧
    answers (.gnSatGet (host [])) State.reset 0x040A 0 [0, 0, 0, 0] = true ∧ satValid 0x0100 = false ∧ satValid 0x0101 = true ∧ satValid 0x0120 = true ∧ satValid 0x0121 = false ∧
    answers (.gnSatExclude (host [1, 0, 0, 0, 0, 1, 1, 0])) State.reset 0x0409 0x8403 [] = true ∧
    leads (.gnSatExclude (host [1, 0, 0, 0, 1, 1, 1, 0])) State.reset (fun t => (satOf t 0x0101).causes == 1
      && told 0xC404 t == some (24, [1, 1, 0, 1, 0, 0, 0, 0])) = true ∧
    leads (.gnSatExclude (host [1, 0, 0, 0, 1, 1, 0, 0])) State.reset (fun t => (replied t).map (fun x => x.2.1) == some 0x0102) = true := by decide +kernel

/-- Port 0 with a link state, enabled. -/
def linked (l : Nat) : State := modGnPort 0 (fun x => { x with link := l, enable := true }) State.reset

/-- GN_PORT_SET: disabled from DATA, changed, unchanged. -/
theorem test_antenna_port : let base := gnPortBytes 0 (gnPort (linked 3) 0)
    base.length = 20 ∧ bandCentre 0 > 10000000 ∧
    leads (.gnPortSet (host ([0, 0] ++ base.drop 2))) (linked 3) (fun t => (gnPort t 0).link == 0 && told 0xC401 t == some (24, [0, 3, 0, 0])) = true ∧
    leads (.gnPortSet (host ([0, 1, 15] ++ base.drop 3))) (linked 3) (fun t => (gnPort t 0).link == 1 && (gnPort t 0).specInv == 15) = true ∧
    leads (.gnPortSet (host base)) (linked 3) (fun t => (gnPort t 0).link == 3 && (replied t).map (fun x => x.2.1) == some 0x0102) = true := by decide +kernel

/-- The link states, and the 200 ms after DATA. -/
theorem test_antenna_links : leads (.jesdCgsDone 0) (linked 1) (fun t => told 0xC401 t == some (24, [0, 1, 2, 0])) = true ∧
    leads (.jesdIlasEnd 0 ilas) (linked 2) (fun t => told 0xC401 t == some (24, [0, 2, 3, 0])) = true ∧
    leads (.jesdIlasEnd 0 { ilas with lanes := 2 }) (linked 2) (fun t => told 0xC401 t == some (24, [0, 2, 4, 3])) = true ∧
    leads (.jesdLinkError 0 7 4) (linked 3) (fun t => told 0xC401 t == some (24, [0, 3, 1, 2]) && (gnPort t 0).codeErr == 7) = true ∧
    leads (.linkOutageTimeout 0) (later 200000000 (modGnPort 0 (fun x => { x with outage := some 0 }) (linked 1))) (fun t => (gnPort t 0).outage.isNone) = true ∧
    leads (.linkOutageTimeout 0) (later 199999999 (modGnPort 0 (fun x => { x with outage := some 0 }) (linked 1))) (fun t => (gnPort t 0).outage.isSome) = true := by
  decide +kernel

/-- A notch and the gain inside their fences; a J/N of 23 dB raises the alarm; a capture ends after 1 s. -/
theorem test_interference : let s := modBand 0 (fun b => { b with pnHost := some 1000, dataSince := some 0, capture := some 0, agcHi := 100 }) (linked 3)
    inData s 0 = true ∧ leads (.notchUpdate 0 [(1000, 2000)]) s (fun t => ((bandOf t 0).notches.map (fun n => n.assigned)).head? == some true && bandOf t 1 == bandOf s 1) = true ∧
    leads (.agcUpdate 0 2400) s (fun t => (bandOf t 0).agc == 100) = true ∧ 80 ≤ jnCode 200000 1000 ∧
    leads (.jnUpdate 0 200000 1000 50 100) s (fun t => (bandOf t 0).raised && (told 0xC402 t).isSome) = true ∧
    leads (.noiseCaptureEnd 0 777) (later 1000000000 s) (fun t => (bandOf t 0).pnHost == some 777) = true ∧
    leads (.noiseCaptureEnd 0 777) (later 999999999 s) (fun t => (bandOf t 0).pnHost == some 1000) = true := by decide +kernel

/-- A channel of port 0 that tracks GPS 1. -/
def tracked (st : Nat) : State :=
  modGnss (fun g => { g with chans := [{ Channel.idle with state := st, sat := 0x0101, sig := 1, lowSince := some 0 }] }) (linked 3)

/-- A pass without a find, with one whose repeat dwell fails, and with a verified one; no port in DATA. -/
theorem test_acquisition : let s := linked 3
    let f (again : Nat) : AcqFind := ⟨0x0101, 0x11, 0, 3000, 1500, 4000, again, 10⟩
    dataPorts s = [0] ∧ searchPort s = some 0 ∧ domOn s 5 = true ∧ belowMask s (satOf s 0x0101) = false ∧ (freeChan s 0).isSome = true ∧ tracking s 0x0101 0x11 0 0 = none ∧
    searchPort State.reset = none ∧ acqVerified s (acqTargets s) (f 4000) = true ∧ acqVerified s (acqTargets s) (f 10) = false ∧
    leads (.acqPassComplete []) s (fun t => t.outs.isEmpty && t.gnss.acqDone == 1) = true ∧
    leads (.acqPassComplete [f 4000]) s (fun t => (chanAt t 0).state == 1 && (chanAt t 0).sat == 0x0101 && (chanAt t 0).carrier == 1500000) = true ∧
    leads (.acqPassComplete [f 10]) s (fun t => (chanAt t 0).state == 0) = true := by decide +kernel

/-- The lock of a channel at 25 dB-Hz, and just below; its loss after 1 s, alone and with a sibling in lock. -/
theorem test_tracking_channels : let sib (s : State) := modGnss (fun g => { g with chans := g.chans ++ [{ Channel.idle with state := 4, sat := 0x0101, sig := 2 }] }) s
    leads (.channelUpdate 0 ⟨2500, true, true, 0, false, [0, 0, 0, 0], 0, 0⟩) (tracked 1) (fun t => (chanAt t 0).state == 2) = true ∧
    leads (.channelUpdate 0 ⟨2499, true, true, 0, false, [0, 0, 0, 0], 0, 0⟩) (tracked 1) (fun t => (chanAt t 0).state == 1) = true ∧
    leads (.channelUpdate 1 ⟨2500, true, true, 0, false, [0, 0, 0, 0], 0, 0⟩) (tracked 1) (fun t => (chanAt t 1).state == 0) = true ∧
    leads (.channelLoss 0) (later 1000000000 (tracked 2)) (fun t => chanAt t 0 == Channel.idle) = true ∧
    leads (.channelLoss 0) (later 1000000000 (sib (tracked 2))) (fun t => (chanAt t 0).state == 1) = true ∧
    leads (.channelLoss 0) (later 999999999 (tracked 2)) (fun t => (chanAt t 0).state == 2) = true := by decide +kernel

/-! ### Station corrections -/

/-- Whether a command was answered nothing and one decision waits for the commit. -/
def holds1 (c : Instr) (s : State) : Bool := leads c s (fun t => (replied t).isNone && t.pair.decisions.length == 1)

/-- CORR_MODE_SET of a mode. -/
def modeSet (m : Nat) : List Byte := leBytes 1 m ++ [3, 0, 0] ++ leBytes 4 60 ++ leBytes 4 604800 ++ leBytes 4 10

/-- CORR_POSITION_SET of a point 6371 km from the centre of the Earth. -/
def positionSet : List Byte := leBytes 8 63710000000 ++ zeros 16 ++ [0, 0, 1, 0] ++ leBytes 2 10 ++ [0, 0]

/-- A keep-out zone is held. -/
def zoned : State := modArb (fun a => { a with zones := [⟨0, 0, 2 ^ 64 - 1, [⟨0, 0⟩, ⟨1000, 0⟩, ⟨0, 1000⟩], 0⟩] }) State.reset

/-- The held settings of group 0x05 at the ends of their ranges, and what the state refuses. -/
theorem test_station_settings_held : answers (.corrModeSet (host (modeSet 2))) State.reset 0x0501 0x8505 [] = true ∧
    holds1 (.corrModeSet (host (modeSet 0))) State.reset = true ∧ holds1 (.corrModeSet (host (modeSet 2))) (modStation (fun c => { c with refPos := some ⟨0, 0, 0⟩ }) State.reset) = true ∧
    earthOk (ecefAt positionSet 0) = true ∧ holds1 (.corrPositionSet (host positionSet)) State.reset = true ∧
    answers (.corrPositionSet (host positionSet)) { clear with modes := { clear.modes with radio := 2 } } 0x0502 0x2002 [] = true ∧
    answers (.corrOriginSet (host (zeros 28))) zoned 0x0503 0x8502 [] = true ∧ holds1 (.corrOriginSet (host (zeros 28))) State.reset = true ∧
    holds1 (.corrMsgSet (host ([1, 0x1F, 20, 3] ++ leBytes 2 300 ++ leBytes 2 300 ++ leBytes 2 300 ++ leBytes 2 3600 ++ leBytes 4 0x3FFFF ++ [30, 0, 0, 0]))) State.reset = true ∧
    holds1 (.corrStationSet (host (leBytes 2 4095 ++ [63, 1, 255, 0, 0, 0] ++ [65] ++ zeros 31 ++ List.replicate 31 127 ++ [0]))) State.reset = true := by decide +kernel

/-- The commits put the settings in force. -/
theorem test_station_commits : (commitCorrMode (host (modeSet 2)) State.reset).repl.corr.mode = 2 ∧
    (commitCorrPosition (host positionSet) State.reset).repl.corr.refPos = some ⟨63710000000, 0, 0⟩ ∧
    (told 0xC506 (commitCorrPosition (host positionSet) State.reset)).map (fun x => x.1) = some 40 ∧
    (commitCorrOrigin (host ([1] ++ zeros 3 ++ leBytes 8 7 ++ zeros 16)) State.reset).repl.corr.origin = ⟨7, 0, 0⟩ ∧
    (commitCorrMsg (host ([0, 1, 20, 0] ++ zeros 12 ++ [30, 0, 0, 0])) State.reset).repl.corr.elMask = 30 ∧
    (commitCorrStation (host (leBytes 2 4095 ++ zeros 70)) State.reset).repl.corr.stationId = 4095 := by decide +kernel

/-- The member's own settings of group 0x05, and a queue without the device as its producer. -/
theorem test_station_own_settings : answers (.corrStream (host [63, 0, 0, 0])) State.reset 0x0506 0x8504 [] = true ∧
    answers (.corrStream (host [0xFF, 0, 0, 0])) State.reset 0x0506 0 [0xFF, 0, 0, 0] = true ∧
    leads (.corrSelfcheckSet (host (leBytes 2 200 ++ leBytes 2 1 ++ leBytes 2 2400 ++ [5, 100]))) State.reset (fun t => t.corr.scThreshold == 200 && t.corr.scRatio == 100) = true ∧
    leads (.corrIntegritySet (host (leBytes 2 0x3FB ++ leBytes 2 200 ++ leBytes 2 20 ++ [0, 0]))) State.reset (fun t => t.corr.inMask == 0x3FB) = true ∧
    answers (.corrGet (host [])) State.reset 0x0509 0 (corrGetBytes State.reset) = true := by decide +kernel

/-- A station epoch that measures nothing, while GNSS time is known. -/
def epochIn : EpochIn := ⟨[], [], [], true, [], none⟩

/-- The first record of an ST epoch, and a second one. -/
theorem test_station_epoch : epochDue State.reset = true ∧
    leads (.obsRecordComplete epochIn) State.reset (fun t => t.gnss.epoch == 1 && t.gnss.timeValid && t.gnss.lastEpoch == some 0 && nth t.tb.samples 0 none == some ⟨false, 0, 0, false⟩) = true ∧
    leads (.obsRecordComplete epochIn) (modGnss (fun g => { g with lastEpoch := some 0 }) State.reset) (fun t => t.gnss.epoch == 0) = true := by decide +kernel

/-- Withholding while reaction 0x09 is armed and the self-check is FAIL; the hold and clear counts of the integrity word. -/
theorem test_station_integrity : (withholdStep { modCorr (fun c => { c with scState := 2 }) State.reset with repl := { State.reset.repl with armed := 2 ^ 9 } }).corr.withheld = true ∧
    (withholdStep (modCorr (fun c => { c with scState := 2 }) State.reset)).corr.withheld = false ∧
    Nat.land (integrityWord State.reset false) 0x3FF ≠ 0 ∧
    (integrityStep (modCorr (fun c => { c with inMask := 0x3FF, inHold := 1 }) State.reset)).corr.lost = true ∧
    (integrityStep (modCorr (fun c => { c with inMask := 0x3FF, inHold := 2 }) State.reset)).corr.lost = false ∧
    (integrityStep (modCorr (fun c => { c with lost := true, inMask := 0, inClear := 1 }) State.reset)).corr.lost = false := by decide +kernel

/-! ### The baseline engine -/

/-- Berth 0 is solved by the station 20 times a second, its OBS in version 2. -/
def solving : State := modBerth 0 (fun b => { b with obs := 2 }) { State.reset with repl := { State.reset.repl with bl := [(0, ⟨1, 20, 0, 10, 30⟩)] } }

/-- Group 0x06: held settings, a load above 2560 Hz, a STANDBY, the member's own settings, a berth that is not solved. -/
theorem test_baseline_commands : holds1 (.blBerthSet (host [1, 0, 0, 0, 0, 1, 20, 2, 30, 45, 0, 0])) State.reset = true ∧
    overCapacity [1, 0, 0, 0, 0, 1, 20, 0, 5, 20, 0, 0] { State.reset with repl := { State.reset.repl with bl := [(1, ⟨1, 2541, 0, 10, 30⟩)] } } = true ∧
    overCapacity [1, 0, 0, 0, 0, 1, 20, 0, 5, 20, 0, 0] { State.reset with repl := { State.reset.repl with bl := [(1, ⟨1, 2540, 0, 10, 30⟩)] } } = false ∧
    answers (.blBerthSet (host [1, 0, 0, 0, 0, 1, 20, 0, 5, 20, 0, 0])) { State.reset with repl := { State.reset.repl with bl := [(1, ⟨1, 2541, 0, 10, 30⟩)] } } 0x0601 0x8601 [] = true ∧
    answers (.blBerthSet (host [1, 0, 0, 0, 0, 0, 0, 0, 5, 20, 0, 0])) { State.reset with pair := { State.reset.pair with role := 2 } } 0x0601 0x2004 [] = true ∧
    answers (.blStream (host [0, 7, 20, 0])) State.reset 0x0603 0x8602 [] = true ∧ answers (.blStream (host [0xFF, 7, 20, 0])) State.reset 0x0603 0 [0xFF, 7, 20, 0] = true ∧
    answers (.blResetBerth (host [0, 0, 0, 0])) State.reset 0x0604 0x8603 [] = true ∧ answers (.blResetBerth (host [0, 0, 0, 0])) solving 0x0604 0 [] = true ∧
    answers (.blStatus (host [])) State.reset 0x0605 0 (blStatusBytes State.reset) = true ∧
    leads (.blBerthGet (host [0, 0, 0, 0])) solving (fun t => (replied t).map (fun x => x.2.2.take 3) == some [0, 1, 20]) = true ∧
    answers (.blShadowSet (host ([1, 0] ++ leBytes 2 5 ++ leBytes 2 2000 ++ [0, 0]))) State.reset 0x0607 0 ([1, 0] ++ leBytes 2 5 ++ leBytes 2 2000 ++ [0, 0]) = true := by decide +kernel

/-- BL_PARAM_SET at the ends of its ranges. -/
theorem test_baseline_params :
    holds1 (.blParamSet (host (leBytes 2 15 ++ [32, 4, 200, 5] ++ leBytes 2 5000 ++ leBytes 2 500 ++ leBytes 2 30000 ++ leBytes 2 600 ++ [2, 0]))) State.reset = true ∧
    (commitBlParam (host (leBytes 2 15 ++ [32, 4, 200, 5] ++ leBytes 2 5000 ++ leBytes 2 500 ++ leBytes 2 30000 ++ leBytes 2 600 ++ [2, 0])) State.reset).repl.blParam =
      ⟨15, 32, 4, 200, 5, 5000, 500, 30000, 600, 2⟩ := by decide +kernel

/-- The commits of the engine's settings, one of them above 2560 Hz. -/
theorem test_baseline_commits : (commitBlBerth (host [1, 0, 0, 0, 0, 1, 20, 0, 5, 20, 0, 0]) State.reset).repl.bl = [(0, ⟨1, 20, 0, 5, 20⟩)] ∧
    (commitBlBerth (host [1, 0, 0, 0, 0, 1, 20, 0, 5, 20, 0, 0]) { State.reset with repl := { State.reset.repl with bl := [(1, ⟨1, 2541, 0, 10, 30⟩)] } }).repl.bl = [(1, ⟨1, 2541, 0, 10, 30⟩)] := by
  decide +kernel

/-- An OBS of version 2 with one cell of GPS 1 and an epoch tag and offset. -/
def obs2 (tag : Nat) (off : Int) : List Byte := [0x20, 1] ++ leBytes 2 tag ++ leInt 4 off ++ [1, 1, 0x11, 1] ++ zeros 8 ++ [40, 0]

/-- `solving` at station epoch 100. -/
def solvingAt : State := { solving with tb := { solving.tb with st := 100 * 50000000 } }

/-- An OBS of a berth that is not solved, malformed, off in time, stale, from the future, excess, and one that waits. -/
theorem test_observation_arrival : engineOn State.reset = true ∧ engineOn { State.reset with pwr := { State.reset.pwr with state := 2 } } = false ∧
    leads (.blObsArrival 0 (obs2 100 0)) State.reset (fun t => t.bl.cNotSolving == 1) = true ∧
    leads (.blObsArrival 0 []) solvingAt (fun t => t.bl.cMalformed == 1) = true ∧ (parseObs 0 2 (obs2 100 0) 0).isSome = true ∧
    leads (.blObsArrival 0 (obs2 100 100001)) solvingAt (fun t => t.bl.cTiming == 1) = true ∧
    leads (.blObsArrival 0 (obs2 60 0)) solvingAt (fun t => t.bl.cStale == 1) = true ∧
    leads (.blObsArrival 0 (obs2 101 0)) solvingAt (fun t => t.bl.cFuture == 1) = true ∧
    leads (.blObsArrival 0 (obs2 100 0)) (modBl (fun l => { l with filters := [(0, { Filter.empty 0 0 with lastEpoch := some 100 })] }) solvingAt) (fun t => t.bl.cExcess == 1) = true ∧
    leads (.blObsArrival 0 (obs2 61 (-100000))) solvingAt (fun t => (t.bl.waiting.map (fun w => w.epoch)) == [61]) = true := by decide +kernel

/-- What the filter yields for an OBS: a code-only solution of PDOP 2.0 and 1.0 m RMS, no cell and no search. -/
def solved : SolveIn := ⟨20, 10, 1, 2, 3, 0, 0, 0, true, 10, 20, [], [], 5, 10, 5⟩

/-- An OBS of berth 0 with pseudoranges of the first `n` GPS satellites waits, whose ephemerides the station holds. -/
def obsOf (n : Nat) : WaitingObs := ⟨0, 20, 20, 0, 2, none, false, (List.range n).map (fun i => ⟨0x0101 + i, 0x11, some 0, none, 40, false, 0⟩), 0⟩

/-- A state in which it waits. -/
def obsWaits (n : Nat) : State :=
  modGnss (fun g => { g with sats := (List.range n).map (fun i => { Sat.new (0x0101 + i) with eph := some [], healthy := true }) })
    (modBl (fun l => { l with waiting := [obsOf n] }) solvingAt)

/-- The first solution of an OBS without station observables is code-only with 4 satellites, none with 3; another berth's turn changes
nothing; an OBS of a berth that is no longer solved is counted. -/
theorem test_observation_solve : let s := obsWaits 4
    nextObs s = some (obsOf 4) ∧ engineOn s = true ∧ codeValid s (obsOf 4) solved = true ∧ (stationObs s 20).cls = 2 ∧ codeValid (obsWaits 3) (obsOf 3) solved = false ∧
    leads (.blObsSolve 1 solved) s (fun t => t.bl.waiting.length == 1) = true ∧
    leads (.blObsSolve 0 solved) s (fun t => t.bl.waiting.isEmpty && (filterOf t 0).state == 1 && t.bl.util == 5 && (filterOf t 0).n == 2) = true ∧
    leads (.blObsSolve 0 solved) (obsWaits 3) (fun t => (filterOf t 0).state == 0 && t.bl.cAccepted == 1) = true ∧
    leads (.blObsSolve 0 solved) { s with repl := { s.repl with bl := [] } } (fun t => t.bl.cNotSolving == 1) = true := by decide +kernel

/-- A berth of a FLOAT filter with station observables. -/
theorem witness_observation_float : let s := modStation (fun c => { c with mode := 1 }) (modCorr (fun c => { c with word := 0 }) (modBl (fun l => { l with
      sets := [⟨20, 20, 0, true, 0, 0, 0, []⟩], filters := [(0, { Filter.empty 0 0 with state := 2 })] }) (obsWaits 4)))
    (stationObs s 20).cls = 0 ∧ (filterOf s 0).state = 2 ∧ nextObs s = some (obsOf 4) := by decide +kernel

/-- The silence time, 1 ns less, and the retention. -/
theorem test_baseline_timers : let s := modBl (fun l => { l with filters := [(0, { Filter.empty 0 0 with e := 5, state := 3 })] }) solving
    leads (.blSilenceTimeout 0) (later 1000000000 s) (fun t => (filterOf t 0).state == 0 && (filterOf t 0).sigH == 0xFFFF && (filterOf t 0).e == 5) = true ∧
    leads (.blSilenceTimeout 0) (later 999999999 s) (fun t => (filterOf t 0).state == 3) = true ∧
    leads (.blRetentionExpiry 0) s (fun t => (look t.bl.filters 0).isSome) = true ∧
    leads (.blRetentionExpiry 0) (later 60 (modBl (fun l => { l with filters := [(0, { Filter.empty 0 0 with retainUntil := some 60 })] }) solving)) (fun t => (look t.bl.filters 0).isNone) = true := by
  decide +kernel

/-! ### Eclipse and spot stops -/

/-- Both STOP channels healthy, Eclipse in a state, entry 0x01 armed. -/
def stops (st : Nat) : State :=
  { clear with ecl := { clear.ecl with stopA := true, stopB := false, active := [] }, repl := { clear.repl with ecl := ⟨st, 9, 3, []⟩ } }

/-- ECLIPSE_TRIGGER in CLEAR and in ECLIPSE. -/
theorem test_eclipse_triggered : leads (.eclipseTrigger (host (leBytes 4 77))) (stops 0) (fun t => t.repl.ecl.state == 1 && t.repl.ecl.cause == 5 && t.repl.ecl.seq == 10
      && told 0xC901 t == some (0, [0, 1, 5, 0, 10, 0, 0, 0, 77, 0, 0, 0])) = true ∧
    answers (.eclipseTrigger (host (zeros 4))) (stops 1) 0x0901 0x0102 [1, 0, 9, 0] = true ∧ unsentTasks (stops 0) = [] := by decide +kernel

/-- A condition of entry 0x01 is active. -/
def pressed (st : Nat) : State := { stops st with ecl := { (stops st).ecl with active := [(1, 8)] } }

/-- ECLIPSE_RELEASE in each state; the release delay and 1 ns less. -/
theorem test_eclipse_released : answers (.eclipseRelease (host [])) { stops 1 with pair := { State.reset.pair with role := 2 } } 0x0902 0x2004 [] = true ∧
    answers (.eclipseRelease (host [])) (stops 2) 0x0902 0x0102 (releasePayload false (stops 2)) = true ∧
    answers (.eclipseRelease (host [])) (stops 0) 0x0902 0x8903 (releasePayload true (stops 0)) = true ∧
    armedLasting (pressed 1) = true ∧ stopHealthy (pressed 1) = true ∧ armedLasting (stops 1) = false ∧
    answers (.eclipseRelease (host [])) (pressed 1) 0x0902 0x8901 (releasePayload true (pressed 1)) = true ∧
    answers (.eclipseRelease (host [])) { stops 1 with ecl := { (stops 1).ecl with fault := true } } 0x0902 0x8902
      (releasePayload true { stops 1 with ecl := { (stops 1).ecl with fault := true } }) = true ∧
    holds1 (.eclipseRelease (host [])) (stops 1) = true ∧
    leads .releaseDelayEnd (later 2000000000 (stops 2)) (fun t => t.repl.ecl.state == 0 && t.pins.eclOut) = true ∧
    leads .releaseDelayEnd (later 1999999999 (stops 2)) (fun t => t.repl.ecl.state == 2) = true := by decide +kernel

/-- The commit of a release, and of one with a later trigger. -/
theorem test_release_commit : (commitRelease (host []) 0 (stops 1)).repl.ecl.state = 2 ∧ replied (commitRelease (host []) 1 (stops 1)) =
    some (0x0902, 0x8901, releasePayload true (stops 1)) ∧ (commitRelease (host []) 1 (stops 1)).repl.ecl.state = 1 := by decide +kernel

/-- Berth 3 is SERVED, with a spot stop in force or not. -/
def berthed (inForce : Bool) : State := setSpot 3 ⟨inForce, 1, 65535, 0, false⟩ (modBerth 3 (fun b => { b with state := 2 }) (stops 0))

/-- SPOT_STOP and SPOT_RELEASE. -/
theorem test_spot_stops : answers (.spotStop (host [4, 0, 0, 0])) (berthed false) 0x0903 0x8904 [] = true ∧
    answers (.spotStop (host [3, 0, 0, 0])) (berthed false) 0x0903 0 [3, 2, 0, 0] = true ∧ answers (.spotStop (host [3, 0, 0, 0])) (berthed true) 0x0903 0x0102 [3, 2, 0, 0] = true ∧
    leads (.spotStop (host [3, 0, 0, 0])) (berthed false) (fun t => spotOf t 3 == ⟨true, 1, 0, 8, false⟩) = true ∧
    answers (.spotStop (host [3, 0, 0, 0])) { berthed false with pair := { State.reset.pair with role := 2 } } 0x0903 0x2004 [] = true ∧
    leads (.spotStop (host [3, 0, 0, 0])) { berthed false with pair := { State.reset.pair with role := 2, link := 2 } } (fun t => t.pair.forwards.length == 1) = true ∧
    answers (.spotRelease (host [3, 0, 0, 0])) (berthed false) 0x0904 0x8905 [] = true ∧ holds1 (.spotRelease (host [3, 0, 0, 0])) (berthed true) = true ∧
    spotOf (commitSpotRelease (host [3, 0, 0, 0]) 65535 (berthed true)) 3 = ⟨false, 1, 0, 3, true⟩ ∧
    spotOf (commitSpotRelease (host [3, 0, 0, 0]) 0 (berthed true)) 3 = ⟨true, 1, 65535, 0, false⟩ := by decide +kernel

/-- ECL_GET, and ECL_CONFIG_SET at the ends of its ranges. -/
theorem test_eclipse_settings : answers (.eclGet (host [])) State.reset 0x0905 0 (eclGetPayload State.reset) = true ∧
    leads (.eclConfigSet (host (leBytes 2 20 ++ leBytes 2 500 ++ leBytes 2 600 ++ [7, 0, 7, 0, 0, 0] ++ [3, 3] ++ leBytes 2 1000 ++ leBytes 4 (2 ^ 29 - 1)
      ++ [0, 1] ++ leBytes 2 0 ++ leBytes 4 (2 ^ 11 - 1) ++ zeros 16))) State.reset (fun t => t.ecl.tFilt == 20 && t.ecl.releaseDelay == 600
        && (nth t.ecl.ids 0 StopId.off).ident == 2 ^ 29 - 1) = true := by decide +kernel

/-- STOP_A low enters ECLIPSE; both channels back; the discrepancy time of 50 ms and 1 ns more. -/
theorem test_stop_pins : let s := { stops 0 with ecl := { (stops 0).ecl with discSince := some 0 } }
    leads (.stopPinChange false false) (stops 0) (fun t => t.repl.ecl.state == 1 && t.repl.ecl.cause == 1 && t.ecl.active == [(1, 8)]) = true ∧
    leads (.stopPinChange true false) s (fun t => t.ecl.discSince.isNone) = true ∧
    leads .discrepancyTimeout (later (50 * 1000000) s) (fun t => !t.ecl.fault) = true ∧
    leads .discrepancyTimeout (later (50 * 1000000 + 1) s) (fun t => t.ecl.fault && (told 0xC903 t).map (fun x => x.1) == some 8) = true := by decide +kernel

/-! ### The radio heads -/

/-- Head 0 in band 1 and calibrated for it, its port in a state. -/
def headed (port : Nat) (enable : Bool) : State := modHead 0 (fun x => { x with port := port, set := { x.set with band := 1, enable := enable } })
  { State.reset with pwr := { State.reset.pwr with calib := modNth State.reset.pwr.calib 4 (fun c => patch c 0 [1]) } }

/-- RH_HEAD_SET of head 0 with a band; the leads and lags stand at their limits. -/
def headPayload (enable : Nat) (band : Nat) : List Byte := [0] ++ leBytes 1 enable ++ leBytes 1 band ++ [0, 3, 25, 8, 8, 8, 8, 20, 0] ++ leBytes 2 255 ++ leBytes 2 0xFFFF

/-- Disabling with a change of band, enabling without calibration of the band, a change that leaves enabling as it is, disabling,
enabling. -/
theorem test_head_settings : calBand (headed 0 false) 0 = 1 ∧
    answers (.rhHeadSet (host (headPayload 0 2))) (headed 2 true) 0x0701 0x8702 [] = true ∧
    answers (.rhHeadSet (host (headPayload 1 2))) (headed 0 false) 0x0701 0x8705 [] = true ∧
    leads (.rhHeadSet (host (headPayload 1 1))) (headed 2 true) (fun t => (headOfRh t 0).set == headSetOf (headPayload 1 1) && (headOfRh t 0).port == 2) = true ∧
    leads (.rhHeadSet (host (headPayload 0 1))) (headed 2 true) (fun t => (headOfRh t 0).port == 0 && headOfRh t 1 == Head.zero) = true ∧
    leads (.rhHeadSet (host (headPayload 1 1))) (headed 0 false) (fun t => (headOfRh t 0).port == 1 && told 0xC701 t == some (20, [0, 0, 1, 0])) = true := by decide +kernel

/-- A head with a script waiting. -/
def scripting (x : RhScript) : State := modHead 0 (fun y => { y with queue := [x] }) (headed 2 true)

/-- Script memory, transfers, training and gain fences, with what the port's state refuses. -/
theorem test_head_commands : answers (.rhScriptLoad (host [0, 1, 255, 0, 3, 9, 0, 1, 0, 0, 0, 0])) (scripting ⟨0, 0, 0, none⟩) 0x0703 0x2003 [] = true ∧
    leads (.rhScriptLoad (host [0, 1, 255, 0, 3, 9, 0, 1, 0, 0, 0, 0])) (headed 2 true) (fun t => scriptEntry (headOfRh t 0) 255 == [3, 9, 0, 1, 0, 0, 0, 0]) = true ∧
    answers (.rhSpiXfer (host [0, 1, 60, 0, 5])) (headed 0 false) 0x0704 0x8706 [] = true ∧ leads (.rhSpiXfer (host [0, 1, 60, 0, 5])) (headed 1 true) (fun t => (headOfRh t 0).queue.length == 1) = true ∧
    answers (.rhPortTrain (host [0, 0, 0, 0]) [30, 124, 2 ^ 32 - 1]) (headed 1 true) 0x0705 0x8706 [] = true ∧ answers (.rhPortTrain (host [0, 0, 0, 0]) [30, 119, 2 ^ 32 - 1]) (headed 2 true) 0x0705 0x8707 [] = true ∧
    answers (.rhPortTrain (host [0, 0, 0, 0]) [30, 124, 2 ^ 32 - 1]) (headed 2 true) 0x0705 0 [2, 4, 15, 4] = true ∧
    answers (.rhFenceSet (host ([3, 0, 0, 0] ++ leInt 4 1 ++ leInt 4 0 ++ zeros 4))) State.reset 0x0706 0x4003 [] = true ∧
    leads (.rhFenceSet (host ([3, 0, 0, 0] ++ leInt 4 (-2400) ++ leInt 4 2400 ++ zeros 4))) State.reset (fun t => (headOfRh t 3).agcHi == 2400 && (replied t).map (fun x => x.2.1) == some 0x0102) = true ∧
    answers (.rhStatus (host [])) State.reset 0x0707 0 (State.reset.rh.flatMap headStatus) = true := by decide +kernel

/-- RH_CHAN_SET of one channel for head 0. -/
def chanSet (khz : Nat) : List Byte := [0, 1, 0, 0] ++ leBytes 4 khz ++ [255, 255, 0, 0]

/-- The radio mode in force is LISTEN, requested as such; channel 0 lies in a sub-band. -/
def listening (port : Nat) : State :=
  let s := modHead 0 (fun x => { x with chans := [⟨866500, 0xFFFF⟩] }) (modMac (fun m => { m with subs := [⟨863000, 870000, 100000, 60, 1400, false, 0⟩], meters := [⟨[0], 0, 0, 0⟩] }) (headed port true))
  let s1 := { s with mac := { s.mac with requested := 1 } }
  let s2 := { s1 with modes := modesOf s1 }
  { s2 with pins := pinsOf s2 }

/-- A centre 125 kHz beyond the lower edge of its band, one at the lowest place, a change of the channel in use. -/
theorem test_head_channels : spanInside 865250 4500 863000 870000 = true ∧ spanInside 865125 4500 863000 870000 = false ∧ 865250 % 125 = 0 ∧
    answers (.rhChanSet (host (chanSet 865125))) (headed 0 false) 0x0702 0x8701 [] = true ∧ answers (.rhChanSet (host (chanSet 865250))) (headed 0 false) 0x0702 0 (chanSet 865250) = true ∧
    answers (.rhChanSet (host (chanSet 865250))) { modHead 0 (fun x => { x with chan := some 0 }) (headed 2 true) with modes := ⟨2, 0, 3, 0⟩ } 0x0702 0x8703 [] = true := by decide +kernel

/-- RH_TEST of head 0 on channel 0. -/
def testSet (on chan : Nat) : List Byte := [0] ++ leBytes 1 on ++ leBytes 1 chan ++ [7] ++ leBytes 2 120 ++ [0, 0] ++ leBytes 4 60000

/-- RH_TEST outside LISTEN, without a port, without a channel, started and ended. -/
theorem test_head_test : Agrees (listening 2) ∧ (listening 2).modes.radio = 1 ∧ answers (.rhTest (host (testSet 0 0))) (headed 2 true) 0x0708 0x2002 [] = true ∧
    answers (.rhTest (host (testSet 0 0))) (listening 1) 0x0708 0x8706 [] = true ∧ answers (.rhTest (host (testSet 1 15))) (listening 2) 0x0708 0x8708 [] = true ∧
    subbandsOf (listening 2) 0 ⟨866500, 0xFFFF⟩ ≠ [] ∧
    leads (.rhTest (host (testSet 1 0))) (listening 2) (fun t => (headOfRh t 0).test == some ⟨0, 7, 120, 0, 60000, 0⟩) = true ∧
    leads (.rhTest (host (testSet 0 0))) (modHead 0 (fun x => { x with test := some ⟨0, 7, 120, 0, 60000, 5⟩ }) (listening 2))
      (fun t => told 0xC703 t == some (20, [0, 1, 0, 0, 5, 0, 0, 0])) = true := by
  unfold Agrees; decide +kernel

/-- The events of a port: RXCLK, the burst limit of 4.25 ms, interrupts and their repetition after 100 ms, scripts, the end of a test. -/
theorem test_head_events : leads (.rhRxclkPresent 0) (headed 1 true) (fun t => told 0xC701 t == some (20, [0, 1, 2, 2])) = true ∧
    leads (.rhRxclkLost 0) (headed 2 true) (fun t => told 0xC701 t == some (20, [0, 2, 1, 1])) = true ∧
    leads (.rhBurstLimit 0) (later 4250000 (modHead 0 (fun x => { x with paen := true }) (headed 2 true))) (fun t => told 0xC701 t == some (20, [0, 2, 3, 3]) && (headOfRh t 0).trips == 1) = true ∧
    leads (.rhBurstLimit 0) (later 4249999 (modHead 0 (fun x => { x with paen := true }) (headed 2 true))) (fun t => (headOfRh t 0).port == 2) = true ∧
    leads (.rhIrqEdge 0) (headed 2 true) (fun t => told 0xC702 t == some (20, zeros 20)) = true ∧
    leads (.rhIrqRepeat 0) (later 100000000 (modHead 0 (fun x => { x with set := { x.set with irqScript := 4 } }) (headed 2 true))) (fun t => (headOfRh t 0).queue == [⟨2, 4, 0, none⟩]) = true ∧
    leads (.rhIrqRepeat 0) (later 99999999 (modHead 0 (fun x => { x with set := { x.set with irqScript := 4 } }) (headed 2 true))) (fun t => (headOfRh t 0).queue.isEmpty) = true ∧
    leads (.rhScriptComplete 0 []) (scripting ⟨1, 7, 3, none⟩) (fun t => (headOfRh t 0).chan == some 3 && t.outs == [.headSpi 0 []]) = true ∧
    leads (.rhScriptComplete 0 [9]) (scripting ⟨3, 0, 0, some (host [0, 0, 2, 0])⟩) (fun t => replied t == some (0x0704, 0, [9, 0])) = true ∧
    leads (.rhTestDurationEnd 0) (later 60000000000 (modHead 0 (fun x => { x with test := some ⟨0, 7, 120, 0, 60000, 5⟩ }) (listening 2))) (fun t => told 0xC703 t == some (20, [0, 0, 0, 0, 5, 0, 0, 0])) = true ∧
    leads (.rhTestDurationEnd 0) (later 59999999999 (modHead 0 (fun x => { x with test := some ⟨0, 7, 120, 0, 60000, 5⟩ }) (listening 2))) (fun t => (headOfRh t 0).test.isSome) = true := by decide +kernel

/-! ### Arming, radio and orbit settings -/

/-- ARM_SET: 0x0D in SOLO, 0x01 disarmed in MISSION, a STANDBY, a change that waits. -/
theorem test_arm_set : answers (.armSet (host [1, 0, 0, 0, 13, 1])) State.reset 0x0110 0x2005 [] = true ∧
    answers (.armSet (host [1, 0, 0, 0, 1, 0])) { State.reset with vault := { State.reset.vault with life := 1 } } 0x0110 0x2005 [] = true ∧
    answers (.armSet (host [1, 0, 0, 0, 13, 1])) { State.reset with pair := { State.reset.pair with role := 2 } } 0x0110 0x2004 [] = true ∧
    holds1 (.armSet (host [2, 0, 0, 0, 1, 0, 14, 1])) State.reset = true := by decide +kernel

/-- The commit of an ARM_SET that changes nothing, that changes the table, and that came to be barred. -/
theorem test_arm_commit : (commitArm (host [1, 0, 0, 0, 1, 1]) State.reset).1 = 0x0102 ∧ (commitArm (host [1, 0, 0, 0, 14, 1]) State.reset).2.repl.armed = 0x4802 ∧
    told 0xC105 (commitArm (host [1, 0, 0, 0, 14, 1]) State.reset).2 = some (0, [2, 0x48, 0, 0]) ∧ (commitArm (host [1, 0, 0, 0, 13, 1]) State.reset).1 = 0x2005 := by decide +kernel

/-- RADIO_MODE_SET: SERVE in TEST and in MISSION, OFF again. -/
theorem test_radio_mode : answers (.radioModeSet (host [2, 0, 0, 0])) State.reset 0x0709 0x2001 [] = true ∧
    leads (.radioModeSet (host [2, 0, 0, 0])) { State.reset with vault := { State.reset.vault with life := 1 } } (fun t => t.mac.requested == 2) = true ∧
    answers (.radioModeSet (host [0, 0, 0, 0])) State.reset 0x0709 0x0102 [0, 0, 0, 0] = true ∧ leads (.radioModeSet (host [1, 0, 0, 0])) State.reset (fun t => t.modes.radio == 1) = true := by decide +kernel

/-- An entry of RADIO_SUBBAND_SET. -/
def subPayload (lo hi : Nat) : List Byte := [1, 0, 0, 0] ++ leBytes 4 lo ++ leBytes 4 hi ++ leBytes 4 100000 ++ leBytes 4 60 ++ [0, 0, 1, 50]

/-- RADIO_LINK_FENCE_SET of every berth. -/
def linkPayload (kind : Nat) (lo hi : Int) : List Byte := [255, 255] ++ leBytes 1 kind ++ [1] ++ leInt 4 lo ++ leInt 4 hi ++ leInt 4 lo

/-- The replicated settings of group 0x07 with limits in order and not. -/
theorem test_radio_settings_held : answers (.radioSubbandSet (host (subPayload 5 5))) State.reset 0x070A 0x4003 [] = true ∧ holds1 (.radioSubbandSet (host (subPayload 5 6))) State.reset = true ∧
    answers (.radioLinkFenceSet (host (linkPayload 0 7 6))) State.reset 0x070B 0x4003 [] = true ∧ holds1 (.radioLinkFenceSet (host (linkPayload 0 7 7))) State.reset = true ∧
    holds1 (.radioLinkFenceSet (host (linkPayload 1 (-1000) 3600))) State.reset = true ∧ answers (.radioChanFenceSet (host [3, 1, 15, 14, 0, 0, 0, 0])) State.reset 0x070C 0x4003 [] = true ∧
    holds1 (.radioChanFenceSet (host [3, 1, 15, 15, 15, 0, 0, 0])) State.reset = true ∧ answers (.radioDutyGet (host [])) State.reset 0x070D 0 [] = true := by decide +kernel

/-- A new sub-band starts an empty meter, one of the same span and window keeps its own; the fences named take the values. -/
theorem test_radio_commits : let s := modMac (fun m => { m with subs := [⟨5, 6, 1, 60, 0, false, 0⟩], meters := [⟨[7], 0, 1, 2⟩] }) State.reset
    (commitSubbands (host (subPayload 5 6)) s).repl.mac.meters = [⟨[7], 0, 1, 2⟩] ∧ (commitSubbands (host (subPayload 5 7)) s).repl.mac.meters = [⟨[0], 0, 0, 0⟩] ∧
    told 0xC704 (commitSubbands (host (subPayload 5 7)) s) = some (28, [0, 1, 255, 255, 0, 0, 0, 0] ++ leBytes 4 60000) ∧
    replied (commitSubbands (host [0, 0, 0, 0]) State.reset) = some (0x070A, 0x0102, [0, 0, 0, 0]) ∧
    (linkFenceOf (commitLinkFence (host (linkPayload 0 7 7)) State.reset) 255).mcsFixed = some 7 ∧ (linkFenceOf (commitLinkFence (host (linkPayload 0 7 7)) State.reset) 256) = LinkFence.default ∧
    (linkFenceOf (commitLinkFence (host (linkPayload 1 (-1000) 3600)) State.reset) 0).pwrHi = 3600 ∧
    (macHead (commitChanFence (host [3, 1, 15, 15, 15, 0, 0, 0]) State.reset) 3).fixedIdx = some 15 := by decide +kernel

/-- OR_CONFIG_SET of an orbit length and a lease. -/
def orPayload (l lease : Nat) : List Byte := leBytes 2 l ++ leBytes 1 lease ++ [63] ++ leBytes 2 10 ++ [12, 0x3D, 50, 200] ++ leBytes 2 600 ++ leBytes 4 86400 ++ leBytes 4 600
  ++ leBytes 2 100 ++ [50, 40]

/-- OR_SCHEDULE_SET of a map of 400 units: a beacon run, then a type. -/
def schedulePayload (beacon ty : Nat) : List Byte := [0, 3, 2, 3] ++ leInt 2 (-80) ++ leBytes 2 400 ++
  (List.range 200).map (fun i => BitVec.ofNat 8 ((if 2 * i < beacon then 1 else ty) + 16 * (if 2 * i + 1 < beacon then 1 else ty)))

/-- Berth 1 holds an allotment in unit 10 of head 0. -/
def alloted : State := modBerth 1 (fun b => { b with state := 2, allot := some ⟨0, [⟨10, 1, 2, 0⟩], 20, 10, 0, 1⟩ }) State.reset

/-- An orbit length outside OFF, a lease too short for a pair, a map without its beacon run, one that takes an allotted unit. -/
theorem test_orbit_settings_held : orConfigOk (orConfigOf (orPayload 80 2)) = true ∧ answers (.orConfigSet (host (orPayload 80 2))) { State.reset with modes := ⟨1, 0, 3, 0⟩ } 0x0801 0x2002 [] = true ∧
    leaseShort 2 80 40 = true ∧ answers (.orConfigSet (host (orPayload 80 2))) { State.reset with pair := { State.reset.pair with mode := 1 } } 0x0801 0x8804 [] = true ∧
    holds1 (.orConfigSet (host (orPayload 80 2))) State.reset = true ∧ beaconRun State.reset 0 3 = 1 ∧
    answers (.orScheduleSet (host (schedulePayload 0 5))) State.reset 0x0802 0x8801 [] = true ∧ answers (.orScheduleSet (host (schedulePayload 1 4))) alloted 0x0802 0x8802 [] = true ∧
    holds1 (.orScheduleSet (host (schedulePayload 1 5))) alloted = true ∧ answers (.orStatus (host [])) State.reset 0x0805 0 (orStatusBytes State.reset) = true ∧
    leads (.orBerthGet (host [1, 0, 0, 0])) alloted (fun t => (replied t).map (fun x => x.2.2.take 2) == some [1, 2]) = true := by decide +kernel

/-- The commits: a new orbit length releases allotments; a new map waits for the countdown. -/
theorem test_orbit_commits : (commitOrConfig (host (orPayload 80 2)) alloted).repl.mac.cfg.l = 80 ∧ (berthOf (commitOrConfig (host (orPayload 80 2)) alloted) 1).allot = none ∧
    (commitOrConfig (host (orPayload 400 2)) alloted).repl.mac.cfg.lease = 2 ∧ (berthOf (commitOrConfig (host (orPayload 400 2)) alloted) 1).allot.isSome = true ∧
    scheduleFails (schedulePayload 1 5) alloted = [] ∧ (macHead (commitSchedule (host (schedulePayload 1 5)) alloted) 0).next.map (fun x => (x.1.version, x.2)) = some (1, 6) ∧
    (macHead (commitSchedule (host (schedulePayload 1 5)) alloted) 0).map = MacHead.default.map := by decide +kernel

/-! ### The air -/

/-- A device in MISSION with its key tree, the epoch nodes, and the machine node and session node of machine 9. -/
def mission : State :=
  let s := epochNodes (firstBoot (modVault (fun v => { v with life := 1, complete := true, fused := some (List.replicate 32 7) }) State.reset))
  addSession 9 (List.replicate 32 1) (machineFor 9 s).2

/-- The same in SERVE, locked, with head 0 enabled in a sub-band, its port READY on channel 0. -/
def serving : State :=
  let s := modHead 0 (fun x => { x with port := 2, chan := some 0, want := some 0, chans := [⟨866500, 0xFFFF⟩], set := { x.set with band := 1, enable := true } })
    (modMac (fun m => { m with subs := [⟨863000, 870000, 100000, 60, 1400, false, 0⟩], meters := [⟨[0], 0, 0, 0⟩] }) mission)
  let s1 := { s with
    mac := { s.mac with requested := 2 }
    outs := []
    tb := { s.tb with state := 1, source := 1, st := 400000000000 }
    pwr := { s.pwr with calib := modNth s.pwr.calib 4 (fun c => patch c 0 [1]) }
    repl := { s.repl with ecl := { s.repl.ecl with state := 0 } } }
  let s2 := { s1 with modes := modesOf s1, pins := pinsOf s1 }
  { s2 with tb := { s2.tb with tpDriven := tpDrivenOf s2 } }

/-- OR_BERTH_SET of one action for berth 1, with the settings at the ends of their ranges. -/
def berthPayload (a : Nat) : List Byte := [1, 0, 0, 0, 1] ++ leBytes 1 a ++ [20, 16, 100, 15, 0, 0] ++ leBytes 8 0

/-- Berth 1 in a state, of machine 9. -/
def berthIn (st : Nat) : State := modBerth 1 (fun b => { b with state := st, machine := 9, hasSession := true, machineNonce := List.replicate 16 1, stationNonce := List.replicate 16 1, up := 100, window := 1, obs := 2 }) serving

/-- OR_BERTH_SET: an open of a berth that is not CLOSED, a release of one that is not HELD, and the commits of the four actions. -/
theorem test_berth_settings : entryOk (berthPayload 0) 0 = true ∧ answers (.orBerthSet (host (berthPayload 2))) (berthIn 2) 0x0803 0x8805 [] = true ∧
    answers (.orBerthSet (host (berthPayload 3))) (berthIn 5) 0x0803 0x8805 [] = true ∧ berthSetFails (berthPayload 0) (berthIn 2) = [] ∧ holds1 (.orBerthSet (host (berthPayload 0))) (berthIn 2) = true ∧
    (berthOf (commitOrBerth (host (berthPayload 0)) (berthIn 2)) 1).set.cadence = 20 ∧ (berthOf (commitOrBerth (host (berthPayload 1)) (berthIn 2)) 1).closeLeft = 3 ∧
    (told 0xC801 (commitOrBerth (host (berthPayload 1)) (berthIn 2))).map (fun x => x.2.take 4) = some [1, 2, 5, 5] ∧
    (told 0xC801 (commitOrBerth (host (berthPayload 2)) (berthIn 5))).map (fun x => x.2.take 4) = some [1, 5, 0, 6] ∧
    (told 0xC801 (commitOrBerth (host (berthPayload 3)) (berthIn 4))).map (fun x => x.2.take 4) = some [1, 4, 0, 7] := by decide +kernel

/-- `serving` in LISTEN. -/
def listens : State :=
  let s := { serving with mac := { serving.mac with requested := 1 } }
  { s with modes := modesOf s }

/-- Units and orbits in LISTEN: a boundary is served once, each enabled head reports its beacon. -/
theorem test_units_orbits : Agrees listens ∧ unitNow listens = 1600000 ∧ leads .unitBoundary listens (fun t => t.mac.lastUnit == some 1600000) = true ∧
    leads .unitBoundary { listens with mac := { listens.mac with lastUnit := some 1600000 } } (fun t => t.outs.isEmpty) = true ∧
    leads .orbitStart listens (fun t => t.mac.lastOrbit == some 4000 && (macLocal t 0).misses == 1 && (told 0xC803 t) == some (20, [0, 3, 1, 0, 0, 0, 0, 0])) = true ∧
    leads .orbitStart { listens with tb := { listens.tb with st := 400000250000 } } (fun t => t.mac.lastOrbit.isNone) = true := by
  unfold Agrees; decide +kernel

/-- Beacons in CLEAR and in ECLIPSE, and a frame of a burst. -/
theorem test_broadcast_frames : serving.modes.radio = 2 ∧ airQuiet serving = false ∧ broadcastKeyOk serving = true ∧
    goLease (modLocal 0 (fun l => { l with first := false }) serving) 0 = 3 ∧ goLease (modEcl (fun e => { e with state := 1 }) serving) 0 = 0 ∧
    sendCheck (macFrame 0 0 0xFFFF (macHead serving 0).map.beaconMcs broadcastEirp (beaconBody serving 0 (restingOf serving 0))) serving = 0 ∧
    (beaconStep serving 0).repl.mac.bcounter = 2 ∧ (beaconStep serving 0).outs.any (fun x => match x with | .frame f => f.ftype == 0 && f.psdu.length == 12 + f.body.length + 8 + 4 && f.symbols.length == 6 && f.gtc == serving.tb.gtc && f.source == 20 && f.counter == 1 | _ => false) = true ∧
    (serveUnit 0 1600001 4000 1 (modLocal 0 (fun l => { l with burst := 5 }) serving)).repl.mac.bcounter = 2 ∧
    (serveUnit 0 1600001 4000 1 (modLocal 0 (fun l => { l with burst := 5, occupied := 1600002 }) serving)).repl.mac.bcounter = 1 ∧
    eclAtDecision { modEcl (fun e => { e with state := 1 }) serving with ecl := { serving.ecl with entry := serving.tb.gtc, before := 0 } } 0 = 0 ∧
    (macLocal (serveUnit 0 1600001 4000 1 (modLocal 0 (fun l => { l with burst := 5 }) serving)) 0).burst = 4 := by decide +kernel

/-- A PSDU as head 0 receives it on time at MCS 3, under the station's colour. -/
def atHead (psdu : List Byte) : AirFrame :=
  ⟨0, 0, phyHeader 3 psdu.length 9 (serving.repl.mac.cfg.colour) 1 30, bytesOfBits psdu.length (scramble 9 (bitsOfBytes psdu)), -1200, -1200, 80, 0⟩

/-- A frame of a type, from an address, under a counter: an UP frame under berth 1's session key or with a zero MIC, others without
protection. -/
def air (ty src counter : Nat) (mic : Bool) (body : List Byte) : AirFrame :=
  let s := modBerth 1 (fun b => { b with machine := 9, hasSession := true, machineNonce := List.replicate 16 1, stationNonce := List.replicate 16 1 }) serving
  let x : Protect := ⟨if 10 ≤ ty then 2 else 0, 3, counter, (berthOf s 1).session, if mic then some (sessionKey s 1) else none⟩
  let h := macHeader ty x.prot 3 0 0xFFFE src counter 0
  atHead (withFcs (h ++ protectBody x h body))

/-- The checks of a received frame, and a head that does not listen; a carrier beyond 25 ppm; a preamble at the window's end and 1 ns later. -/
theorem test_frame_reception : let f := air 8 0xFFFF 0 true []
    headListens serving 0 = true ∧ serving.repl.mac.cfg.window = 8 ∧ leads (.rhFrameRx f) State.reset (fun t => t.outs.isEmpty) = true ∧
    leads (.rhFrameRx { f with header := f.header + 1 }) serving (fun t => (headOfRh t 0).hdrFail == 1) = true ∧
    leads (.rhFrameRx { f with header := phyHeader 3 16 9 63 1 30 }) serving (fun t => (headOfRh t 0).foreign == 1) = true ∧
    leads (.rhFrameRx { f with data := zeros 16 }) serving (fun t => (headOfRh t 0).fcsFail == 1) = true ∧
    leads (.rhFrameRx f) serving (fun t => (headOfRh t 0).delivered == 1) = true ∧ stationFrame f serving = false ∧
    leads (.rhFrameRx { f with cfo := 2501 }) serving (fun t => (headOfRh t 0).delivered == 0) = true ∧ acquired { f with cfo := -2500 } serving = true ∧
    acquired { f with age := 8000 } serving = true ∧ acquired { f with age := 8001 } serving = false := by decide +kernel

/-- UP frames: of a berth without a session, below the window, marked, without a valid MIC, accepted. -/
theorem test_up_frames : macReceives (air 11 0x0101 101 true []) (berthIn 2) = true ∧ macReceives { air 11 0x0101 101 true [] with age := 8001 } (berthIn 2) = false ∧
    leads (.upFrameRx (air 11 0x0101 101 true [])) (berthIn 4) (fun t => t.mac.kind1 == 1) = true ∧
    leads (.upFrameRx (air 11 0x0101 36 true [])) (berthIn 2) (fun t => (berthOf t 1).stale == 1) = true ∧
    leads (.upFrameRx (air 11 0x0101 37 true [])) (berthIn 2) (fun t => (berthOf t 1).stale == 0 && (berthOf t 1).accepted == 1) = true ∧
    leads (.upFrameRx (air 11 0x0101 100 true [])) (berthIn 2) (fun t => (berthOf t 1).dup == 1) = true ∧
    leads (.upFrameRx (air 11 0x0101 101 false [])) (berthIn 2) (fun t => (berthOf t 1).mic == 1) = true ∧ sessionKeyOk (berthIn 2) 1 = true ∧
    leads (.upFrameRx (air 11 0x0101 101 true [])) (berthIn 2) (fun t => (berthOf t 1).up == 101 && (berthOf t 1).window == 3) = true ∧
    leads (.upFrameRx (air 11 0x0101 101 true [])) { berthIn 2 with pair := { State.reset.pair with role := 2 } } (fun t => t.mac.heardUp == [(1, 101)] && (berthOf t 1).up == 100) = true ∧
    upBody 1 (air 11 0x0101 101 false []) (berthIn 2) = none := by decide +kernel

/-- A map with UP units beyond the beacon run. -/
def mapped : State := modMacHead 0 (fun x => { x with map := { x.map with types := [1] ++ List.replicate 399 5 } }) serving

/-- The body of a JOIN_REQ of machine 9. -/
def joinBody (air obs : Nat) : List Byte := leBytes 8 9 ++ leBytes 1 air ++ leBytes 1 obs ++ [0, 0] ++ List.replicate 16 4

/-- JOIN_REQ to a closed station, of a locked-out machine, without a common version, a berth or a slot, and one that passes. -/
theorem test_join_requests : macReceives (air 8 0xFFFF 0 true (joinBody 8 8)) mapped = true ∧
    leads (.joinReqRx (air 8 0xFFFF 0 true (joinBody 8 8))) (modMac (fun m => { m with cfg := { m.cfg with flags := 0x3C } }) mapped) (fun t => (told 0xC802 t).map (fun x => u8 x.2 8) == some 1) = true ∧
    leads (.joinReqRx (air 8 0xFFFF 0 true (joinBody 8 8))) (modOwn (fun o => { o with lockouts := [(9, 0)] }) mapped) (fun t => (told 0xC802 t).map (fun x => u8 x.2 8) == some 6) = true ∧
    leads (.joinReqRx (air 8 0xFFFF 0 true (joinBody 8 8))) (modOwn (fun o => { o with joins := (List.range 16).map (fun i => ⟨20 + i, i, 0, [], [], 3, 3, 0, 0, 0, false, 0, 0, false⟩) }) mapped)
      (fun t => (told 0xC802 t).map (fun x => u8 x.2 8) == some 7) = true ∧
    leads (.joinReqRx (air 8 0xFFFF 0 true (joinBody 0 8))) mapped (fun t => (told 0xC802 t).map (fun x => u8 x.2 8) == some 3) = true ∧
    leads (.joinReqRx (air 8 0xFFFF 0 true (joinBody 8 8))) (modMac (fun m => { m with cfg := { m.cfg with flags := 0x3F } }) mapped) (fun t => (told 0xC802 t).map (fun x => u8 x.2 8) == some 2) = true ∧
    leads (.joinReqRx (air 8 0xFFFF 0 true (joinBody 8 8))) serving (fun t => (told 0xC802 t).map (fun x => u8 x.2 8) == some 5) = true ∧
    leads (.joinReqRx (air 8 0xFFFF 0 true (joinBody 8 8))) (modVault (fun v => { v with nodes := [] }) mapped) (fun t => (told 0xC802 t).map (fun x => u8 x.2 8) == some 4) = true ∧
    leads (.joinReqRx (air 8 0xFFFF 0 true (joinBody 8 4))) mapped (fun t => t.mac.joins.map (fun j => (j.machine, j.berth, j.air, j.obs)) == [(9, 0, 3, 2)]) = true := by
  decide +kernel

/-- A join of machine 9 whose CHALLENGE has gone on air. -/
def challenged : Join := ⟨9, 1, 0, List.replicate 16 4, List.replicate 16 5, 3, 3, 0, 0, 20, true, 0, 0, false⟩

/-- Its state. -/
def joining : State := modOwn (fun o => { o with joins := [challenged] }) mapped

/-- The response that the join must bring, and another; the third failure within 60 s; the lockout; the commit. -/
theorem test_join_completion : ((joinResponse joining challenged).map (fun w => w.length)) = some 16 ∧
    leads (.joinAuthRx (air 9 0xFFFF 0 true (leBytes 8 9 ++ (joinResponse joining challenged).getD []))) joining (fun t => t.mac.joins.map (fun j => j.verified) == [true] && t.pair.decisions.length == 1) = true ∧
    leads (.joinAuthRx (air 9 0xFFFF 0 true (leBytes 8 9 ++ zeros 16))) (modOwn (fun o => { o with fails := [(9, 0), (9, 0)] }) joining)
      (fun t => t.mac.joins.isEmpty && t.mac.lockouts == [(9, 0)]) = true ∧
    joinResponse (modVault (fun v => { v with nodes := [] }) joining) challenged = none ∧
    leads (.joinLockoutExpiry 9) (later 60000000000 (modOwn (fun o => { o with lockouts := [(9, 0)] }) joining)) (fun t => t.mac.lockouts.isEmpty) = true ∧
    leads (.joinLockoutExpiry 9) (later 59999999999 (modOwn (fun o => { o with lockouts := [(9, 0)] }) joining)) (fun t => t.mac.lockouts == [(9, 0)]) = true ∧
    (berthOf (commitJoin challenged joining) 1).state = 1 ∧ (berthOf (commitJoin challenged joining) 1).down = 1 ∧ (spotOf (commitJoin challenged joining) 1).left = 1 := by decide +kernel

/-- A TASK frame that awaits its acknowledgement. -/
def awaited (sends slots : Nat) : State := modBerth 1 (fun b => { b with awaiting := some ⟨5, 0, 77, [], 0, sends, true, [1], slots, false⟩ }) (berthIn 2)

/-- The timers of a berth, at their limit and one below it. -/
theorem test_berth_timers : leads (.deliveryResend 1) (awaited 4 2) (fun t => (berthOf t 1).awaiting.map (fun f => f.due) == some true) = true ∧
    leads (.deliveryResend 1) (awaited 5 2) (fun t => told 0xC804 t == some (20, [1, 5, 0, 0, 77, 0, 0, 0])) = true ∧
    leads (.deliveryResend 1) (awaited 5 1) (fun t => (berthOf t 1).awaiting.isSome) = true ∧ orbitNow serving = 4000 ∧
    leads (.joinTimeout 1) (modBerth 1 (fun b => { b with joinOrbit := 3980 }) (berthIn 1)) (fun t => (berthOf t 1).state == 0) = true ∧
    leads (.joinTimeout 1) (modBerth 1 (fun b => { b with joinOrbit := 3981 }) (berthIn 1)) (fun t => (berthOf t 1).state == 1) = true ∧
    leads (.adriftEntry 1) (modBerth 1 (fun b => { b with missed := 5 }) (berthIn 2)) (fun t => (told 0xC801 t).map (fun x => x.2.take 4) == some [1, 2, 3, 3]) = true ∧
    leads (.adriftEntry 1) (modBerth 1 (fun b => { b with missed := 4 }) (berthIn 2)) (fun t => (berthOf t 1).state == 2) = true ∧
    leads (.adriftLimit 1) (later 30000000000 (berthIn 3)) (fun t => (told 0xC801 t).map (fun x => x.2.take 4) == some [1, 3, 4, 4]) = true ∧
    leads (.adriftLimit 1) (later 29999999999 (berthIn 3)) (fun t => (berthOf t 1).state == 3) = true ∧
    leads (.holdTimeExpiry 1) (later 600000000000 { berthIn 4 with repl := { (berthIn 4).repl with armed := 2 ^ 14 } }) (fun t => (told 0xC801 t).map (fun x => x.2.take 4) == some [1, 4, 0, 8]) = true ∧
    leads (.holdTimeExpiry 1) (later 600000000000 (berthIn 4)) (fun t => (berthOf t 1).state == 4) = true := by decide +kernel

/-- Head 0 has channels 0 and 1. -/
def channels : State := modHead 0 (fun x => { x with chans := [⟨866500, 0xFFFF⟩, ⟨867000, 0xFFFF⟩] }) serving

/-- Channel selection at 20 % and above it, to a fixed channel, and its commit; a duty bucket. -/
theorem test_channels_buckets : nextChannel channels 0 0 0 15 = some 1 ∧ holds1 (.channelSelection 0 (List.replicate 7 0 ++ [41, 41, 41])) channels = true ∧
    holds1 (.channelSelection 0 (List.replicate 8 0 ++ [41, 41])) channels = false ∧ holds1 (.channelSelection 0 []) (modLocal 0 (fun l => { l with slots := [(10, 3)] }) channels) = true ∧
    holds1 (.channelSelection 0 []) (modLocal 0 (fun l => { l with slots := [(10, 2)] }) channels) = false ∧ holds1 (.channelSelection 0 []) (modMacHead 0 (fun x => { x with fixedIdx := some 1 }) channels) = true ∧
    (macHead (commitChannel 0 1 2 channels) 0).nextChan = some (1, 4006, 2) ∧ told 0xC705 (commitChannel 0 1 2 channels) = some (20, [0, 0, 1, 2] ++ leBytes 4 4006) ∧
    leads (.dutyBucketEnd 0) serving (fun t => t.repl.mac.meters[0]? == some (meterNow serving 0)) = true ∧ leads (.dutyBucketEnd 1) serving (fun t => t.repl.mac.meters == serving.repl.mac.meters) = true := by
  decide +kernel

/-! ### The transit arbiter and the conformance monitor -/

/-- A request of a fixture along 10 m from (0, n), from 1 s to 2 s. -/
def trAsk (n : Int) : List Byte := [0xFF, 0xFF, 2, 0] ++ leBytes 2 500 ++ [0, 0] ++ leBytes 8 1000 ++ leBytes 8 2000 ++ leBytes 4 7 ++ zeros 4
  ++ leInt 4 0 ++ leInt 4 n ++ leInt 4 10000 ++ leInt 4 n

/-- A held transit of berth 1 along 10 m from (0, 0), from 1 s to 2 s. -/
def held : Transit := ⟨0, 1, some 1, 9, 0, 1000, 2000, 5, 500, [⟨0, 0⟩, ⟨10000, 0⟩]⟩

/-- The arbiter holds it; berth 1 is SERVED with machine 9; ST is in ms. -/
def arbiter (ms : Nat) : State :=
  let s := modArb (fun a => { a with transits := [held] }) (modBerth 1 (fun b => { b with state := 2, machine := 9 }) (stops 0))
  { s with tb := { s.tb with st := ms * 1000000, tpDriven := true } }

/-- A request 1.5 m from the held transit is blocked by the clearance of 0.5 m; one 1 mm further is not. -/
theorem test_grants_are_clear : (askBlocker (askOf (trAsk 1499)) 64 (arbiter 0)).isSome = true ∧ (askBlocker (askOf (trAsk 1501)) 64 (arbiter 0)).isNone = true ∧
    askInvalid (askOf (trAsk 0)) (arbiter 0) = [] := by decide +kernel

/-- The queue, a STANDBY, a full queue, and decisions: refused, checked, granted. -/
theorem test_transit_requests : answers (.trRequest (host (trAsk 0))) { arbiter 0 with pair := { State.reset.pair with role := 2 } } 0x0A01 0x2004 [] = true ∧
    answers (.trRequest (host (trAsk 0))) { arbiter 0 with trown := { TrOwn.zero with queue := List.replicate 64 (0x0A03, host [], 0) } } 0x0A01 0x2003 [] = true ∧
    leads (.trRequest (host (trAsk 0))) (arbiter 0) (fun t => t.trown.queue.length == 1) = true ∧ leads (.trCheck (host (trAsk 0))) (arbiter 0) (fun t => t.trown.queue.length == 1) = true ∧
    leads (.arbiterDecision 300) (arbiter 0) (fun t => t.outs.isEmpty) = true ∧
    leads (.arbiterDecision 300) { arbiter 0 with trown := { TrOwn.zero with queue := [(0x0A01, host (trAsk 1499), 0)] } } (fun t => (replied t).map (fun x => (x.1, x.2.1)) == some (0x0A01, 0x8A01)) = true ∧
    leads (.arbiterDecision 300) { arbiter 0 with trown := { TrOwn.zero with queue := [(0x0A03, host (trAsk 1501), 0)] } } (fun t => (replied t).map (fun x => (x.1, x.2.1)) == some (0x0A03, 0)) = true ∧
    leads (.arbiterDecision 300) { arbiter 0 with trown := { TrOwn.zero with queue := [(0x0A01, host (trAsk 1501), 0)] } }
      (fun t => t.repl.tr.transits.length == 2 && t.pair.decisions.length == 1 && (told 0xCA03 t).map (fun x => u8 x.2 4) == some 0) = true := by decide +kernel

/-- TR_RELEASE of the held transit at a time. -/
def release (at_ : Nat) : List Byte := leBytes 4 (transitId held) ++ zeros 4 ++ leBytes 8 at_

/-- A release before the start, during it to its end and to 1.5 s, of no transit, and the removal a guard time after the end. -/
theorem test_transit_releases : answers (.trRelease (host (zeros 16))) (arbiter 0) 0x0A02 0x8A09 [] = true ∧
    answers (.trRelease (host (release 0))) { arbiter 0 with pair := { State.reset.pair with role := 2 } } 0x0A02 0x2004 [] = true ∧
    leads (.trRelease (host (release 0))) (arbiter 1000) (fun t => t.repl.tr.transits.isEmpty && (told 0xCA03 t).map (fun x => u8 x.2 4) == some 2) = true ∧
    leads (.trRelease (host (release 2000))) (arbiter 1001) (fun t => t.repl.tr.transits == [held] && t.pair.decisions.length == 1) = true ∧
    leads (.trRelease (host (release 1500))) (arbiter 1001) (fun t => t.repl.tr.transits == [{ held with stop := 1500 }] && (told 0xCA03 t).map (fun x => u8 x.2 4) == some 1) = true ∧
    leads (.transitRemoval (transitId held)) (arbiter 4000) (fun t => t.repl.tr.transits.isEmpty) = true ∧
    leads (.transitRemoval (transitId held)) (arbiter 3999) (fun t => t.repl.tr.transits == [held]) = true := by decide +kernel

/-- TR_ZONE_SET of a triangle at a distance north, with its window. -/
def zoneSet (n : Int) (start stop : Nat) : List Byte := [7, 3, 0, 0, 0, 0, 0, 0] ++ leBytes 8 start ++ leBytes 8 stop ++
  leInt 4 0 ++ leInt 4 n ++ leInt 4 1000 ++ leInt 4 n ++ leInt 4 0 ++ leInt 4 (n + 1000)

/-- TR_ZONE_SET of a chevron, which is not convex. -/
def chevron : List Byte := [7, 4, 0, 0, 0, 0, 0, 0] ++ leBytes 8 0 ++ leBytes 8 5000 ++ [(0, 0), (4000, 0), (1000, 1000), (0, 4000)].flatMap (fun p : Int × Int => leInt 4 p.1 ++ leInt 4 p.2)

/-- Zone 7 is held from 0 to 1 s. -/
def zoneHeld (ms : Nat) : State := modArb (fun a => { a with zones := [⟨7, 0, 1000, [⟨0, 50000⟩, ⟨1000, 50000⟩, ⟨0, 51000⟩], 0⟩] }) (arbiter ms)

/-- Zones: an empty window, a shape that is not convex, one that a transit blocks, one in force, its removal by command and by time. -/
theorem test_zones : answers (.trZoneSet (host (zoneSet 0 5 5))) (arbiter 0) 0x0A06 0x8A06 [] = true ∧ answers (.trZoneSet (host chevron)) (arbiter 0) 0x0A06 0x8A08 [] = true ∧
    convex (zoneAsk (host (zoneSet 0 0 5000))).poly = true ∧
    leads (.trZoneSet (host (zoneSet 0 0 5000))) (arbiter 0) (fun t => (replied t).map (fun x => x.2.1) == some 0x8A01) = true ∧
    leads (.trZoneSet (host (zoneSet 50000 0 5000))) (arbiter 0) (fun t => (zoneOf t 7).isSome && told 0xCA05 t == some (0, [7, 0, 0, 0])) = true ∧
    leads (.trZoneSet (host (zoneSet 50000 0 5000))) (zoneHeld 0) (fun t => (zoneOf t 7).map (fun z => z.stop) == some 5000 && told 0xCA05 t == some (0, [7, 1, 0, 0])) = true ∧
    answers (.trZoneRemove (host [7, 0, 0, 0])) (arbiter 0) 0x0A07 0x0102 [7, 0, 0, 0] = true ∧
    leads (.trZoneRemove (host [7, 0, 0, 0])) (zoneHeld 0) (fun t => (zoneOf t 7).isNone && told 0xCA05 t == some (0, [7, 2, 0, 0])) = true ∧
    leads (.zoneRemoval 7) (zoneHeld 3000) (fun t => (zoneOf t 7).isNone && told 0xCA05 t == some (29, [7, 3, 255, 0])) = true ∧
    leads (.zoneRemoval 7) (zoneHeld 2999) (fun t => (zoneOf t 7).isSome) = true := by decide +kernel

/-- Settings at the ends of their ranges, and the queries. -/
theorem test_arbiter_settings :
    holds1 (.trConfigSet (host (trConfigPayload ⟨10000, 60000, 5000, 50, 200, 10, 64, 86400, 10⟩))) (arbiter 0) = true ∧
    (commitTrConfig (host (trConfigPayload ⟨10000, 60000, 5000, 50, 200, 10, 64, 86400, 10⟩)) (arbiter 0)).repl.tr.cfg = ⟨10000, 60000, 5000, 50, 200, 10, 64, 86400, 10⟩ ∧
    holds1 (.trBerthSet (host ([1, 0, 0, 0, 255, 2] ++ leBytes 2 5000))) (arbiter 0) = true ∧ trBerthOf (commitTrBerth (host ([1, 0, 0, 0, 255, 2] ++ leBytes 2 5000)) (arbiter 0)) 255 = (2, 5000) ∧
    answers (.trGet (host (zeros 4))) (arbiter 0) 0x0A04 0x8A09 [] = true ∧ leads (.trGet (host (leBytes 4 (transitId held)))) (arbiter 0) (fun t => (replied t).map (fun x => (x.2.1, x.2.2.length)) == some (0, 56)) = true ∧
    answers (.trList (host [0xFE, 0xFF, 0, 0])) (arbiter 0) 0x0A05 0 ([1, 0, 0xFF, 0xFF] ++ leBytes 4 (transitId held)) = true ∧ answers (.trStatus (host [])) (arbiter 0) 0x0A0A 0 (trStatusBytes (arbiter 0)) = true := by
  decide +kernel

/-- Reactions 0x04 and 0x05 are armed; berth 1 was once outside its transit. -/
def watched (ms : Nat) : State :=
  let s := modConform 1 (fun c => { c with outCount := 1, watching := true }) (arbiter ms)
  { s with repl := { s.repl with armed := 0x30 }, tb := { s.tb with gtc := BitVec.ofNat 64 (ms * 1000000) } }

/-- A second fix 0.95 m and 1 mm off the line with an uncertainty of 150 mm departs, one at 0.95 m does not; the unknown timeout of 1.5 s and
1 ms less; a STANDBY; the start of watching a guard time before the transit. -/
theorem test_conformance : (watchers 1 1000 (watched 1000)) = [held] ∧ marginOf held 150 (watched 1000) = 950 ∧
    (conformOf (monitorFix ⟨1, 20, 20, 3, ⟨5000, 951⟩, 150⟩ (watched 1000)) 1).departed = true ∧ (spotOf (monitorFix ⟨1, 20, 20, 3, ⟨5000, 951⟩, 150⟩ (watched 1000)) 1).inForce = true ∧
    (conformOf (monitorFix ⟨1, 20, 20, 3, ⟨5000, 950⟩, 150⟩ (watched 1000)) 1).departed = false ∧
    unknownDue 1 true (watched 1501) = true ∧ unknownDue 1 true (watched 1500) = false ∧
    leads (.conformanceUnknownTimeout 1) (watched 1501) (fun t => (conformOf t 1).unknown && (spotOf t 1).cause == 3 && (told 0xCA02 t).isSome) = true ∧
    leads (.conformanceUnknownTimeout 1) (watched 1500) (fun t => !(conformOf t 1).unknown) = true ∧
    leads (.conformanceUnknownTimeout 1) { watched 1501 with pair := { State.reset.pair with role := 2 } } (fun t => (conformOf t 1).unknown && (told 0xCA02 t).isNone && !(spotOf t 1).inForce) = true ∧
    leads (.watchingStart (transitId held)) (arbiter 0) (fun t => (conformOf t 1).watching) = true ∧ leads (.watchingStart (transitId held)) (arbiter 4000) (fun t => !(conformOf t 1).watching) = true := by
  decide +kernel

/-! ### The comet log -/

/-- The tail holds record 0; master 0 has loaded it or is loading it. -/
def logged (loading freeze : Bool) : State := modClw 0 (fun c => { c with loading := loading, freeze := freeze, ready := !loading, advance := true, buffer := zeros 252 ++ [1, 2, 3, 4] })
  (modComet (fun c => { c with tail := [(0, List.replicate 256 7)], seq := 1 }) State.reset)

/-- A cursor, a load that finds its record and one that does not, the advance, a freeze and its end after 10 s. -/
theorem test_log_window : leads (.clwCursorWrite 0 (2 ^ 32 - 1)) (logged false false) (fun t => (clwOf t 0).cursor == 2 ^ 32 - 1 && (clwOf t 0).loading) = true ∧
    leads (.clwLoadComplete 0) (logged true false) (fun t => (clwOf t 0).ready && (clwOf t 0).buffer == List.replicate 256 7) = true ∧
    leads (.clwLoadComplete 0) (modClw 0 (fun c => { c with cursor := 1 }) (logged true false)) (fun t => (clwOf t 0).gone) = true ∧
    leads (.clwDataAdvance 0) (logged false false) (fun t => (clwOf t 0).cursor == 1 && t.outs == [.value 0x04030201]) = true ∧ tailFrozen (logged false false) = false ∧
    leads (.clwFreezeSet 0) (logged false false) (fun t => (clwOf t 0).freeze) = true ∧
    leads (.clwFreezeExpiry 0) (later 10000000000 (logged false true)) (fun t => told 0xCF01 t == some (33, [1, 0, 0, 0, 0, 0, 0, 0])) = true ∧
    leads (.clwFreezeExpiry 0) (later 9999999999 (logged false true)) (fun t => (clwOf t 0).freeze) = true := by decide +kernel

/-- A trigger waits. -/
def triggered (t : Nat) (s : State) : State := modComet (fun c => { c with waiting := [⟨t, 5, 0, zeros 32, none⟩] }) s

/-- A record of the tail, of the general area, of the pinned area once that is full, and a frozen tail. -/
theorem test_comet_recording : leads .cometRecord (triggered 0 State.reset) (fun t => t.comet.seq == 1 && (t.comet.tail.map (fun x => x.2.length)) == [256]) = true ∧
    leads .cometRecord (triggered 0 mission) (fun t => t.comet.general.length == 1 && t.pwr.flash == [⟨2, none⟩]) = true ∧ pinnedTrig 3 = true ∧ pinnedTrig 6 = true ∧ pinnedTrig 7 = false ∧
    leads .cometRecord (triggered 3 (modComet (fun c => { c with general := List.replicate 448 (zeros 256) }) mission)) (fun t => t.comet.pinned.length == 1 && t.comet.general.length == 448) = true ∧
    leads .cometRecord (triggered 0 (logged false true)) (fun t => t.comet.seq == 1 && t.comet.missed == 1) = true := by decide +kernel

/-- The flash writes of the log and the flush at PFAIL_N. -/
theorem test_comet_flash : leads .nucleusWriteComplete { State.reset with pwr := { State.reset.pwr with flash := [⟨2, none⟩] } } (fun t => t.pwr.flash.isEmpty) = true ∧
    leads .cometRecord State.reset (fun t => t.comet == State.reset.comet) = true ∧
    leads .pfailNFall State.reset (fun t => t.comet.flushing == some 0 && (t.comet.areas.map (fun a => a.records.length)) == [1, 0]) = true ∧
    leads .pfailNFall (modComet (fun c => { c with validArea := some 0 }) State.reset) (fun t => t.comet.flushing == some 1) = true ∧
    leads .flushComplete (modComet (fun c => { c with flushing := some 1 }) State.reset) (fun t => t.comet.areas.map (fun a => a.valid) == [false, true]) = true ∧
    leads .flushComplete State.reset (fun t => t.comet.areas.map (fun a => a.valid) == [false, false]) = true := by decide +kernel

/-- The commands of group 0x0F. -/
theorem test_comet_commands : answers (.clTriggerSet (host [63, 1, 1, 0, 0x0D])) State.reset 0x0F01 0x8F02 [] = true ∧ answers (.clTriggerSet (host [63, 1, 2, 0, 0x01, 0xFF])) State.reset 0x0F01 0 [] = true ∧
    answers (.clTriggerGet (host [63])) State.reset 0x0F02 0 (trigBytes State.reset 63) = true ∧
    leads (.clStatus (host [])) State.reset (fun t => (replied t).map (fun x => x.2.1) == some 0) = true ∧ answers (.clRead (host [0, 15, 0, 0, 1, 0, 0, 0])) (logged false false) 0x0F04 0x8F01 [] = true ∧
    answers (.clRead (host [0, 15, 0, 0, 0, 0, 0, 0])) (logged false false) 0x0F04 0 ([1, 0, 0, 0] ++ List.replicate 256 7) = true ∧
    answers (.clMark (host ([0, 0, 0, 0] ++ zeros 32))) State.reset 0x0F05 0 (leBytes 4 0) = true ∧ (trigSet State.reset 0).enabled = true ∧
    answers (.clMark (host ([60, 0, 0, 0] ++ zeros 32))) (modComet (fun c => { c with trigs := [(60, ⟨false, []⟩)] }) State.reset) 0x0F05 0 (leBytes 4 0xFFFFFFFF) = true ∧
    leads (.clAttest (host (zeros 16))) State.reset (fun t => (replied t).map (fun x => x.2.2.take 4) == some [0, 0, 0, 0]) = true := by decide +kernel

/-! ### The dispatcher and the pack ledger -/

/-- DP_TASK_ADD of a task at level 63 along 10 m, of a half width, READY or HELD. -/
def taskPayload (flags half : Nat) : List Byte := [63] ++ leBytes 1 flags ++ [1, 0, 15, 2] ++ leBytes 2 half ++ leBytes 4 0 ++ leBytes 4 1000 ++ leBytes 8 5000
  ++ leBytes 2 65534 ++ leBytes 2 1 ++ leBytes 4 7 ++ leInt 4 0 ++ leInt 4 0 ++ leInt 4 10000 ++ leInt 4 0 ++ [9]

/-- A task in slot 0 in a state, for berth 1 or none. -/
def taskIn (st : Nat) (b : Option Nat) : Task := { taskAdd (taskPayload 1 500) 0 1 5 0 with state := st, berth := b, transit := transitId held }

/-- The dispatcher holds it; ST is in ms. -/
def tasked (st : Nat) (b : Option Nat) (ms : Nat) : State := modDp (fun d => { d with tasks := [taskIn st b] }) (arbiter ms)

/-- Its ID. -/
def tid : List Byte := leBytes 4 (taskId (taskIn 1 none))

/-- A pack of 1 Wh in index 3, bound to berth 1 or to none. -/
def packed (b : Option Nat) : State := modDp (fun d => { d with packs := [⟨3, 77, 10, 5, 1000, false, false, none, b⟩] }) (arbiter 0)

/-- DP_PACK_SET of one entry. -/
def packPayload (idx action : Nat) : List Byte := [1, 0, 0, 0] ++ leBytes 2 idx ++ leBytes 1 action ++ [0] ++ leBytes 8 (2 ^ 64 - 2) ++ leBytes 2 65534 ++ [0, 0] ++ leBytes 4 1 ++ leBytes 4 1000000

/-- Group 0x0B: what waits for the commit, and what the state refuses. -/
theorem test_dispatcher_held : (taskPayload 1 50).length = 32 + 8 * 2 + 1 ∧ holds1 (.dpTaskAdd (host (taskPayload 1 50))) (arbiter 0) = true ∧ answers (.dpTaskAdd (host (taskPayload 1 49))) (arbiter 0) 0x0B01 0x4002 [] = true ∧
    answers (.dpTaskReady (host tid)) (arbiter 0) 0x0B02 0x8B02 [] = true ∧ answers (.dpTaskReady (host tid)) (tasked 2 none 0) 0x0B02 0x8B03 [] = true ∧ holds1 (.dpTaskReady (host tid)) (tasked 1 none 0) = true ∧
    answers (.dpTaskCancel (host tid)) (arbiter 0) 0x0B03 0x8B02 [] = true ∧ holds1 (.dpTaskCancel (host tid)) (tasked 4 (some 1) 0) = true ∧
    holds1 (.dpConfigSet (host [1, 50, 16, 0])) (arbiter 0) = true ∧ holds1 (.dpBerthSet (host [1, 0, 0, 0, 255, 3, 255, 255, 255, 255, 0, 0])) (arbiter 0) = true ∧
    answers (.dpPackSet (host (packPayload 1023 4))) (arbiter 0) 0x0B09 0x8B07 [] = true ∧ holds1 (.dpPackSet (host (packPayload 0xFFFF 0))) (arbiter 0) = true ∧
    answers (.dpPackSet (host (packPayload 3 2))) (packed (some 1)) 0x0B09 0x8B08 [] = true ∧
    answers (.dpPackBind (host [1, 0, 3, 0])) (arbiter 0) 0x0B0A 0x8B07 [] = true ∧ answers (.dpPackBind (host [2, 0, 3, 0])) (packed (some 1)) 0x0B0A 0x8B08 [] = true ∧
    holds1 (.dpPackBind (host [1, 0, 3, 0])) (packed (some 1)) = true ∧ holds1 (.dpPackBind (host [1, 0, 3, 0])) (packed none) = true := by decide +kernel

/-- 8192 tasks fill the store. -/
theorem test_task_store_full : answers (.dpTaskAdd (host (taskPayload 1 50))) (modDp (fun d => { d with tasks := List.replicate 8192 (taskIn 1 none) }) (arbiter 0)) 0x0B01 0x8B01 [] = true := by
  decide +kernel

/-- The commits of tasks: READY, HELD made READY, cancelled while it waits, while a machine has it. -/
theorem test_task_commits : (commitTaskAdd (host (taskPayload 1 50)) 9 (arbiter 0)).repl.dp.tasks.map (fun x => (x.state, x.ready)) = [(2, 9)] ∧
    (taskOf (commitTaskReady (host tid) 9 false (tasked 1 none 0)) (leNat tid)).map (fun x => (x.state, x.ready)) = some (2, 9) ∧
    replied (commitTaskReady (host tid) 9 true (tasked 1 none 0)) = some (0x0B02, 0x8B04, []) ∧
    (taskOf (commitCancel (host tid) (leNat tid) [] (tasked 1 none 0)) (leNat tid)).isNone = true ∧ (told 0xCB01 (commitCancel (host tid) (leNat tid) [] (tasked 1 none 0))).map (fun x => sub x.2 4 2) = some [1, 7] ∧
    (berthOf (commitCancel (host tid) (leNat tid) [] (tasked 4 (some 1) 0)) 1).queue.map (fun f => (f.ftype, f.kind)) = [(5, 1)] := by decide +kernel

/-- The commits of an assignment: ASSIGNED with its TASK frame, ACTIVE, COMPLETE and FAILED. -/
theorem test_assignment_commits : let id := leNat tid
    (transitOf (tasked 2 (some 1) 0) (transitId held)) = some held ∧ (taskOf (commitAssign id 1 (tasked 2 (some 1) 0)) id).map (fun x => x.state) = some 3 ∧
    (berthOf (commitAssign id 1 (tasked 2 (some 1) 0)) 1).queue.map (fun f => (f.ftype, f.kind)) = [(5, 0)] ∧ (taskOf (commitTaskActive id (tasked 3 (some 1) 0)) id).map (fun x => x.state) = some 4 ∧
    (dpCountOf (commitTaskEnd id 5 0 (tasked 4 (some 1) 0)) 1).completed = 1 ∧ (dpCountOf (commitTaskEnd id 6 0 (tasked 4 (some 1) 0)) 1).failed = 1 ∧
    (dpCountOf (commitTaskEnd id 7 0 (tasked 4 (some 1) 0)) 1).failed = 0 := by decide +kernel

/-- The dispatcher serves: SERVE, berth 1 idle and fit for the task. -/
def dispatching : State :=
  let s := modDpBerth 1 (fun d => { d with available := true, caps := 1, areas := 0x8000, idleSince := some 0 }) (tasked 2 none 3000)
  let s1 := modArb (fun a => { a with transits := [] }) (modDp (fun d => { d with tasks := [{ taskIn 2 none with energy := 0, transit := 0, berth := none }] }) s)
  { s1 with modes := ⟨2, 0, 0, 0⟩ }

/-- A pass grants the task to the idle berth; on a STANDBY none runs; a deadline of 5 s; the counters of a berth. -/
theorem test_selection_timers : eligible { taskIn 2 none with energy := 0 } 1 dispatching = true ∧ (selectionPass { dispatching with pair := { State.reset.pair with role := 2 } }).repl.dp.tried = [] ∧
    ((passTask 1 none ⟨dispatching, 4, false, false⟩ { taskIn 2 none with energy := 0 })).granted = true ∧ (selectionPass dispatching).pair.decisions.length = 1 ∧
    leads (.taskDeadline (leNat tid)) (tasked 2 none 5001) (fun t => t.pair.decisions.length == 1) = true ∧ leads (.taskDeadline (leNat tid)) (tasked 2 none 5000) (fun t => t.pair.decisions.isEmpty) = true ∧
    leads .dpCountersUpdate (tasked 4 (some 1) 0) (fun t => (dpCountOf t 1).busy.length == 1) = true := by decide +kernel

/-- The commits of the dispatcher's settings and of the ledger. -/
theorem test_dispatcher_commits : (commitDpConfig (host [1, 50, 16, 0]) (arbiter 0)).repl.dp.perPass = 16 ∧
    (dpBerthOf (commitDpBerth (host [1, 0, 0, 0, 255, 3, 255, 255, 255, 255, 0, 0]) (arbiter 0)) 255).autoBind = true ∧ (commitPackSet (host (packPayload 0xFFFF 0)) (packed none)).repl.dp.packs.map (fun k => k.index) = [3, 0] ∧
    (commitPackSet (host (packPayload 0xFFFF 0)) (packed none)).pwr.flash = [⟨3, none⟩] ∧ replied (commitPackSet (host (packPayload 1023 4)) (packed none)) = some (0x0B09, 0x8B07, []) ∧
    (packOf (commitPackBind (host [1, 0, 3, 0]) (packed none)) 3).map (fun k => k.berth) = some (some 1) ∧ (told 0xCB03 (commitPackBind (host [1, 0, 3, 0]) (packed none))).map (fun x => x.2.take 4) = some [3, 0, 2, 1] ∧
    (packOf (commitPackBind (host [1, 0, 255, 255]) (packed (some 1))) 3).map (fun k => k.berth) = some none ∧
    (told 0xCB03 (commitPackBind (host [1, 0, 255, 255]) (packed (some 1)))).map (fun x => x.2.take 4) = some [3, 0, 3, 1] := by decide +kernel

/-- The queries of group 0x0B. -/
theorem test_dispatcher_queries : answers (.dpTaskGet (host tid)) (arbiter 0) 0x0B04 0x8B02 [] = true ∧ leads (.dpTaskGet (host tid)) (tasked 2 none 0) (fun t => (replied t).map (fun x => x.2.2.take 5) == some (tid ++ [2])) = true ∧
    leads (.dpBerthGet (host [1, 0, 0, 0])) (tasked 2 none 0) (fun t => (replied t).map (fun x => x.2.2.take 2) == some [1, 0]) = true ∧ leads (.dpLevelGet (host [])) (arbiter 0) (fun t => (replied t).map (fun x => x.2.2.length) == some 1024) = true ∧
    answers (.dpPackGet (host [192, 3, 64, 0])) (arbiter 0) 0x0B0B 0 ((List.range 64).flatMap (fun j => packBytes (960 + j) (arbiter 0))) = true ∧ answers (.dpStatus (host [])) (arbiter 0) 0x0B0C 0 (dpStatusBytes (arbiter 0)) = true := by decide +kernel

/-! ### The pair -/

/-- A member of a pair in a role with the link UP and a qualified partner, in MISSION, with 0x0D armed. -/
def paired (role : Nat) : State :=
  let s := { mission with
    outs := []
    vault := { mission.vault with devId := 33 }
    pair := { mission.pair with role := role, mode := 1, link := 2, lanes := [true, true], helloed := true, nonce := some (List.replicate 16 3), peerNonce := some (List.replicate 16 4), partner := some ⟨44, (ownProto mission).1, 0, 3 - role, true, true, 0⟩ }
    repl := { mission.repl with armed := 0x2802, ecl := { mission.repl.ecl with state := 0 } } }
  { s with modes := modesOf s, pins := pinsOf s, tb := { s.tb with tpDriven := tpDrivenOf s } }

/-- A link message under a key. -/
def sealed (key : Option (List Byte)) (ty flags cycle seq : Nat) (p : List Byte) : LinkMsg :=
  let m : LinkMsg := ⟨ty, flags, cycle, seq, 0, p, 0, []⟩
  let n := { m with crc := crc32c (linkBody m) }
  { n with tag := linkTag (key.getD []) n }

/-- A link message under the key of a state. -/
def mail (s : State) (ty cycle seq : Nat) (p : List Byte) : LinkMsg := sealed (linkKeyNow s) ty 0 cycle seq p

/-- The same without a tag. -/
def spoiled (m : LinkMsg) : LinkMsg := { m with tag := [] }

/-- A row of a link message ends in a next state of which `f` holds; its message is under the key of the state. -/
def brings (c : LinkMsg → Instr) (ty flags cycle seq : Nat) (p : List Byte) (s : State) (f : State → Bool) : Bool :=
  leads (c (sealed (linkKeyNow s) ty flags cycle seq p)) s f

/-- A message under the key of the state: its frame and its tag are right (R476, R478). -/
theorem sealed_verdict (ty flags cycle seq : Nat) (p : List Byte) (s : State)
    (h : (domOn s 12 && s.pair.link != 0 && (linkKeyNow s).isSome && p.length ≤ 8192) = true) :
    linkVerdict ty (sealed (linkKeyNow s) ty flags cycle seq p) s =
      if linkUp s = false ∨ s.pair.helloed = false then 1 else if s.pair.seqSeen.contains seq then 0 else 2 := by
  simp only [Bool.and_eq_true, bne_iff_ne, decide_eq_true_eq, ne_eq] at h
  obtain ⟨⟨⟨h1, h2⟩, h3⟩, h4⟩ := h
  obtain ⟨k, hk⟩ := Option.isSome_iff_exists.mp h3
  simp [linkVerdict, linkFramed, linkTagOk, sealed, h1, h2, h4, hk, linkTag, linkBody]

/-- What lets a link message of a sequence through, beside its frame and its tag. -/
def through (seq : Nat) (p : List Byte) (s : State) : Bool :=
  (domOn s 12 && s.pair.link != 0 && (linkKeyNow s).isSome && p.length ≤ 8192) && (linkUp s && s.pair.helloed && !s.pair.seqSeen.contains seq)

/-- A message under the key of the state passes. -/
theorem sealed_passes (ty flags cycle seq : Nat) (p : List Byte) (s : State) (h : through seq p s = true) :
    linkVerdict ty (sealed (linkKeyNow s) ty flags cycle seq p) s = 2 := by
  rw [through, Bool.and_eq_true] at h
  obtain ⟨ha, hb⟩ := h
  rw [sealed_verdict ty flags cycle seq p s ha]
  simp only [Bool.and_eq_true, Bool.not_eq_true'] at hb
  rw [if_neg (by simp [hb.1.1, hb.1.2]), if_neg (by simp only [hb.2]; decide)]

/-- What a message does is what its row does with it after it has been seen. -/
theorem brings_of (c : LinkMsg → Instr) (ty flags cycle seq : Nat) (p : List Byte) (s : State) (f : State → Bool) (g : LinkMsg → State → State)
    (h : ∀ m, exec (c m) s = done (onLink ty m (g m) s)) 
    (hd : (through seq p s && f (settle (g (sealed (linkKeyNow s) ty flags cycle seq p)
      (linkSeen (sealed (linkKeyNow s) ty flags cycle seq p) s)))) = true) :
    brings c ty flags cycle seq p s f = true := by
  rw [Bool.and_eq_true] at hd
  simp only [brings, leads, h, onLink, sealed_passes ty flags cycle seq p s hd.1]
  exact hd.2

/-- The same for a row that looks at the message otherwise. -/
theorem brings_row (c : LinkMsg → Instr) (ty flags cycle seq : Nat) (p : List Byte) (s : State) (f : State → Bool) (r : LinkMsg → Result)
    (h : ∀ m, linkVerdict ty m s = 2 → exec (c m) s = r m) 
    (hd : (through seq p s && (match r (sealed (linkKeyNow s) ty flags cycle seq p) with | .next t => f t | _ => false)) = true) :
    brings c ty flags cycle seq p s f = true := by
  rw [Bool.and_eq_true] at hd
  simp only [brings, leads, h _ (sealed_passes ty flags cycle seq p s hd.1)]
  exact hd.2

/-- LINK_HELLO under the key of the partner's nonce alone. -/
def greet (s : State) (p : List Byte) : LinkMsg := sealed (linkKey s (zeros 16 ++ (helloOf p).2)) 1 0 0 5 p

/-- What such a LINK_HELLO does. -/
theorem greet_of (p : List Byte) (s : State) (f : State → Bool)
    (hd : (domOn s 12 && s.pair.link != 0 && (linkKey s (zeros 16 ++ (helloOf p).2)).isSome && p.length ≤ 8192) = true)
    (hf : f (settle (if (helloOf p).1.major ≠ (ownProto s).1 then
        setLinkState 3 3 (modPair (fun x => { x with helloed := false, partner := some (helloOf p).1 }) s)
      else helloPassed (greet s p) (useKey (((pairNode s).map (fun n => n.handle)).getD 0) s))) = true) :
    leads (.linkHelloRx (greet s p)) s f = true := by
  simp only [Bool.and_eq_true, bne_iff_ne, decide_eq_true_eq, ne_eq] at hd
  obtain ⟨⟨⟨h1, h2⟩, h3⟩, h4⟩ := hd
  obtain ⟨k, hk⟩ := Option.isSome_iff_exists.mp h3
  have ht : helloTagOk (greet s p) s = true := by
    have h5 : linkTagOk (linkKey s (zeros 16 ++ (helloOf p).2)) (greet s p) = true := by
      simp [linkTagOk, greet, sealed, hk, linkTag, linkBody]
    simp only [helloTagOk]
    rw [show (greet s p).payload = p from rfl, h5, Bool.or_true]
  have hfr : linkFramed 1 (greet s p) = true := by simp [linkFramed, greet, sealed, h4, linkBody]
  simp only [leads, exec, execLinkHelloRx, done, h1, h2, hfr, ht, show (greet s p).payload = p from rfl]
  simpa using hf

/-- A state of the pair with a change. -/
def modP (f : Pair → Pair) (s : State) : State := { s with pair := f s.pair }

/-- A DELTA without PD_PAIR, with the link down, with a wrong CRC, as another type, without a tag. -/
theorem test_link_messages : let m := mail (paired 2) 3 1 5 []
    linkVerdict 3 m { paired 2 with pwr := { State.reset.pwr with powered := 0x2FFF } } = 0 ∧
    linkVerdict 3 m (modP (fun p => { p with link := 0 }) (paired 2)) = 0 ∧ linkVerdict 3 { m with crc := 1 } (paired 2) = 0 ∧
    linkVerdict 4 m (paired 2) = 0 ∧ linkVerdict 3 (spoiled m) (paired 2) = 1 ∧
    leads (.pairDeltaRx (spoiled m) 9 (paired 2).repl) (paired 2) (fun t => t.pair.tagDrops == 1) = true := by decide +kernel

/-- A DELTA that is acted on, its second copy, and one before HELLO. -/
theorem test_link_copies : let v (s : State) : Nat := linkVerdict 3 (mail s 3 1 5 []) s
    v (paired 2) = 2 ∧ v (modP (fun p => { p with seqSeen := [5] }) (paired 2)) = 0 ∧ v (modP (fun p => { p with helloed := false }) (paired 2)) = 1 :=
  ⟨(sealed_verdict 3 0 1 5 [] _ (by decide +kernel)).trans (by decide +kernel), (sealed_verdict 3 0 1 5 [] _ (by decide +kernel)).trans (by decide +kernel),
    (sealed_verdict 3 0 1 5 [] _ (by decide +kernel)).trans (by decide +kernel)⟩

/-- PAIR_CONFIG_SET. -/
def pairSet (mode t ack : Nat) : List Byte := leBytes 1 mode ++ [1] ++ leBytes 2 t ++ leBytes 2 ack ++ leBytes 2 600 ++ leBytes 4 1000000

/-- A SOLO device in MISSION. -/
def solo : State := { mission with outs := [] }

/-- The commands of group 0x0C in the roles and states that Table 13-10 tells apart. -/
theorem test_pair_commands : answers (.pairGet (host [])) (paired 2) 0x0C02 0 (pairGetBytes (paired 2)) = true ∧
    answers (.pairSwitchover (host [])) (paired 2) 0x0C03 0x2004 [] = true ∧ answers (.pairSwitchover (host [])) (modP (fun p => { p with link := 0 }) (paired 1)) 0x0C03 0x8C01 [] = true ∧
    answers (.pairSwitchover (host [])) (modP (fun p => { p with partner := none }) (paired 1)) 0x0C03 0x8C02 [] = true ∧
    answers (.pairSwitchover (host [])) (modP (fun p => { p with switchover := some (80, host []) }) (paired 1)) 0x0C03 0x2003 [] = true ∧
    leads (.pairSwitchover (host [])) (paired 1) (fun t => (t.pair.switchover.map (fun x => x.1)) == some 80) = true ∧
    answers (.pairResync (host [])) solo 0x0C04 0x2004 [] = true ∧ answers (.pairResync (host [])) (modP (fun p => { p with link := 0 }) (paired 1)) 0x0C04 0x8C01 [] = true ∧
    answers (.pairResync (host [])) (paired 1) 0x0C04 0 (zeros 4) = true ∧ leads (.pairResync (host [])) (modP (fun p => { p with qualified := true }) (paired 2)) (fun t => t.pair.fullRunning && !t.pair.qualified) = true ∧
    answers (.pairConfigSet (host (pairSet 1 20 25))) State.reset 0x0C01 0x2001 [] = true ∧ leaseShort 3 400 200 = true ∧ leaseShort 3 400 20 = false ∧
    answers (.pairConfigSet (host (pairSet 1 200 250))) solo 0x0C01 0x8C03 [] = true ∧
    answers (.pairConfigSet (host (pairSet 1 20 25))) (modP (fun p => { p with role := 0, mode := 0 }) { paired 2 with modes := ⟨2, 0, 0, 0⟩ }) 0x0C01 0x8C04 [] = true ∧
    leads (.pairConfigSet (host (pairSet 1 20 25))) solo (fun t => t.pair.role == 2 && bit t.repl.armed 13 && told 0xCC02 t == some (4, [0, 2, 0, 0] ++ leBytes 8 (partnerId solo))) = true ∧
    leads (.pairConfigSet (host (pairSet 0 20 25))) solo (fun t => t.repl.cycleT == 20 && t.pair.joinWait == 600) = true ∧
    leads (.pairConfigSet (host (pairSet 0 40 20))) (paired 1) (fun t => t.pair.role == 0 && !bit t.repl.armed 13) = true := by decide +kernel

/-- The end of a commit cycle in SOLO without a decision, with one of its own GTC and of an earlier one; on an ACTIVE member. -/
theorem test_cycle_ends : let d (g : Gtc) : State := later 9 (modP (fun p => { p with decisions := [⟨g, 0, .command 0x0B05 (host [1, 50, 16, 0])⟩] }) State.reset)
    unitNow State.reset % State.reset.repl.mac.cfg.l % State.reset.repl.cycleT = 0 ∧
    leads .commitCycleEnd State.reset (fun t => t.pair.cycle == 1 && t.pair.lastCycleEnd == some 0) = true ∧
    leads .commitCycleEnd (d 9) (fun t => t.pair.decisions.length == 1 && t.repl.dp.perPass == 4) = true ∧
    leads .commitCycleEnd (d 8) (fun t => t.pair.decisions.isEmpty && t.repl.dp.perPass == 16 && (replied t).isSome) = true ∧
    leads .commitCycleEnd (paired 1) (fun t => t.pair.ackWait.isSome && t.outs.contains (.lease 2) && t.pair.proposed.isSome) = true := by decide +kernel

/-- An ACTIVE member that awaits the ACK of cycle 7. -/
def awaiting : State := modP (fun p => { p with cycle := 8, ackWait := some (7, 0, 0), proposed := some (paired 1).repl }) (paired 1)

/-- The ACK at the limit of 2 ms and 1 ns later, of another cycle; the limit; the lease of three cycles of 10 ms. -/
theorem test_cycle_acks : brings .pairAckRx 4 0 0 5 (leBytes 4 7) (later 2000000 awaiting) (fun t => t.pair.lastCommitted == 7 && t.pair.cyclesOk == 1) = true ∧
    brings .pairAckRx 4 0 0 5 (leBytes 4 7) (later 2000001 awaiting) (fun t => t.pair.lastCommitted == 0 && t.pair.seqSeen == [5]) = true ∧
    brings .pairAckRx 4 0 0 5 (leBytes 4 6) (later 2000000 awaiting) (fun t => t.pair.lastCommitted == 0) = true ∧
    leads .pairAckLimit (later 2000001 awaiting) (fun t => t.pair.cyclesMissed == 1) = true ∧ leads .pairAckLimit (later 2000000 awaiting) (fun t => t.pair.cyclesMissed == 0) = true ∧
    leads .pairAloneTimeout (later 30000000 awaiting) (fun t => t.pair.alone && (told 0xCC04 t).isSome) = true ∧ leads .pairAloneTimeout (later 29999999 awaiting) (fun t => !t.pair.alone) = true :=
  ⟨brings_of _ _ _ _ _ _ _ _ _ (fun _ => rfl) (by decide +kernel),
    brings_of _ _ _ _ _ _ _ _ _ (fun _ => rfl) (by decide +kernel),
    brings_of _ _ _ _ _ _ _ _ _ (fun _ => rfl) (by decide +kernel),
    by decide +kernel,
    by decide +kernel,
    by decide +kernel,
    by decide +kernel⟩

/-- A STANDBY with a full copy that expects cycle 7. -/
def follower : State := modP (fun p => { p with fullDone := true, deltaNext := some 7, lastCommitted := 6, committed := some (paired 2).repl, qualified := true, digestSeen := true }) (paired 2)

/-- A replicated state with another arming table. -/
def content : Repl := { (paired 2).repl with armed := 0x2806 }

/-- The delta expected, an older one, one after a gap; parts of a full copy. -/
theorem test_standby_content : brings (fun m => .pairDeltaRx m 524288 content) 3 0 7 5 [] follower (fun t => t.repl.armed == 0x2806 && t.pair.deltaNext == some 8 && t.outs.contains (.lease 6)) = true ∧
    brings (fun m => .pairDeltaRx m 9 content) 3 0 6 5 [] follower (fun t => t.repl.armed == 0x2802 && t.pair.deltaNext == some 7 && t.outs.contains (.lease 6)) = true ∧
    brings (fun m => .pairDeltaRx m 9 content) 3 0 8 5 [] follower (fun t => !t.pair.qualified && t.pair.fullRunning) = true ∧
    brings (fun m => .pairFullRx m content) 10 0 9 5 [] follower (fun t => t.pair.fullDone && t.pair.deltaNext == none && t.repl.armed == 0x2806) = true ∧
    brings (fun m => .pairFullRx m content) 10 2 9 5 [] follower (fun t => !t.pair.fullDone && t.pair.fullRunning && t.repl.armed == 0x2802) = true :=
  ⟨brings_of _ _ _ _ _ _ _ _ _ (fun _ => rfl) (by decide +kernel),
    brings_of _ _ _ _ _ _ _ _ _ (fun _ => rfl) (by decide +kernel),
    brings_of _ _ _ _ _ _ _ _ _ (fun _ => rfl) (by decide +kernel),
    brings_of _ _ _ _ _ _ _ _ _ (fun _ => rfl) (by decide +kernel),
    brings_of _ _ _ _ _ _ _ _ _ (fun _ => rfl) (by decide +kernel)⟩

/-- Deltas that stop for three cycles while pulses go on; RENEW; summaries beyond the vertical limit and without a shadow. -/
theorem test_standby_checks : leads .pairDeltaTimeout (later 30000000 (modP (fun p => { p with lastPin := some 20000000 }) follower)) (fun t => !t.pair.qualified && (told 0xCC03 t).isSome) = true ∧
    leads .pairDeltaTimeout (later 29999999 (modP (fun p => { p with lastPin := some 20000000 }) follower)) (fun t => t.pair.qualified) = true ∧
    brings .pairRenewRx 2 0 7 5 (leBytes 8 1 ++ leBytes 8 200 ++ leBytes 8 9) (later 4 follower) (fun t => t.pair.lastRenew == 4 && t.pair.stDiff == 9 && airTime t == 200) = true ∧
    brings .pairFixsumRx 6 0 7 5 ([⟨1, 2, 3, 0, 0, 61⟩].flatMap fixSumBytes) (modBl (fun l => { l with shadow := [⟨1, 2, 3, 0, 0, 0⟩] }) follower) (fun t => t.bl.cShadow == 1) = true ∧
    brings .pairFixsumRx 6 0 7 5 ([⟨1, 2, 3, 0, 0, 60⟩].flatMap fixSumBytes) (modBl (fun l => { l with shadow := [⟨1, 2, 3, 0, 0, 0⟩] }) follower) (fun t => t.bl.cShadow == 0) = true ∧
    brings .pairFixsumRx 6 0 7 5 ([⟨1, 2, 3, 0, 0, 61⟩].flatMap fixSumBytes) (modBl (fun l => { l with shadowOn := false, shadow := [⟨1, 2, 3, 0, 0, 0⟩] }) follower) (fun t => t.bl.cShadow == 0) = true :=
  ⟨by decide +kernel,
    by decide +kernel,
    brings_of _ _ _ _ _ _ _ _ _ (fun _ => rfl) (by decide +kernel),
    brings_of _ _ _ _ _ _ _ _ _ (fun _ => rfl) (by decide +kernel),
    brings_of _ _ _ _ _ _ _ _ _ (fun _ => rfl) (by decide +kernel),
    brings_of _ _ _ _ _ _ _ _ _ (fun _ => rfl) (by decide +kernel)⟩

/-- A digest of the state is 32 bytes. -/
theorem digest_length (c : Repl) : (stateDigest c).length = 32 := sha256_length _

/-- What meets the rules of a DIGEST: an equal one, and one that cannot be (the entry codes are free, log entry 10). -/
theorem witness_digest : let s := modP (fun p => { p with qualified := false, digestSeen := false }) follower
    let m := mail s 5 6 5 []
    linkVerdict 5 m s = 2 ∧ s.pair.committed = some (paired 2).repl ∧ s.pair.fullDone = true ∧ s.pair.deltaNext = some 7 ∧ m.cycle = s.pair.lastCommitted ∧
    s.pair.digestSeen = false ∧ s.pair.qualified = false ∧ stateDigest (paired 2).repl ≠ m.payload :=
  ⟨sealed_passes 5 0 6 5 [] _ (by decide +kernel), rfl, by decide +kernel, by decide +kernel, rfl, by decide +kernel, by decide +kernel, fun h => by
    have := congrArg List.length h
    rw [digest_length] at this
    exact absurd this (by decide)⟩

/-- Takeover after four cycles without a renewal and 1 ns less, with air evidence, and without the arming. -/
theorem test_takeover : leads .pairTakeoverDetect (later 40000000 follower) (fun t => t.pair.role == 1 && t.pair.gap && t.repl.mac.bcounter == 1 + 2 ^ 20 && (told 0xCC05 t).isSome) = true ∧
    leads .pairTakeoverDetect (later 39999999 follower) (fun t => t.pair.role == 2) = true ∧ airEvidenceHolds (later 40000000 follower) = false ∧
    airEvidenceHolds (later 40000000 (modP (fun p => { p with airHeard := 40000000, heardCounter := 1, airHead := 0 }) follower)) = true ∧
    leads .pairTakeoverDetect (later 40000000 (modP (fun p => { p with airHeard := 40000000, heardCounter := 1, airHead := 0 }) follower)) (fun t => t.pair.role == 2) = true ∧
    leads .pairTakeoverDetect { later 40000000 follower with repl := { follower.repl with armed := 2 } } (fun t => t.pair.role == 2) = true ∧ (paired 2).tb.tpDriven = false := by decide +kernel

/-- LINK_HELLO of an ACTIVE partner with a major. -/
def greeting (major : Nat) : List Byte := leBytes 1 major ++ [0] ++ leBytes 8 44 ++ [1, 1, 1, 0] ++ zeros 4 ++ List.replicate 16 4

/-- A member that has had no LINK_HELLO. -/
def unmet : State := modP (fun p => { p with role := 0, helloed := false, partner := none }) (paired 2)

/-- Lanes, LINK_HELLO, the wait for a partner, LEAVE, HANDOVER, and pulses. -/
theorem test_link_and_roles : leads (.pairLaneChange 1 false) (paired 1) (fun t => t.pair.link == 1 && told 0xCC01 t == some (4, [2, 1, 1, 1])) = true ∧ leads (.pairLaneChange 1 true) (paired 1) (fun t => t.outs.isEmpty) = true ∧
    leads (.linkHelloRx (spoiled (greet unmet (greeting 9)))) unmet (fun t => t.pair.link == 4) = true ∧
    leads (.linkHelloRx (greet unmet (greeting ((ownProto unmet).1 + 1)))) unmet (fun t => t.pair.link == 3) = true ∧
    leads (.linkHelloRx (greet unmet (greeting (ownProto unmet).1))) unmet (fun t => t.pair.helloed && t.pair.role == 2) = true ∧
    leads .pairJoinWait (later 5000000000 (paired 2)) (fun t => t.pair.role == 1) = true ∧ leads .pairJoinWait (later 4999999999 (paired 2)) (fun t => t.pair.role == 2) = true ∧
    brings .pairLeaveRx 11 0 0 5 [] follower (fun t => !t.pair.qualified && told 0xCC01 t == some (4, [2, 2, 3, 5])) = true ∧
    brings .pairHandoverRx 12 0 7 5 [] follower (fun t => t.pair.role == 2 && t.pair.handover == some 7) = true ∧
    brings .pairHandoverRx 12 0 6 5 [] follower (fun t => t.pair.role == 1 && t.pair.quietUntil == some 1000000) = true ∧
    leads (.pairLeasePulseRx 4) (paired 1) (fun t => t.outs.isEmpty) = true ∧ leads (.pairLeasePulseRx 9) (paired 1) (fun t => t.outs.isEmpty) = true ∧
    leads (.pairLeasePulseRx 3) (paired 1) (fun t => told 0xCC07 t == some (4, [3, 255, 0, 0, 0, 0, 0, 0])) = true :=
  ⟨by decide +kernel,
    by decide +kernel,
    by decide +kernel,
    greet_of _ _ _ (by decide +kernel) (by decide +kernel),
    greet_of _ _ _ (by decide +kernel) (by decide +kernel),
    by decide +kernel,
    by decide +kernel,
    brings_of _ _ _ _ _ _ _ _ _ (fun _ => rfl) (by decide +kernel),
    brings_of _ _ _ _ _ _ _ _ _ (fun _ => rfl) (by decide +kernel),
    brings_of _ _ _ _ _ _ _ _ _ (fun _ => rfl) (by decide +kernel),
    by decide +kernel,
    by decide +kernel,
    by decide +kernel⟩

/-- ECLIPSE with a state, of sequence 4 and cause 5. -/
def eclMsg (st : Nat) : List Byte := leBytes 1 st ++ [4, 0, 5] ++ zeros 32

/-- What an ECLIPSE message does that passes. -/
theorem eclipse_row {s : State} (m : LinkMsg) (h : linkVerdict 7 m s = 2) : exec (.pairEclipseMsgRx m) s =
    (fun m : LinkMsg => done (if s.pair.role ≠ 2 then linkSeen m s else holdStep (viewsChanged (eclShown s)
      (let s2 := modEcl (fun x => { x with spots := mergeSpots x.spots (spotsOf x.spots m.payload) })
        (modPair (fun p => { p with viewPrio := eclipseOf m.payload }) (linkSeen m s))
      if (eclipseOf m.payload).state = 0 ∧ s2.pair.halfTrip ≤ sinceNs s2 s2.pair.pinSince then modPair (fun p => { p with viewPin := false }) s2
      else s2)))) m := by
  simp only [exec, execPairEclipseMsgRx, h]
  rfl

/-- What a TRIGGER message does that passes. -/
theorem trigger_row {s : State} (m : LinkMsg) (h : linkVerdict 8 m s = 2) : exec (.pairTriggerMsgRx m) s =
    (fun m : LinkMsg => done (partnerTriggerActs (u8 m.payload 0) (u8 m.payload 1 == 1) (linkSeen m s))) m := by
  simp only [exec, execPairTriggerMsgRx, h]

/-- What a packet over the link does that passes. -/
theorem efbex_row {s : State} (m : LinkMsg) (h : linkVerdict 9 m s = 2) : exec (.pairEfbexRx m) s =
    (fun m : LinkMsg => if portUp 4 (linkSeen m s) = false then done (linkSeen m s)
      else if framed 4 m.payload = false then done (framingError 4 (linkSeen m s))
      else if bit (packetFields m.payload).flags 0 = true ∧ (packetFields m.payload).session = 0 then
        done (forwardReply (packetFields m.payload) (linkSeen m s))
      else if (packetFields m.payload).session = 0 ∧ (packetFields m.payload).opcode = 0x0903 then
        execSpotStop (reqOf 4 .transport noAddr true 0 (packetFields m.payload)) (linkSeen m s)
      else receive 4 .transport noAddr m.payload (linkSeen m s)) m := by
  simp only [exec, execPairEfbexRx, h]

/-- Eclipse across the pair: messages with and without a valid tag, triggers, the pin in each role, the held stop level, packets. -/
theorem test_pair_eclipse : brings .pairEclipseMsgRx 7 0 0 5 (eclMsg 1) (paired 2) (fun t => eclShown t == 1) = true ∧
    leads (.pairEclipseMsgRx (spoiled (mail (paired 2) 7 0 5 (eclMsg 1)))) (paired 2) (fun t => eclShown t == 1 && t.pair.tagDrops == 1) = true ∧
    leads (.pairEclipseMsgRx (spoiled (mail (paired 2) 7 0 5 (eclMsg 0)))) (modP (fun p => { p with viewPrio := ⟨1, 3, 5, []⟩ }) (paired 2)) (fun t => eclShown t == 1) = true ∧
    brings .pairTriggerMsgRx 8 0 0 5 [6, 1] (paired 1) (fun t => t.repl.ecl.state == 1 && t.repl.ecl.cause == 6) = true ∧
    leads (.pairEclInChange true) (paired 2) (fun t => eclShown t == 1) = true ∧
    leads (.pairEclInChange true) { paired 1 with repl := { (paired 1).repl with armed := 8 } } (fun t => t.repl.ecl.state == 1 && t.repl.ecl.cause == 7) = true ∧
    leads (.pairEclInChange true) (modP (fun p => { p with role := 0 }) (paired 2)) (fun t => t.pair.pinIn) = true ∧
    leads .standbyStopLevelHoldEnd (later 1000000000 (modP (fun p => { p with hold := some (0, 3) }) (paired 2))) (fun t => t.pair.hold.isNone) = true ∧
    leads .standbyStopLevelHoldEnd (later 999999999 (modP (fun p => { p with hold := some (0, 3) }) (paired 2))) (fun t => t.pair.hold.isSome) = true ∧
    brings .pairEfbexRx 9 0 0 5 [0xEF] (paired 1) (fun t => (violOf t 4).framing == 1) = true ∧ portUp 4 (paired 1) = true ∧
    brings .pairEfbexRx 9 0 0 5 (packet 0x23 0x0103 7 0 1 9 []) (paired 1) (fun t => (replied t).map (fun x => x.2.1) == some 0x1008) = true :=
  ⟨brings_row _ _ _ _ _ _ _ _ _ eclipse_row (by decide +kernel),
    by decide +kernel,
    by decide +kernel,
    brings_row _ _ _ _ _ _ _ _ _ trigger_row (by decide +kernel),
    by decide +kernel,
    by decide +kernel,
    by decide +kernel,
    by decide +kernel,
    by decide +kernel,
    brings_row _ _ _ _ _ _ _ _ _ efbex_row (by decide +kernel),
    by decide +kernel,
    brings_row _ _ _ _ _ _ _ _ _ efbex_row (by decide +kernel)⟩

/-! ### The vault -/

/-- The queries: VAULT_INFO in MISSION, a derivation of 1 byte and of 128, a handle that nothing holds, the root's. -/
theorem test_vault_queries : let kt (n ll cl : Nat) : List Byte := zeros 32 ++ leBytes 2 n ++ leBytes 1 ll ++ [0] ++ leBytes 2 cl ++ [0, 0] ++ zeros (ll + cl)
    leads (.vaultInfo (host (zeros 16))) solo (fun t => (replied t).map (fun x => x.2.1) == some 0 && t.free == solo.free + 1) = true ∧
    leads (.vaultKdfTest (host (kt 8 0 0))) clear (fun t => (replied t).map (fun x => (x.2.1, x.2.2.length)) == some (0, 1)) = true ∧
    leads (.vaultKdfTest (host (kt 1024 64 256))) clear (fun t => (replied t).map (fun x => (x.2.1, x.2.2.length)) == some (0, 128)) = true ∧
    answers (.nodeGet (host (leBytes 4 9))) solo 0x0D06 0x8D06 [] = true ∧
    leads (.nodeGet (host (leBytes 4 4096))) solo (fun t => (replied t).map (fun x => (x.2.1, x.2.2.take 4, x.2.2.length)) == some (0, leBytes 4 4096, 52)) = true := by decide +kernel

/-- NODE_CREATE: parent, usage, length of the label and label. -/
def creates (par usage : Nat) (label : List Byte) : List Byte := leBytes 4 par ++ leBytes 1 usage ++ [0] ++ leBytes 1 label.length ++ [0] ++ label ++ zeros (32 - label.length)

/-- A node below the root, made, found again, and below an unknown parent; outside MISSION. -/
theorem test_node_create : createStates solo 4096 [88] = [] ∧
    leads (.nodeCreate (host (creates 4096 3 [88]))) solo (fun t => t.vault.nodes.length == solo.vault.nodes.length + 1 && (replied t).map (fun x => x.2.1) == some 0) = true ∧
    leads (.nodeCreate (host (creates 4096 3 [88]))) solo (fun t => answers (.nodeCreate (host (creates 4096 3 [88]))) { t with outs := [] } 0x0D04 0x0102 (((replied t).map (fun x => x.2.2)).getD [])) = true ∧
    answers (.nodeCreate (host (creates 9 1 (List.replicate 32 1)))) solo 0x0D04 0x8D06 [] = true ∧
    answers (.nodeCreate (host (creates 4096 6 [88]))) (modVault (fun v => { v with life := 2 }) solo) 0x0D04 0x2001 [] = true := by decide +kernel

/-- NODE_INVALIDATE of an unknown node, of the pair's without and with force, of machine 9's, whose session is ORPHANED, of an INVALID one, and with purge. -/
theorem test_node_invalidate : let inv (h f : Nat) : List Byte := leBytes 4 h ++ leBytes 1 f ++ [0, 0, 0]
    let stateOf (h : Nat) (t : State) : Option Nat := (nodeOf t h).map (fun n => n.state)
    answers (.nodeInvalidate (host (inv 9 0))) solo 0x0D05 0x8D06 [] = true ∧ inService solo 4099 = true ∧ inService solo 4108 = false ∧
    answers (.nodeInvalidate (host (inv 4099 0))) solo 0x0D05 0x8D04 [] = true ∧ leads (.nodeInvalidate (host (inv 4099 1))) solo (fun t => stateOf 4099 t == some 2) = true ∧
    leads (.nodeInvalidate (host (inv 4108 0))) solo (fun t => stateOf 4108 t == some 2 && stateOf 4109 t == some 1 && stateOf 4098 t == some 0 && (told 0xCD02 t).isSome) = true ∧
    leads (.nodeInvalidate (host (inv 4109 0))) (modNode 4109 (fun n => { n with state := 2 }) solo) (fun t => (replied t).isSome && (told 0xCD02 t).isNone) = true ∧
    leads (.nodeInvalidate (host (inv 4108 2))) solo (fun t => stateOf 4108 t == none && stateOf 4109 t == none && t.vault.nodes.length + 2 == solo.vault.nodes.length) = true := by decide +kernel

/-- VAULT_CRYPTO. -/
def crypt (h op size tag : Nat) (data aad : List Byte) : List Byte :=
  leBytes 4 h ++ leBytes 1 op ++ leBytes 1 size ++ leBytes 2 data.length ++ leBytes 2 aad.length ++ leBytes 1 tag ++ zeros 21 ++ aad ++ data

/-- Operations without a node, on an unknown one, an INVALID one, of another usage, in a locked vault, accepted ones, and their ends. -/
theorem test_vault_operations : answers (.vaultCrypto (host (crypt 9 1 0 16 [] []))) solo 0x0D07 0x8D06 [] = true ∧ cryptoStates solo 4099 1 ≠ [0x8D07, 0x8D09] ∧
    leads (.vaultCrypto (host (crypt 0 6 0 8 [97, 98, 99] []))) solo (fun t => t.vault.ops.length == 1 && (replied t).isNone) = true ∧
    leads (.vaultCrypto (host (crypt 4108 5 0 8 [1] []))) solo (fun t => t.vault.ops.length == 1 || (replied t).isSome) = true ∧
    answers (.vaultCrypto (host (crypt 4109 1 1 16 [] []))) (modNode 4109 (fun n => { n with state := 1, flags := 0 }) solo) 0x0D07 0x6003 [] = true ∧
    cryptoStates (modNode 4109 (fun n => { n with flags := 0 }) solo) 4109 1 = [] ∧ cryptoStates (modNode 4109 (fun n => { n with flags := 0, usage := 2 }) solo) 4109 5 = [] ∧
    leads (.vaultCrypto (host (crypt 4109 5 1 16 [] []))) (modNode 4109 (fun n => { n with flags := 0, usage := 2 }) solo) (fun t => t.vault.ops.length == 1) = true ∧
    leads (.vaultCrypto (host (crypt 4109 1 1 16 [] []))) (modNode 4109 (fun n => { n with flags := 0 }) solo) (fun t => t.vault.ops.length == 1) = true ∧
    leads (.vaultCrypto (host (crypt 4109 2 0 16 (zeros 16) []))) (modNode 4109 (fun n => { n with flags := 0 }) solo) (fun t => t.vault.ops.length == 1) = true ∧
    answers (.vaultCrypto (host (crypt 4096 1 0 16 [] []))) solo 0x0D07 0x8D07 [] = true ∧
    answers (.vaultCrypto (host (crypt 4109 1 0 16 [] []))) (modVault (fun v => { v with locked := true }) (modNode 4109 (fun n => { n with flags := 0 }) solo)) 0x0D07 0x8D09 [] = true ∧
    leads (.vaultOperationComplete 0) solo (fun t => t.outs.isEmpty) = true ∧
    (beginOps 0 [] [⟨7, host [], [], false, false⟩, ⟨7, host [], [], false, false⟩]).map (fun o => o.started) = [true, false] ∧
    leads (.vaultOperationComplete 0) (modVault (fun v => { v with ops := [⟨4096, host [], [], true, true⟩] }) solo) (fun t => t.vault.ops.isEmpty && t.vault.openFails == 1 && replied t == some (0x0D07, 0, [0, 0, 0, 0])) = true := by decide +kernel

/-- A BLANK device with nothing fused. -/
def blank : State := modVault (fun v => { v with life := 0, kcv := none, site := none, fused := none, complete := false }) clear

/-- A device in MISSION that has lost the share of its battery-bound root of zeros. -/
def lost : State := modVault (fun v => { v with bound := true, share := none, kcv := some (kcvOf (zeros 32)) }) solo

/-- Provisioning outside BLANK; in mode 1 without a lost share; roots that agree with the fuses; the end of the fuse write. -/
theorem test_provisioning : let w : List Byte := zeros 48
    answers (.vaultProvision (host (zeros 100))) solo 0x0D02 0x2001 [] = true ∧ answers (.vaultProvision (host ([1] ++ zeros 99))) solo 0x0D02 0x2001 [] = true ∧
    answers (.vaultProvision (host ([2] ++ zeros 99))) solo 0x0D02 0x4001 [] = true ∧
    answers (.vaultProvision (host (zeros 100))) (modVault (fun v => { v with locked := true }) blank) 0x0D02 0x8D09 [] = true ∧
    answers (.vaultProvision (host (zeros 100))) { blank with pwr := { blank.pwr with fuse := some ⟨1, host [], []⟩ } } 0x0D02 0x2003 [] = true ∧
    fusesAgree blank w = true ∧ fusesAgree blank (patch w 36 [1]) = true ∧ fusesAgree solo w = false ∧
    leads .fuseWriteComplete { blank with pwr := { blank.pwr with fuse := some ⟨1, host (zeros 100), w⟩ } } (fun t => t.vault.complete && t.vault.fused == some (zeros 32)
      && t.vault.site == some 0 && t.pwr.fuse.isNone && t.vault.blown == leBytes 4 (kcvOf (zeros 32)) ++ zeros 37 && (replied t).isSome) = true ∧
    leads .fuseWriteComplete blank (fun t => t.outs.isEmpty) = true := by decide +kernel

/-- VAULT_PROVISION in a mode whose root opens to `w` (R514). -/
def wrapped (s : State) (mode : Byte) (w : List Byte) : List Byte :=
  [mode, 0, 0, 0] ++ (zeros 32 ++ gcmSeal (kdf (x25519 (material s provHandle) (zeros 32)) (ascii "ICGAL-PROV") (zeros 32 ++ x25519Public (material s provHandle)) 32)
    (zeros 12) (leBytes 8 s.vault.devId ++ leBytes 1 mode.toNat) w)

/-- It is well formed and opens so. -/
theorem wrapped_opens (s : State) (mode : Byte) (w : List Byte) (h : w.length = 48) :
    (wrapped s mode w).length = 100 ∧ u8 (wrapped s mode w) 0 = mode.toNat ∧ zeroAt (wrapped s mode w) 1 3 = true ∧ unwrapRoot s (wrapped s mode w) = some w := by
  have hz : (zeros 32).length = 32 := rfl
  have hg := gcm_opens (kdf (x25519 (material s provHandle) (zeros 32)) (ascii "ICGAL-PROV") (zeros 32 ++ x25519Public (material s provHandle)) 32)
    (zeros 12) (leBytes 8 s.vault.devId ++ leBytes 1 mode.toNat) w (kdf_length _ _ _ _) rfl
  have hm : u8 (wrapped s mode w) 0 = mode.toNat := rfl
  have h1 : sub (wrapped s mode w) 4 32 = zeros 32 := by
    simp only [sub, wrapped]
    rw [List.drop_left' (by rfl), List.take_left' hz]
  have h2 : sub (wrapped s mode w) 36 64 = gcmSeal (kdf (x25519 (material s provHandle) (zeros 32)) (ascii "ICGAL-PROV") (zeros 32 ++ x25519Public (material s provHandle)) 32)
      (zeros 12) (leBytes 8 s.vault.devId ++ leBytes 1 mode.toNat) w := by
    simp only [sub, wrapped]
    rw [← List.append_assoc, List.drop_left' (by simp [hz]), List.take_of_length_le (by have e := hg.1; rw [h] at e; omega)]
  refine ⟨?_, hm, rfl, ?_⟩
  · simp [wrapped, hg.1, h, hz]
  · simp only [unwrapRoot, h1, h2, hm]
    exact hg.2

/-- What an AES-GCM open needs: the tag. -/
theorem gcm_tag {key nonce aad d x : List Byte} (h : gcmOpen key nonce aad d = some x) :
    gcmTag (roundKeys key) nonce aad (d.take (d.length - 16)) = d.drop (d.length - 16) := by
  simp only [gcmOpen] at h
  split at h
  · next c => exact c.2
  · cases h

/-- One of two payloads of a mode opens to nothing. -/
theorem some_payload_fails (s : State) (mode : Byte) : ∃ x : Byte, unwrapRoot s ([mode] ++ zeros 98 ++ [x]) = none := by
  cases h0 : unwrapRoot s ([mode] ++ zeros 98 ++ [0]) with
  | none => exact ⟨0, h0⟩
  | some a =>
    cases h1 : unwrapRoot s ([mode] ++ zeros 98 ++ [1]) with
    | none => exact ⟨1, h1⟩
    | some b =>
      have e0 := gcm_tag h0
      have e1 := gcm_tag h1
      have k0 : sub ([mode] ++ zeros 98 ++ [0]) 36 64 = zeros 63 ++ [0] := rfl
      have k1 : sub ([mode] ++ zeros 98 ++ [1]) 36 64 = zeros 63 ++ [1] := rfl
      have m : sub ([mode] ++ zeros 98 ++ [0]) 4 32 = sub ([mode] ++ zeros 98 ++ [1]) 4 32 := rfl
      have u : u8 ([mode] ++ zeros 98 ++ [0]) 0 = u8 ([mode] ++ zeros 98 ++ [1]) 0 := rfl
      rw [k0, m, u] at e0
      rw [k1] at e1
      exact absurd (e0.symm.trans e1) (by decide)

/-- What VAULT_PROVISION meets in BLANK: a root that opens, with its fields at their limits, one whose fields are reserved, one that agrees with
complete fuses and one that does not. -/
theorem witness_provision : let w : List Byte := zeros 48
    let k := useKey provHandle blank
    let full := modVault (fun v => { v with complete := true, blown := fuseBytes blank w }) blank
    blank.vault.life = 0 ∧ blank.vault.locked = false ∧ blank.pwr.fuse = none ∧ unwrapRoot blank (wrapped blank 0 w) = some w ∧
    unwrapRoot blank (wrapped blank 0 (patch w 36 [2])) = some (patch w 36 [2]) ∧ u8 (patch w 36 [2]) 36 = 2 ∧ u8 w 36 < 2 ∧ zeroAt w 37 11 = true ∧
    fusesAgree (drawShare (bit (u8 w 36) 0) k) w = true ∧ blank.vault.complete = false ∧
    fusesAgree (useKey provHandle full) w = true ∧ fusesAgree (useKey provHandle full) (patch w 32 [1]) = false ∧ full.vault.complete = true ∧
    unwrapRoot full (wrapped full 0 (patch w 32 [1])) = some (patch w 32 [1]) :=
  ⟨rfl, by decide +kernel, by decide +kernel, (wrapped_opens blank 0 _ rfl).2.2.2, (wrapped_opens blank 0 _ rfl).2.2.2, rfl, by decide, rfl, by decide +kernel, rfl,
    by decide +kernel, by decide +kernel, rfl, (wrapped_opens _ 0 _ rfl).2.2.2⟩

/-- What its mode 1 meets where the share is lost: the right root, another, and reserved fields. -/
theorem witness_restore : let w : List Byte := zeros 48
    (lost.vault.life = 1 ∧ lost.vault.bound = true ∧ lost.vault.complete = true ∧ lost.vault.share = none ∧ lost.vault.locked = false ∧ lost.pwr.fuse = none) ∧
    unwrapRoot lost (wrapped lost 1 w) = some w ∧ lost.vault.kcv = some (kcvOf (sub w 0 32)) ∧
    unwrapRoot lost (wrapped lost 1 (patch w 0 [1])) = some (patch w 0 [1]) ∧ lost.vault.kcv ≠ some (kcvOf (sub (patch w 0 [1]) 0 32)) ∧
    unwrapRoot lost (wrapped lost 1 (patch w 47 [1])) = some (patch w 47 [1]) ∧ zeroAt (patch w 47 [1]) 37 11 = false :=
  ⟨by decide +kernel, (wrapped_opens lost 1 _ rfl).2.2.2, rfl, (wrapped_opens lost 1 _ rfl).2.2.2, by decide +kernel, (wrapped_opens lost 1 _ rfl).2.2.2, rfl⟩

/-- VAULT_EXPORT of an unknown node, an INVALID one, one that is not exportable, and one that is. -/
theorem test_vault_export : let ex (h : Nat) : List Byte := leBytes 4 h ++ zeros 32
    let open_ := modNode 4109 (fun n => { n with flags := 2, usage := 1 }) solo
    answers (.vaultExport (host (ex 9))) solo 0x0D08 0x8D06 [] = true ∧ answers (.vaultExport (host (ex 4109))) (modNode 4109 (fun n => { n with state := 2 }) open_) 0x0D08 0x6003 [] = true ∧
    answers (.vaultExport (host (ex 4109))) (modNode 4109 (fun n => { n with usage := 3 }) open_) 0x0D08 0x8D08 [] = true ∧
    answers (.vaultExport (host (ex 4109))) (modNode 4109 (fun n => { n with flags := 0 }) open_) 0x0D08 0x8D08 [] = true ∧
    answers (.vaultExport (host (ex 4109))) (modVault (fun v => { v with life := 2 }) open_) 0x0D08 0x2001 [] = true ∧
    answers (.vaultExport (host (ex 4109))) (modVault (fun v => { v with locked := true }) open_) 0x0D08 0x8D09 [] = true ∧
    leads (.vaultExport (host (ex 4109))) open_ (fun t => (replied t).map (fun x => x.2.1) == some 0 && t.free == open_.free + 1) = true := by decide +kernel

/-- LC_ADVANCE: to RETURN for the device, for another, to MISSION from MISSION; SCRAP; the end of the fuse writes to MISSION and to RETURN. -/
theorem test_life_cycle : let lc (x id : Nat) : List Byte := leBytes 1 x ++ zeros 7 ++ leBytes 8 id
    let id := 2 ^ 63
    let dev := modVault (fun v => { v with devId := id }) solo
    let fusing (b : Byte) (s : State) : State := { s with pwr := { s.pwr with fuse := some ⟨0, host [], [b]⟩ } }
    let bare := modVault (fun v => { v with life := 0 }) dev
    leads (.lcAdvance (host (lc 2 id))) dev (fun t => replied t == some (0x0D03, 0, [1, 2, 0, 0]) && t.pwr.fuse.map (fun j => j.payload) == some [2]) = true ∧
    answers (.lcAdvance (host (lc 3 id))) dev 0x0D03 0x4001 [] = true ∧ answers (.lcAdvance (host (lc 2 id))) (fusing 1 dev) 0x0D03 0x2003 [] = true ∧
    leads .fuseWriteComplete (fusing 0xFF dev) (fun t => t.vault.life == 0xFF && t.vault.lifeFuses == 2 ^ 8 + 2 ^ 9 + dev.vault.lifeFuses) = true ∧
    leads (.lcAdvance (host (lc 0xFF id))) dev (fun t => replied t == some (0x0D03, 0, [1, 0xFF, 0, 0])) = true ∧ lifeStep bare 1 = true ∧ lifeStep bare 0 = false ∧
    answers (.lcAdvance (host (lc 2 (id + 1)))) dev 0x0D03 0x8D01 [] = true ∧ answers (.lcAdvance (host (lc 1 id))) dev 0x0D03 0x8D01 [] = true ∧
    answers (.lcAdvance (host (lc 2 id))) (modP (fun p => { p with role := 1 }) dev) 0x0D03 0x8D01 [] = true ∧
    leads .fuseWriteComplete (fusing 1 bare) (fun t => t.vault.life == 1 && bit t.repl.armed 1 && told 0xCD01 t == some (32, [0, 1, 0, 0])) = true ∧
    leads .fuseWriteComplete (fusing 2 dev) (fun t => t.vault.kill && t.vault.nodes.isEmpty && t.pwr.resets.any (fun d => d.cause == 34)) = true := by decide +kernel

/-- FW_WRITE to the slot that runs, to the other at both ends of its range; the end of the flash writes; FW_ACTIVATE. -/
theorem test_firmware_images : let w (i off n : Nat) : List Byte := leBytes 1 i ++ [0, 0, 0] ++ leBytes 4 off ++ zeros n
    let act (i x : Nat) : List Byte := leBytes 1 i ++ leBytes 1 x ++ [0, 0]
    let run := solo.vault.running
    let other := 1 - run
    let job : State := { solo with pwr := { solo.pwr with flash := [⟨2, none⟩, ⟨1, some (host (w other 0 1))⟩] } }
    let good := modVault (fun v => { v with slots := v.slots.set other { Slot.empty with sigOk := true, bodyOk := true, security := 255, allowed := 7 } }) solo
    let trial := modVault (fun v => { v with trial := some run }) solo
    run ≤ 1 ∧ answers (.fwWrite (host (w run 0 1))) solo 0x0D0A 0x8D0B [] = true ∧
    leads (.fwWrite (host (w other 0 1))) solo (fun t => t.pwr.flash.length == 1) = true ∧ leads (.fwWrite (host (w other 16760832 4096))) solo (fun t => t.pwr.flash.length == 0) = false ∧
    leads (.flashWriteComplete true) job (fun t => replied t == some (0x0D0A, 0, leBytes 4 1) && (nth t.vault.slots other Slot.empty).bytes == [0] && t.pwr.flash == [⟨2, none⟩]) = true ∧
    leads (.flashWriteComplete false) job (fun t => (replied t).map (fun x => x.1) == some 0x0D0A && t.vault.slots == job.vault.slots) = true ∧ leads (.flashWriteComplete true) solo (fun t => t.outs.isEmpty) = true ∧
    answers (.fwActivate (host (act other 2))) job 0x0D0B 0x2003 [] = true ∧ imageCheck solo other ≠ 0 ∧ answers (.fwActivate (host (act other 0))) solo 0x0D0B 0x8D0A [] = true ∧ imageCheck good other = 0 ∧
    leads (.fwActivate (host (act other 0))) good (fun t => t.vault.trial == some other && (replied t).map (fun x => x.2.1) == some 0) = true ∧
    answers (.fwActivate (host (act run 1))) solo 0x0D0B 0x2005 [] = true ∧ leads (.fwActivate (host (act run 1))) trial (fun t => t.vault.trial.isNone && t.vault.preferred == run) = true ∧
    leads (.fwActivate (host (act run 2))) trial (fun t => t.vault.trial.isNone && (replied t).map (fun x => x.2.1) == some 0) = true ∧
    leads (.fwActivate (host (act run 2))) solo (fun t => (replied t).map (fun x => x.2.1) == some 0x0102) = true := by decide +kernel

/-- TAMPER_SET, weaker and not, locked and not; TAMPER_CLEAR; samples; the responses with the supplies on and off. -/
theorem test_tamper : let ts (n m resp per lock : Nat) : List Byte := leBytes 1 n ++ leBytes 1 m ++ leBytes 1 resp ++ leBytes 1 per ++ leBytes 1 lock ++ [0, 0, 0]
    let inp (resp : Nat) (last : Bool) (s : State) : State := modVault (fun v => { v with bound := true, share := some (zeros 32), tamper := v.tamper.set 3 ⟨1, resp, 0, last, false, false⟩ }) s
    let lock := modVault (fun v => { v with tLocked := true }) (inp 15 false solo)
    let dark (s : State) : State := { s with pwr := { s.pwr with state := 4 } }
    solo.vault.tamper.length = 4 ∧ answers (.tamperSet (host (ts 3 2 15 0 0))) lock 0x0D0C 0x2005 [] = true ∧ answers (.tamperSet (host (ts 3 1 7 0 0))) lock 0x0D0C 0x2005 [] = true ∧
    leads (.tamperSet (host (ts 3 1 15 0 0))) lock (fun t => (replied t).map (fun x => x.1) == some 0x0D0C) = true ∧
    leads (.tamperSet (host (ts 0 2 15 5 1))) solo (fun t => t.vault.tLocked && (nth t.vault.tamper 0 TamperIn.zero).mode == 2) = true ∧
    answers (.tamperClear (host [])) (inp 0 true solo) 0x0D0D 0x8D0C [] = true ∧ leads (.tamperClear (host [])) solo (fun t => (replied t).map (fun x => x.2.1) == some 0x0102) = true ∧
    leads (.tamperClear (host [])) (modVault (fun v => { v with latch := true, locked := true, events := 3 }) solo) (fun t => !t.vault.latch && !t.vault.locked && told 0xCD05 t == some (32, [0, 4, 0, 0])) = true ∧
    leads (.tamperSample 0 true) solo (fun t => t.outs.isEmpty) = true ∧ leads (.tamperSample 3 true) (inp 15 false solo) (fun t => !t.vault.latch && (nth t.vault.tamper 3 TamperIn.zero).last) = true ∧
    leads (.tamperSample 3 true) (inp 15 true solo) (fun t => t.vault.latch && t.vault.locked && t.vault.share.isNone && t.vault.events == 1 && (told 0xCD03 t).isSome && t.pwr.resets.any (fun d => d.cause == 51)) = true ∧
    leads (.tamperSample 3 true) (inp 1 true solo) (fun t => t.vault.share.isSome && t.pwr.resets.isEmpty) = true ∧
    leads (.tamperSample 3 true) (dark (inp 15 true solo)) (fun t => t.vault.latch && t.vault.share.isNone) = true ∧
    leads (.tamperSample 3 true) { inp 15 true solo with pwr := { solo.pwr with state := 3 } } (fun t => t.vault.latch && t.vault.share.isNone && bit t.pwr.tamperWait 3 && bit t.pwr.wakes 4
      && t.pwr.resets.any (fun d => d.cause == 51)) = true := by decide +kernel

/-! ### CAN -/

/-- A controller with a change. -/
def ctl (c : Nat) (f : CanCtl → CanCtl) : State := modCtl c f clear

/-- A timing of 500 kbit/s and 2 Mbit/s. -/
def rate : CanTiming := ⟨1, 127, 32, 32, 1, 29, 10, 10⟩

/-- CAN_CONFIG_SET. -/
def cfgCan (c mode fl tdc : Nat) (t : CanTiming) : List Byte := leBytes 1 c ++ leBytes 1 mode ++ leBytes 1 fl ++ leBytes 1 tdc ++ timingBytes t ++ [0, 0]

/-- A valid setting at the ends of its ranges, one that is not valid, and a change of timing while RECOVERING. -/
theorem test_can_config : timingRange rate = true ∧ timingValid rate = true ∧ timingRange { rate with sjw := 33 } = true ∧ timingValid { rate with sjw := 33 } = false ∧
    leads (.canConfigSet (host (cfgCan 3 2 7 127 rate))) (ctl 3 (fun x => { x with txErr := 9 })) (fun t => (ctlOf t 3).state == 3 && (ctlOf t 3).txErr == 0 && (ctlOf t 3).timing == rate && (replied t).isSome) = true ∧
    leads (.canConfigSet (host (cfgCan 0 1 0 0 rate))) (ctl 0 (fun x => { x with mode := 1, state := 1, rxErr := 2 })) (fun t => (ctlOf t 0).state == 1 && (ctlOf t 0).rxErr == 2) = true ∧
    answers (.canConfigSet (host (cfgCan 0 1 0 0 { rate with sjw := 33 }))) clear 0x0E01 0x8E04 [] = true ∧
    answers (.canConfigSet (host (cfgCan 0 2 0 0 rate))) (ctl 0 (fun x => { x with mode := 2, state := 6 })) 0x0E01 0x2003 [] = true ∧
    leads (.canConfigSet (host (cfgCan 0 2 0 0 rate))) (ctl 0 (fun x => { x with mode := 2, state := 6, timing := rate })) (fun t => (ctlOf t 0).state == 6) = true := by decide +kernel

/-- A frame record of 2 bytes. -/
def frameOf (w fl : Nat) : CanFrame := ⟨0, w, 2, fl, [1, 2]⟩

/-- Filters of both kinds at the ends of their ranges, the objects, the stream with a queue of the device and without, the status. -/
theorem test_can_objects : let std (a b x : Nat) : List Byte := [3, 0] ++ leBytes 2 a ++ leBytes 2 b ++ leBytes 1 x ++ [0]
    let exts (first n : Nat) : List Byte := [3, 1] ++ leBytes 2 first ++ leBytes 2 n ++ [0, 0] ++ (List.replicate n (leBytes 4 (2 ^ 29 - 1) ++ leBytes 4 0 ++ [1, 0, 0, 0])).flatten
    let rd (ext a n new : Nat) : List Byte := [3] ++ leBytes 1 ext ++ leBytes 2 a ++ leBytes 1 n ++ leBytes 1 new ++ [0, 0]
    let s := ctl 3 (fun x => { x with objs := [⟨true, 1023, frameOf 0 0, true, true⟩, ⟨false, 2047, frameOf 2047 0, true, false⟩] })
    let dev := { clear with sqs := modNth clear.sqs 63 (fun q => { q with producer := 16 }) }
    leads (.canFilterSet (host (std 0 2047 0))) s (fun t => (ctlOf t 3).rejects.length == 2048) = true ∧ leads (.canFilterSet (host (std 2047 2047 1))) (ctl 3 (fun x => { x with rejects := [5, 2047] })) (fun t => (ctlOf t 3).rejects == [5]) = true ∧
    leads (.canFilterSet (host (exts 1023 1))) s (fun t => (ctlOf t 3).ext.length == 1 && (ctlOf t 3).objs.length == 1) = true ∧ leads (.canFilterSet (host (exts 960 64))) s (fun t => (ctlOf t 3).ext.length == 64) = true ∧
    leads (.canRxRead (host (rd 1 1023 1 1))) s (fun t => ((ctlOf t 3).objs.map (fun o => o.new)) == [false, true] && (replied t).map (fun x => x.2.2.take 2) == some [1, 0]) = true ∧
    leads (.canRxRead (host (rd 0 2000 48 1))) s (fun t => ((ctlOf t 3).objs.map (fun o => o.new)) == [true, false]) = true ∧
    leads (.canRxRead (host (rd 0 0 1 0))) s (fun t => (replied t).map (fun x => x.2.2.take 2) == some [1, 0]) = true ∧
    answers (.canStream (host [63, 15, 0, 0])) dev 0x0E09 0 [63, 15, 0, 0] = true ∧ answers (.canStream (host [255, 1, 0, 0])) clear 0x0E09 0 [255, 1, 0, 0] = true ∧
    answers (.canStream (host [0, 1, 0, 0])) clear 0x0E09 0x8E05 [] = true ∧ leads (.canStatus (host [3, 0, 0, 0])) s (fun t => (replied t).map (fun x => x.2.2.length) == some 56) = true := by decide +kernel

/-- Frames off the bus, with FD off, rejected, into an empty object and onto an unread one, and an extended one. -/
theorem test_can_reception : let on (f : CanCtl → CanCtl) : State := ctl 3 (fun x => f { x with mode := 1, state := 1 })
    canOnBus clear 3 = false ∧ canOnBus (on id) 3 = true ∧ leads (.canFrameValid 3 (frameOf 5 0)) clear (fun t => t.outs.isEmpty) = true ∧
    leads (.canFrameValid 3 (frameOf 5 1)) (on id) (fun t => (ctlOf t 3).cForm == 1 && (ctlOf t 3).objs.isEmpty) = true ∧
    leads (.canFrameValid 3 (frameOf 5 0)) (on (fun x => { x with mode := 2, state := 4, rxErr := 9 })) (fun t => t.outs.contains (.canAck 3) && (ctlOf t 3).rxErr == 8) = true ∧
    leads (.canFrameValid 3 (frameOf 5 0)) (on (fun x => { x with rejects := [5] })) (fun t => (ctlOf t 3).cRejected == 1 && (ctlOf t 3).cReceived == 1) = true ∧
    leads (.canFrameValid 3 (frameOf 5 0)) (on id) (fun t => (ctlOf t 3).objs == [⟨false, 5, frameOf 5 0, true, false⟩] && (ctlOf t 3).cLost == 0) = true ∧
    leads (.canFrameValid 3 (frameOf 5 1)) (on (fun x => { x with flags := 1, objs := [⟨false, 5, frameOf 5 0, true, false⟩] })) (fun t => (ctlOf t 3).objs == [⟨false, 5, frameOf 5 1, true, true⟩] && (ctlOf t 3).cLost == 1) = true ∧
    leads (.canFrameValid 3 (frameOf (2 ^ 29 + 7) 0)) (on (fun x => { x with ext := [⟨1023, 3, 3, true⟩] })) (fun t => (ctlOf t 3).objs.map (fun o => (o.ext, o.index)) == [(true, 1023)]) = true ∧
    objectFor { CanCtl.zero with ext := [⟨9, 4, 3, true⟩] } (frameOf (2 ^ 29 + 7) 0) = none := by decide +kernel

/-- CAN_TX off and on the bus, without a free buffer, with a stop identifier; abort; the ends of buffers. -/
theorem test_can_transmission : let tx (b fl dlc w n : Nat) : List Byte := [0] ++ leBytes 1 b ++ leBytes 1 fl ++ leBytes 1 dlc ++ leBytes 4 w ++ zeros n
    let on (bs : List CanBuf) : State := ctl 0 (fun x => { x with mode := 2, state := 3, bufs := bs })
    let buf (i : Nat) (single abort : Bool) : CanBuf := ⟨i, frameOf 5 0, single, true, abort⟩
    let stop := { on [] with ecl := { clear.ecl with ids := [⟨0, true, false, 2, 5, none⟩] } }
    answers (.canTx (host (tx 0 0 8 5 8))) clear 0x0E04 0x8E01 [] = true ∧ answers (.canTx (host (tx 63 0 0 5 0))) (on [buf 63 false false]) 0x0E04 0x8E02 [] = true ∧
    answers (.canTx (host (tx 0xFF 0 0 5 0))) stop 0x0E04 0x8E03 [] = true ∧
    leads (.canTx (host (tx 0xFF 15 15 (2 ^ 30 - 1) 64))) (on [buf 0 false false]) (fun t => (ctlOf t 0).bufs.length == 2 && replied t == some (0x0E04, 0, [1, 0, 0, 0])) = true ∧
    answers (.canTxAbort (host [0, 63, 0, 0])) (on [buf 0 false false]) 0x0E05 0x0102 [] = true ∧
    leads (.canTxAbort (host [0, 0xFF, 0, 0])) (on [buf 0 false false]) (fun t => replied t == some (0x0E05, 0, [])) = true ∧
    leads (.canTxComplete 0 63 true 0 0) (on [buf 0 false false]) (fun t => t.outs.isEmpty) = true ∧ leads (.canTxComplete 0 0 true 0 0) (ctl 0 (fun x => { x with bufs := [buf 0 false false] })) (fun t => t.outs.isEmpty) = true ∧
    leads (.canTxComplete 0 0 true 0 0) (on [buf 0 false false]) (fun t => (ctlOf t 0).cSent == 1 && (ctlOf t 0).bufs.isEmpty && told 0xCE03 t == some (16, [0, 0, 0, 0] ++ leBytes 4 5 ++ zeros 8)) = true ∧
    leads (.canTxComplete 0 0 true 0 100) (on [⟨0, frameOf 5 3, false, true, false⟩]) (fun t => (ctlOf t 0).delay == 100 && t.outs.contains (.can 0 ⟨0, 5, 2, 3, [1, 2]⟩ (100 + (1 + CanTiming.low.dseg1) * CanTiming.low.dpre))) = true ∧
    leads (.canTxComplete 0 0 false 0 0) (on [buf 0 false true]) (fun t => (ctlOf t 0).bufs.isEmpty && (told 0xCE03 t).map (fun x => x.2.take 3) == some [0, 0, 1]) = true ∧
    leads (.canTxComplete 0 0 false 0 0) (on [buf 0 true false]) (fun t => (ctlOf t 0).bufs.isEmpty && (told 0xCE03 t).map (fun x => x.2.take 3) == some [0, 0, 2]) = true ∧
    leads (.canTxComplete 0 0 false 0 0) (on [buf 0 false false]) (fun t => (ctlOf t 0).bufs.length == 1) = true := by decide +kernel

/-- Errors at the limits of the counters, recovery, and rate detection. -/
theorem test_can_errors : let on (st te re : Nat) : State := ctl 3 (fun x => { x with mode := 2, state := st, txErr := te, rxErr := re, bufs := [⟨0, frameOf 5 0, false, false, false⟩] })
    let at_ (st : Nat) : State := ctl 3 (fun x => { x with mode := 2, state := st, txErr := 256 })
    let det (d : CanDetect) (ns : Nat) : State := later ns (ctl 3 (fun x => { x with state := 2, detect := some d }))
    let d : CanDetect := ⟨[rate, CanTiming.low], 1, true, 1, 1, 0, 0, 0, false, 6⟩
    let rd (t : CanTiming) : List Byte := [3, 1, 1, 100] ++ leBytes 2 600 ++ [0, 0] ++ timingBytes t ++ [0, 0]
    leads (.canBusError 3 0 false 0 false) clear (fun t => t.outs.isEmpty) = true ∧ leads (.canBusError 3 6 true 0 false) (on 3 300 0) (fun t => (ctlOf t 3).txErr == 300 && (ctlOf t 3).state == 3) = true ∧
    leads (.canBusError 3 3 true 0 false) (on 3 119 127) (fun t => (ctlOf t 3).state == 3 && (ctlOf t 3).cBit == 1 && (ctlOf t 3).txErr == 127 && t.outs.contains (.canErrorFlag 3 true)) = true ∧
    leads (.canBusError 3 4 true 1 true) (on 4 128 0) (fun t => (ctlOf t 3).cAck == 1 && (ctlOf t 3).txErr == 136 && t.outs.contains (.canErrorFlag 3 false)) = true ∧
    leads (.canBusError 3 5 true 0 false) (on 3 9 9) (fun t => (ctlOf t 3).cArb == 1 && (ctlOf t 3).txErr == 9 && t.outs.isEmpty) = true ∧
    leads (.canBusError 3 1 false 0 false) (on 3 0 127) (fun t => (ctlOf t 3).state == 4 && told 0xCE01 t == some (19, [3, 3, 4, 1, 0, 128, 0, 0])) = true ∧
    leads (.canBusError 3 0 true 0 false) (on 4 248 0) (fun t => (ctlOf t 3).state == (if armed t 11 then 6 else 5) && (ctlOf t 3).bufs.isEmpty && (ctlOf t 3).cBusOff == 1) = true ∧
    leads (.canBusError 3 0 true 0 false) { on 4 248 0 with repl := { clear.repl with armed := 0 } } (fun t => (ctlOf t 3).state == 5) = true ∧
    leads (.canBusError 3 0 false 0 false) (det d 5) (fun t => (ctlOf t 3).sync && (ctlOf t 3).state == 2 && ((ctlOf t 3).detect.map (fun x => (x.entry, x.good))) == some (0, 0)) = true ∧
    leads (.canBusIdleSync 3) (ctl 3 (fun x => { x with sync := true })) (fun t => !(ctlOf t 3).sync) = true ∧
    answers (.canRecover (host [3, 0, 0, 0])) (at_ 6) 0x0E07 0x8E06 [] = true ∧ leads (.canRecover (host [3, 0, 0, 0])) (at_ 5) (fun t => (ctlOf t 3).state == 6 && (replied t).isSome) = true ∧
    leads (.canRecoveryComplete 3) (at_ 6) (fun t => (ctlOf t 3).state == 3 && (ctlOf t 3).txErr == 0) = true ∧ leads (.canRecoveryComplete 3) (at_ 5) (fun t => (ctlOf t 3).state == 5) = true ∧
    answers (.canRateDetect (host (rd CanTiming.low))) clear 0x0E06 0x8E04 [] = true ∧
    leads (.canRateDetect (host (rd rate))) clear (fun t => (ctlOf t 3).state == 2 && (ctlOf t 3).sync && (ctlOf t 3).detect.isSome && replied t == some (0x0E06, 0, [])) = true ∧
    leads (.canRateDwell 3) (det d 100000000) (fun t => ((ctlOf t 3).detect.map (fun x => x.entry)) == some 0) = true ∧ leads (.canRateDwell 3) (det d 99999999) (fun t => ((ctlOf t 3).detect.map (fun x => x.entry)) == some 1) = true ∧
    leads (.canRateTimeout 3) (det d 1000000000) (fun t => (ctlOf t 3).state == 1 && (ctlOf t 3).detect.isNone && told 0xCE02 t == some (19, [3, 1, 1, 0, 6, 0, 0, 0])) = true ∧
    leads (.canRateTimeout 3) (det d 999999999) (fun t => (ctlOf t 3).detect.isSome) = true ∧ leads (.canRateTimeout 3) clear (fun t => t.outs.isEmpty) = true ∧
    leads (.canFrameValid 3 (frameOf 5 0)) (det { d with good := 7, entry := 0 } 5) (fun t => (ctlOf t 3).state == 3 && (ctlOf t 3).timing == rate && told 0xCE02 t == some (19, [3, 0, 0, 0, 7, 0, 0, 0])) = true := by decide +kernel

/-- Stop identifiers: none, not enabled, a heartbeat of 20 ms that ran out and 1 ns before, armed. -/
theorem test_stop_identifiers : let st (x : StopId) (ns : Nat) : State := let s := later ns (ctl 1 (fun x => { x with mode := 2, state := 3 }))
      { s with ecl := { s.ecl with ids := [x] }, repl := { s.repl with armed := 0x0806 } }
    let x : StopId := ⟨1, true, false, 2, 5, some 0⟩
    armed (st x 0) 2 = true ∧ leads (.canHeartbeatTimeout 0) clear (fun t => t.outs.isEmpty) = true ∧ leads (.canHeartbeatTimeout 0) (st { x with enabled := false } 20000000) (fun t => t.outs.isEmpty) = true ∧
    leads (.canHeartbeatTimeout 0) (st x 20000000) (fun t => t.repl.ecl.state == 1 && t.repl.ecl.cause == 4 && (told 0xC901 t).isSome) = true ∧
    leads (.canHeartbeatTimeout 0) (st x 19999999) (fun t => t.repl.ecl.state == 0 && t.outs.isEmpty) = true ∧ idDemands (st x 19999999) x = false := by decide +kernel

/-! ### Power, monitors and calibration -/

/-- A change of the power state of `clear`. -/
def pwr (f : Power → Power) (s : State) : State := { s with pwr := f s.pwr }

/-- PWR_STATE_SET: refused to a member and with a wake time in the past, at once, at the orbit, deferred, and at its limit of now + 2 s. -/
theorem test_power_states : let ps (n w wake : Nat) : List Byte := leBytes 1 n ++ leBytes 1 w ++ [0, 0] ++ leBytes 4 wake
    let lit := { clear with modes := { clear.modes with radio := 2 } }
    answers (.pwrStateSet (host (ps 3 0 0))) (paired 1) 0x1001 0x2002 [] = true ∧ answers (.pwrStateSet (host (ps 3 0 6))) (pwr (fun p => { p with rtc := 5 }) clear) 0x1001 0x9001 [] = true ∧
    leads (.pwrStateSet (host (ps 3 2 7))) (pwr (fun p => { p with rtc := 5 }) clear) (fun t => t.pwr.requested == 3 && t.pwr.wakeTime == 7) = true ∧
    leads (.pwrStateSet (host (ps 2 0 0))) clear (fun t => t.pwr.state == 2 && replied t == some (0x1001, 0, [2, 2, 0, 0]) && (told 0xD002 t).isSome) = true ∧
    leads (.pwrStateSet (host (ps 0 0 0))) clear (fun t => replied t == some (0x1001, 0x0102, [0, 0, 0, 0])) = true ∧
    leads (.pwrStateSet (host (ps 1 0 0))) lit (fun t => t.pwr.state == 0 && t.pwr.requested == 1 && replied t == some (0x1001, 0, [0, 1, 0, 0])) = true ∧
    deferral clear = 0 ∧ deferral State.reset ≠ 0 ∧ leads (.pwrStateSet (host (ps 3 0 0))) clear (fun t => (replied t).isNone && t.pwr.owed.isSome) = true ∧
    leads (.pwrStateSet (host (ps 3 0 0))) State.reset (fun t => (replied t).map (fun x => x.2.1) == some 0x0101 && (told 0xD002 t).isSome) = true ∧
    leads (.pwrStatus (host [])) clear (fun t => (replied t).map (fun x => x.2.1) == some 0) = true := by decide +kernel

/-- AVS_FENCE_SET at the ends of the range and out of order; the loop at the limits of the slack, fixed, and in SLEEP. -/
theorem test_supply_loop : let fs (m : Nat) (lo hi v : Int) : List Byte := leBytes 1 m ++ [0, 0, 0] ++ leInt 4 lo ++ leInt 4 hi ++ leInt 4 v
    let s := later 100000000 (pwr (fun p => { p with avsV := 700, avsLo := 650, avsHi := 705, avsFixed := none, avsHighSince := some 0 }) clear)
    let volts (x : Int) (c : Int) (s : State) : Bool := leads (.avsTick c) s (fun t => t.pwr.avsV == x)
    leads (.avsFenceSet (host (fs 1 650 850 850))) clear (fun t => t.pwr.avsFixed == some 850 && (replied t).map (fun x => x.2.1) == some 0) = true ∧
    leads (.avsFenceSet (host (fs 0 700 700 0))) clear (fun t => t.pwr.avsHi == 700) = true ∧ answers (.avsFenceSet (host (fs 0 701 700 0))) clear 0x1003 0x4003 [] = true ∧
    volts 705 19 s = true ∧ volts 700 20 s = true ∧ volts 700 60 s = true ∧ volts 695 61 s = true ∧ volts 700 61 (later 99999999 s) = true ∧ volts 720 19 (pwr (fun p => { p with avsFixed := some 720 }) s) = true ∧
    volts 700 19 (pwr (fun p => { p with state := 3 }) s) = true ∧ fwRuns s = true := by decide +kernel

/-- WATCHDOG_RENEWAL, half the timeout of 1 s and 1 ns less, no core left to report, WD_SET. -/
theorem test_watchdog_renewals : let s := later 500000000 (pwr (fun p => { p with wdTimeout := 1000, renewals := p.renewals.set 0 500000000 }) clear)
    leads (.watchdogRenewal 7) s (fun t => nth t.pwr.renewals 7 0 == 500000000 && bit t.pwr.renewed 7) = true ∧ lateBits s = 254 ∧
    leads (.watchdogHalfTimeout 7) s (fun t => (told 0xD007 t).map (fun x => x.2.take 1) == some [254]) = true ∧ leads (.watchdogHalfTimeout 7) (later 499999999 s) (fun t => t.outs.isEmpty) = true ∧
    leads (.watchdogHalfTimeout 0) s (fun t => t.outs.isEmpty) = true ∧ leads (.watchdogHalfTimeout 7) (pwr (fun p => { p with renewals := List.replicate 8 0 }) s) (fun t => t.outs.isEmpty) = true ∧
    leads (.wdSet (host (leBytes 2 10000 ++ leBytes 2 3600))) s (fun t => t.pwr.wdTimeout == 10000 && t.pwr.wdWindow == 3600 && (replied t).map (fun x => x.2.1) == some 0) = true := by decide +kernel

/-- The monitors, the reference, the junction at its thresholds, ECC errors. -/
theorem test_monitors : let lost := pwr (fun p => { p with refLost := true }) clear
    let lvl (n : Nat) (s : State) (x : Int) : Bool := leads (.thermalChange 3 x) s (fun t => t.pwr.thLevel == n)
    let warm := pwr (fun p => { p with thWarn := 10000, thLevel := 1 }) clear
    let hot := pwr (fun p => { p with thLevel := 2 }) clear
    let trip := pwr (fun p => { p with tripHeld := true }) clear
    leads (.monitorFault 9 (-5)) clear (fun t => told 0xD006 t == some (33, [9, 1, 0, 0] ++ leInt 4 (-5)) && bit t.pwr.monitors 8) = true ∧ leads (.monitorClear 9 0) clear (fun t => t.outs.isEmpty) = true ∧
    leads (.monitorClear 9 0) (pwr (fun p => { p with monitors := 256 }) clear) (fun t => (told 0xD006 t).isSome && t.pwr.monitors == 0) = true ∧
    leads .refInLost clear (fun t => t.pwr.refLost && (told 0xD006 t).map (fun x => x.2.take 4) == some [6, 1, 0, 0]) = true ∧ leads .refInLost lost (fun t => t.outs.isEmpty) = true ∧
    leads .refInRestored lost (fun t => !t.pwr.refLost) = true ∧ leads .refInRestored clear (fun t => t.outs.isEmpty) = true ∧
    lvl 2 clear 15000 = true ∧ lvl 1 warm 9501 = true ∧ lvl 0 warm 9500 = true ∧ lvl 1 warm 14999 = true ∧ lvl 2 hot 14501 = true ∧ lvl 1 hot 14500 = true ∧
    leads (.thermalChange 3 16000) clear (fun t => t.pwr.tripHeld && t.pwr.resets.any (fun d => d.cause == 52)) = true ∧ leads (.thermalChange 3 15999) clear (fun t => !t.pwr.tripHeld) = true ∧
    leads (.thermalChange 3 14500) trip (fun t => t.pwr.tripHeld) = true ∧ leads (.thermalChange 3 14499) trip (fun t => !t.pwr.tripHeld && t.pwr.powered == 0x3FFF) = true ∧
    leads (.thermalChange 3 14499) (pwr (fun p => { p with tripHeld := true, powered := 3 }) clear) (fun t => !t.pwr.tripHeld && t.pwr.powered == 0x3FFF && (told 0xD001 t).map (fun x => x.2.take 2) == some [4, 52]) = true ∧
    leads (.thermalSet (host (leBytes 2 14800 ++ [0, 0]))) clear (fun t => t.pwr.thWarn == 14800 && (replied t).isSome) = true ∧
    leads (.memEccError 3 true 0 0 0) clear (fun t => t.outs.isEmpty) = true ∧ leads (.memEccError 1 false 2 9 0) clear (fun t => t.pwr.eccSramC == 1 && told 0xD004 t == some (33, [1, 0, 2, 0, 1, 0, 0, 0, 9, 0, 0, 0, 0, 0, 0, 0])) = true ∧
    leads (.memEccError 2 true 0 9 0) clear (fun t => t.pwr.eccMemU == 1 && t.pwr.eccSramU == 0 && (told 0xD004 t).isSome) = true := by decide +kernel

/-- An uncorrectable error in the dispatcher's memory that holds the task in state 3 ends it. -/
theorem test_task_error : let s := tasked 3 none 0
    let k := taskIn 3 none
    taskOf s (taskId k) = some k ∧ k.ending = false ∧
    leads (.memEccError 2 true 30 9 (taskId k)) s (fun t => t.pwr.eccMemU == 1 && t.pair.decisions.length == s.pair.decisions.length + 1) = true := by decide +kernel

/-- CALIB_READ of the first and last section; CALIB_WRITE in RETURN, in SERVE, during a write, and done; the end of its flash write. -/
theorem test_calibration : let w : List Byte := [1, 0, 0, 0] ++ zeros (calibLength 1)
    let job := pwr (fun p => { p with flash := [⟨0, some (host w)⟩] }) clear
    leads (.calibRead (host [1])) clear (fun t => (replied t).map (fun x => x.2.1) == some 0) = true ∧ leads (.calibRead (host [8])) clear (fun t => (replied t).map (fun x => x.2.1) == some 0) = true ∧
    answers (.calibWrite (host w)) (modVault (fun v => { v with life := 2 }) clear) 0x1102 0x2001 [] = true ∧ answers (.calibWrite (host w)) { clear with modes := { clear.modes with radio := 2 } } 0x1102 0x2002 [] = true ∧
    answers (.calibWrite (host w)) job 0x1102 0x2003 [] = true ∧ leads (.calibWrite (host w)) clear (fun t => t.pwr.flash.length == 1 && (replied t).isNone) = true ∧
    leads (.flashWriteComplete true) job (fun t => t.pwr.calUser && t.pwr.calCount == (clear.pwr.calCount + 1) % 65536 && nth t.pwr.calib 0 [9] == zeros (calibLength 1) && (told 0xD101 t).isSome) = true ∧
    leads (.flashWriteComplete false) job (fun t => t.pwr.calib == clear.pwr.calib && replied t == some (0x1102, 0x9101, [])) = true := by decide +kernel

/-! ### Resets, SLEEP and wake -/

/-- A reset that was asked for at 0, at a later GTC. -/
def due (cls cause target : Nat) (ns : Nat) (s : State) : State := later ns (pwr (fun p => { p with resets := [⟨cls, cause, target, 2, 0⟩] }) s)

/-- PORT resets 1 ms after the reply and 1 ns before, of ports 0 and 3; a Function Level Reset; PCIE_PERST_N low, and low still. -/
theorem test_port_resets : let s := { served session with banks := (served session).banks, locks := [1, 2] ++ List.replicate 62 0 }
    let perst := pwr (fun p => { p with perst := true }) s
    s.pwr.state ≠ 4 ∧
    leads (.portReset 0 1) (due 1 1 0 1000000 s) (fun t => (sessOf t 0).isNone && t.locks.all (fun o => o != 1) && t.locks.contains 2 && t.pwr.portResets == 1 && t.outs.any (fun o => match o with | .event 0xD001 33 _ => true | _ => false)) = true ∧
    leads (.portReset 0 1) (due 1 1 0 999999 s) (fun t => (sessOf t 0).isSome && t.pwr.portResets == 0) = true ∧ leads (.portReset 3 1) (due 1 1 3 1000000 s) (fun t => (sessOf t 0).isSome && t.pwr.portResets == 1) = true ∧
    leads (.portReset 0 2) s (fun t => (sessOf t 0).isNone) = true ∧ leads .pcieFlr s (fun t => (sessOf t 0).isNone) = true ∧ leads .pcieFlr perst (fun t => (sessOf t 0).isSome) = true ∧
    leads .pciePerstLow s (fun t => t.pwr.perst && (sessOf t 0).isNone) = true ∧ leads .pciePerstLow perst (fun t => (sessOf t 0).isSome) = true := by decide +kernel

/-- A device in SLEEP for a while. -/
def asleep (ns : Nat) : State := later ns (pwr (fun p => { p with state := 3, requested := 3, powered := 3 }) solo)

/-- Host-up in SLEEP and RUN; its end after 1 s and 1 ns before. -/
theorem test_host_up : let up (ns : Nat) : State := pwr (fun p => { p with hostUp := some 0 }) (asleep ns)
    leads (.hostUpStart true) (asleep 9) (fun t => t.pwr.hostUp == some 9 && bit t.pwr.powered 2) = true ∧ leads (.hostUpStart false) (asleep 9) (fun t => t.pwr.hostUp == some 9 && !t.pwr.perst) = true ∧
    leads (.hostUpStart true) clear (fun t => t.pwr.hostUp.isNone) = true ∧ leads (.hostUpStart true) (up 9) (fun t => t.pwr.hostUp == some 0) = true ∧
    leads .hostUpTimeout (up 1000000000) (fun t => t.pwr.hostUp.isNone && !bit t.pwr.powered 2) = true ∧ leads .hostUpTimeout (up 999999999) (fun t => t.pwr.hostUp.isSome) = true ∧ leads .hostUpTimeout (pwr (fun p => { p with wakes := 128 }) (up 1000000000)) (fun t => t.pwr.hostUp.isSome) = true ∧
    leads .hostUpTimeout (asleep 9) (fun t => t.pwr.hostUp.isNone && t.pwr.powered == 3) = true := by decide +kernel

/-- DOMAIN resets of the first and last domain, 1 ns early; the return after 1 ms, 1 ns early, and failed. -/
theorem test_domain_resets : let off (d ns : Nat) : State := later ns (pwr (fun p => { p with off := [⟨d, 0, 2, [0, 0, 0, 0]⟩] }) clear)
    let dom (d : Nat) : Bool := leads (.domainReset d) (due 2 16 d 1000000 clear) (fun t => !domOn t d && t.pwr.domainResets == 1 && t.pwr.powered == clear.pwr.powered)
    dom 2 = true ∧ dom 13 = true ∧ leads (.domainReset 13) (due 2 16 13 999999 clear) (fun t => domOn t 13) = true ∧ leads (.domainReturn 13 true) clear (fun t => t.outs.isEmpty) = true ∧
    leads (.domainReturn 13 true) (off 13 1000000) (fun t => domOn t 13 && told 0xD003 t == some (33, [13, 0, 0, 0] ++ leBytes 4 1000) && (told 0xD001 t).isSome) = true ∧
    leads (.domainReturn 13 true) (off 13 999999) (fun t => !domOn t 13) = true ∧ leads (.domainReturn 2 false) (off 2 1000000) (fun t => t.pwr.off.isEmpty && !domOn t 2) = true ∧
    leads (.domainReturn 10 true) (modVault (fun v => { v with recovery := false, running := 9 }) (off 10 1000000)) (fun t => !domOn t 10) = true := by decide +kernel

/-- The device after power-on and in the middle of work: a session, a lock, a CAN controller, a mailbox message, entries of the log. -/
def busy (ns : Nat) : State := later ns { solo with
  sessions := [some session, none, none, none, none]
  locks := [1] ++ List.replicate 63 0
  can := { solo.can with ctls := modNth solo.can.ctls 0 (fun x => { x with mode := 2, state := 3 }) }
  repl := { solo.repl with armed := 0x3FFF, ecl := { solo.repl.ecl with state := 0 } } }

/-- What WARM leaves of `busy`. -/
def warmed (cause : Nat) (t : State) : Bool :=
  t.pwr.state == 0 && t.sessions.all (fun v => v.isNone) && t.locks.all (fun o => o == 0) && t.repl.armed == 0x0802 && t.can == Can.zero && t.pwr.warmResets == 1 &&
    (told 0xD001 t).map (fun x => x.2.take 2) == some [3, BitVec.ofNat 8 cause] && t.tb.gtc != 0

/-- What COLD leaves of `busy`. -/
def cooled (cls cause : Nat) (t : State) : Bool :=
  t.pwr.state == 0 && t.sessions.all (fun v => v.isNone) && t.tb.gtc == 0 && t.can == Can.zero && t.comet.tail.isEmpty &&
    (told 0xD001 t).map (fun x => x.2.take 2) == some [BitVec.ofNat 8 cls, BitVec.ofNat 8 cause]

/-- WARM resets that are due, 1 ns early, in STANDBY's absence; a member of a pair. -/
theorem test_warm_resets : leads (.warmReset 32) (due 3 32 0xFF 1000000 (busy 0)) (warmed 32) = true ∧ leads (.warmReset 34) (due 3 34 0xFF 1000000 (busy 0)) (warmed 34) = true ∧
    leads (.warmReset 32) (due 3 32 0xFF 999999 (busy 0)) (fun t => t.pwr.warmResets == 0) = true ∧ (busy 0).pwr.fuse = none ∧
    leads (.warmReset 32) (due 3 32 0xFF 1000000 (modP (fun p => { p with mode := 1 }) (busy 0))) (fun t => t.pair.role == 2 && t.repl.armed == 0x2802) = true := by decide +kernel

/-- COLD resets by each cause, the power-on, and what does not reset. -/
theorem test_cold_resets : let dark := pwr (fun p => { p with state := 4, powered := 1 }) (busy 5)
    let cause (c : Nat) : State := pwr (fun p => { p with resets := [⟨4, c, 0xFF, 0xFF, 0⟩] }) (busy 5)
    let held (sel : Nat) (t : State) : Bool := t.pwr.powered == 3 && t.tb.gtc == 0 && t.pins.bootSel == sel && (told 0xD001 t).isNone && !efbexRuns t
    leads (.resetNLow 1 true) (busy 5) (fun t => cooled 4 49 t && t.pins.bootSel == 1 && t.pair.strapHigh && t.pwr.cycles == (busy 5).pwr.cycles) = true ∧
    leads (.resetNLow 3 true) (busy 5) (held 3) = true ∧ leads (.coldReset 52 0 false) (pwr (fun p => { p with tripHeld := true }) (cause 52)) (held 0) = true ∧
    leads (.resetNLow 0 false) dark (fun t => t.pwr.state == 4) = true ∧
    leads (.resetNLow 0 true) { busy 5 with pins := { (busy 5).pins with dramFails := true } } (fun t => cooled 4 49 t && t.vault.recovery && !t.pins.faultN) = true ∧
    leads (.resetNLow 0 true) (busy 5) (fun t => !t.vault.recovery && t.pins.faultN) = true ∧ leads (.coldReset 48 0 false) dark (fun t => cooled 4 48 t && t.pwr.cycles == (busy 5).pwr.cycles + 1) = true ∧
    leads (.coldReset 51 0 false) (cause 51) (cooled 4 51) = true ∧ leads (.coldReset 52 0 false) (cause 52) (cooled 4 52) = true ∧ leads (.coldReset 51 0 false) (cause 52) (fun t => t.tb.gtc == 5) = true := by decide +kernel

/-- The watchdog's bites: before the timeout, at it, within the window of 60 s of the last and 1 ns after it; the boot's 2 s. -/
theorem test_watchdog_bites : let bite (last : Option Gtc) (ns : Nat) : State := pwr (fun p => { p with wdTimeout := 100, wdWindow := 60, lastBite := last }) (busy ns)
    let boot (ns renewed : Nat) : State := pwr (fun p => { p with wdTimeout := 10000, bootSince := some 0, renewed := renewed }) (busy ns)
    biteDue (bite none 100000000) 7 = true ∧ biteDue (bite none 99999999) 7 = false ∧ biteDue (bite none 100000000) 8 = false ∧
    leads (.watchdogBite 7) (bite none 100000000) (fun t => warmed 33 t && t.pwr.bites == 1) = true ∧ leads (.watchdogBite 7) (bite none 99999999) (fun t => t.pwr.bites == 0) = true ∧
    escalates (bite (some 0) 60000000000) = true ∧ escalates (bite (some 0) 60000000001) = false ∧ leads (.watchdogBite 7) (bite (some 0) 60000000000) (fun t => t.tb.gtc == 0 && t.pwr.bites == 0) = true ∧
    leads (.watchdogBite 7) (bite (some 0) 60000000001) (warmed 33) = true ∧ leads .watchdogBootTimeout (boot 2000000000 254) (fun t => t.tb.gtc == 0) = true ∧
    leads .watchdogBootTimeout (boot 1999999999 254) (fun t => t.tb.gtc != 0) = true ∧ leads .watchdogBootTimeout (boot 2000000000 255) (fun t => t.tb.gtc != 0) = true := by decide +kernel

/-- The main supplies fail, with and without VBAT. -/
theorem test_supply_loss : let s := modVault (fun v => { v with share := some (zeros 32), tLocked := true, latch := true, events := 4 }) (modComet (fun c => { c with flushing := none }) (busy 5))
    leads .mainSupplyLoss s (fun t => t.pwr.state == 4 && t.sessions.all (fun v => v.isNone) && t.vault.share == s.vault.share && t.vault.tLocked && t.vault.latch && t.vault.events == 4 && t.pwr.powered == 1) = true ∧
    leads .mainSupplyLoss (pwr (fun p => { p with state := 4 }) s) (fun t => t.sessions.any (fun v => v.isSome)) = true ∧
    leads (.vbatReset 3 false) s (fun t => t.pwr.powered == 3 && (told 0xD001 t).isNone && t.vault.share.isNone) = true ∧ leads (.vbatReset 1 false) s (fun t => cooled 5 64 t && t.vault.share.isNone && !t.vault.tLocked && !t.vault.latch && t.pwr.cycles == 1 && t.pwr.rtc == 0 && t.vault.kcv == s.vault.kcv) = true := by decide +kernel

/-- SLEEP: entered, not asked for, deferred; each wake source that holds, and that does not; a retained image that fails. -/
theorem test_sleep : let ask := pwr (fun p => { p with requested := 3, owed := some (host []) }) (busy 5)
    leads .sleepEntry ask (fun t => t.pwr.state == 3 && t.pwr.powered == 3 && t.pwr.avsV == t.pwr.avsLo && (sessOf t 0).isNone && replied t == some (0x1001, 0, [0, 3, 0, 0]) && (told 0xD002 t).isSome) = true ∧
    leads .sleepEntry (busy 5) (fun t => t.pwr.state == 0) = true ∧ leads .sleepEntry (modP (fun p => { p with role := 1 }) ask) (fun t => t.pwr.state == 0) = true ∧ leads .sleepEntry { ask with repl := { ask.repl with ecl := { ask.repl.ecl with state := 1 } } } (fun t => t.pwr.state == 0) = true := by decide +kernel

/-- Wakes: the time at its second and the one before, the pair's pin, host-up, and a code of none. -/
theorem test_wake : let rtc (x : Nat) : State := pwr (fun p => { p with wakeTime := 7, rtc := x, wakeState := 1 }) (asleep 5)
    let pin := modP (fun p => { p with pinIn := true }) (asleep 5)
    wakeHolds 1 (rtc 7) = true ∧ wakeHolds 1 (rtc 6) = false ∧ wakeHolds 3 pin = true ∧ wakeHolds 7 (pwr (fun p => { p with hostUp := some 0 }) (asleep 5)) = false ∧ wakeHolds 7 (pwr (fun p => { p with hostUp := some 0, wakes := 128 }) (asleep 5)) = true ∧
    wakeHolds 4 (pwr (fun p => { p with wakes := 16 }) (asleep 5)) = true ∧ wakeHolds 5 (pwr (fun p => { p with wakes := 16 }) (asleep 5)) = false ∧
    leads (.wakeSource 1 true) (rtc 7) (fun t => t.pwr.state == 1 && t.pwr.lastWake == 1 && t.pwr.wakeTime == 0 && t.pwr.powered == 0x3FFF && (told 0xD002 t).map (fun x => x.2.take 5) == some [3, 1, 1, 0, 1]) = true ∧
    leads (.wakeSource 1 true) (rtc 6) (fun t => t.pwr.state == 3) = true ∧ leads (.wakeSource 3 false) pin (fun t => t.pwr.state == 0 && t.pwr.lastWake == 3 && (told 0xD001 t).map (fun x => x.2.take 2) == some [3, 35]) = true ∧
    leads (.wakeSource 0 true) (asleep 5) (fun t => t.pwr.state == 3) = true ∧ leads (.warmReset 35) (asleep 5) (fun t => t.pwr.state == 0 && t.tb.gtc == 5) = true := by decide +kernel

/-- Commands that keep GTC and the fuses. -/
theorem test_clock_and_fuses : leads (.getInfo (host [])) (busy 5) (fun t => t.tb.gtc == 5 && t.vault.kcv == (busy 5).vault.kcv) = true ∧ leads .mainSupplyLoss (busy 5) (fun t => t.tb.gtc == 5) = true := by decide +kernel

/-! ### The algorithms of other standards -/

/-- AES-128 and AES-256 of FIPS 197, appendix C. -/
theorem test_aes : let p := beBytes 16 0x00112233445566778899aabbccddeeff
    aes (beBytes 16 0x000102030405060708090a0b0c0d0e0f) p = beBytes 16 0x69c4e0d86a7b0430d8cdb78070b4c55a ∧
    aes (beBytes 32 0x000102030405060708090a0b0c0d0e0f101112131415161718191a1b1c1d1e1f) p = beBytes 16 0x8ea2b7ca516745bfeafc49904b496089 := by decide +kernel

/-- Test case 4 of the GCM specification, and its tag with one bit changed. -/
theorem test_gcm : let k := beBytes 16 0xfeffe9928665731c6d6a8f9467308308
    let n := beBytes 12 0xcafebabefacedbaddecaf888
    let a := beBytes 20 0xfeedfacedeadbeeffeedfacedeadbeefabaddad2
    let p := beBytes 60 0xd9313225f88406e5a55909c5aff5269a86a7a9531534f7da2e4c303d8a318a721c3c0c95956809532fcf0e2449a6b525b16aedf5aa0de657ba637b39
    let c := beBytes 76 0x42831ec2217774244b7221b784d0d49ce3aa212f2c02a4e035c17e2329aca12e21d514b25466931c7d8f6a5aac84aa051ba30b396a0aac973d58e0915bc94fbc3221a5db94fae95ae7121a47
    gcmSeal k n a p = c ∧ gcmOpen k n a c = some p ∧ gcmOpen k n a (patch c 75 [0x46]) = none := by decide +kernel

/-- Packet vector 1 of RFC 3610. -/
theorem test_ccm : let k := beBytes 16 0xc0c1c2c3c4c5c6c7c8c9cacbcccdcecf
    let n := beBytes 13 0x00000003020100a0a1a2a3a4a5
    let a := beBytes 8 0x0001020304050607
    let p := beBytes 23 0x08090a0b0c0d0e0f101112131415161718191a1b1c1d1e
    let c := beBytes 31 0x588c979a61c663d2f066d0c2c0f989806d5f6b61dac38417e8d12cfdf926e0
    ccmSeal 8 k n a p = c ∧ ccmOpen 8 k n a c = some p ∧ ccmOpen 8 k n [] c = none := by decide +kernel

/-- SHA-384 of "abc" (FIPS 180-4's example). -/
theorem test_sha384 : sha384 (ascii "abc") = beBytes 48 0xcb00753f45a35e8bb5a03d699ac65007272c32ab0eded1631a8b605a43ff5bed8086072ba1e7cc2358baeca134c825a7 := by decide +kernel

/-- The first vector of RFC 7748, section 5.2. -/
theorem test_x25519 : x25519 (beBytes 32 0xa546e36bf0527c9d3b16154b82465edd62144c0ac1fc5a18506a2244ba449ac4)
    (beBytes 32 0xe6db6867583030db3594c1a424b15f7c726624ec26b3353b10a903a6d0ab1c4c) =
    beBytes 32 0xc3da55379de9c6908e94ea4df28d084f32eccf03491c71f754b4075577a28552 := by decide +kernel

/-- The P-256 key of RFC 6979, A.2.5, and its signature of "sample"; of another message it is none. -/
theorem test_ecdsa : let pub := leBytes 32 0x60fed4ba255a9d31c961eb74c6356d68c049b8923b61fa6ce669622e60f29fb6 ++ leBytes 32 0x7903fe1008b8bc99a41ae9e95628bc64f2f1b20c2d7e9f5177a3c294d4462299
    let sig := leBytes 32 0xefd48b2aacb6a8fd1140dd9cd45e81d69d2c877b56aaf991c34d0ea84eaf3716 ++ leBytes 32 0xf7cb1c942d657c41d436c7a1b6e29f65f3e900dbb9aff4064dc4ab2f843acda8
    ecdsaPublic 256 (leBytes 40 0xc9afa9d845ba75166b5c215767b1d6934e50c3db36e89b127b8a622b120f6720) = pub ∧
    ecdsaVerify pub (sha256 (ascii "sample")) sig = true ∧ ecdsaVerify pub (sha256 (ascii "test")) sig = false := by decide +kernel

end Sys2Proof.Tests
end

section
/-!
PROOFS. What the parts of PORT and DOMAIN resets leave alone: power and CAN (`Aside`), for every operation of another block that a
domain's loss or return of power calls.
-/
namespace Sys2Proof.Machine
open Sys2Proof
set_option Elab.async false

/-! ### Operations that touch neither power nor CAN -/

/-- `t` has the power and CAN state of `s`, and has put out all that `s` had. -/
structure Aside (s t : State) : Prop where
  pwr : t.pwr = s.pwr
  can : t.can = s.can
  grows : Grows s t

theorem Aside.refl (s : State) : Aside s s := ⟨rfl, rfl, Grows.refl s⟩

/-- An update of other fields. -/
theorem Aside.of_eq {s t : State} (hp : t.pwr = s.pwr) (hc : t.can = s.can) (ho : t.outs = s.outs) : Aside s t :=
  ⟨hp, hc, Grows.of_eq ho⟩

section
variable {s t u : State}

theorem Aside.trans (h : Aside s t) (k : Aside t u) : Aside s u :=
  ⟨k.pwr.trans h.pwr, k.can.trans h.can, h.grows.trans k.grows⟩

/-- What sending and reporting move is none of it. -/
theorem Aside.of_hush (h : Aside s t) (e : hush u = hush t) (g : Grows t u) : Aside s u :=
  h.trans ⟨hush_pwr e, hush_can e, g⟩

theorem Aside.foldl {α : Type} {f : State → α → State} {l : List α} (hf : ∀ v a, Aside s v → Aside s (f v a)) (h : Aside s t) :
    Aside s (l.foldl f t) := List.foldlRecOn l f h (fun v hv a _ => hf v a hv)

theorem Aside.ite {c : Prop} [Decidable c] (ht : Aside s t) (hu : Aside s u) : Aside s (if c then t else u) := by
  split
  · exact ht
  · exact hu

theorem aside_put {o : Out} (h : Aside s t) : Aside s (put o t) := h.trans ⟨rfl, rfl, grows_put o t⟩

theorem aside_emitAt {g : Gtc} {code src : Nat} {p : List Byte} (h : Aside s t) : Aside s (emitAt g code src p t) :=
  h.of_hush (hush_emitAt _ _ _ _ _) ((grows_put _ _).trans (grows_emitAt _ _ _ _ _))

theorem aside_emit {code src : Nat} {p : List Byte} (h : Aside s t) : Aside s (emit code src p t) := aside_emitAt h

theorem aside_modeChange {src dim old new forcing : Nat} (h : Aside s t) : Aside s (modeChange src dim old new forcing t) :=
  aside_emit h

theorem aside_reply {r : Req} {op st : Nat} {p : List Byte} (h : Aside s t) : Aside s (reply r op st p t) :=
  h.of_hush (hush_reply _ _ _ _ _) (grows_reply _ _ _ _ _)

theorem aside_sendLink {type : Nat} {prio : Bool} {p : List Byte} (h : Aside s t) : Aside s (sendLink type prio p t) := by
  unfold sendLink
  split
  · exact h
  · exact .ite (h.trans ⟨rfl, rfl, ⟨_, rfl⟩⟩) h

theorem aside_modPair {f : Pair → Pair} (h : Aside s t) : Aside s (modPair f t) := h.trans (.of_eq rfl rfl rfl)
theorem aside_modVault {f : Vault → Vault} (h : Aside s t) : Aside s (modVault f t) := h.trans (.of_eq rfl rfl rfl)
theorem aside_modGnss {f : Gnss → Gnss} (h : Aside s t) : Aside s (modGnss f t) := h.trans (.of_eq rfl rfl rfl)
theorem aside_modDp {f : Dispatch → Dispatch} (h : Aside s t) : Aside s (modDp f t) := h.trans (.of_eq rfl rfl rfl)
theorem aside_modArb {f : Arbiter → Arbiter} (h : Aside s t) : Aside s (modArb f t) := h.trans (.of_eq rfl rfl rfl)
theorem aside_modHead {i : Nat} {f : Head → Head} (h : Aside s t) : Aside s (modHead i f t) := h.trans (.of_eq rfl rfl rfl)

/-! ### Transits, tasks and claims -/

theorem aside_unknownEvent {b raised cause id stop : Nat} (h : Aside s t) : Aside s (unknownEvent b raised cause id stop t) := by
  unfold unknownEvent
  exact .ite h (aside_emit h)

theorem aside_watchEnds {id b : Nat} (h : Aside s t) : Aside s (watchEnds id b t) := by
  unfold watchEnds
  exact .ite (aside_unknownEvent (h.trans (.of_eq rfl rfl rfl))) h

theorem aside_trChange {x : Transit} {change source : Nat} (h : Aside s t) : Aside s (trChange x change source t) := aside_emit h

theorem aside_dropTransit {x : Transit} {change source : Nat} (h : Aside s t) : Aside s (dropTransit x change source t) := by
  unfold dropTransit
  extract_lets s1
  have h1 : Aside s s1 := aside_trChange (aside_modDp (aside_modArb h))
  split
  · exact h1
  · exact aside_watchEnds h1

theorem aside_modTask {id : Nat} {f : Task → Task} (h : Aside s t) : Aside s (modTask id f t) := aside_modDp h

theorem aside_dpTask {k : Task} {old new cause : Nat} (h : Aside s t) : Aside s (dpTask k old new cause t) := aside_emit h

theorem aside_withdraw {id : Nat} (h : Aside s t) : Aside s (withdraw id t) := by
  unfold withdraw
  split
  · exact h
  · extract_lets s1 _ s2 s3 s4
    have h1 : Aside s s1 := by
      simp only [s1]
      split
      · exact h
      · exact aside_dropTransit h
    have h2 : Aside s s2 := h1.trans (.of_eq rfl rfl rfl)
    have h3 : Aside s s3 := by
      simp only [s3]
      split
      · exact h2
      · exact h2.trans (.of_eq rfl rfl rfl)
    have h4 : Aside s s4 := aside_modTask h3
    exact .ite (aside_dpTask h4) h4

theorem aside_releaseNow {id source : Nat} (h : Aside s t) : Aside s (releaseNow id source t) := by
  unfold releaseNow
  split
  · exact h
  · exact .ite (aside_dropTransit h) (.ite h (aside_trChange (aside_modDp (aside_modArb h))))

theorem aside_modLevel {l : Nat} {f : Level → Level} (h : Aside s t) : Aside s (modLevel l f t) := aside_modDp h

theorem aside_dropClaim {l change id : Nat} (h : Aside s t) : Aside s (dropClaim l change id t) := by
  unfold dropClaim
  split
  · exact h
  · extract_lets s1
    have h1 : Aside s s1 := aside_modLevel (aside_modArb h)
    exact aside_emit (.ite (aside_modDp h1) h1)

theorem aside_headLeaves {l head granted : Nat} (h : Aside s t) : Aside s (headLeaves l head granted t) := by
  unfold headLeaves
  extract_lets v s1 s2
  have h1 : Aside s s1 := aside_modLevel h
  have h2 : Aside s s2 := .ite (aside_dropClaim h1) h1
  exact .ite (aside_emit (aside_modLevel h2)) h1

theorem aside_modDpCount {b : Nat} {f : DpCount → DpCount} (h : Aside s t) : Aside s (modDpCount b f t) :=
  h.trans (.of_eq rfl rfl rfl)

theorem aside_commitTaskEnd {id st cause : Nat} (h : Aside s t) : Aside s (commitTaskEnd id st cause t) := by
  unfold commitTaskEnd
  split
  · exact h
  · extract_lets isHead s1 s2
    have h1 : Aside s s1 := aside_modDp (aside_dpTask h)
    have h2 : Aside s s2 := by
      simp only [s2]
      split
      · exact h1
      · exact .ite (aside_modDpCount h1) (.ite (aside_releaseNow (aside_modDpCount h1)) (aside_modDp (aside_modDpCount h1)))
    exact .ite (aside_headLeaves h2) h2

theorem aside_tasksLost (h : Aside s t) : Aside s (tasksLost t) := by
  unfold tasksLost
  exact aside_modDp (.foldl (fun _ _ => aside_commitTaskEnd) (.foldl (fun _ _ => aside_withdraw) h))

/-! ### Eclipse -/

theorem aside_eclStateReport {old new cause src master note : Nat} (h : Aside s t) :
    Aside s (eclStateReport old new cause src master note t) := by
  unfold eclStateReport
  exact .ite (aside_modeChange (aside_emit h)) (aside_emit h)

theorem aside_mirror (h : Aside s t) : Aside s (mirror t) := by
  unfold mirror
  exact .ite (aside_sendLink h) h

theorem aside_enterEclipse {code src master note : Nat} (h : Aside s t) : Aside s (enterEclipse code src master note t) := by
  unfold enterEclipse
  extract_lets old s1 _ _ s2
  have h2 : Aside s s2 := h.trans (.of_eq rfl rfl rfl)
  exact aside_mirror (.foldl (fun _ _ => aside_withdraw) (aside_eclStateReport h2))

theorem aside_eclTrigger {code active src latched : Nat} (h : Aside s t) : Aside s (eclTrigger code active src latched t) :=
  aside_emit h

theorem aside_latchTrigger {code src master note : Nat} (h : Aside s t) : Aside s (latchTrigger code src master note t) := by
  unfold latchTrigger standbyTrigger
  extract_lets _ s1 _ _ _ s2
  have h1 : Aside s s1 := h.trans (.of_eq rfl rfl rfl)
  have h2 : Aside s s2 := h1.trans (.of_eq rfl rfl rfl)
  exact .ite (aside_sendLink (aside_eclTrigger h2))
    (.ite (aside_eclTrigger (h1.trans (.of_eq rfl rfl rfl))) (aside_enterEclipse h1))

theorem aside_evalLasting {code src : Nat} {cond : Bool} (h : Aside s t) : Aside s (evalLasting code src cond t) := by
  unfold evalLasting
  extract_lets was _ s1 s2 s3
  have h1 : Aside s s1 := .ite h (h.trans (.of_eq rfl rfl rfl))
  have h3 : Aside s s3 := aside_eclTrigger (h.trans (.of_eq rfl rfl rfl))
  exact .ite (.ite (.ite h1 (aside_latchTrigger h1)) (.ite h1 (aside_eclTrigger h1))) (.ite (.ite (aside_sendLink h3) h3) h)

theorem aside_dropStopFrames {c : Nat} (h : Aside s t) : Aside s (dropStopFrames c t) :=
  aside_evalLasting (h.trans (.of_eq rfl rfl rfl))

theorem aside_standbyEclipse (h : Aside s t) : Aside s (standbyEclipse t) := by
  unfold standbyEclipse
  extract_lets q _ s1
  have h1 : Aside s s1 := h.trans (.of_eq rfl rfl rfl)
  exact aside_modeChange (aside_emit h1)

theorem aside_spotsEndAtReset (h : Aside s t) : Aside s (spotsEndAtReset t) := by
  unfold spotsEndAtReset
  extract_lets latch s1
  have hl {v : State} (hv : Aside s v) : Aside s (latch v) := hv.trans (.of_eq rfl rfl rfl)
  have h1 : Aside s s1 := .ite (hl h) (.ite (hl (aside_standbyEclipse h)) (aside_enterEclipse h))
  exact .ite (h1.trans (.of_eq rfl rfl rfl)) h

/-! ### Pair link and roles -/

theorem aside_setLinkState {new cause : Nat} (h : Aside s t) : Aside s (setLinkState new cause t) := by
  unfold setLinkState
  exact .ite h (aside_emit (aside_modPair h))

theorem aside_releaseLocks {m : Nat} (h : Aside s t) : Aside s (releaseLocks m t) := h.trans (.of_eq rfl rfl rfl)

theorem aside_linkDown (h : Aside s t) : Aside s (linkDown t) := by
  unfold linkDown refuseForwards
  exact .foldl (fun _ _ => aside_reply) (aside_modPair (aside_releaseLocks (aside_modPair h)))

theorem aside_sendHello (h : Aside s t) : Aside s (sendHello t) := by
  have hn : Aside s (withNonce t) := by
    unfold withNonce
    split
    · exact h
    · exact aside_modPair (h.trans (.of_eq rfl rfl rfl))
  exact aside_sendLink hn

theorem aside_authFailed (h : Aside s t) : Aside s (authFailed t) := by
  unfold authFailed
  exact .ite h (aside_linkDown (aside_setLinkState h))

theorem aside_setLanes {lanes : List Bool} {cause : Nat} (h : Aside s t) : Aside s (setLanes lanes cause t) := by
  unfold setLanes
  extract_lets base s1 new s2
  have h2 : Aside s s2 := aside_setLinkState (aside_modPair h)
  exact .ite (aside_linkDown h2) (.ite (.ite (aside_sendHello h2) (aside_authFailed h2)) h2)

theorem aside_setQualified {q : Bool} {cause : Nat} (h : Aside s t) : Aside s (setQualified q cause t) := by
  unfold setQualified
  exact .ite h (aside_emit (aside_modPair h))

theorem aside_setAlone {a : Bool} (h : Aside s t) : Aside s (setAlone a t) := by
  unfold setAlone
  exact .ite h (aside_emit (aside_modPair h))

theorem aside_refuseHeld (h : Aside s t) : Aside s (refuseHeld t) := by
  unfold refuseHeld
  exact .foldl (fun _ _ => aside_reply) (aside_modPair h)

theorem aside_pairRole {old new cause : Nat} (h : Aside s t) : Aside s (pairRole old new cause t) := by
  unfold pairRole
  extract_lets s1
  have h1 : Aside s s1 := aside_emit h
  exact .ite h1 (aside_modeChange h1)

theorem aside_toStandby {cause : Nat} (h : Aside s t) : Aside s (toStandby cause t) := by
  unfold toStandby
  extract_lets old s1 s2
  have h1 : Aside s s1 := aside_refuseHeld (aside_setAlone (aside_setQualified (.ite (aside_evalLasting h) h)))
  exact aside_pairRole (aside_modPair h1)

/-! ### Berths, heads and antenna links -/

theorem aside_retainFilter {b old new : Nat} (h : Aside s t) : Aside s (retainFilter b old new t) := by
  unfold retainFilter
  split
  · exact h
  · have hf {x : Filter} : Aside s (setFilter b x t) := h.trans (.of_eq rfl rfl rfl)
    exact .ite hf (.ite (.ite hf (h.trans (.of_eq rfl rfl rfl))) h)

theorem aside_dropSession {b : Nat} (h : Aside s t) : Aside s (dropSession b t) := by
  unfold dropSession
  split
  · exact h
  · exact aside_modVault h

theorem aside_clearBerths (h : Aside s t) : Aside s (clearBerths t) := by
  unfold clearBerths
  extract_lets s1
  have h1 : Aside s s1 := .foldl (fun _ _ hv => aside_retainFilter (aside_dropSession hv)) h
  exact h1.trans (.of_eq rfl rfl rfl)

theorem aside_headOff {i : Nat} (h : Aside s t) : Aside s (headOff t i) := by
  have hr : Aside s (refuseTransfers i t) := by
    unfold refuseTransfers
    refine .foldl (fun v q hv => ?_) (aside_modHead h)
    split
    · exact hv
    · exact aside_reply hv
  have hl : Aside s (dropLines i (refuseTransfers i t)) := hr.trans ⟨rfl, rfl, ⟨_, rfl⟩⟩
  exact aside_modHead hl

theorem aside_setLink {p new cause : Nat} (h : Aside s t) : Aside s (setLink p new cause t) := by
  unfold setLink
  extract_lets old s1 s2 s3 s4
  have h1 : Aside s s1 := aside_modGnss h
  have h2 : Aside s s2 := .foldl (fun _ _ => aside_modGnss) h1
  have h3 : Aside s s3 := .ite (aside_modGnss h2) h2
  have h4 : Aside s s4 := .ite (aside_put h3) h3
  exact .ite h (aside_emit h4)

theorem aside_gnssPowerLoss (h : Aside s t) : Aside s (gnssPowerLoss t) := by
  unfold gnssPowerLoss
  exact .foldl (fun _ _ hv => aside_modGnss (aside_setLink hv)) (aside_modGnss h)

theorem aside_gnssReturn (h : Aside s t) : Aside s (gnssReturn t) := by
  unfold gnssReturn
  exact .foldl (fun _ _ hv => .ite (aside_setLink hv) hv) h

/-! ### Nodes and captures -/

theorem aside_addNode {parent : Nat} {label : List Byte} {usage depth flags : Nat} (h : Aside s t) :
    Aside s (addNode parent label usage depth flags t).2 := by
  unfold addNode
  split
  · exact h
  · dsimp only
    exact aside_modVault h

theorem aside_machineFor {id : Nat} (h : Aside s t) : Aside s (machineFor id t).2 := by
  unfold machineFor
  split
  · exact h
  · split
    · exact h
    · split
      · exact h
      · rename_i f _
        split
        · exact h
        · have hn : Aside s (addNode f.handle (leBytes 8 id) 2 3 20 t).2 := aside_addNode h
          split <;> rename_i he <;> rw [he] at hn <;> dsimp only at hn ⊢
          · exact hn
          · exact aside_emit hn

theorem aside_deriveSession {b : Nat} (h : Aside s t) : Aside s (deriveSession b t) := by
  unfold deriveSession addSession
  extract_lets x
  refine .ite ?_ h
  have hm : Aside s (machineFor x.machine t).2 := aside_machineFor h
  split
  · exact hm
  · exact aside_addNode hm

theorem aside_epochNodes (h : Aside s t) : Aside s (epochNodes t) := by
  unfold epochNodes
  split
  · exact h
  · extract_lets e keep s1
    have h1 : Aside s s1 := aside_modVault h
    exact .foldl (fun _ _ hv => .ite hv (aside_addNode hv)) h1

theorem aside_drainCaptures {n : Nat} (h : Aside s t) : Aside s (drainCaptures n t) := by
  unfold drainCaptures
  extract_lets c
  have h1 : Aside s (modCapture n (fun c => { c with queue := [] }) t) := h.trans (.of_eq rfl rfl rfl)
  exact .ite (.foldl (fun _ _ => aside_emitAt) h1) h

end

end Sys2Proof.Machine
end

section
/-!
PROOFS. PORT resets (R586): what restarts of a port, what stays of the others, and the report.
-/
namespace Sys2Proof.Machine
open Sys2Proof
set_option Elab.async false

/-! ### What a settled state keeps -/

/-- What `core` keeps is the same in two states that differ at most in what it leaves out. -/
theorem Same.field {α : Type} (f : State → α) (hf : ∀ u, f (core u) = f u) {s t : State} (h : Same s t) : f s = f t := by
  rw [← hf s, ← hf t, h]

theorem same_settle (s : State) : Same (settle s) s := core_settle s

@[simp] theorem settle_hellos (s : State) : (settle s).hellos = s.hellos := (same_settle s).field State.hellos (fun _ => rfl)
@[simp] theorem settle_viols (s : State) : (settle s).viols = s.viols := (same_settle s).field State.viols (fun _ => rfl)
@[simp] theorem settle_rings (s : State) : (settle s).rings = s.rings := (same_settle s).field State.rings (fun _ => rfl)
@[simp] theorem settle_spi (s : State) : (settle s).spi = s.spi := (same_settle s).field State.spi (fun _ => rfl)
@[simp] theorem settle_locks (s : State) : (settle s).locks = s.locks := (same_settle s).field State.locks (fun _ => rfl)
@[simp] theorem settle_sqs (s : State) : (settle s).sqs = s.sqs := (same_settle s).field State.sqs (fun _ => rfl)
@[simp] theorem settle_gnss (s : State) : (settle s).gnss = s.gnss := (same_settle s).field State.gnss (fun _ => rfl)
@[simp] theorem settle_bl (s : State) : (settle s).bl = s.bl := (same_settle s).field State.bl (fun _ => rfl)
@[simp] theorem settle_vault (s : State) : (settle s).vault = s.vault := (same_settle s).field State.vault (fun _ => rfl)
@[simp] theorem settle_can (s : State) : (settle s).can = s.can := (same_settle s).field State.can (fun _ => rfl)
@[simp] theorem settle_pwr (s : State) : (settle s).pwr = s.pwr := (same_settle s).field State.pwr (fun _ => rfl)
@[simp] theorem settle_armed (s : State) : (settle s).repl.armed = s.repl.armed :=
  (same_settle s).field (fun u => u.repl.armed) (fun _ => rfl)
@[simp] theorem settle_arbiter (s : State) : (settle s).repl.tr = s.repl.tr := (same_settle s).field (fun u => u.repl.tr) (fun _ => rfl)
@[simp] theorem settle_tasks (s : State) : (settle s).repl.dp.tasks = s.repl.dp.tasks :=
  (same_settle s).field (fun u => u.repl.dp.tasks) (fun _ => rfl)
@[simp] theorem settle_clw (s : State) : (settle s).comet.clw = s.comet.clw :=
  (same_settle s).field (fun u => u.comet.clw) (fun _ => rfl)

/-- Where no session is, sending and settling make none. -/
theorem SessKept.none {s t : State} (h : SessKept s t) {m : Nat} (hm : sessOf s m = none) : sessOf t m = none := by
  cases ht : sessOf t m with
  | none => rfl
  | some w =>
    obtain ⟨v, hv, _⟩ := h m w ht
    rw [hm] at hv
    cases hv

/-! ### Steps that only report or work on the spill queues -/

/-- A state without what reporting moves and without its spill queues. -/
def spillHush (s : State) : State := hush { s with sqs := [] }

theorem spillHush_of_hush {s t : State} (h : hush s = hush t) : spillHush s = spillHush t :=
  congrArg (fun u : State => { u with sqs := [] }) h

/-- `t` follows `s` by reporting, sending and what the spill queues do: the rest stays, and no session comes of it. -/
structure Quiet (s t : State) : Prop where
  rest : spillHush t = spillHush s
  grows : Grows s t
  sess : SessKept s t

namespace Quiet
variable {s t u : State}

theorem refl (s : State) : Quiet s s := ⟨rfl, Grows.refl s, SessKept.refl s⟩

theorem trans (h : Quiet s t) (k : Quiet t u) : Quiet s u := ⟨k.rest.trans h.rest, h.grows.trans k.grows, h.sess.trans k.sess⟩

theorem of_hush (h : hush t = hush s) (g : Grows s t) (k : SessKept s t) : Quiet s t := ⟨spillHush_of_hush h, g, k⟩

/-- What reporting and spill queues do not move. -/
theorem field {α : Type} (f : State → α) (hf : ∀ v, f (spillHush v) = f v) (h : Quiet s t) : f t = f s := by
  rw [← hf t, h.rest, hf s]

theorem foldl {α : Type} {f : State → α → State} {l : List α} (hf : ∀ v a, Quiet s v → Quiet s (f v a)) (h : Quiet s t) :
    Quiet s (l.foldl f t) := List.foldlRecOn l f h (fun v hv a _ => hf v a hv)

theorem aside (h : Quiet s t) : Aside s t := ⟨h.field State.pwr (fun _ => rfl), h.field State.can (fun _ => rfl), h.grows⟩

end Quiet

section
variable {s t : State}

theorem quiet_emit {code src : Nat} {p : List Byte} (h : Quiet s t) : Quiet s (emit code src p t) :=
  h.trans (.of_hush (hush_emit _ _ _ _) (grows_emit _ _ _ _) (sessKept_emit _ _ _ _))

theorem quiet_limited {code key period : Nat} {f : Nat → State → State} (h : Quiet s t) (hf : ∀ n v, Quiet s v → Quiet s (f n v)) :
    Quiet s (limited code key period f t) := by
  have hl {l : List Limiter} : Quiet s { t with limiters := l } := h.trans ⟨rfl, .of_eq rfl, .of_eq rfl⟩
  unfold limited
  split
  · exact hf _ _ hl
  · split
    · exact hl
    · exact hf _ _ hl

theorem quiet_modSq {q : Nat} {f : SpillQ → SpillQ} (h : Quiet s t) : Quiet s (modSq q f t) := h.trans ⟨rfl, .of_eq rfl, .of_eq rfl⟩

theorem quiet_sqAbandon {q : Nat} (h : Quiet s t) : Quiet s (sqAbandon q t) := by
  unfold sqAbandon
  split
  · exact h
  · unfold sqFault
    exact quiet_limited (quiet_modSq h) (fun _ _ => quiet_emit)

theorem quiet_sqPortReset {m : Nat} (h : Quiet s t) : Quiet s (sqPortReset m t) := by
  unfold sqPortReset
  refine .foldl (fun v q hv => ?_) h
  extract_lets v1 v2
  have h1 : Quiet s v1 := by
    simp only [v1]
    split
    · exact quiet_sqAbandon hv
    · exact hv
  have h2 : Quiet s v2 := by
    simp only [v2]
    split
    · exact quiet_modSq h1
    · exact h1
  exact quiet_modSq h2

theorem quiet_portReports {m : Nat} {before : State} (h : Quiet s t) : Quiet s (portReports m before t) := by
  unfold portReports
  extract_lets s1 s2
  have h1 : Quiet s s1 := by
    simp only [s1]
    split
    · exact h
    · exact quiet_emit h
  have h2 : Quiet s s2 := by
    simp only [s2]
    split
    · exact h1
    · exact quiet_emit h1
  split
  · exact quiet_emit h2
  · exact h2

theorem quiet_reportWaits {m : Nat} (h : Quiet s t) : Quiet s (reportWaits m t) := by
  unfold reportWaits
  split
  · exact h
  · exact h.trans (.of_hush ((hush_waitNotice _ _ _).trans (hush_itemBells _ _ _))
      ((grows_itemBells _ _ _).trans (grows_waitNotice _ _ _)) ((sessKept_itemBells _ _ _).trans (sessKept_waitNotice _ _ _)))

end

/-! ### RESET_REPORT -/

theorem eclShown_modPwr (f : Power → Power) (s : State) : eclShown (modPwr f s) = eclShown s := rfl
theorem sessOf_modPwr (f : Power → Power) (s : State) (m : Nat) : sessOf (modPwr f s) m = sessOf s m := rfl
theorem grows_modPwr (f : Power → Power) (s : State) : Grows s (modPwr f s) := Grows.of_eq rfl

/-- RESET_REPORT of a PORT or DOMAIN reset (Table 17-14) is kept, sent, and waits where no session is. -/
theorem resetReport_eq (cls cause target master cleared : Nat) (s : State) (hc : cls ≤ 2) :
    resetReport cls cause target master cleared s = [0, 1, 2, 3].foldl (fun t m => reportWaits m t)
      (emit 0xD001 33 (portReport cls cause target master cleared s)
        (modPwr (fun q => { q with report := gtcBytes s ++ portReport cls cause target master cleared s }) s)) := by
  unfold resetReport
  extract_lets p
  have hp : p = portReport cls cause target master cleared s := by
    simp [p, portReport, hc, leBytes, zeros]
  rw [hp]

theorem quiet_resetReport (cls cause target master cleared : Nat) (s : State) (hc : cls ≤ 2) :
    ∃ r, Quiet (modPwr (fun q => { q with report := r }) s) (resetReport cls cause target master cleared s) := by
  rw [resetReport_eq _ _ _ _ _ _ hc]
  exact ⟨_, .foldl (fun _ _ => quiet_reportWaits) (quiet_emit (.refl _))⟩

theorem reported_resetReport (cls cause target master cleared : Nat) (s a : State) (hc : cls ≤ 2) (hg : Grows s a)
    (ht : a.tb.gtc = s.tb.gtc) :
    Reported s (resetReport cls cause target master cleared a) 0xD001 33 (portReport cls cause target master cleared a) := by
  rw [resetReport_eq _ _ _ _ _ _ hc]
  generalize portReport cls cause target master cleared a = p
  have hg' : Grows s (modPwr (fun q => { q with report := gtcBytes a ++ p }) a) := hg.trans (.of_eq rfl)
  have hw (u : State) : Grows u ([0, 1, 2, 3].foldl (fun t m => reportWaits m t) u) :=
    (Quiet.foldl (fun _ _ => quiet_reportWaits) (.refl u)).grows
  exact newOuts_mono (hg'.trans (grows_emit _ _ _ _)) (reported_emit 0xD001 33 p s _ hg' ht) (hw _)

/-! ### Parts of a port -/

/-- An entry that was changed, or the one that stands for a missing one. -/
theorem nth_modNth_self {α : Type} (l : List α) (m : Nat) (f : α → α) (d : α) :
    nth (modNth l m f) m d = if m < l.length then f (nth l m d) else d := by
  unfold nth modNth
  by_cases h : m < l.length <;> simp [List.getD_eq_getElem?_getD, h]

theorem nth_replicate_default {α : Type} (n m : Nat) (d : α) : nth (List.replicate n d) m d = d := by
  unfold nth
  rw [List.getD_eq_getElem?_getD, List.getElem?_replicate]
  split <;> rfl

theorem nth_set_default {α : Type} (l : List α) (m : Nat) (d : α) : nth (l.set m d) m d = d := by
  unfold nth
  by_cases h : m < l.length <;> simp [List.getD_eq_getElem?_getD, h]

/-- A port restarted but for its spill queues. -/
def portRestart (m : Nat) (s : State) : State :=
  modClw m (fun _ => Clw.zero) (releaseLocks m (modViol m (fun v => { v with
    cause := 0
    badAccess := 0
    tagFails := []
    helloFails := 0
    seqAbuse := [] }) (modBank m (fun b => { b with
    outb := Bank.zero.outb
    mbxIrqEn := 0
    mbxDiscarded := satAdd 16 b.mbxDiscarded (unread m s)
    dblOut := 0
    dblIrqEn := 0 }) { s with
    sessions := s.sessions.set m none
    hellos := s.hellos.set m none
    txq := s.txq.set m []
    rings := if m = 0 then Rings.zero else s.rings
    spi := if m = 3 then ⟨[], false⟩ else s.spi })))

/-- What the spill queues do may come after the log's window restarts. -/
theorem quiet_modClw (m : Nat) (f : Clw → Clw) {s t : State} (h : Quiet s t) : Quiet (modClw m f s) (modClw m f t) :=
  ⟨congrArg (modClw m f) h.rest, (Grows.of_eq rfl).trans (h.grows.trans (.of_eq rfl)), (SessKept.of_eq rfl).trans (h.sess.trans (.of_eq rfl))⟩

theorem quiet_portParts (m : Nat) (s : State) : Quiet (portRestart m s) (portParts m s) :=
  quiet_modClw m _ (quiet_sqPortReset (.refl _))

section
variable (m : Nat) (s : State)

theorem portParts_field {α : Type} (f : State → α) (hf : ∀ v, f (spillHush v) = f v) : f (portParts m s) = f (portRestart m s) :=
  (quiet_portParts m s).field f hf

theorem portParts_grows : Grows s (portParts m s) := (Grows.of_eq rfl).trans (quiet_portParts m s).grows

@[simp] theorem portParts_hellos : (portParts m s).hellos = s.hellos.set m none := portParts_field m s State.hellos (fun _ => rfl)
@[simp] theorem portParts_rings : (portParts m s).rings = if m = 0 then Rings.zero else s.rings :=
  portParts_field m s State.rings (fun _ => rfl)
@[simp] theorem portParts_spi : (portParts m s).spi = if m = 3 then ⟨[], false⟩ else s.spi :=
  portParts_field m s State.spi (fun _ => rfl)
@[simp] theorem portParts_locks : (portParts m s).locks = s.locks.map (fun o => if o = m + 1 then 0 else o) :=
  portParts_field m s State.locks (fun _ => rfl)
@[simp] theorem portParts_viols : (portParts m s).viols = modNth s.viols m (fun v => { v with
    cause := 0
    badAccess := 0
    tagFails := []
    helloFails := 0
    seqAbuse := [] }) := portParts_field m s State.viols (fun _ => rfl)
@[simp] theorem portParts_repl : (portParts m s).repl = s.repl := portParts_field m s State.repl (fun _ => rfl)
@[simp] theorem portParts_tb : (portParts m s).tb = s.tb := portParts_field m s State.tb (fun _ => rfl)
@[simp] theorem portParts_vault : (portParts m s).vault = s.vault := portParts_field m s State.vault (fun _ => rfl)
@[simp] theorem portParts_pwr : (portParts m s).pwr = s.pwr := portParts_field m s State.pwr (fun _ => rfl)
@[simp] theorem portParts_clw : (portParts m s).comet.clw = modNth s.comet.clw m (fun _ => Clw.zero) :=
  portParts_field m s (fun u => u.comet.clw) (fun _ => rfl)
@[simp] theorem portParts_eclShown : eclShown (portParts m s) = eclShown s :=
  portParts_field m s eclShown (fun _ => rfl)

/-- The port's own session has ended. -/
theorem portParts_sessOf : sessOf (portParts m s) m = none :=
  (quiet_portParts m s).sess.none (show sessOf (portRestart m s) m = none from nth_set_default _ _ _)

/-- No session comes of it. -/
theorem portParts_sessKept : SessKept s (portParts m s) :=
  .trans (b := portRestart m s) (fun k w hw => ⟨w, sessOf_set_none s m k w hw, .refl w⟩) (quiet_portParts m s).sess

end

/-! ### PORT reset -/

/-- What a PORT reset leaves: the port has restarted, the others stand as they stood, and RESET_REPORT says it. -/
def PortRestarted (s : State) (m cause master : Nat) (t : State) : Prop :=
  sessOf t m = none ∧ nth t.hellos m none = none ∧ frozen t m = false ∧
    (∀ o ∈ t.locks, o ≠ m + 1) ∧ clwOf t m = Clw.zero ∧ t.pwr.portResets = min (s.pwr.portResets + 1) (2 ^ 32 - 1) ∧
    (m = 0 → t.rings = Rings.zero) ∧ (m = 3 → t.spi = ⟨[], false⟩) ∧ (m ≠ 0 → t.rings = s.rings) ∧
    (∀ k, k ≠ m → clwOf t k = clwOf s k ∧ frozen t k = frozen s k) ∧ t.repl.armed = s.repl.armed ∧ t.vault = s.vault ∧
    Reported s t 0xD001 33 (portReport 1 cause m master (if m = 0 then 103 else 101) s)

/-- The groups of a PORT reset as a number (Table 17-6). -/
theorem portMap_eq (m : Nat) : portMap m = if m = 0 then 103 else 101 := by
  unfold portMap
  split <;> rfl

/-- The parts of a port restarted, and the reset counted. -/
def portCounted (m : Nat) (s : State) : State := modPwr (fun p => { p with portResets := satAdd 32 p.portResets 1 }) (portParts m s)

theorem portCounted_grows (m : Nat) (s : State) : Grows s (portCounted m s) :=
  (portParts_grows m s).trans (grows_modPwr _ _)

/-- After its parts and its count, a PORT reset only keeps its report and says what it has done. -/
theorem quiet_portReset (m cause master : Nat) (s : State) :
    ∃ r, Quiet (modPwr (fun p => { p with report := r }) (portCounted m s)) (portReset m cause master s) := by
  obtain ⟨r, hr⟩ := quiet_resetReport 1 cause m master (portMap m) (portCounted m s) (by decide)
  exact ⟨r, quiet_portReports hr⟩

/-- What neither reporting nor a count moves of the parts that have restarted. -/
theorem portReset_field {α : Type} (m cause master : Nat) (s : State) (f : State → α) (hf : ∀ v, f (spillHush v) = f v)
    (hp : ∀ g v, f (modPwr g v) = f v) : f (portReset m cause master s) = f (portParts m s) := by
  obtain ⟨r, hq⟩ := quiet_portReset m cause master s
  rw [hq.field f hf, hp, portCounted, hp]

theorem reported_portReset (m cause master : Nat) (s : State) :
    Reported s (portReset m cause master s) 0xD001 33 (portReport 1 cause m master (portMap m) s) := by
  have hg : Grows s (portCounted m s) := portCounted_grows m s
  have he : eclShown (portCounted m s) = eclShown s := by rw [portCounted, eclShown_modPwr, portParts_eclShown]
  have hp : portReport 1 cause m master (portMap m) (portCounted m s) = portReport 1 cause m master (portMap m) s := by
    unfold portReport
    rw [he]
    simp [portCounted]
  have hrep := reported_resetReport 1 cause m master (portMap m) s (portCounted m s) (by decide) hg (by simp [portCounted])
  obtain ⟨r, hr⟩ := quiet_resetReport 1 cause m master (portMap m) (portCounted m s) (by decide)
  rw [hp] at hrep
  have hk : Grows (portCounted m s) (modPwr (fun q => { q with report := r }) (portCounted m s)) := grows_modPwr _ _
  exact newOuts_mono (hg.trans (hk.trans hr.grows)) hrep (quiet_portReports (.refl _)).grows

theorem portReset_restarts (m cause master : Nat) (s : State) : PortRestarted s m cause master (settle (portReset m cause master s)) := by
  obtain ⟨r, hq⟩ := quiet_portReset m cause master s
  have hk : Grows (portCounted m s) (modPwr (fun p => { p with report := r }) (portCounted m s)) := grows_modPwr _ _
  have hg : Grows s (portReset m cause master s) := (portCounted_grows m s).trans (hk.trans hq.grows)
  have hclw : (portReset m cause master s).comet.clw = modNth s.comet.clw m (fun _ => Clw.zero) := by
    rw [portReset_field m cause master s (fun u => u.comet.clw) (fun _ => rfl) (fun _ _ => rfl), portParts_clw]
  have hviols := (portReset_field m cause master s State.viols (fun _ => rfl) (fun _ _ => rfl)).trans (portParts_viols m s)
  have hlocks := (portReset_field m cause master s State.locks (fun _ => rfl) (fun _ _ => rfl)).trans (portParts_locks m s)
  have hrings := (portReset_field m cause master s State.rings (fun _ => rfl) (fun _ _ => rfl)).trans (portParts_rings m s)
  have hspi := (portReset_field m cause master s State.spi (fun _ => rfl) (fun _ _ => rfl)).trans (portParts_spi m s)
  have hhellos := (portReset_field m cause master s State.hellos (fun _ => rfl) (fun _ _ => rfl)).trans (portParts_hellos m s)
  have hrepl := (portReset_field m cause master s State.repl (fun _ => rfl) (fun _ _ => rfl)).trans (portParts_repl m s)
  have hvault := (portReset_field m cause master s State.vault (fun _ => rfl) (fun _ _ => rfl)).trans (portParts_vault m s)
  have hpwr := hq.field State.pwr (fun _ => rfl)
  have hsess : sessOf (modPwr (fun p => { p with report := r }) (portCounted m s)) m = none := by
    rw [sessOf_modPwr, portCounted, sessOf_modPwr, portParts_sessOf]
  refine ⟨(hq.sess.trans (sessKept_settle _)).none hsess, ?_, ?_, ?_, ?_, ?_, ?_, ?_, ?_, ?_, ?_, ?_, ?_⟩
  · rw [settle_hellos, hhellos, nth_set_default]
  · simp only [frozen, violOf, settle_viols, hviols, nth_modNth_self]
    split <;> rfl
  · rw [settle_locks, hlocks]
    intro _ ho
    obtain ⟨o, -, rfl⟩ := List.mem_map.mp ho
    split <;> omega
  · simp only [clwOf, settle_clw, hclw, nth_modNth_self, ite_self]
  · rw [settle_pwr, hpwr]
    simp [portCounted, satAdd]
  · intro h
    rw [settle_rings, hrings, if_pos h]
  · intro h
    rw [settle_spi, hspi, if_pos h]
  · intro h
    rw [settle_rings, hrings, if_neg h]
  · intro k hk
    simp only [clwOf, frozen, violOf, settle_clw, settle_viols, hclw, hviols, nth_modNth_ne _ _ _ _ _ hk, and_self]
  · rw [settle_armed, hrepl]
  · rw [settle_vault, hvault]
  · rw [← portMap_eq]
    exact reported_settle hg (reported_portReset m cause master s)

end Sys2Proof.Machine
end

section
/-!
PROOFS. DOMAIN resets (R587, R590): what each domain loses, and its return.
-/
namespace Sys2Proof.Machine
open Sys2Proof
set_option Elab.async false

/-! ### A domain loses its power -/

/-- Two ports that lose their power together, and what is said of it. -/
def portsOff (m n : Nat) (s : State) : State := portReports m s (portReports n s (portParts m (portParts n s)))

theorem quiet_portsOff (m n : Nat) (s : State) : Quiet (portParts m (portParts n s)) (portsOff m n s) :=
  quiet_portReports (quiet_portReports (.refl _))

theorem portsOff_pwr (m n : Nat) (s : State) : (portsOff m n s).pwr = s.pwr := by
  rw [(quiet_portsOff m n s).aside.pwr, portParts_pwr, portParts_pwr]

theorem aside_withMac {s t : State} {x : MacOwn} (h : Aside s t) : Aside s { t with mac := x } := h.trans (.of_eq rfl rfl rfl)

theorem aside_fleetOff (s : State) : Aside s (fleetOff s) := by
  unfold fleetOff
  extract_lets s1 s2 _ s3
  have h1 : Aside s s1 := aside_modPair (aside_modDp (aside_tasksLost (aside_spotsEndAtReset (.refl s))))
  have h2 : Aside s s2 := aside_clearBerths (aside_modArb h1)
  have h3 : Aside s s3 := aside_withMac h2
  exact .ite (aside_modeChange (aside_toStandby h3)) (.ite (aside_modPair (aside_setQualified h3)) h3)

theorem aside_canOff (s : State) : Aside { s with can := Can.zero } (canOff s) := .foldl (fun _ _ => aside_dropStopFrames) (.refl _)

/-- The loss of a domain's power moves nothing of the power state itself. -/
theorem domainOff_pwr (d : Nat) (s : State) : (domainOff d s).pwr = s.pwr := by
  have hheads (l : List Nat) : Aside s (l.foldl headOff s) := .foldl (fun _ _ => aside_headOff) (.refl s)
  unfold domainOff
  split
  · exact portsOff_pwr 3 0 s
  · exact portsOff_pwr 2 1 s
  · exact (aside_gnssPowerLoss (.refl s)).pwr
  · rfl
  · rfl
  · exact (hheads _).pwr
  · exact (hheads _).pwr
  · exact (aside_fleetOff s).pwr
  · rfl
  · rfl
  · exact (aside_setLanes (.refl s)).pwr
  · exact (aside_canOff s).pwr
  · rfl

/-! ### PD_HOST and PD_ETH: their ports -/

theorem portsOff_sessOf (m n : Nat) (s : State) : sessOf (portsOff m n s) m = none ∧ sessOf (portsOff m n s) n = none :=
  ⟨(quiet_portsOff m n s).sess.none (portParts_sessOf m _),
    (quiet_portsOff m n s).sess.none ((portParts_sessKept m _).none (portParts_sessOf n s))⟩

theorem portsOff_rings (m n : Nat) (s : State) :
    (portsOff m n s).rings = if m = 0 then Rings.zero else if n = 0 then Rings.zero else s.rings := by
  rw [(quiet_portsOff m n s).field State.rings (fun _ => rfl), portParts_rings, portParts_rings]

theorem portsOff_spi (m n : Nat) (s : State) :
    (portsOff m n s).spi = if m = 3 then ⟨[], false⟩ else if n = 3 then ⟨[], false⟩ else s.spi := by
  rw [(quiet_portsOff m n s).field State.spi (fun _ => rfl), portParts_spi, portParts_spi]

/-! ### PD_GNSS: channels and time -/

/-- No tracking channel, and no time from GNSS. -/
def GnssDark (s : State) : Prop := s.gnss.chans = [] ∧ s.gnss.timeValid = false

theorem gnssDark_setLink_off (p cause : Nat) {s : State} (h : GnssDark s) : GnssDark (setLink p 0 cause s) := by
  have hb (f : Nat → Band → Band) (l : List Nat) (u : State) (hu : GnssDark u) :
      GnssDark (l.foldl (fun t b => modBand (4 * p + b) (f b) t) u) :=
    List.foldlRecOn l _ hu (fun _ hv _ _ => hv)
  unfold setLink
  extract_lets old s1 s2 s3 s4
  split
  · exact h
  · have h2 : GnssDark s2 := hb _ _ _ h
    have h4 : s4 = s2 := by simp [s4, s3]
    rw [h4]
    unfold GnssDark gnLink
    rw [emit_gnss]
    exact h2

theorem gnssDark_powerLoss (s : State) : GnssDark (gnssPowerLoss s) :=
  List.foldlRecOn _ _ ⟨rfl, rfl⟩ (fun _ hu p _ => gnssDark_setLink_off p 0 hu)

/-! ### PD_FLEET: the arbiter's tables and the tasks -/

theorem clearBerths_fleet (s : State) : (clearBerths s).repl.tr = s.repl.tr ∧ (clearBerths s).repl.dp = s.repl.dp := by
  have hstep (u : State) (e : Nat × Berth) (old new : Nat) : (retainFilter e.1 old new (dropSession e.1 u)).repl = u.repl := by
    have hd : (dropSession e.1 u).repl = u.repl := by
      unfold dropSession
      split <;> rfl
    rw [← hd]
    unfold retainFilter
    split
    · rfl
    · split
      · rfl
      · split
        · split <;> rfl
        · rfl
  have hfold : (s.repl.mac.berths.foldl (fun (t : State) e =>
      retainFilter e.1 e.2.state (if e.2.set.closed then 5 else 0) (dropSession e.1 t)) s).repl = s.repl :=
    List.foldlRecOn (motive := fun u => u.repl = s.repl) _ _ rfl (fun u hu e _ => (hstep u e _ _).trans hu)
  exact ⟨congrArg (fun x => x.tr) hfold, congrArg (fun x => x.dp) hfold⟩

theorem evalLasting_ends_repl (code src : Nat) (s : State) : (evalLasting code src false s).repl = s.repl := by
  unfold evalLasting
  dsimp only
  split
  · contradiction
  · split
    · have h : (eclTrigger code 0 src 0 { s with ecl := { s.ecl with active := s.ecl.active.filter (fun x => x != (code, src)) } }).repl =
          s.repl := emit_repl _ _ _ _
      split
      · rw [hush_repl (hush_sendLink _ _ _ _), h]
      · exact h
    · rfl

theorem setQualified_repl (q : Bool) (cause : Nat) (s : State) : (setQualified q cause s).repl = s.repl := by
  unfold setQualified
  split
  · rfl
  · rw [emit_repl]; rfl

/-- A member that turns STANDBY keeps its replicated state. -/
theorem toStandby_repl (cause : Nat) (s : State) : (toStandby cause s).repl = s.repl := by
  have hp (old : Nat) (u : State) : (pairRole old 2 cause u).repl = u.repl := by
    unfold pairRole
    dsimp only
    split <;> simp
  have hr (u : State) : (refuseHeld u).repl = u.repl := by
    unfold refuseHeld
    extract_lets rs rs2
    have hf := hush_repl (hush_foldl (fun t (x : Req × Nat) => reply x.1 x.2 0x2004 [] t) (fun _ _ => hush_reply _ _ _ _ _) rs2
      (modPair (fun p => { p with decisions := [], switchover := none }) u))
    exact hf.trans (modPair_repl _ _)
  have ha (a : Bool) (u : State) : (setAlone a u).repl = u.repl := by
    unfold setAlone
    split
    · rfl
    · rw [emit_repl]; rfl
  have he : (if s.pair.role = 1 then evalLasting 7 4 false s else s).repl = s.repl := by
    split
    · exact evalLasting_ends_repl _ _ _
    · rfl
  unfold toStandby
  dsimp only
  rw [hp, modPair_repl, hr, ha, setQualified_repl, he]

theorem fleetOff_cleared (s : State) :
    (fleetOff s).repl.tr.transits = [] ∧ (fleetOff s).repl.tr.zones = [] ∧ (fleetOff s).repl.tr.claims = [] ∧
      (fleetOff s).repl.dp.tasks = [] := by
  unfold fleetOff
  extract_lets s1 s2 _ s3
  obtain ⟨htr, hdp⟩ := clearBerths_fleet (modArb (fun a => { a with
    transits := []
    zones := []
    claims := []
    cfg := TrConfig.default
    berths := [] }) s1)
  have h3 : s3.repl.tr.transits = [] ∧ s3.repl.tr.zones = [] ∧ s3.repl.tr.claims = [] ∧ s3.repl.dp.tasks = [] :=
    ⟨congrArg (fun a => a.transits) htr, congrArg (fun a => a.zones) htr, congrArg (fun a => a.claims) htr,
      congrArg (fun a => a.tasks) hdp⟩
  split
  · rw [modeChange_repl, toStandby_repl]
    exact h3
  · split
    · rw [modPair_repl, setQualified_repl]
      exact h3
    · exact h3

/-! ### A domain returns -/

/-- The return of a domain's power leaves alone which domains are off and powered, and what was put out. -/
theorem domainOn_keeps (o : DomOff) (s : State) :
    (domainOn o s).pwr.off = s.pwr.off ∧ (domainOn o s).pwr.powered = s.pwr.powered ∧ Grows s (domainOn o s) := by
  have hkeep {t : State} (h : Aside s t) : t.pwr.off = s.pwr.off ∧ t.pwr.powered = s.pwr.powered ∧ Grows s t :=
    ⟨congrArg Power.off h.pwr, congrArg Power.powered h.pwr, h.grows⟩
  have hheads (hs : List Nat) : Aside s (headReports hs o.ports s) :=
    .foldl (fun _ _ hv => .ite hv (aside_emit hv)) (.refl s)
  unfold domainOn
  split
  · exact hkeep (aside_gnssReturn (.refl s))
  · exact hkeep (hheads _)
  · exact hkeep (hheads _)
  · extract_lets s1 s2
    obtain ⟨hoff, hpow, hg⟩ := hkeep (aside_epochNodes (.foldl (fun _ _ => aside_deriveSession) (aside_modVault (.refl s))) : Aside s s1)
    have h2 : Aside s2 ([0, 1, 2, 3].foldl (fun t n => drainCaptures n t) s2) := .foldl (fun _ _ => aside_drainCaptures) (.refl s2)
    exact ⟨(congrArg Power.off h2.pwr).trans hoff, (congrArg Power.powered h2.pwr).trans hpow, hg.trans (.trans (.of_eq rfl) h2.grows)⟩
  · exact hkeep (.foldl (fun _ _ => aside_dropStopFrames) (.refl s))
  · exact hkeep (.refl s)

end Sys2Proof.Machine
end

section
/-!
PROOFS. The statement on PORT and DOMAIN resets and host-up.
-/
namespace Sys2Proof.Machine
open Sys2Proof
set_option Elab.async false

/-! ### What the commands run -/

theorem exec_portReset (m cause : Nat) (s : State) : exec (.portReset m cause) s = execPortReset m cause s := rfl
theorem exec_pcieFlr (s : State) : exec .pcieFlr s = execPcieFlr s := rfl
theorem exec_pciePerstLow (s : State) : exec .pciePerstLow s = execPciePerstLow s := rfl
theorem exec_hostUpStart (spi : Bool) (s : State) : exec (.hostUpStart spi) s = execHostUpStart spi s := rfl
theorem exec_hostUpTimeout (s : State) : exec .hostUpTimeout s = execHostUpTimeout s := rfl
theorem exec_domainReset (d : Nat) (s : State) : exec (.domainReset d) s = execDomainReset d s := rfl
theorem exec_domainReturn (d : Nat) (ok : Bool) (s : State) : exec (.domainReturn d ok) s = execDomainReturn d ok s := rfl

/-! ### PORT reset -/

/-- What a PORT reset leaves does not depend on the list of resets that are due, nor on the level of PCIE_PERST_N. -/
theorem PortRestarted.of_modPwr {f : Power → Power} {s t : State} {m cause master : Nat}
    (h : PortRestarted (modPwr f s) m cause master t) (hr : (f s.pwr).portResets = s.pwr.portResets)
    (hc : (f s.pwr).cycles = s.pwr.cycles) (hh : (f s.pwr).hours = s.pwr.hours) (ht : (f s.pwr).rtc = s.pwr.rtc) :
    PortRestarted s m cause master t := by
  have hp (map : Nat) : portReport 1 cause m master map (modPwr f s) = portReport 1 cause m master map s := by
    simp only [portReport, modPwr_pwr, modPwr_vault, eclShown_modPwr, hc, hh, ht]
  unfold PortRestarted at h ⊢
  rw [modPwr_pwr, hr, hp] at h
  exact h

/-- PORT_RESET by a RESET command that has been due for 1 ms (R90, R586). -/
theorem portReset_due (m : Nat) (s : State) (d : ResetDue) (h4 : s.pwr.state ≠ 4) (hm : m ≤ 3) (hd : dueReset 1 1 m s = some d) :
    ∃ t, exec (.portReset m 1) s = .next t ∧ PortRestarted s m 1 d.master t := by
  refine ⟨settle (portReset m 1 d.master (takeDue 1 1 m s)), ?_, (portReset_restarts m 1 d.master (takeDue 1 1 m s)).of_modPwr rfl rfl rfl rfl⟩
  rw [exec_portReset, execPortReset, if_neg h4, if_pos rfl, hd]
  simp only [hm, ↓reduceIte, done]

/-- PORT_RESET as PCIe asks for it (R60, R583). -/
theorem portReset_pcie (cause : Nat) (s : State) (hc : cause = 2 ∨ cause = 3) (h4 : s.pwr.state ≠ 4) :
    ∃ t, exec (.portReset 0 cause) s = .next t ∧ PortRestarted s 0 cause 0xFF t := by
  have h1 : cause ≠ 1 := by omega
  exact ⟨_, by rw [exec_portReset, execPortReset, if_neg h4, if_neg h1, if_pos ⟨rfl, hc⟩, done], portReset_restarts 0 cause 0xFF s⟩

theorem pcieFlr_restarts (s : State) (h4 : s.pwr.state ≠ 4) (hp : s.pwr.perst = false) :
    ∃ t, exec .pcieFlr s = .next t ∧ PortRestarted s 0 2 0xFF t := by
  have hn : ¬ (s.pwr.state = 4 ∨ s.pwr.perst = true) := by simp [h4, hp]
  exact ⟨_, by rw [exec_pcieFlr, execPcieFlr, if_neg hn, done], portReset_restarts 0 2 0xFF s⟩

/-- PCIE_PERST_N low, which is kept as its level. -/
def perstLow (s : State) : State := modPwr (fun p => { p with perst := true }) s

/-- Where it is low already, nothing changes. -/
theorem perstLow_of_low {s : State} (h : s.pwr.perst = true) : perstLow s = s := by
  have hp : ({ s.pwr with perst := true } : Power) = { s.pwr with perst := s.pwr.perst } := by rw [h]
  exact congrArg (fun p => { s with pwr := p }) hp

theorem pciePerstLow_restarts (s : State) (h4 : s.pwr.state ≠ 4) (hp : s.pwr.perst = false) :
    ∃ t, exec .pciePerstLow s = .next t ∧ t.pwr.perst = true ∧ PortRestarted s 0 3 0xFF t := by
  refine ⟨settle (portReset 0 3 0xFF (perstLow s)), ?_, ?_,
    (portReset_restarts 0 3 0xFF (perstLow s)).of_modPwr rfl rfl rfl rfl⟩
  · have hn : ¬ s.pwr.perst = true := by simp [hp]
    rw [exec_pciePerstLow, execPciePerstLow, if_neg hn]
    dsimp only
    rw [if_neg h4]
    rfl
  · obtain ⟨r, hq⟩ := quiet_portReset 0 3 0xFF (perstLow s)
    rw [settle_pwr, hq.aside.pwr, portCounted, modPwr_pwr, modPwr_pwr, portParts_pwr]
    rfl

/-- In STANDBY only the level of PCIE_PERST_N is kept. -/
theorem pciePerstLow_standby (s : State) (h4 : s.pwr.state = 4) : exec .pciePerstLow s = done (perstLow s) := by
  rw [exec_pciePerstLow, execPciePerstLow]
  by_cases hp : s.pwr.perst = true
  · rw [if_pos hp, perstLow_of_low hp]
  · rw [if_neg hp]
    dsimp only
    rw [if_pos h4]
    rfl

theorem portResets_hold : Claims.PortResets := by
  intro m s
  refine ⟨fun h4 => ⟨fun cause => ?_, ?_, pciePerstLow_standby s h4⟩, fun cause h1 hp => ?_, fun h4 =>
    ⟨fun d hm hd => portReset_due m s d h4 hm hd, fun hd => ?_, fun cause hc => portReset_pcie cause s hc h4,
      fun hp => ⟨pcieFlr_restarts s h4 hp, pciePerstLow_restarts s h4 hp⟩, fun hp => ⟨?_, ?_⟩⟩⟩
  · rw [exec_portReset, execPortReset, if_pos h4]
  · rw [exec_pcieFlr, execPcieFlr, if_pos (.inl h4)]
  · rw [exec_portReset, execPortReset, if_neg h1, if_neg hp, ite_self]
  · rw [exec_portReset, execPortReset, if_neg h4, if_pos rfl, hd]
  · rw [exec_pcieFlr, execPcieFlr, if_pos (.inr hp)]
  · rw [exec_pciePerstLow, execPciePerstLow, if_pos hp]

/-! ### Host-up -/

theorem hostUp_holds : Claims.HostUp := by
  intro s
  refine ⟨fun h3 hn spi => ?_, fun h => ?_, fun g h3 hg ht hw => ?_, fun g hg h => ?_, fun hn => ?_⟩
  · have hc : s.pwr.state = 3 ∧ s.pwr.hostUp.isNone = true := ⟨h3, by rw [hn]; rfl⟩
    rw [exec_hostUpStart, execHostUpStart, if_pos hc]
    cases spi <;> rfl
  · have hc : ¬ (s.pwr.state = 3 ∧ s.pwr.hostUp.isNone = true) := by
      rintro ⟨h3, hn⟩
      exact h.elim (fun h => h h3) (fun h => h (Option.isNone_iff_eq_none.mp hn))
    exact ⟨by rw [exec_hostUpStart, execHostUpStart, if_neg hc]; rfl, by rw [exec_hostUpStart, execHostUpStart, if_neg hc]; rfl⟩
  · simp only [exec_hostUpTimeout, execHostUpTimeout, hg]
    rw [if_pos ⟨h3, ht, hw⟩]
    rfl
  · have hc : ¬ (s.pwr.state = 3 ∧ sec ≤ sinceNs s g ∧ bit s.pwr.wakes 7 = false) := by
      rintro ⟨h3, ht, hw⟩
      rcases h with h | h | h
      · exact h h3
      · exact Nat.not_le.mpr h ht
      · rw [h] at hw
        cases hw
    simp only [exec_hostUpTimeout, execHostUpTimeout, hg]
    rw [if_neg hc]
  · simp only [exec_hostUpTimeout, execHostUpTimeout, hn]

/-! ### DOMAIN reset -/

/-- Where every master has no session, the table of sessions is empty. -/
theorem sessions_none {s : State} (h : ∀ m, sessOf s m = none) : ∀ v ∈ s.sessions, v = none := by
  intro v hv
  obtain ⟨i, hi, rfl⟩ := List.mem_iff_getElem.mp hv
  simpa [sessOf, nth, List.getD_eq_getElem?_getD, hi] using h i

/-- What Table 17-6 says that a domain loses (R12, R590). -/
def DomainLost (d : Nat) (s t : State) : Prop :=
  (d = 2 → t.rings = Rings.zero ∧ t.spi = ⟨[], false⟩ ∧ sessOf t 0 = none ∧ sessOf t 3 = none) ∧
    (d = 3 → sessOf t 1 = none ∧ sessOf t 2 = none ∧ t.rings = s.rings) ∧
    (d = 4 → t.gnss.chans = [] ∧ t.gnss.timeValid = false) ∧
    (d = 6 → t.bl.filters = []) ∧
    (d = 9 → t.repl.tr.transits = [] ∧ t.repl.tr.zones = [] ∧ t.repl.tr.claims = [] ∧ t.repl.dp.tasks = []) ∧
    (d = 10 → (∀ v ∈ t.sessions, v = none) ∧ t.vault.ops = [] ∧ t.vault.cells = [] ∧
      ∀ n ∈ t.vault.nodes, bit n.flags 0 = true ∨ n.depth = 0) ∧
    (d = 11 → t.bl.filters = [] ∧ t.repl.dp.tasks = [] ∧ ∀ q ∈ t.sqs, q.packets = []) ∧
    (d = 13 → t.can = Can.zero)

theorem domainOff_loses (d : Nat) (s : State) : DomainLost d s (settle (domainOff d s)) := by
  have hsess {u : State} {m : Nat} (h : sessOf u m = none) : sessOf (settle u) m = none := (sessKept_settle u).none h
  refine ⟨?_, ?_, ?_, ?_, ?_, ?_, ?_, ?_⟩
  · rintro rfl
    obtain ⟨h3, h0⟩ := portsOff_sessOf 3 0 s
    refine ⟨?_, ?_, hsess h0, hsess h3⟩
    · rw [settle_rings]
      exact portsOff_rings 3 0 s
    · rw [settle_spi]
      exact portsOff_spi 3 0 s
  · rintro rfl
    obtain ⟨h2, h1⟩ := portsOff_sessOf 2 1 s
    refine ⟨hsess h1, hsess h2, ?_⟩
    rw [settle_rings]
    exact portsOff_rings 2 1 s
  · rintro rfl
    rw [settle_gnss]
    exact gnssDark_powerLoss s
  · rintro rfl
    rw [settle_bl]
    rfl
  · rintro rfl
    rw [settle_arbiter, settle_tasks]
    exact fleetOff_cleared s
  · rintro rfl
    rw [settle_vault]
    refine ⟨sessions_none (fun m => hsess ?_), rfl, rfl, ?_⟩
    · exact nth_replicate_default 5 m none
    · intro n hn
      simpa using (List.mem_filter.mp hn).2
  · rintro rfl
    rw [settle_bl, settle_tasks, settle_sqs]
    refine ⟨rfl, rfl, ?_⟩
    intro q hq
    obtain ⟨x, -, rfl⟩ := List.mem_map.mp hq
    rfl
  · rintro rfl
    rw [settle_can]
    exact (aside_canOff s).can

/-- Whether a domain is off already, as DOMAIN_RESET asks it. -/
theorem off_any_iff (l : List DomOff) (d : Nat) : l.any (fun o => o.dom == d) = true ↔ ∃ o ∈ l, o.dom = d := by simp

/-- A domain that a RESET command turns off now. -/
def domOffNow (d : Nat) (x : ResetDue) (s : State) : DomOff :=
  ⟨d, s.tb.gtc, x.master, (List.range 4).map (fun h => (headOfRh s h).port)⟩

/-- The reset taken from those that are due, the domain listed as off, and the reset counted. -/
def domainCounted (d : Nat) (x : ResetDue) (s : State) : State :=
  modPwr (fun p => { p with
    off := p.off ++ [domOffNow d x s]
    domainResets := satAdd 32 p.domainResets 1 }) (takeDue 2 16 d s)

theorem domOn_congr {s t : State} (h : t.pwr = s.pwr) (k : Nat) : domOn t k = domOn s k := by rw [domOn, domOn, h]

theorem domOn_domainCounted (d : Nat) (x : ResetDue) (s : State) (k : Nat) :
    domOn (domainCounted d x s) k = if k = d then false else domOn s k := by
  have h : domOn (domainCounted d x s) k = (bit s.pwr.powered k && !((s.pwr.off ++ [domOffNow d x s]).any (fun o => o.dom == k))) := rfl
  rw [h, List.any_append]
  by_cases hk : k = d
  · simp [hk, domOffNow]
  · have hd : (d == k) = false := by simpa using Ne.symm hk
    simp [hk, domOffNow, domOn, hd]

theorem domainReset_off (d : Nat) (s : State) (x : ResetDue) (hx : dueReset 2 16 d s = some x) (hd : within d 2 13 = true)
    (hoff : ∀ o ∈ s.pwr.off, o.dom ≠ d) : ∃ t, exec (.domainReset d) s = .next t ∧
      domOn t d = false ∧ t.pwr.domainResets = min (s.pwr.domainResets + 1) (2 ^ 32 - 1) ∧
      (∃ o ∈ t.pwr.off, o.dom = d ∧ o.since = s.tb.gtc ∧ o.master = x.master) ∧ t.pwr.powered = s.pwr.powered ∧
      (∀ k, k ≠ d → domOn t k = domOn s k) ∧ DomainLost d s t := by
  have hany : ¬ (within d 2 13 = false ∨ s.pwr.off.any (fun o => o.dom == d) = true) := by
    rw [off_any_iff]
    rintro (h | ⟨o, ho, he⟩)
    · rw [hd] at h
      cases h
    · exact hoff o ho he
  have hpwr : (settle (domainOff d (domainCounted d x s))).pwr = (domainCounted d x s).pwr := (settle_pwr _).trans (domainOff_pwr d _)
  refine ⟨settle (domainOff d (domainCounted d x s)), ?_, ?_, by rw [hpwr]; rfl, ⟨domOffNow d x s, ?_, rfl, rfl, rfl⟩,
    by rw [hpwr]; rfl, fun k hk => ?_, domainOff_loses d (domainCounted d x s)⟩
  · simp only [exec_domainReset, execDomainReset, hx]
    rw [if_neg hany]
    rfl
  · rw [domOn_congr hpwr, domOn_domainCounted, if_pos rfl]
  · rw [hpwr]
    exact List.mem_append_right _ (List.mem_singleton_self _)
  · rw [domOn_congr hpwr, domOn_domainCounted, if_neg hk]

/-- The domain is no longer off, and powered only if it came back. -/
def domainBack (d : Nat) (good : Bool) (s : State) : State :=
  modPwr (fun p => { p with
    off := p.off.filter (fun x => x.dom != d)
    powered := if good then p.powered else putBit p.powered d false }) s

/-- DOMAIN_RECOVERED (R589). -/
def recoveredReport (d : Nat) (good : Bool) (o : DomOff) (s : State) : List Byte :=
  leBytes 1 d ++ leBytes 1 (flag (!good)) ++ [0, 0] ++ leBytes 4 (min (sinceNs s o.since / 1000) 0xFFFFFFFF)

/-- The return of a domain as it is reported, before what the domain does with its power. -/
def domainSaid (d : Nat) (good : Bool) (o : DomOff) (s : State) : State :=
  emit 0xD003 33 (recoveredReport d good o s) (resetReport 2 16 d o.master (domainMap d) (domainBack d good s))

/-- The return of a domain. -/
def domainCame (d : Nat) (good : Bool) (o : DomOff) (s : State) : State :=
  if good then domainOn o (domainSaid d good o s) else domainSaid d good o s

theorem domainSaid_pwr (d : Nat) (good : Bool) (o : DomOff) (s : State) :
    (domainSaid d good o s).pwr.off = s.pwr.off.filter (fun x => x.dom != d) ∧
      (domainSaid d good o s).pwr.powered = if good = true then s.pwr.powered else putBit s.pwr.powered d false := by
  obtain ⟨r, hq⟩ := quiet_resetReport 2 16 d o.master (domainMap d) (domainBack d good s) (by decide)
  rw [domainSaid, emit_pwr, hq.aside.pwr]
  exact ⟨rfl, rfl⟩

/-- RESET_REPORT and DOMAIN_RECOVERED say it. -/
theorem reported_domainSaid (d : Nat) (good : Bool) (o : DomOff) (s : State) : Grows s (domainSaid d good o s) ∧
    Reported s (domainSaid d good o s) 0xD001 33 (portReport 2 16 d o.master (domainMap d) s) ∧
    Reported s (domainSaid d good o s) 0xD003 33 (recoveredReport d good o s) := by
  have ha : Grows s (domainBack d good s) := grows_modPwr _ s
  have hrep := reported_resetReport 2 16 d o.master (domainMap d) s (domainBack d good s) (by decide) ha rfl
  obtain ⟨r, hq⟩ := quiet_resetReport 2 16 d o.master (domainMap d) (domainBack d good s) (by decide)
  have hgtc := hq.field (fun u => u.tb.gtc) (fun _ => rfl)
  have hb : Grows s (resetReport 2 16 d o.master (domainMap d) (domainBack d good s)) :=
    ha.trans (Grows.trans (grows_modPwr _ _) hq.grows)
  exact ⟨hb.trans (grows_emit _ _ _ _), newOuts_mono hb hrep (grows_emit _ _ _ _), reported_emit _ _ _ _ _ hb hgtc⟩

theorem domainCame_keeps (d : Nat) (good : Bool) (o : DomOff) (s : State) :
    (domainCame d good o s).pwr.off = (domainSaid d good o s).pwr.off ∧
      (domainCame d good o s).pwr.powered = (domainSaid d good o s).pwr.powered ∧ Grows (domainSaid d good o s) (domainCame d good o s) := by
  unfold domainCame
  split
  · exact domainOn_keeps o _
  · exact ⟨rfl, rfl, .refl _⟩

/-- Whether a domain comes back: PD_CTRL needs a running image that passes its checks (log entry 29). -/
def comesBack (d : Nat) (ok : Bool) (s : State) : Bool := ok && (d != 10 || s.vault.recovery || imageCheck s s.vault.running == 0)

theorem domainReturn_runs (d : Nat) (s : State) (o : DomOff) (ok : Bool) (ho : s.pwr.off.find? (fun o => o.dom == d) = some o)
    (ht : 1000000 ≤ sinceNs s o.since) : exec (.domainReturn d ok) s = done (domainCame d (comesBack d ok s) o s) := by
  simp only [exec_domainReturn, execDomainReturn, ho]
  rw [if_neg (Nat.not_lt.mpr ht)]
  rfl

theorem domainReturn_reports (d : Nat) (s : State) (o : DomOff) (ok : Bool) (ho : s.pwr.off.find? (fun o => o.dom == d) = some o)
    (ht : 1000000 ≤ sinceNs s o.since) : ∃ t, exec (.domainReturn d ok) s = .next t ∧ (∀ x ∈ t.pwr.off, x.dom ≠ d) ∧
      t.pwr.powered = (if comesBack d ok s = true then s.pwr.powered else putBit s.pwr.powered d false) ∧
      Reported s t 0xD001 33 (portReport 2 16 d o.master (domainMap d) s) ∧
      Reported s t 0xD003 33 (recoveredReport d (comesBack d ok s) o s) := by
  obtain ⟨hoff, hpow⟩ := domainSaid_pwr d (comesBack d ok s) o s
  obtain ⟨hg, hrep, hrec⟩ := reported_domainSaid d (comesBack d ok s) o s
  obtain ⟨hoff', hpow', hon⟩ := domainCame_keeps d (comesBack d ok s) o s
  have hset := hon.trans (grows_settle _)
  refine ⟨settle (domainCame d (comesBack d ok s) o s), domainReturn_runs d s o ok ho ht, ?_, by rw [settle_pwr, hpow', hpow],
    newOuts_mono hg hrep hset, newOuts_mono hg hrec hset⟩
  rw [settle_pwr, hoff', hoff]
  intro x hx
  simpa using (List.mem_filter.mp hx).2

theorem domainResets_hold : Claims.DomainResets := by
  intro d s
  refine ⟨fun hx => ?_, fun x hx hd hoff => domainReset_off d s x hx hd hoff, fun x hx h => ?_, fun h ok => ?_, fun o ok ho ht => ?_,
    fun o ok ho ht => domainReturn_reports d s o ok ho ht⟩
  · simp [exec_domainReset, execDomainReset, hx]
  · have hc : within d 2 13 = false ∨ s.pwr.off.any (fun o => o.dom == d) = true := h.imp id (off_any_iff _ _).mpr
    simp only [exec_domainReset, execDomainReset, hx, hc, ↓reduceIte]
    rfl
  · have hn : s.pwr.off.find? (fun o => o.dom == d) = none := by simpa using h
    simp only [exec_domainReturn, execDomainReturn, hn]
  · simp only [exec_domainReturn, execDomainReturn, ho, ht, ↓reduceIte]

/-- Settles O59: a PORT reset by its parts, host-up by its two commands, a DOMAIN reset by what each domain loses and by its return. -/
theorem portAndDomainResets : Obligations.PortAndDomainResets :=
  ⟨portResets_hold, hostUp_holds, domainResets_hold⟩

end Sys2Proof.Machine
end

section
/-!
PROOFS. Every command, and every tick of an idle block, ends in a next state whose modes and pins agree with the rest (log entries 2 and
14): commands through `done`, packets through the command they carry, an idle block through `agreeStep`.
-/
namespace Sys2Proof.Machine
open Sys2Proof
set_option Elab.async false

/-! ### Results that agree -/

/-- A result that is a next state whose modes and pins agree with the rest. -/
def EndsAgreed (x : Result) : Prop := ∃ t, x = .next t ∧ Agrees t

theorem endsAgreed_done (s : State) : EndsAgreed (done s) := ⟨_, rfl, agrees_settle s⟩

theorem endsAgreed_next {s : State} (h : Agrees s) : EndsAgreed (.next s) := ⟨s, rfl, h⟩

theorem agrees_agreeStep (s : State) : Agrees (agreeStep s) := ⟨rfl, rfl, rfl⟩

theorem EndsAgreed.ite {c : Prop} [Decidable c] {x y : Result} (hx : EndsAgreed x) (hy : EndsAgreed y) :
    EndsAgreed (if c then x else y) := by
  split
  · exact hx
  · exact hy

/-! ### Commands in packets -/

/-- Every meaning that a table of opcodes lists ends agreed. -/
def TableEnds (l : OpTable) : Prop := ∀ e ∈ l, ∀ r s, EndsAgreed (e.2 r s)

theorem tableEnds_nil : TableEnds [] := fun _ h => absurd h List.not_mem_nil

theorem tableEnds_cons {op : Nat} {f : Req → State → Result} {l : OpTable} (hf : ∀ r s, EndsAgreed (f r s)) (hl : TableEnds l) :
    TableEnds ((op, f) :: l) := List.forall_mem_cons.mpr ⟨hf, hl⟩

theorem endsAgreed_hello (r : Req) (s : State) : EndsAgreed (execHello r s) := .ite (endsAgreed_done _) (endsAgreed_done _)

/-- HELLO is one of two commands; any other opcode's meaning is a `done` itself. -/
theorem tableEnds_opTable : TableEnds opTable := by
  refine tableEnds_cons endsAgreed_hello ?_
  repeat refine tableEnds_cons (fun _ _ => endsAgreed_done _) ?_
  exact tableEnds_nil

theorem endsAgreed_opMeaning {op : Nat} {f : Req → State → Result} (h : opMeaning op = some f) (r : Req) (s : State) :
    EndsAgreed (f r s) := by
  obtain ⟨e, he, rfl⟩ := Option.map_eq_some_iff.mp h
  exact tableEnds_opTable e (List.mem_of_find?_eq_some he) r s

theorem endsAgreed_sessionless (r : Req) (p : Packet) (s : State) : EndsAgreed (sessionless r p s) :=
  .ite (endsAgreed_done _) (.ite (endsAgreed_done _) (.ite (endsAgreed_done _) (endsAgreed_done _)))

theorem endsAgreed_waiting (r : Req) (w : HelloWait) (bs : List Byte) (p : Packet) (s : State) : EndsAgreed (waiting r w bs p s) :=
  .ite (endsAgreed_done _) (.ite (endsAgreed_done _) (.ite (endsAgreed_done _) (.ite (endsAgreed_done _)
    (.ite (endsAgreed_done _) (.ite (endsAgreed_done _) (endsAgreed_done _))))))

theorem endsAgreed_inSequence (v : Session) (r : Req) (p : Packet) (s : State) : EndsAgreed (inSequence v r p s) := by
  refine .ite (endsAgreed_done _) (.ite (endsAgreed_done _) ?_)
  dsimp only
  split
  · exact endsAgreed_done _
  · split
    · exact endsAgreed_done _
    · rename_i hf
      exact endsAgreed_opMeaning hf _ _

theorem endsAgreed_receivePacket (m : Nat) (via : Via) (addr : UdpAddr) (bs : List Byte) (p : Packet) (s : State) :
    EndsAgreed (receivePacket m via addr bs p s) := by
  refine .ite (.ite (endsAgreed_sessionless _ _ _) (endsAgreed_done _)) (.ite (endsAgreed_done _) ?_)
  split
  · exact endsAgreed_waiting _ _ _ _ _
  · split
    · exact .ite (endsAgreed_done _) (.ite (endsAgreed_done _) (endsAgreed_inSequence _ _ _ _))
    · exact endsAgreed_done _

theorem endsAgreed_receive (m : Nat) (via : Via) (addr : UdpAddr) (bs : List Byte) (s : State) :
    EndsAgreed (receive m via addr bs s) := .ite (endsAgreed_done _) (endsAgreed_receivePacket _ _ _ _ _ _)

/-! ### Packets of the request ring -/

theorem endsAgreed_takeSlot (slot : List Byte) (s : State) : EndsAgreed (takeSlot slot s) :=
  .ite (endsAgreed_receive _ _ _ _ _) (endsAgreed_done _)

/-- Where no slot is taken the state stays as it is, so it has to agree before. -/
theorem endsAgreed_takeSlots (n : Nat) {s : State} (h : Agrees s) : EndsAgreed (takeSlots n s) := by
  induction n generalizing s with
  | zero => exact endsAgreed_next h
  | succ k ih =>
    unfold takeSlots
    split
    · exact endsAgreed_next h
    · rename_i slot _ _
      refine .ite ?_ (endsAgreed_next h)
      obtain ⟨t, ht, ha⟩ := endsAgreed_takeSlot slot s
      rw [ht]
      exact ih ha

/-- Where the ring is ready and a slot waits, the first one is taken, and every slot leaves a settled state. -/
theorem endsAgreed_drainRings {s : State} (hr : rqReady s = true) (hs : s.rings.rqSlots ≠ []) : EndsAgreed (drainRings s) := by
  obtain ⟨slot, rest, hl⟩ := List.exists_cons_of_ne_nil hs
  obtain ⟨t, ht, ha⟩ := endsAgreed_takeSlot slot s
  simp only [drainRings, hl, List.length_cons, takeSlots, hr, ↓reduceIte, ht]
  exact endsAgreed_takeSlots _ ha

/-- A ring access that lets the device take what waits. -/
theorem endsAgreed_ringsServed (s : State) :
    EndsAgreed (if rqReady s = true ∧ s.rings.rqSlots ≠ [] then drainRings s else done s) := by
  split
  · rename_i h
    exact endsAgreed_drainRings h.1 h.2
  · exact endsAgreed_done _

/-! ### Every command -/

theorem endsAgreed_rqTailWrite (tail : Nat) (slots : List (List Byte)) (err : Bool) (s : State) :
    EndsAgreed (execRqTailWrite tail slots err s) :=
  .ite (endsAgreed_done _) (.ite (endsAgreed_done _) (endsAgreed_ringsServed _))

theorem endsAgreed_registerWrite (m : Nat) (bar2 : Bool) (off size v again : Nat) (s : State) :
    EndsAgreed (execRegisterWrite m bar2 off size v again s) :=
  .ite (endsAgreed_done _) (.ite (.ite (endsAgreed_ringsServed _) (endsAgreed_done _)) (endsAgreed_done _))

theorem endsAgreed_udpDatagramRx (m : Nat) (src : UdpAddr) (port : Nat) (fragment : Bool) (checksum : Nat) (bs : List Byte) (s : State) :
    EndsAgreed (execUdpDatagramRx m src port fragment checksum bs s) :=
  .ite (.ite (endsAgreed_done _) (.ite (endsAgreed_receive _ _ _ _ _) (endsAgreed_done _))) (endsAgreed_done _)

theorem endsAgreed_spiWrite (bs : List Byte) (cut : Bool) (s : State) : EndsAgreed (execSpiWrite bs cut s) :=
  .ite (endsAgreed_done _) (.ite (endsAgreed_done _) (.ite (endsAgreed_receive _ _ _ _ _) (endsAgreed_done _)))

theorem endsAgreed_mbxInboundProcess (m n : Nat) (s : State) : EndsAgreed (execMbxInboundProcess m n s) :=
  .ite (endsAgreed_done _) (.ite (endsAgreed_done _) (.ite (endsAgreed_done _)
    (.ite (endsAgreed_receive _ _ _ _ _) (endsAgreed_done _))))

theorem endsAgreed_pairEfbexRx (m : LinkMsg) (s : State) : EndsAgreed (execPairEfbexRx m s) := by
  unfold execPairEfbexRx
  dsimp only
  split
  · exact endsAgreed_done _
  · exact endsAgreed_done _
  · exact .ite (endsAgreed_done _) (.ite (endsAgreed_done _) (.ite (endsAgreed_done _)
      (.ite (endsAgreed_done _) (endsAgreed_receive _ _ _ _ _))))

theorem endsAgreed_offsetSample (src : Nat) (s : State) : EndsAgreed (execOffsetSample src s) := by
  unfold execOffsetSample
  split
  · exact endsAgreed_done _
  · exact endsAgreed_done _

theorem endsAgreed_ptpMessageRx (port rate : Nat) (l2 : Bool) (bs : List Byte) (s : State) :
    EndsAgreed (execPtpMessageRx port rate l2 bs s) := by
  refine .ite (endsAgreed_done _) ?_
  split
  · exact endsAgreed_done _
  · exact .ite (endsAgreed_done _) (.ite (endsAgreed_done _) (endsAgreed_done _))

/-- Every command ends agreed: those that carry a packet by the rules above, any other because its meaning is a `done`. -/
theorem endsAgreed_exec (c : Instr) (s : State) : EndsAgreed (exec c s) := by
  cases c with
  | efbexPacketRx m addr bytes => exact .ite (endsAgreed_receive _ _ _ _ _) (endsAgreed_done _)
  | rqTailWrite tail slots err => exact endsAgreed_rqTailWrite tail slots err s
  | cqHeadWrite head => exact .ite (endsAgreed_done _) (endsAgreed_ringsServed _)
  | udpDatagramRx m src port fragment checksum bytes => exact endsAgreed_udpDatagramRx m src port fragment checksum bytes s
  | spiWrite bytes cut => exact endsAgreed_spiWrite bytes cut s
  | mbxInboundProcess m n => exact endsAgreed_mbxInboundProcess m n s
  | pairEfbexRx m => exact endsAgreed_pairEfbexRx m s
  | registerWrite m bar2 off size v again => exact endsAgreed_registerWrite m bar2 off size v again s
  | offsetSample src => exact endsAgreed_offsetSample src s
  | ptpMessageRx port rate l2 bytes => exact endsAgreed_ptpMessageRx port rate l2 bytes s
  | _ => exact endsAgreed_done _

/-! ### Every step -/

theorem endsAgreed_serveHeld {s : State} (h : Agrees s) : EndsAgreed (serveHeld s) := by
  unfold serveHeld
  split
  · exact .ite (endsAgreed_receive _ _ _ _ _) (endsAgreed_next h)
  · exact .ite (endsAgreed_takeSlots _ h) (endsAgreed_next h)

/-- A step ends agreed from any state: a command settles, an idle block lets its pins follow the clock. -/
theorem endsAgreed_step (s : State) : EndsAgreed (step s) := by
  unfold step
  split
  · exact endsAgreed_serveHeld (agrees_agreeStep _)
  · exact endsAgreed_exec _ _

/-- Settles O4: every step ends agreed, whatever the state it began from. -/
theorem agreesKept : Obligations.AgreesKept := by
  intro s t _ hst
  obtain ⟨u, hu, ha⟩ := endsAgreed_step s
  obtain rfl : u = t := Host.Outcome.next.inj (hu.symm.trans hst)
  exact ha

end Sys2Proof.Machine
end

section
/-!
PROOFS. Admission of host commands: every row of `requestOf` is its body under `runCommand`, so that what `refusal` says is what the
command does (R54 steps 9 to 11).
-/
namespace Sys2Proof.Machine
open Sys2Proof
set_option Elab.async false

/-! ### Rows of host commands -/

/-- A host command's row runs its body under the opcode and the request that `requestOf` gives. -/
theorem exec_of_requestOf {c : Instr} {op : Nat} {always : Bool} {r : Req} (h : requestOf c = some (op, always, r)) (s : State) :
    ∃ body, exec c s = done (runCommand op always r body s) := by
  unfold requestOf at h
  split at h <;> cases h <;> exact ⟨_, rfl⟩

/-- HELLO has its own rules (R70, R73). -/
theorem requestOf_ne_hello {c : Instr} {op : Nat} {always : Bool} {r : Req} (h : requestOf c = some (op, always, r)) : op ≠ 0x0101 := by
  unfold requestOf at h
  split at h <;> cases h <;> decide

section
variable {c : Instr} {op st : Nat} {always : Bool} {r : Req} {s : State}

/-- A refused command replies the status that refuses it, and nothing else happens. -/
theorem runs_refused (h : requestOf c = some (op, always, r)) (he : efbexRuns s = true) (ha : Answerable s r)
    (hr : refusal op always r s = some st) : Runs c s (fun t => Same t s ∧ Answered s t r op st []) := by
  obtain ⟨body, hx⟩ := exec_of_requestOf h s
  obtain ⟨t, ht, hcore, hans⟩ := done_reply (op := op) (st := st) (p := []) (Grows.refl s) ha
  exact ⟨t, by rw [hx, runCommand_refused body he hr, ht], hcore, hans⟩

/-! ### What refuses a command -/

theorem refusal_recovery (h : recoveryOut op r s = true) : refusal op always r s = some 0x1004 := by simp [refusal, h]

theorem refusal_frozen (h : recoveryOut op r s = false) (hf : frozen s r.master = true) (h1 : op ≠ 0x0901) (h3 : op ≠ 0x0903) :
    refusal op always r s = some (0x7F00 + (violOf s r.master).cause) := by
  have ho : frozenOut op r s = true := by simp [frozenOut, hf, h1, h3]
  simp [refusal, h, ho]

theorem frozenOut_of_unfrozen (h : frozen s r.master = false) : frozenOut op r s = false := by simp [frozenOut, h]

theorem refusal_unproved (h : recoveryOut op r s = false) (hf : frozen s r.master = false) (hm : authMissing op always r s = true) :
    refusal op always r s = some 0x6001 := by simp [refusal, h, frozenOut_of_unfrozen hf, hm]

/-- Past recovery, freeze and authentication only a session's requests outstanding refuse. -/
theorem refusal_ne_unproved (h : recoveryOut op r s = false) (hf : frozen s r.master = false) (hm : authMissing op always r s = false) :
    refusal op always r s ≠ some 0x6001 := by
  simp only [refusal, h, frozenOut_of_unfrozen hf, hm, Bool.false_eq_true, ↓reduceIte]
  split
  · nofun
  · split
    · nofun
    · split <;> nofun

/-- Elsewhere than in MISSION a missing tag refuses exactly the commands that are authenticated always (R73). -/
theorem authMissing_elsewhere (ha : r.auth = false) (hl : s.vault.life ≠ 1) : authMissing op always r s = always := by
  simp [authMissing, ha, hl]

theorem recoveryOut_of_recovery (hv : s.vault.recovery = true)
    (h : ¬ (r.master = 0 ∨ r.master = 3) ∨ op ∉ [0x0101, 0x0103, 0x0104, 0x0D0A, 0x0D0B]) : recoveryOut op r s = true := by
  have hb : ((r.master == 0 || r.master == 3) && [0x0101, 0x0103, 0x0104, 0x0D0A, 0x0D0B].contains op) = false := by
    rw [Bool.and_eq_false_iff]
    exact h.imp (fun hm => by simpa using hm) (fun ho => by simpa using ho)
  rw [recoveryOut, hv, hb]
  rfl

end

/-! ### The claims -/

theorem frozenRefused_holds : Claims.FrozenRefused := by
  intro c op always r s hq he hrec hf h1 h3 ha
  exact runs_refused hq he ha (refusal_frozen hrec hf h1 h3)

theorem authenticationRequired_holds : Claims.AuthenticationRequired := by
  intro c op always r s hq he hrec hf hauth ha
  refine ⟨fun hl h102 h103 h901 => ?_, fun hl hal => ?_, fun hl hal => ?_⟩
  · have hm : authMissing op always r s = true := by simp [authMissing, hauth, hl, requestOf_ne_hello hq, h102, h103, h901]
    exact runs_refused hq he ha (refusal_unproved hrec hf hm)
  · exact runs_refused hq he ha (refusal_unproved hrec hf ((authMissing_elsewhere hauth hl).trans hal))
  · exact refusal_ne_unproved hrec hf ((authMissing_elsewhere hauth hl).trans hal)

theorem efbexCarried_holds : Claims.EfbexCarried := by
  intro c op always r s hq he
  obtain ⟨body, hx⟩ := exec_of_requestOf hq s
  exact ⟨settle s, by rw [hx, runCommand_off body he]; rfl, core_settle s, rfl⟩

theorem recoveryServes_holds : Claims.RecoveryServes := by
  intro c op always r s hq he hv ha h
  exact runs_refused hq he ha (refusal_recovery (recoveryOut_of_recovery hv h))

/-- Settles O7: whatever refuses a host command, its reply is all that happens; while Efbex is not carried nothing does. -/
theorem requestAdmission : Obligations.RequestAdmission :=
  ⟨frozenRefused_holds, authenticationRequired_holds, efbexCarried_holds, recoveryServes_holds⟩

end Sys2Proof.Machine
end

section
/-!
PROOFS. Settings that wait for their commit (`checked` before `hold`), and ARM_SET: what it refuses, and what its commit leaves in force.
-/
namespace Sys2Proof.Machine
open Sys2Proof
set_option Elab.async false

/-! ### Commands that check and then wait for their commit -/

/-- Where the checks of form pass and one check of state fails, its status is the answer. -/
theorem checked_fail (st : Nat) (s : State) (k : State → Ans) : checked true true true true [st] s k = .reply st [] s := by
  simp [checked]

theorem failIf_false {b : Bool} (st : Nat) (h : b = false) : failIf b st = [] := by simp [failIf, h]

theorem failIf_true {b : Bool} (st : Nat) (h : b = true) : failIf b st = [st] := by simp [failIf, h]

theorem notStandby_of_role {s : State} (h : s.pair.role ≠ 2) : notStandby s = [] := failIf_false _ (by simpa using h)

/-- Holding a decision leaves alone what accepting the request has moved. -/
theorem core_hold_accept (op : Nat) (r : Req) (m : Nat) (d : Decision) (s : State) :
    core (hold m d (accept op r s)) = core (hold m d s) := by
  unfold accept
  split <;> rfl

section
variable {c : Instr} {op st : Nat} {al size reserved range unique : Bool} {r : Req} {s : State} {states : State → List Nat}
  {k : State → State → Ans}

/-- An admitted command that one check of state refuses. -/
theorem runs_checked_fail (hx : exec c s = done (runCommand op al r (fun s => checked size reserved range unique (states s) s (k s)) s))
    (h : Admitted op al r s) (h1 : size = true) (h2 : reserved = true) (h3 : range = true) (h4 : unique = true)
    (h5 : states (accept op r s) = [st]) : Runs c s (fun t => Same t s ∧ Answered s t r op st []) := by
  subst h1 h2 h3 h4
  exact runs_reply _ hx h (by rw [h5, checked_fail]) (core_accept _ _ _) (grows_accept _ _ _) (.refl _)

/-- An admitted command that passes its checks and waits for its commit. -/
theorem runs_checked_hold {d : Decision}
    (hx : exec c s = done (runCommand op al r (fun s => checked size reserved range unique (states s) s (k s)) s))
    (h : Admitted op al r s) (h1 : size = true) (h2 : reserved = true) (h3 : range = true) (h4 : unique = true)
    (h5 : states (accept op r s) = []) (hk : ∀ u, k u u = .later (hold r.master d u)) :
    Runs c s (fun t => Same t (hold r.master d s)) :=
  runs_later _ hx h ((checked_pass _ _ _ _ _ _ _ h1 h2 h3 h4 h5).trans (hk _)) (core_hold_accept _ _ _ _ _)

/-- An admitted command that passes its checks and is answered at once. -/
theorem runs_checked_reply {u v : State} {p : List Byte}
    (hx : exec c s = done (runCommand op al r (fun s => checked size reserved range unique (states s) s (k s)) s))
    (h : Admitted op al r s) (h1 : size = true) (h2 : reserved = true) (h3 : range = true) (h4 : unique = true)
    (h5 : states (accept op r s) = []) (hk : k (accept op r s) (accept op r s) = .reply st p u) (hc : core u = core v)
    (hg : Grows (accept op r s) u) (hs : SessHeld (accept op r s) u) : Runs c s (fun t => Same t v ∧ Answered s t r op st p) :=
  runs_reply _ hx h ((checked_pass _ _ _ _ _ _ _ h1 h2 h3 h4 h5).trans hk) hc ((grows_accept _ _ _).trans hg) hs

end

/-! ### ARM_SET -/

/-- Whether an entry is barred follows from the life-cycle state and the role. -/
theorem armBarred_congr {s t : State} (hl : t.vault.life = s.vault.life) (hr : t.pair.role = s.pair.role) : armBarred t = armBarred s := by
  funext e
  simp [armBarred, hl, hr]

theorem any_armBarred_iff (s : State) (l : List (Nat × Nat)) : l.any (armBarred s) = true ↔ ∃ e ∈ l, armBarred s e = true := by simp

theorem any_armBarred_false (s : State) {l : List (Nat × Nat)} (h : ∀ e ∈ l, armBarred s e = false) : l.any (armBarred s) = false := by
  simpa using h

theorem armSet_holds : Claims.ArmSet := by
  intro r s ha hlen hz hrange hrep
  have hsize : (decide (1 ≤ r.payload.length) && r.payload.length == 4 + 2 * u8 r.payload 0) = true := by
    rw [hlen]
    simp only [beq_self_eq_true, Bool.and_true, decide_eq_true_eq]
    omega
  have hb : armBarred (accept 0x0110 r s) = armBarred s := armBarred_congr (by simp) (by simp)
  refine ⟨fun hbar hrole => ?_, fun hfree hrole => ?_, fun hfree hrole => ?_⟩
  · refine runs_checked_fail rfl ha hsize hz hrange hrep ?_
    rw [hb, failIf_false _ (by simpa using hrole), failIf_true _ ((any_armBarred_iff _ _).mpr hbar), List.nil_append]
  · refine runs_checked_fail rfl ha hsize hz hrange hrep ?_
    rw [hb, failIf_true _ (by simpa using hrole), failIf_false _ (any_armBarred_false _ hfree), List.append_nil]
  · refine runs_checked_hold rfl ha hsize hz hrange hrep ?_ (fun _ => rfl)
    rw [hb, failIf_false _ (by simpa using hrole), failIf_false _ (any_armBarred_false _ hfree), List.append_nil]

/-! ### The arming table under what a trigger does -/

section
variable (s : State)

theorem sendLink_repl (type : Nat) (prio : Bool) (p : List Byte) : (sendLink type prio p s).repl = s.repl :=
  hush_repl (hush_sendLink _ _ _ _)

theorem watchEnds_repl (id b : Nat) : (watchEnds id b s).repl = s.repl := by
  have hu (u : State) (i : Nat) : (unknownEvent b 0 4 i 0 u).repl = u.repl := by
    unfold unknownEvent
    split
    · rfl
    · exact emit_repl _ _ _ _
  unfold watchEnds
  dsimp only
  split
  · exact hu _ _
  · rfl

theorem dropTransit_armed (x : Transit) (change source : Nat) : (dropTransit x change source s).repl.armed = s.repl.armed := by
  have h1 (u : State) : (trChange x change source u).repl.armed = u.repl.armed := congrArg Repl.armed (emit_repl _ _ _ _)
  unfold dropTransit
  dsimp only
  split
  · exact h1 _
  · rw [watchEnds_repl]
    exact h1 _

theorem withdraw_armed (id : Nat) : (withdraw id s).repl.armed = s.repl.armed := by
  unfold withdraw
  split
  · rfl
  · rename_i k _
    extract_lets s1 _ s2 s3 s4
    have h1 : s1.repl.armed = s.repl.armed := by
      simp only [s1]
      split
      · rfl
      · exact dropTransit_armed _ _ _ _
    have h3 : s3.repl.armed = s2.repl.armed := by
      simp only [s3]
      split <;> rfl
    have h4 : s4.repl.armed = s.repl.armed := h3.trans h1
    split
    · exact (congrArg Repl.armed (emit_repl _ _ _ _)).trans h4
    · exact h4

theorem enterEclipse_armed (code src master note : Nat) : (enterEclipse code src master note s).repl.armed = s.repl.armed := by
  have hm (u : State) : (mirror u).repl = u.repl := by
    unfold mirror
    split
    · exact sendLink_repl _ _ _ _
    · rfl
  have hw (u : State) : (withdrawAll u).repl.armed = u.repl.armed :=
    List.foldlRecOn (motive := fun v => v.repl.armed = u.repl.armed) _ _ rfl (fun v hv id _ => (withdraw_armed v id).trans hv)
  have hr (old : Nat) (u : State) : (eclStateReport old 1 code src master note u).repl = u.repl := by
    unfold eclStateReport
    dsimp only
    split
    · rw [modeChange_repl, emit_repl]
    · exact emit_repl _ _ _ _
  unfold enterEclipse
  dsimp only
  rw [hm, hw, hr]
  rfl

theorem latchTrigger_armed (code src master note : Nat) : (latchTrigger code src master note s).repl.armed = s.repl.armed := by
  unfold latchTrigger
  dsimp only
  split
  · unfold standbyTrigger eclTrigger
    simp only [sendLink_repl, emit_repl]
  · split
    · exact congrArg Repl.armed (emit_repl _ _ _ _)
    · exact enterEclipse_armed _ _ _ _ _

theorem evalLasting_armed (code src : Nat) (cond : Bool) : (evalLasting code src cond s).repl.armed = s.repl.armed := by
  cases cond with
  | false => rw [evalLasting_ends_repl]
  | true =>
    unfold evalLasting
    extract_lets was _ s1
    have h1 : s1.repl = s.repl := by
      simp only [s1]
      split <;> rfl
    have ht : (eclTrigger code 1 src 0 s1).repl = s.repl := (emit_repl _ _ _ _).trans h1
    rw [if_pos rfl]
    split
    · split
      · rw [h1]
      · rw [latchTrigger_armed, h1]
    · split
      · rw [h1]
      · rw [ht]

theorem evalSampled_armed : (evalSampled s).repl.armed = s.repl.armed := by
  have ht (u : State) : (evalTamper u).repl.armed = u.repl.armed :=
    List.foldlRecOn (motive := fun v => v.repl.armed = u.repl.armed) _ _ rfl (fun v hv n _ => (evalLasting_armed v _ _ _).trans hv)
  unfold evalSampled
  rw [ht, evalLasting_armed, evalLasting_armed, evalLasting_armed, evalLasting_armed]

/-- Evaluating the pins under a changed table only adds to what was put out. -/
theorem evalSampled_grows : Grows s (evalSampled s) := by
  unfold evalSampled evalTamper
  exact (Aside.foldl (fun _ _ => aside_evalLasting)
    (aside_evalLasting (aside_evalLasting (aside_evalLasting (aside_evalLasting (.refl s)))))).grows

end

/-! ### The commit of an ARM_SET -/

/-- The table in force after an ARM_SET, before the pins are evaluated under it. -/
def tableChanged (r : Req) (s : State) : State :=
  forgetReactions (armChanged r.master 0 r.master { s with repl := { s.repl with armed := armAfter r.payload s.repl.armed } })

theorem tableChanged_armed (r : Req) (s : State) : (tableChanged r s).repl.armed = armAfter r.payload s.repl.armed :=
  congrArg Repl.armed (emitExcept_repl _ _ _ _ _)

theorem reported_tableChanged (r : Req) (s : State) : Grows s (tableChanged r s) ∧ Reported s (tableChanged r s) 0xC105 r.master
    (leBytes 2 (armAfter r.payload s.repl.armed) ++ [0] ++ leBytes 1 r.master) := by
  have hg := grows_emitExcept r.master 0xC105 r.master (leBytes 2 (armAfter r.payload s.repl.armed) ++ leBytes 1 0 ++ leBytes 1 r.master)
    { s with repl := { s.repl with armed := armAfter r.payload s.repl.armed } }
  have hs : Grows s { s with repl := { s.repl with armed := armAfter r.payload s.repl.armed } } := .of_eq rfl
  exact ⟨hs.trans ((grows_put _ _).trans (hg.trans (.of_eq rfl))), mem_newOuts_of_grows hs (hg.trans (.of_eq rfl))⟩

section
variable {r : Req} {s : State}

theorem commitArm_barred (h : ∃ e ∈ armEntries r.payload, armBarred s e = true) : commitArm r s = (0x2005, s) := by
  rw [commitArm, if_pos ((any_armBarred_iff _ _).mpr h)]

theorem commitArm_same (h : ∀ e ∈ armEntries r.payload, armBarred s e = false) (he : armAfter r.payload s.repl.armed = s.repl.armed) :
    commitArm r s = (0x0102, s) := by
  rw [commitArm, any_armBarred_false s h, if_neg Bool.false_ne_true]
  exact if_pos he

theorem commitArm_changed (h : ∀ e ∈ armEntries r.payload, armBarred s e = false) (he : armAfter r.payload s.repl.armed ≠ s.repl.armed) :
    commitArm r s = (0, evalSampled (tableChanged r s)) := by
  rw [commitArm, any_armBarred_false s h, if_neg Bool.false_ne_true]
  exact if_neg he

end

theorem armCommit_holds : Claims.ArmCommit := by
  intro r s
  refine ⟨fun b => by simp [armBarred], fun b => by simp [armBarred], commitArm_barred, fun h => ⟨commitArm_same h, fun he => ?_⟩⟩
  obtain ⟨hg, hrep⟩ := reported_tableChanged r s
  rw [commitArm_changed h he]
  exact ⟨rfl, by rw [evalSampled_armed, tableChanged_armed], fun _ => newOuts_mono hg hrep (evalSampled_grows _)⟩

/-- Settles O34: ARM_SET by its checks, its commit by what evaluating the pins under the new table leaves of it. -/
theorem arming : Obligations.Arming := ⟨armSet_holds, armCommit_holds⟩

end Sys2Proof.Machine
end

section
/-!
PROOFS. The radio mode (R46, R47, R378), the radio settings that wait for their commit, and their commits (R366, R368, R371).
-/
namespace Sys2Proof.Machine
open Sys2Proof
set_option Elab.async false

/-! ### A change of the radio mode -/

/-- `u` has the modes `m` and every session of `s`. -/
structure ModesSet (m : Modes) (s u : State) : Prop where
  modes : u.modes = m
  held : SessHeld s u

section
variable {m : Modes} {s u v : State} {c : Prop} [Decidable c]

theorem ModesSet.of_eq (h : ModesSet m s u) (hm : v.modes = u.modes) (hs : v.sessions = u.sessions) : ModesSet m s v :=
  ⟨hm.trans h.modes, h.held.trans (.of_eq hs)⟩

theorem ModesSet.emit {code src : Nat} {p : List Byte} (h : ModesSet m s u) : ModesSet m s (emit code src p u) :=
  ⟨(emit_modes _ _ _ _).trans h.modes, h.held.trans (sessHeld_emit _ _ _ _)⟩

/-- A change of mode is reported where it is not quiet. -/
theorem ModesSet.report {a b d e f : Nat} (h : ModesSet m s u) : ModesSet m s (if c then u else modeChange a b d e f u) := by
  split
  · exact h
  · exact h.emit

/-- The tests of the heads end with their reports alone. -/
theorem ModesSet.tests (h : ModesSet m s u) : ModesSet m s (if c then endTests u else u) := by
  split
  · refine List.foldlRecOn (motive := fun v => ModesSet m s v) _ _ h (fun v hv n _ => ?_)
    split
    · exact hv
    · refine .emit ?_
      exact hv.of_eq rfl rfl
  · exact h

theorem ModesSet.serve {bump : Bool} (h : ModesSet m s u) : ModesSet m s (if c then serveEntry bump u else u) := by
  split
  · exact h.of_eq rfl rfl
  · exact h

end

/-- The mode in force follows the request and what forces it, and no session ends of it. -/
theorem radioStep_keeps (bump quiet : Bool) (s : State) : ModesSet
    { s.modes with radio := (radioInForce s).1, radioForce := (radioInForce s).2 } s (radioStep bump quiet s) := by
  unfold radioStep
  dsimp only
  split
  · rename_i h
    exact ⟨by rw [h], .of_eq rfl⟩
  · refine .report (.tests (.serve ?_))
    split
    · split <;> exact ⟨rfl, .of_eq rfl⟩
    · exact ⟨rfl, .of_eq rfl⟩

/-- What the mode in force follows from is no part of what replies move. -/
theorem radioInForce_of_core {s t : State} (h : core s = core t) : radioInForce s = radioInForce t :=
  Same.field radioInForce (fun _ => rfl) h

theorem Agrees.radio {s : State} (h : Agrees s) : s.modes.radio = (radioInForce s).1 := congrArg Modes.radio h.1

/-- A request for a radio mode that is recorded. -/
def radioAsked (n : Nat) (s : State) : State := modOwn (fun m => { m with requested := n }) s

theorem core_radioAsked_accept (op : Nat) (r : Req) (n : Nat) (s : State) :
    core (radioAsked n (accept op r s)) = core (radioAsked n s) := by
  unfold accept
  split <;> rfl

/-- SERVE in TEST and SERVICE is the one request that its state refuses (R378). -/
theorem serveBarred_eq (n : Nat) (s : State) :
    (n == 2 && (s.vault.life == 0 || s.vault.life == 2)) = decide (n = 2 ∧ (s.vault.life = 0 ∨ s.vault.life = 2)) := by
  rw [Bool.eq_iff_iff]
  simp only [Bool.and_eq_true, Bool.or_eq_true, beq_iff_eq, decide_eq_true_eq]

theorem changed_beq (a b : Nat) : changed (a == b) = if a = b then 0x0102 else 0 := by simp [changed]

theorem radioMode_holds : Claims.RadioMode := by
  intro r s ha hlen hz hn n m
  have hsize : (r.payload.length == 4) = true := by simpa using hlen
  have hrange : decide (u8 r.payload 0 ≤ 2) = true := by simpa using hn
  refine ⟨fun h2 hl => ?_, fun hfree => ?_⟩
  · refine runs_checked_fail rfl ha hsize hz hrange rfl (failIf_true _ ?_)
    rw [serveBarred_eq, accept_vault]
    exact decide_eq_true ⟨h2, hl⟩
  · have hstates : failIf (n == 2 && ((accept 0x0709 r s).vault.life == 0 || (accept 0x0709 r s).vault.life == 2)) 0x2001 = [] := by
      rw [serveBarred_eq, accept_vault]
      refine failIf_false _ (decide_eq_false ?_)
      rintro ⟨h2, hl⟩
      exact hfree.elim (fun h => h h2) (fun h => hl.elim h.1 h.2)
    have hcore : core (radioAsked n (accept 0x0709 r s)) = core (radioAsked n s) := core_radioAsked_accept _ _ _ _
    obtain ⟨hmodes, hheld⟩ := radioStep_keeps true true (radioAsked n (accept 0x0709 r s))
    have hradio : (radioStep true true (radioAsked n (accept 0x0709 r s))).modes.radio = m :=
      (congrArg Modes.radio hmodes).trans (congrArg Prod.fst (radioInForce_of_core hcore))
    obtain ⟨t, ht, hsame, hans⟩ := runs_checked_reply (c := .radioModeSet r) rfl ha hsize hz hrange rfl hstates rfl
      ((core_radioStep _ _ _).trans hcore) (.trans (.of_eq rfl) (grows_radioStep _ _ _)) (.trans (.of_eq rfl) hheld)
    obtain ⟨u, hu, hagree⟩ := endsAgreed_exec (.radioModeSet r) s
    obtain rfl : u = t := Host.Outcome.next.inj (hu.symm.trans ht)
    refine ⟨u, ht, hsame.field (fun u => u.mac.requested) (fun _ => rfl),
      hagree.radio.trans (congrArg Prod.fst (radioInForce_of_core hsame)), hsame, ?_⟩
    change Answered s u r 0x0709 (if (radioStep true true (radioAsked n (accept 0x0709 r s))).modes.radio = n then
      changed ((accept 0x0709 r s).mac.requested == n) else 0x0101)
      (leBytes 1 (radioStep true true (radioAsked n (accept 0x0709 r s))).modes.radio ++ [0, 0, 0]) at hans
    rwa [hradio, accept_mac, changed_beq] at hans

/-! ### Settings that wait for their commit -/

/-- A fence or a span the wrong way round refuses a setting whose member is no STANDBY, and nothing else does. -/
theorem notStandby_append (b : Bool) {s : State} (op : Nat) (r : Req) (h : s.pair.role ≠ 2) :
    notStandby (accept op r s) ++ failIf b 0x4003 = failIf b 0x4003 := by
  rw [notStandby_of_role (by simpa using h), List.nil_append]

theorem subbandSet_held {r : Req} {s : State} (hrole : s.pair.role ≠ 2) (ha : Admitted 0x070A true r s)
    (hlen : r.payload.length = 4 + 20 * u8 r.payload 0) (hk : u8 r.payload 0 ≤ 32) (hz : zeroAt r.payload 1 3 = true)
    (hes : ∀ i, i < u8 r.payload 0 → u8 r.payload (22 + 20 * i) ≤ 1 ∧ within (subEntry r.payload i).duty 1 100000 = true ∧
      within (subEntry r.payload i).window 60 86400 = true ∧ (subEntry r.payload i).reserve ≤ 50) :
    ((∃ e ∈ subEntries r.payload, e.hi ≤ e.lo) → Runs (.radioSubbandSet r) s (fun t => Same t s ∧ Answered s t r 0x070A 0x4003 [])) ∧
    ((∀ e ∈ subEntries r.payload, e.lo < e.hi) → Runs (.radioSubbandSet r) s (fun t => Same t (hold r.master (.command 0x070A r) s))) := by
  have hsize : (r.payload.length == 4 + 20 * u8 r.payload 0) = true := by simpa using hlen
  have hreserved : (zeroAt r.payload 1 3 &&
      (List.range (u8 r.payload 0)).all (fun i => decide (u8 r.payload (22 + 20 * i) ≤ 1))) = true := by
    rw [hz, Bool.true_and, List.all_eq_true]
    exact fun i hi => decide_eq_true (hes i (List.mem_range.mp hi)).1
  have hrange : (decide (u8 r.payload 0 ≤ 32) && (subEntries r.payload).all (fun e =>
      within e.duty 1 100000 && within e.window 60 86400 && decide (e.reserve ≤ 50))) = true := by
    rw [decide_eq_true hk, Bool.true_and, List.all_eq_true]
    intro e he
    obtain ⟨i, hi, rfl⟩ := List.mem_map.mp he
    obtain ⟨-, hd, hw, hr⟩ := hes i (List.mem_range.mp hi)
    rw [hd, hw, decide_eq_true hr]
    rfl
  refine ⟨fun hbad => ?_, fun hgood => ?_⟩
  · refine runs_checked_fail rfl ha hsize hreserved hrange rfl ((notStandby_append _ _ _ hrole).trans (failIf_true _ ?_))
    simpa using hbad
  · refine runs_checked_hold rfl ha hsize hreserved hrange rfl ((notStandby_append _ _ _ hrole).trans (failIf_false _ ?_)) (fun _ => rfl)
    simpa using hgood

theorem linkFenceSet_held {r : Req} {s : State} (hrole : s.pair.role ≠ 2) (ha : Admitted 0x070B true r s)
    (hlen : r.payload.length = 16) (hb : u16 r.payload 0 ≤ 255 ∨ u16 r.payload 0 = 0xFFFF) (h2 : u8 r.payload 2 ≤ 1)
    (h3 : u8 r.payload 3 ≤ 1) (hv : ∀ o ∈ [4, 8, 12], if u8 r.payload 2 = 0 then withinI (iN 4 r.payload o) 0 7 = true
      else withinI (iN 4 r.payload o) (-1000) 3600 = true) :
    (iN 4 r.payload 8 < iN 4 r.payload 4 → Runs (.radioLinkFenceSet r) s (fun t => Same t s ∧ Answered s t r 0x070B 0x4003 [])) ∧
    (iN 4 r.payload 4 ≤ iN 4 r.payload 8 → Runs (.radioLinkFenceSet r) s (fun t => Same t (hold r.master (.command 0x070B r) s))) := by
  have hsize : (r.payload.length == 16) = true := by simpa using hlen
  have hok (o : Nat) (ho : o ∈ [4, 8, 12]) : (if u8 r.payload 2 = 0 then withinI (iN 4 r.payload o) 0 7
      else withinI (iN 4 r.payload o) (-1000) 3600) = true := by
    have := hv o ho
    split at this
    · rename_i h
      rwa [if_pos h]
    · rename_i h
      rwa [if_neg h]
  have hrange : ((decide (u16 r.payload 0 ≤ 255) || u16 r.payload 0 == 0xFFFF) && decide (u8 r.payload 2 ≤ 1) && decide (u8 r.payload 3 ≤ 1)
      && (if u8 r.payload 2 = 0 then withinI (iN 4 r.payload 4) 0 7 else withinI (iN 4 r.payload 4) (-1000) 3600)
      && (if u8 r.payload 2 = 0 then withinI (iN 4 r.payload 8) 0 7 else withinI (iN 4 r.payload 8) (-1000) 3600)
      && (u8 r.payload 3 == 0 || (if u8 r.payload 2 = 0 then withinI (iN 4 r.payload 12) 0 7
        else withinI (iN 4 r.payload 12) (-1000) 3600))) = true := by
    rw [hok 4 (by simp), hok 8 (by simp), hok 12 (by simp)]
    simpa [h2, h3] using hb
  refine ⟨fun hbad => ?_, fun hgood => ?_⟩
  · exact runs_checked_fail rfl ha hsize rfl hrange rfl ((notStandby_append _ _ _ hrole).trans (failIf_true _ (decide_eq_true hbad)))
  · exact runs_checked_hold rfl ha hsize rfl hrange rfl
      ((notStandby_append _ _ _ hrole).trans (failIf_false _ (decide_eq_false (Int.not_lt.mpr hgood)))) (fun _ => rfl)

theorem chanFenceSet_held {r : Req} {s : State} (hrole : s.pair.role ≠ 2) (ha : Admitted 0x070C true r s)
    (hlen : r.payload.length = 8) (hz : zeroAt r.payload 5 3 = true) (h0 : u8 r.payload 0 ≤ 3) (h1 : u8 r.payload 1 ≤ 1)
    (h2 : u8 r.payload 2 ≤ 15) (h3 : u8 r.payload 3 ≤ 15) (h4 : u8 r.payload 4 ≤ 15) :
    (u8 r.payload 3 < u8 r.payload 2 → Runs (.radioChanFenceSet r) s (fun t => Same t s ∧ Answered s t r 0x070C 0x4003 [])) ∧
    (u8 r.payload 2 ≤ u8 r.payload 3 → Runs (.radioChanFenceSet r) s (fun t => Same t (hold r.master (.command 0x070C r) s))) := by
  have hsize : (r.payload.length == 8) = true := by simpa using hlen
  have hrange : (decide (u8 r.payload 0 ≤ 3) && decide (u8 r.payload 1 ≤ 1) && decide (u8 r.payload 2 ≤ 15) && decide (u8 r.payload 3 ≤ 15)
      && (u8 r.payload 1 == 0 || decide (u8 r.payload 4 ≤ 15))) = true := by
    simp [h0, h1, h2, h3, h4]
  refine ⟨fun hbad => ?_, fun hgood => ?_⟩
  · exact runs_checked_fail rfl ha hsize hz hrange rfl ((notStandby_append _ _ _ hrole).trans (failIf_true _ (decide_eq_true hbad)))
  · exact runs_checked_hold rfl ha hsize hz hrange rfl
      ((notStandby_append _ _ _ hrole).trans (failIf_false _ (decide_eq_false (Nat.not_lt.mpr hgood)))) (fun _ => rfl)

/-- The meters as RADIO_DUTY_GET gives them (R370). -/
def dutyBytes (s : State) : List Byte :=
  (List.range s.repl.mac.subs.length).flatMap (fun i => leBytes 4 (usedUs s i / 1000) ++ leBytes 4 (budgetUs (subOf s i) / 1000)
    ++ leBytes 4 (meterNow s i).refused ++ leBytes 4 (meterNow s i).exemptOver)

theorem dutyBytes_accept (op : Nat) (r : Req) (s : State) : dutyBytes (accept op r s) = dutyBytes s := by
  unfold accept
  split <;> rfl

theorem dutyGet_answers {r : Req} {s : State} (ha : Admitted 0x070D false r s) (hp : r.payload = []) :
    Runs (.radioDutyGet r) s (fun t => Same t s ∧ Answered s t r 0x070D 0 (dutyBytes s)) :=
  runs_checked_reply rfl ha (by simp [hp]) rfl rfl rfl rfl (congrArg (fun p => Ans.reply 0 p _) (dutyBytes_accept 0x070D r s))
    (core_accept _ _ _) (.refl _) (.refl _)

theorem radioSettingsHeld_holds : Claims.RadioSettingsHeld := fun _ _ hrole =>
  ⟨subbandSet_held hrole, linkFenceSet_held hrole, chanFenceSet_held hrole, dutyGet_answers⟩

/-! ### Tables by their keys -/

/-- An entry that is set is what the table then gives for its key, and no other key's entry is touched. -/
theorem look_upsert {α : Type} (l : List (Nat × α)) (k n : Nat) (v : α) : look (upsert l k v) n = if n = k then some v else look l n := by
  have hcons (e : Nat × α) (r : List (Nat × α)) : look (e :: r) n = if e.1 = n then some e.2 else look r n := by
    unfold look
    rw [List.find?_cons]
    by_cases h : e.1 = n
    · simp [h]
    · simp [h, beq_eq_false_iff_ne.mpr h]
  induction l with
  | nil => simp only [upsert, hcons, eq_comm]
  | cons e r ih =>
    unfold upsert
    split
    · rw [hcons]
      simp only [eq_comm]
    · split
      · rename_i h
        rw [hcons, hcons, ← h]
        simp only [eq_comm]
        split <;> rfl
      · rename_i h
        rw [hcons, hcons, ih]
        by_cases he : e.1 = n
        · have : n ≠ k := by omega
          simp [he, this]
        · simp [he]

theorem look_foldl_upsert {α : Type} (g : Nat → α) (ks : List Nat) (l : List (Nat × α)) (n : Nat) :
    look (ks.foldl (fun l k => upsert l k (g k)) l) n = if n ∈ ks then some (g n) else look l n := by
  induction ks generalizing l with
  | nil => simp
  | cons k ks ih =>
    rw [List.foldl_cons, ih, look_upsert]
    by_cases hk : n = k <;> simp [hk]

/-! ### The commits of fences -/

/-- A reply without a session always leaves. -/
theorem answered_open {r : Req} {s t : State} (hr : r.sess = none) (hg : Grows s t) (op st : Nat) (p : List Byte) :
    Answered s (reply r op st p t) r op st p := answered_reply r op st p s t hg (.inl hr)

theorem mem_namedBerths (b n : Nat) : n ∈ namedBerths b ↔ b = 0xFFFF ∧ n < 256 ∨ b = n ∧ n ≠ 0xFFFF := by
  unfold namedBerths
  split
  · rename_i h
    rw [List.mem_range]
    omega
  · rename_i h
    rw [List.mem_singleton]
    omega

theorem commitLinkFence_fences (r : Req) (s : State) : (commitLinkFence r s).repl.mac.fences =
    (namedBerths (u16 r.payload 0)).foldl (fun l b => upsert l b (linkFenceWith r.payload (linkFenceOf s b))) s.repl.mac.fences :=
  congrArg (fun x => x.mac.fences) (reply_repl _ _ _ _ _)

/-- The berths named take the values, and no other does (R366). -/
theorem linkFenceOf_commit (r : Req) (s : State) (b : Nat) : linkFenceOf (commitLinkFence r s) b =
    if u16 r.payload 0 = 0xFFFF ∧ b < 256 ∨ u16 r.payload 0 = b ∧ b ≠ 0xFFFF then linkFenceWith r.payload (linkFenceOf s b)
    else linkFenceOf s b := by
  rw [linkFenceOf, commitLinkFence_fences, look_foldl_upsert]
  simp only [mem_namedBerths]
  split <;> rfl

theorem same_commitLinkFence (r : Req) (s : State) : Same (commitLinkFence r s)
    { s with repl := { s.repl with mac := { s.repl.mac with fences := (commitLinkFence r s).repl.mac.fences } } } := by
  rw [commitLinkFence_fences]
  exact core_reply _ _ _ _ _

/-! ### The commit of a sub-band table (R371) -/

/-- The entry that stands for a missing one. -/
def noSubBand : SubBand := ⟨0, 0, 0, 60, 0, false, 0⟩

/-- The meter of entry `i` of a new table: the one it keeps, or an empty one. -/
def loadedMeter (s : State) (i : Nat) (e : SubBand) : Meter :=
  match keptIndex (meterSubs s.repl.mac) i e with
  | none => ⟨[0], bucketNum e (airTime s), 0, 0⟩
  | some k => nth s.repl.mac.meters k ⟨[], 0, 0, 0⟩

/-- A new table in force with its meters. -/
def tableLoaded (es : List SubBand) (s : State) : State :=
  modOwn (fun o => { o with dutyReport := [] }) (modMac (fun m => { m with
    subs := es
    oldSubs := []
    meters := (List.range es.length).map (fun i => loadedMeter s i (nth es i noSubBand)) }) s)

/-- RADIO_DUTY for an entry that begins a meter. -/
def meterReport (olds es : List SubBand) (t : State) (i : Nat) : State :=
  if (keptIndex olds i (nth es i noSubBand)).isNone then radioDuty i 1 0xFF 0xFF t else t

/-- A new table in force, with its reports. -/
def tableReported (es : List SubBand) (s : State) : State :=
  (List.range es.length).foldl (meterReport (meterSubs s.repl.mac) es) (tableLoaded es s)

theorem commitSubbands_same {r : Req} {s : State} (h : subEntries r.payload = s.repl.mac.subs) :
    commitSubbands r s = reply r 0x070A 0x0102 r.payload s := if_pos h

theorem commitSubbands_changed {r : Req} {s : State} (h : subEntries r.payload ≠ s.repl.mac.subs) :
    commitSubbands r s = reply r 0x070A 0 r.payload (tableReported (subEntries r.payload) s) := if_neg h

section
variable (olds es : List SubBand) (t : State) (i : Nat)

theorem hush_meterReport : hush (meterReport olds es t i) = hush t := by
  unfold meterReport
  split
  · exact hush_emit _ _ _ _
  · rfl

theorem grows_meterReport : Grows t (meterReport olds es t i) := by
  unfold meterReport
  split
  · exact grows_emit _ _ _ _
  · exact .refl t

end

section
variable {es : List SubBand} {s : State} {i : Nat} {e : SubBand}

theorem hush_tableReported : hush (tableReported es s) = hush (tableLoaded es s) := hush_foldl _ (hush_meterReport _ _) _ _

theorem grows_tableReported : Grows s (tableReported es s) :=
  .trans (.of_eq rfl) (grows_foldl _ (grows_meterReport _ _) _ (tableLoaded es s))

theorem nth_of_getElem? {α : Type} {l : List α} {n : Nat} {a d : α} (h : l[n]? = some a) : nth l n d = a := by
  rw [nth, List.getD_eq_getElem?_getD, h]
  rfl

theorem tableReported_meter (h : es[i]? = some e) : (tableReported es s).repl.mac.meters[i]? = some (loadedMeter s i e) := by
  obtain ⟨hi, -⟩ := List.getElem?_eq_some_iff.mp h
  have hm : (tableReported es s).repl.mac.meters = (List.range es.length).map (fun i => loadedMeter s i (nth es i noSubBand)) :=
    congrArg (fun x => x.mac.meters) (hush_repl hush_tableReported)
  rw [hm, List.getElem?_map, List.getElem?_range hi, Option.map_some, nth_of_getElem? h]

/-- Without an entry of its span and window before, an entry keeps no meter. -/
theorem keptIndex_none {olds : List SubBand} (h : ∀ o ∈ olds, sameSpan o e = false) : keptIndex olds i e = none := by
  unfold keptIndex
  rw [List.find?_eq_none]
  intro k _
  by_cases hk : k < olds.length
  · have hmem : nth olds k e ∈ olds := by
      rw [nth, List.getD_eq_getElem?_getD, List.getElem?_eq_getElem hk, Option.getD_some]
      exact List.getElem_mem hk
    simp [h _ hmem]
  · simp [hk]

/-- Its own place comes first. -/
theorem keptIndex_self {olds : List SubBand} {o : SubBand} (ho : olds[i]? = some o) (hs : sameSpan o e = true) :
    keptIndex olds i e = some i := by
  obtain ⟨hi, -⟩ := List.getElem?_eq_some_iff.mp ho
  unfold keptIndex
  rw [List.find?_cons_of_pos]
  simp [hi, nth_of_getElem? ho, hs]

theorem loadedMeter_fresh (h : ∀ o ∈ meterSubs s.repl.mac, sameSpan o e = false) :
    loadedMeter s i e = ⟨[0], bucketNum e (airTime s), 0, 0⟩ := by
  rw [loadedMeter, keptIndex_none h]

theorem loadedMeter_kept {o : SubBand} {m : Meter} (ho : (meterSubs s.repl.mac)[i]? = some o) (hs : sameSpan o e = true)
    (hm : s.repl.mac.meters[i]? = some m) : loadedMeter s i e = m := by
  rw [loadedMeter, keptIndex_self ho hs]
  exact nth_of_getElem? hm

/-- A meter that has just begun shows no air time used. -/
theorem usedUs_fresh {t : State} (h : es[i]? = some e) (hn : ∀ o ∈ meterSubs s.repl.mac, sameSpan o e = false)
    (ht : hush t = hush (tableLoaded es s)) : usedUs t i = 0 ∧ subOf t i = e := by
  have hrepl : t.repl = (tableLoaded es s).repl := hush_repl ht
  have hair : airTime t = airTime s := by
    rw [airTime, hush_tb ht, hush_mac ht]
    rfl
  have hsub : subOf t i = e := by
    rw [subOf, hrepl]
    exact nth_of_getElem? h
  have hmeter : nth t.repl.mac.meters i ⟨[], 0, 0, 0⟩ = ⟨[0], bucketNum e (airTime s), 0, 0⟩ := by
    rw [hrepl, ← hush_repl hush_tableReported, nth_of_getElem? (tableReported_meter h), loadedMeter_fresh hn]
  refine ⟨?_, hsub⟩
  rw [usedUs, meterNow, hmeter, hsub, hair]
  simp [rollMeter]

end

/-- What one step of a fold puts out is there at its end, where every step only adds. -/
theorem mem_newOuts_foldl {α : Type} {f : State → α → State} {P : State → Prop} {s t : State} {o : Out} {l : List α} {a : α}
    (hf : ∀ u b, Grows u (f u b)) (hP : ∀ u b, P u → P (f u b)) (ho : ∀ u, P u → Grows s u → o ∈ newOuts s (f u a)) (ha : a ∈ l)
    (ht : P t) (hg : Grows s t) : o ∈ newOuts s (l.foldl f t) := by
  obtain ⟨l₁, l₂, rfl⟩ := List.append_of_mem ha
  have hP₁ : P (l₁.foldl f t) := List.foldlRecOn l₁ f ht (fun u hu b _ => hP u b hu)
  have hg₁ : Grows s (l₁.foldl f t) := hg.trans (grows_foldl f hf l₁ t)
  rw [List.foldl_append, List.foldl_cons]
  exact newOuts_mono (hg₁.trans (hf _ _)) (ho _ hP₁ hg₁) (grows_foldl f hf l₂ _)

/-- Each entry that begins a meter is reported (R371). -/
theorem reported_fresh {es : List SubBand} {s : State} {i : Nat} {e : SubBand} (h : es[i]? = some e)
    (hn : ∀ o ∈ meterSubs s.repl.mac, sameSpan o e = false) : Reported s (tableReported es s) 0xC704 28
      (leBytes 1 i ++ [1, 0xFF, 0xFF] ++ leBytes 4 0 ++ leBytes 4 (budgetUs e / 1000)) := by
  obtain ⟨hi, -⟩ := List.getElem?_eq_some_iff.mp h
  refine mem_newOuts_foldl (P := fun u => hush u = hush (tableLoaded es s)) (grows_meterReport _ _)
    (fun u b hu => (hush_meterReport _ _ u b).trans hu) (fun u hu hg => ?_) (List.mem_range.mpr hi) rfl (.of_eq rfl)
  obtain ⟨hused, hsub⟩ := usedUs_fresh h hn hu
  have hduty : meterReport (meterSubs s.repl.mac) es u i =
      emit 0xC704 28 (leBytes 1 i ++ [1, 0xFF, 0xFF] ++ leBytes 4 0 ++ leBytes 4 (budgetUs e / 1000)) u := by
    rw [meterReport, nth_of_getElem? h, keptIndex_none hn, if_pos Option.isNone_none, radioDuty, hused, hsub]
    rfl
  have hgtc : u.tb.gtc = s.tb.gtc := by
    rw [hush_tb hu]
    rfl
  rw [hduty]
  exact reported_emit _ _ _ s u hg hgtc

/-! ### The claim -/

theorem radioCommits_hold : Claims.RadioCommits := by
  intro r s hr es
  refine ⟨fun hsame => ?_, fun hne => ?_, fun h2 b => ?_, fun h2 b => ?_, same_commitLinkFence r s, ⟨_, answered_open hr ?_ _ _ _⟩,
    fun _ => ⟨core_reply _ _ _ _ _, _, answered_open hr ?_ _ _ _⟩⟩
  · rw [commitSubbands_same hsame]
    exact ⟨core_reply _ _ _ _ _, answered_open hr (.refl s) _ _ _⟩
  · intro t
    have ht : t = reply r 0x070A 0 r.payload (tableReported es s) := commitSubbands_changed hne
    have hrepl : t.repl = (tableReported es s).repl := by rw [ht, reply_repl]
    have hreply : Grows (tableReported es s) t := by
      rw [ht]
      exact grows_reply _ _ _ _ _
    refine ⟨?_, ?_, ?_, fun i e hi hn => ⟨?_, ?_⟩, fun i e o m hi ho hs hm => ?_⟩
    · have hcore : core (tableReported es s) = core (tableLoaded es s) := core_of_hush hush_tableReported
      rw [ht]
      exact (core_reply _ _ _ _ _).trans hcore
    · rw [ht]
      exact answered_open hr grows_tableReported _ _ _
    · rw [hrepl, hush_repl hush_tableReported]
      simp [tableLoaded, modOwn, modMac]
    · rw [hrepl, tableReported_meter hi, loadedMeter_fresh hn]
    · exact newOuts_mono grows_tableReported (reported_fresh hi hn) hreply
    · rw [hrepl, tableReported_meter hi, loadedMeter_kept ho hs hm]
  · rw [linkFenceOf_commit, linkFenceWith, if_pos h2]
  · rw [linkFenceOf_commit, linkFenceWith, if_neg h2]
  · exact .of_eq rfl
  · exact .of_eq rfl

/-- Settles O35: the radio mode by `radioStep`, the settings by their checks, their commits by the tables they leave. -/
theorem radioSettings : Obligations.RadioSettings := ⟨radioMode_holds, radioSettingsHeld_holds, radioCommits_hold⟩

end Sys2Proof.Machine
end

section
/-!
PROOFS. Accesses of the host window (R95 to R97): an access that the window reaches and that is not bad does what its block says; then
mailboxes (R100 to R103) and locks (R116, R118).
-/
namespace Sys2Proof.Machine
open Sys2Proof
set_option Elab.async false

/-! ### One access -/

section
variable {m off v : Nat} {s : State}

/-- A write at an aligned offset, while the window can be reached, does what the window says. -/
theorem writeSeen_some {t : State} (hup : windowUp m s = true) (hal : off % 4 = 0) (h : windowWrite m off (v % 2 ^ 32) s = some t) :
    writeSeen m off v s = t := by
  rw [writeSeen, if_pos hup, writeAccess, if_pos (.inl hal), h]

/-- A write that the window does not allow is a bad access (R97). -/
theorem writeSeen_none (hup : windowUp m s = true) (hal : off % 4 = 0) (h : windowWrite m off (v % 2 ^ 32) s = none) :
    writeSeen m off v s = badAccess m s := by
  rw [writeSeen, if_pos hup, writeAccess, if_pos (.inl hal), h]

/-- A read at an aligned offset shows the reader the word. -/
theorem readShown_some {ecc : Bool} {x : Nat × State} (hup : windowUp m s = true) (hal : off % 4 = 0)
    (h : windowRead m off ecc s = some x) : readShown m off ecc s = put (.value x.1) x.2 := by
  rw [readShown, if_pos hup, readAccess, if_pos hal, h]

end

/-! ### The blocks of Table 3-1 -/

section
variable {m o : Nat} {s : State}

theorem windowWrite_mbx (hm : m ≤ 3) (hf : frozen s m = false) (ho : o < 0x1000) (v : Nat) :
    windowWrite m (0x1000 + o) v s = mbxWrite m o v s := by
  simp (disch := omega) only [windowWrite, hf, Nat.add_sub_cancel_left, if_pos, if_neg, Bool.false_eq_true, ↓reduceIte]

theorem windowRead_mbx (hm : m ≤ 3) (hf : frozen s m = false) (ho : o < 0x1000) (ecc : Bool) :
    windowRead m (0x1000 + o) ecc s = mbxRead m o s := by
  simp (disch := omega) only [windowRead, hf, Nat.add_sub_cancel_left, if_pos, if_neg, Bool.false_eq_true, ↓reduceIte]

theorem windowWrite_lck (hf : frozen s m = false) (ho : o < 0x1000) (v : Nat) :
    windowWrite m (0x3000 + o) v s = lckWrite m o v s := by
  simp (disch := omega) only [windowWrite, hf, Nat.add_sub_cancel_left, if_pos, if_neg, Bool.false_eq_true, ↓reduceIte]

theorem windowRead_lck (hf : frozen s m = false) (ho : o < 0x1000) (ecc : Bool) :
    windowRead m (0x3000 + o) ecc s = lckRead m o s := by
  simp (disch := omega) only [windowRead, hf, Nat.add_sub_cancel_left, if_pos, if_neg, Bool.false_eq_true, ↓reduceIte]

end

/-! ### Mailboxes -/

theorem exec_mbxPost (m n w : Nat) (s : State) :
    exec (.mbxPost m n w) s = done (if n < 16 then writeSeen m (0x1000 + 64 * n + 60) w s else s) := rfl
theorem exec_mbxLatch (m n : Nat) (s : State) :
    exec (.mbxLatch m n) s = done (if n < 16 then readShown m (0x1400 + 64 * n) false s else s) := rfl
theorem exec_mbxReadEnd (m n : Nat) (s : State) :
    exec (.mbxReadEnd m n) s = done (if n < 16 then readShown m (0x1400 + 64 * n + 60) false s else s) := rfl

/-- The write of word 15 of an inbound mailbox: its post, which in SLEEP asks to wake (R100, R103). -/
theorem mbxWrite_post {m n : Nat} (hn : n < 16) (v : Nat) (s : State) : mbxWrite m (64 * n + 60) v s =
    some (askWake 7 (modBank m (fun b => { b with inb := modNth b.inb n (mbxInWrite 15 v) }) s)) := by
  have h1 : 64 * n + 60 < 0x400 := by omega
  have h2 : (64 * n + 60) % 64 = 60 := by omega
  have h3 : (64 * n + 60) / 64 = n := by omega
  simp only [mbxWrite, h1, h2, h3, ↓reduceIte]

/-- A read of word `w` of an outbound mailbox. -/
theorem mbxRead_out {m n w : Nat} (hn : n < 16) (hw : w < 16) (s : State) : mbxRead m (0x400 + 64 * n + 4 * w) s =
    some ((mbxOutRead w (nth (bankOf s m).outb n MbxOut.zero)).1, modBank m (fun b => { b with
      outb := b.outb.set n (mbxOutRead w (nth (bankOf s m).outb n MbxOut.zero)).2 }) s) := by
  have h1 : ¬ 0x400 + 64 * n + 4 * w < 0x400 := by omega
  have h2 : 0x400 + 64 * n + 4 * w < 0x800 := by omega
  have h3 : (0x400 + 64 * n + 4 * w - 0x400) / 64 = n := by omega
  have h4 : (0x400 + 64 * n + 4 * w) % 64 / 4 = w := by omega
  simp only [mbxRead, h1, h2, h3, h4, ↓reduceIte]

section
variable {m n : Nat} {s : State}

/-- A read of word `w` of an outbound mailbox through the window. -/
theorem windowRead_mbxOut {w : Nat} (hm : m ≤ 3) (hn : n < 16) (hf : frozen s m = false) (hw : w < 16) :
    windowRead m (0x1400 + 64 * n + 4 * w) false s =
      some ((mbxOutRead w (nth (bankOf s m).outb n MbxOut.zero)).1, modBank m (fun b => { b with
        outb := b.outb.set n (mbxOutRead w (nth (bankOf s m).outb n MbxOut.zero)).2 }) s) := by
  have hoff : 0x1400 + 64 * n + 4 * w = 0x1000 + (0x400 + 64 * n + 4 * w) := by omega
  rw [hoff, windowRead_mbx hm hf (by omega), mbxRead_out hn hw]

/-- What the reader of word `w` sees, and what the read does. -/
theorem readShown_mbxOut {w : Nat} (hm : m ≤ 3) (hn : n < 16) (hup : windowUp m s = true) (hf : frozen s m = false) (hw : w < 16) :
    readShown m (0x1400 + 64 * n + 4 * w) false s =
      put (.value (mbxOutRead w (nth (bankOf s m).outb n MbxOut.zero)).1) (modBank m (fun b => { b with
        outb := b.outb.set n (mbxOutRead w (nth (bankOf s m).outb n MbxOut.zero)).2 }) s) :=
  readShown_some hup (by omega) (windowRead_mbxOut hm hn hf hw)

end

theorem mbxOutRead_end (o : MbxOut) : mbxOutRead 15 o = (nth o.latch 15 0, { o with
    full := o.full && o.postedSince
    coll := o.coll || (o.full && o.postedSince) }) := rfl

/-- The read of word 15 frees a mailbox to which nothing was posted since the latch (R102). -/
theorem mbxOutRead_end_free {o : MbxOut} (h : o.postedSince = false) : mbxOutRead 15 o = (nth o.latch 15 0, { o with full := false }) := by
  rw [mbxOutRead_end, h, Bool.and_false, Bool.or_false]

/-- A newer message stays, and collides (R102). -/
theorem mbxOutRead_end_posted {o : MbxOut} (h : o.postedSince = true) (hfull : o.full = true) :
    mbxOutRead 15 o = (nth o.latch 15 0, { o with coll := true }) := by
  simp [mbxOutRead_end, h, hfull]

/-- Reads between only show the latched words. -/
theorem mbxOutRead_between {w : Nat} (o : MbxOut) (h1 : 1 ≤ w) (h14 : w ≤ 14) : mbxOutRead w o = (nth o.latch w 0, o) := by
  have h0 : w ≠ 0 := by omega
  have h15 : w ≠ 15 := by omega
  simp only [mbxOutRead, h0, h15, ↓reduceIte]

/-- A message left unread collides with the next (R101). -/
theorem postWords_full {o : MbxOut} (h : o.full = true) (ws : List Nat) : postWords o ws =
    { o with data := ws, full := true, coll := true, postedSince := o.postedSince || o.latched } := by
  simp [postWords, h]

/-- A wake source is asked for in SLEEP alone. -/
theorem askWake_eq (code : Nat) (s : State) : askWake code s =
    { s with pwr := if s.pwr.state = 3 then { s.pwr with wakes := putBit s.pwr.wakes code true } else s.pwr } := by
  unfold askWake
  split <;> rfl

theorem mailboxPost_holds : Claims.MailboxPost := by
  refine ⟨fun m n w s hm hn hup hf => ?_, fun o ws h => postWords_full h ws⟩
  have hwrite : windowWrite m (0x1000 + 64 * n + 60) (w % 2 ^ 32) s = some (askWake 7 (modBank m (fun b => { b with
      inb := modNth b.inb n (mbxInWrite 15 (w % 2 ^ 32)) }) s)) := by
    rw [Nat.add_assoc, windowWrite_mbx hm hf (by omega), mbxWrite_post hn]
  rw [exec_mbxPost, if_pos hn, writeSeen_some hup (by omega) hwrite, askWake_eq]
  rfl

theorem mailboxRead_holds : Claims.MailboxRead := by
  intro m n s hm hn hup hf o
  have hend : exec (.mbxReadEnd m n) s = done (put (.value (mbxOutRead 15 o).1) (modBank m (fun b => { b with
      outb := b.outb.set n (mbxOutRead 15 o).2 }) s)) := by
    rw [exec_mbxReadEnd, if_pos hn, readShown_mbxOut (w := 15) hm hn hup hf (by decide)]
  refine ⟨?_, fun hsince => ?_, fun hsince hfull => ?_, fun w h1 h14 => ?_⟩
  · rw [exec_mbxLatch, if_pos hn]
    exact congrArg done (readShown_mbxOut (w := 0) hm hn hup hf (by decide))
  · rw [hend, mbxOutRead_end_free hsince]
    rfl
  · rw [hend, mbxOutRead_end_posted hsince hfull]
    rfl
  · rw [windowRead_mbxOut hm hn hf (by omega), mbxOutRead_between _ h1 h14]
    rfl

/-- Settles O16: a post by the write of word 15, the reads by what each word of an outbound mailbox does. -/
theorem mailboxes : Obligations.Mailboxes := ⟨mailboxPost_holds, mailboxRead_holds⟩

/-! ### Locks -/

theorem exec_lckRead (m k : Nat) (s : State) :
    exec (.lckRead m k) s = done (if k < 64 then readShown m (0x3000 + 4 * k) false s else s) := rfl
theorem exec_lckReleaseWrite (m v : Nat) (s : State) : exec (.lckReleaseWrite m v) s = done (writeSeen m 0x3200 v s) := rfl

section
variable {m k : Nat} {s : State}

theorem lckRead_lock (hk : k < 64) : lckRead m (4 * k) s = some (lockRead m k s) := by
  have hoff : 4 * k < 0x100 := by omega
  exact (if_pos hoff).trans (by rw [Nat.mul_div_cancel_left k (by decide)])

/-- A read of LCK_k is one access of the lock. -/
theorem lckRead_runs (hk : k < 64) (hup : windowUp m s = true) (hf : frozen s m = false) :
    exec (.lckRead m k) s = done (put (.value (lockRead m k s).1) (lockRead m k s).2) := by
  have hread : windowRead m (0x3000 + 4 * k) false s = some (lockRead m k s) := by
    rw [windowRead_lck hf (by omega), lckRead_lock hk]
  rw [exec_lckRead, if_pos hk, readShown_some hup (by omega) hread]

/-- The owner's write of LCK_RELEASE frees the lock; any other is not allowed (R118). -/
theorem windowWrite_release (hk : k < 64) (hf : frozen s m = false) : windowWrite m 0x3200 (k % 2 ^ 32) s =
    if nth s.locks k 0 = m + 1 then some { s with locks := s.locks.set k 0 } else none := by
  have hmod : k % 2 ^ 32 % 64 = k := by omega
  have hlck : lckWrite m 0x200 (k % 2 ^ 32) s = if nth s.locks (k % 2 ^ 32 % 64) 0 = m + 1 then
      some { s with locks := s.locks.set (k % 2 ^ 32 % 64) 0 } else none := rfl
  rw [windowWrite_lck (o := 0x200) hf (by decide), hlck, hmod]

end

theorem lockRead_holds : Claims.LockRead := by
  intro m k s _ hk hup hf
  refine ⟨fun hfree => ?_, fun hheld => ?_⟩
  · rw [lckRead_runs hk hup hf]
    simp only [lockRead, hfree, ↓reduceIte]
    rfl
  · rw [lckRead_runs hk hup hf]
    simp only [lockRead, hheld, ↓reduceIte]
    rfl

theorem lockRelease_holds : Claims.LockRelease := by
  intro m k s _ hk hup hf
  have hwrite := windowWrite_release (m := m) hk hf
  refine ⟨fun hown => ?_, fun hother => ?_⟩
  · rw [exec_lckReleaseWrite, writeSeen_some hup (by decide) (hwrite.trans (if_pos hown))]
  · rw [exec_lckReleaseWrite, writeSeen_none hup (by decide) (hwrite.trans (if_neg hother))]

/-- Settles O17: a read by `lockRead`, a release by the access that only the owner is allowed. -/
theorem locks : Obligations.Locks := ⟨lockRead_holds, lockRelease_holds⟩

end Sys2Proof.Machine
end

section
/-!
PROOFS. Spill queues (R122 to R127, R133): accesses of the SQ_ block, what each of them does to its queue, and SQ_CONFIG.
-/
namespace Sys2Proof.Machine
open Sys2Proof
set_option Elab.async false

/-! ### One queue of the table -/

/-- Two changes of an entry that agree on it are one. -/
theorem modNth_congr {α : Type} (l : List α) (i : Nat) (d : α) {f g : α → α} (h : f (nth l i d) = g (nth l i d)) :
    modNth l i f = modNth l i g := by
  unfold modNth nth at *
  induction l generalizing i with
  | nil => simp
  | cons a r ih => cases i with
    | zero => simpa using h
    | succ j => simpa using ih j (by simpa using h)

theorem modNth_modNth {α : Type} (l : List α) (i : Nat) (f g : α → α) :
    modNth (modNth l i f) i g = modNth l i (fun x => g (f x)) := List.modify_modify_eq f g i l

theorem modNth_id {α : Type} (l : List α) (i : Nat) : modNth l i (fun x => x) = l := List.modify_id i l

section
variable {q : Nat} {s : State} {f g : SpillQ → SpillQ}

theorem modSq_congr (h : f (sqOf s q) = g (sqOf s q)) : modSq q f s = modSq q g s :=
  congrArg (fun l => { s with sqs := l }) (modNth_congr s.sqs q SpillQ.zero h)

theorem modSq_modSq : modSq q g (modSq q f s) = modSq q (fun x => g (f x)) s :=
  congrArg (fun l => { s with sqs := l }) (modNth_modNth s.sqs q f g)

/-- A change that leaves the queue as it is changes nothing. -/
theorem modSq_eq_self (h : f (sqOf s q) = sqOf s q) : modSq q f s = s :=
  (modSq_congr (g := fun x => x) h).trans (congrArg (fun l => { s with sqs := l }) (modNth_id s.sqs q))

/-- What a change of queues does not move stays, the queue being in the table or not. -/
theorem sqOf_modSq_field {α : Type} (p : SpillQ → α) (h : ∀ x, p (f x) = p x) : p (sqOf (modSq q f s) q) = p (sqOf s q) := by
  unfold sqOf
  rw [modSq_sqs, nth_modNth_self]
  split
  · exact h _
  · rename_i hq
    rw [nth, List.getD_eq_getElem?_getD, List.getElem?_eq_none (Nat.not_lt.mp hq), Option.getD_none]

theorem core_modSq {u v : State} (h : core u = core v) : core (modSq q f u) = core (modSq q f v) := congrArg (modSq q f) h

theorem grows_modSq : Grows s (modSq q f s) := .of_eq rfl

theorem sqOf_congr {t : State} (h : t.sqs = s.sqs) : sqOf t q = sqOf s q := by rw [sqOf, sqOf, h]

@[simp] theorem sqOf_accept (op : Nat) (r : Req) : sqOf (accept op r s) q = sqOf s q := sqOf_congr (accept_sqs op r s)

end

/-! ### SQ_FAULT -/

section
variable (q k : Nat) (s : State)

theorem hush_sqFault : hush (sqFault q k s) = hush s := hush_limited _ _ _ _ _ (fun _ _ => hush_emit _ _ _ _)

@[simp] theorem core_sqFault : core (sqFault q k s) = core s := core_of_hush (hush_sqFault q k s)

@[simp] theorem sqOf_sqFault (i : Nat) : sqOf (sqFault q k s) i = sqOf s i := sqOf_congr (hush_sqs (hush_sqFault q k s))

theorem grows_sqFault : Grows s (sqFault q k s) := by
  unfold sqFault
  exact (quiet_limited (.refl s) (fun _ _ => quiet_emit)).grows

end

/-! ### A flush that is due -/

section
variable {q : Nat} {s : State}

/-- Without a flush requested, or while an end is inside a packet, no flush takes effect. -/
theorem sqFlushStep_waits (h : (sqOf s q).flushAt = none ∨ (sqOf s q).push ≠ none ∨ (sqOf s q).popPos ≠ 0) :
    sqFlushStep q s = s := by
  refine modSq_eq_self (if_neg ?_)
  rintro ⟨hflush, hpush, hpop⟩
  rw [Option.isNone_iff_eq_none] at hpush
  rcases h with h | h | h
  · rw [h] at hflush
    cases hflush
  · exact h hpush
  · exact h hpop

theorem core_sqFlushStep {u v : State} (h : core u = core v) : core (sqFlushStep q u) = core (sqFlushStep q v) := core_modSq h

theorem grows_sqFlushStep : Grows s (sqFlushStep q s) := grows_modSq

/-- A change of the queue that leaves no flush requested. -/
theorem sqFlushStep_modSq_none {f : SpillQ → SpillQ} (hf : ∀ x, (f x).flushAt = x.flushAt) (h : (sqOf s q).flushAt = none) :
    sqFlushStep q (modSq q f s) = modSq q f s :=
  sqFlushStep_waits (.inl ((sqOf_modSq_field SpillQ.flushAt hf).trans h))

end

/-! ### Pushing (R123) -/

section
variable {q len w : Nat} {s : State}

/-- Outside a packet there is nothing to abandon. -/
theorem sqAbandon_outside (h : (sqOf s q).push = none) : sqAbandon q s = s := by rw [sqAbandon, h]

/-- A packet that fits starts. -/
theorem sqPushLen_fits (hpush : (sqOf s q).push = none) (hen : (sqOf s q).en = true) (hlen : within len 16 4096 = true)
    (hfit : sqLevel (sqOf s q) + sqOccupies len ≤ sqSpace s (sqOf s q)) : sqPushLen q len s =
      modSq q (fun x => { x with push := some (len, [], false), pushFrom := s.tb.gtc }) s := by
  have hdrop : ¬ sqSpace s (sqOf s q) < sqLevel (sqOf s q) + sqOccupies len := by omega
  simp only [sqPushLen, sqAbandon_outside hpush, hen, hlen, hdrop, Bool.true_eq_false, or_self, decide_false, Bool.false_eq_true,
    ↓reduceIte]

/-- A packet that does not fit is dropped whole, which is counted at once. -/
theorem sqPushLen_drops (hpush : (sqOf s q).push = none) (hen : (sqOf s q).en = true) (hlen : within len 16 4096 = true)
    (hfull : sqSpace s (sqOf s q) < sqLevel (sqOf s q) + sqOccupies len) : sqPushLen q len s =
      modSq q (fun x => { x with push := some (len, [], true), pushFrom := s.tb.gtc }) (sqOverflow q s) := by
  simp only [sqPushLen, sqAbandon_outside hpush, hen, hlen, hfull, Bool.true_eq_false, or_self, decide_true, ↓reduceIte]

/-- A word before the final one joins its packet. -/
theorem sqPushWord_more {ws : List Nat} {drop : Bool} (hpush : (sqOf s q).push = some (len, ws, drop)) (hen : (sqOf s q).en = true)
    (h : ws.length + 1 < (len + 3) / 4) : sqPushWord q w s = modSq q (fun x => { x with push := some (len, ws ++ [w], drop) }) s := by
  simp only [sqPushWord, hpush, hen, h, Bool.true_eq_false, ↓reduceIte]

/-- The final word completes its packet. -/
theorem sqPushWord_final {ws : List Nat} {drop : Bool} (hpush : (sqOf s q).push = some (len, ws, drop)) (hen : (sqOf s q).en = true)
    (h : (len + 3) / 4 ≤ ws.length + 1) (hflush : (sqOf s q).flushAt = none) : sqPushWord q w s = modSq q (fun x => { x with
      push := none
      packets := if drop then x.packets else x.packets ++ [((ws ++ [w]).flatMap (leBytes 4)).take len] }) s := by
  simp only [sqPushWord, hpush, hen, Nat.not_lt.mpr h, Bool.true_eq_false, ↓reduceIte]
  exact sqFlushStep_modSq_none (fun _ => rfl) hflush

end

/-! ### Popping (R125, R127) -/

section
variable {q : Nat} {s : State} {p : List Byte} {rest : List (List Byte)}

/-- While PD_MEM is on, or while all that is held fits the fast sections, a pop finds its words (R98; log entry 20). -/
theorem sqStuck_false (h : domOn s 11 = true ∨ sqLevel (sqOf s q) ≤ 1024) : sqStuck s (sqOf s q) = false := by
  rcases h with h | h
  · simp [sqStuck, h]
  · simp [sqStuck, h]

variable (hcut : (sqOf s q).cutLeft = 0) (hen : (sqOf s q).en = true) (hstuck : sqStuck s (sqOf s q) = false)
  (hp : (sqOf s q).packets = p :: rest)
include hcut hen hstuck hp

/-- A word before the last is read. -/
theorem sqPop_more (h : (sqOf s q).popPos + 1 < (p.length + 3) / 4) : sqPop q false s =
    (leNat ((p.drop (4 * (sqOf s q).popPos)).take 4), modSq q (fun x => { x with
      popFrom := if x.popPos = 0 then s.tb.gtc else x.popFrom
      popPos := x.popPos + 1 }) s) := by
  simp only [sqPop, hcut, hen, hstuck, hp, h, ne_eq, not_true_eq_false, Bool.true_eq_false, Bool.false_eq_true, or_self, ↓reduceIte]

/-- The read of the last word removes the packet. -/
theorem sqPop_last (h : (p.length + 3) / 4 ≤ (sqOf s q).popPos + 1) (hflush : (sqOf s q).flushAt = none) : sqPop q false s =
    (leNat ((p.drop (4 * (sqOf s q).popPos)).take 4), modSq q (fun x => { x with packets := rest, popPos := 0 }) s) := by
  simp only [sqPop, hcut, hen, hstuck, hp, Nat.not_lt.mpr h, ne_eq, not_true_eq_false, Bool.true_eq_false, Bool.false_eq_true, or_self,
    ↓reduceIte]
  exact congrArg (Prod.mk _) (sqFlushStep_modSq_none (fun _ => rfl) hflush)

/-- A packet that meets an uncorrectable error is discarded, and reported. -/
theorem sqPop_ecc : sqPop q true s =
    (0, sqFlushStep q (sqFault q 2 (modSq q (fun x => { x with packets := rest, popPos := 0, ecc := true }) s))) := by
  simp only [sqPop, hcut, hen, hstuck, hp, ne_eq, not_true_eq_false, Bool.true_eq_false, Bool.false_eq_true, or_self, ↓reduceIte]

end

/-! ### Flushing (R124, R126) -/

section
variable {q : Nat} {s : State}

/-- While neither end is inside a packet a flush empties the queue at once. -/
theorem sqFlush_idle (hpush : (sqOf s q).push = none) (hpop : (sqOf s q).popPos = 0) : sqFlush q s = modSq q (fun x => { x with
    flushAt := none
    packets := []
    pushFrom := if x.flushAt.isSome then x.pushFrom else s.tb.gtc
    popFrom := if x.flushAt.isSome then x.popFrom else s.tb.gtc }) s := by
  rw [sqFlush, sqFlushStep, modSq_modSq]
  refine modSq_congr ?_
  cases hflush : (sqOf s q).flushAt <;> simp [hflush, hpush, hpop]

/-- While an end is inside a packet a flush waits, and the limits of the ends run from now. -/
theorem sqFlush_waits (h : (sqOf s q).push ≠ none ∨ (sqOf s q).popPos ≠ 0) (hflush : (sqOf s q).flushAt = none) : sqFlush q s =
    modSq q (fun x => { x with flushAt := some s.tb.gtc, pushFrom := s.tb.gtc, popFrom := s.tb.gtc }) s := by
  have hset : modSq q (fun x => if x.flushAt.isSome then x else { x with
      flushAt := some s.tb.gtc, pushFrom := s.tb.gtc, popFrom := s.tb.gtc }) s =
      modSq q (fun x => { x with flushAt := some s.tb.gtc, pushFrom := s.tb.gtc, popFrom := s.tb.gtc }) s :=
    modSq_congr (by simp only [hflush, Option.isSome_none, Bool.false_eq_true, ↓reduceIte])
  rw [sqFlush, hset]
  refine sqFlushStep_waits (.inr (h.imp (fun hin => ?_) (fun hin => ?_)))
  · rw [sqOf_modSq_field SpillQ.push]
    · exact hin
    · exact fun _ => rfl
  · rw [sqOf_modSq_field SpillQ.popPos]
    · exact hin
    · exact fun _ => rfl

/-- A write of FLUSH that leaves EN as it stands. -/
theorem sqCtrlWrite_flush (q : Nat) (s : State) : sqCtrlWrite q ((2 + flag (sqOf s q).en) % 2 ^ 32) s = sqFlush q s := by
  have h0 : bit ((2 + flag (sqOf s q).en) % 2 ^ 32) 0 = (sqOf s q).en := by cases (sqOf s q).en <;> rfl
  have h1 : bit ((2 + flag (sqOf s q).en) % 2 ^ 32) 1 = true := by cases (sqOf s q).en <;> rfl
  rw [sqCtrlWrite, h0, h1, if_pos rfl, modSq_eq_self rfl]

/-- The limit of an end has run out 100 ms after the request. -/
theorem sqLate_true {g t : Gtc} (hflush : (sqOf s q).flushAt = some g) (h : 100000000 ≤ sinceNs s t) : sqLate s (sqOf s q) t = true := by
  simp [sqLate, hflush, h]

theorem sqLate_early {t : Gtc} (h : sinceNs s t < 100000000) : sqLate s (sqOf s q) t = false := by
  simp [sqLate, Nat.not_le.mpr h]

theorem sqLate_unasked (hflush : (sqOf s q).flushAt = none) (t : Gtc) : sqLate s (sqOf s q) t = false := by
  simp [sqLate, hflush]

theorem sqLatePush_early (h : sqLate s (sqOf s q) (sqOf s q).pushFrom = false) : sqLatePush q s = s := by
  rw [sqLatePush, h, if_neg Bool.false_ne_true]

theorem sqLatePush_outside (h : (sqOf s q).push = none) : sqLatePush q s = s := by
  rw [sqLatePush, sqAbandon_outside h, ite_self]

theorem sqLatePush_late {w : Nat × List Nat × Bool} (hpush : (sqOf s q).push = some w)
    (h : sqLate s (sqOf s q) (sqOf s q).pushFrom = true) :
    sqLatePush q s = sqFault q 3 (modSq q (fun x => { x with push := none, abandon := true }) s) := by
  rw [sqLatePush, h, if_pos rfl, sqAbandon, hpush]

theorem sqLatePop_early (h : (sqOf s q).popPos = 0 ∨ sqLate s (sqOf s q) (sqOf s q).popFrom = false) : sqLatePop q s = s := by
  rw [sqLatePop]
  split
  · rfl
  · rw [if_pos h]

/-- The rest of the consumer's packet is cut. -/
theorem sqLatePop_late {p : List Byte} {rest : List (List Byte)} (hp : (sqOf s q).packets = p :: rest) (hpop : (sqOf s q).popPos ≠ 0)
    (h : sqLate s (sqOf s q) (sqOf s q).popFrom = true) : sqLatePop q s = sqFault q 4 (modSq q (fun x => { x with
      packets := rest
      cutLeft := (p.length + 3) / 4 - (sqOf s q).popPos
      popPos := 0
      cut := true }) s) := by
  simp only [sqLatePop, hp, hpop, h, Bool.true_eq_false, or_self, ↓reduceIte]
  exact congrArg (sqFault q 4) (modSq_congr rfl)

end

/-! ### Accesses of the SQ_ block -/

section
variable {m q r : Nat} {s : State}

/-- Queue and register of an offset (R129). -/
theorem sqOffset (hr : r < 256) : (0x4000 + r + 256 * q - 0x4000) / 256 = q ∧ (0x4000 + r + 256 * q) % 256 = r := by omega

theorem windowWrite_sq (hf : frozen s m = false) (hq : q < 64) (hr : r < 256) (v : Nat) :
    windowWrite m (0x4000 + r + 256 * q) v s = sqWrite m q r v s := by
  obtain ⟨hqueue, hreg⟩ := sqOffset (q := q) hr
  simp (disch := omega) only [windowWrite, hf, hqueue, hreg, if_pos, if_neg, Bool.false_eq_true, ↓reduceIte]

theorem windowRead_sq (hf : frozen s m = false) (hq : q < 64) (hr : r < 256) (ecc : Bool) :
    windowRead m (0x4000 + r + 256 * q) ecc s = sqRead m q r ecc s := by
  obtain ⟨hqueue, hreg⟩ := sqOffset (q := q) hr
  simp (disch := omega) only [windowRead, hf, hqueue, hreg, if_pos, if_neg, Bool.false_eq_true, ↓reduceIte]

theorem exec_sqPushLenWrite (m q len : Nat) (s : State) :
    exec (.sqPushLenWrite m q len) s = done (if q < 64 then writeSeen m (0x4000 + 0x08 + 256 * q) len s else s) := rfl
theorem exec_sqPushWrite (m q w : Nat) (s : State) :
    exec (.sqPushWrite m q w) s = done (if q < 64 then writeSeen m (0x4000 + 0x0C + 256 * q) w s else s) := rfl
theorem exec_sqPopRead (m q : Nat) (ecc : Bool) (s : State) :
    exec (.sqPopRead m q ecc) s = done (if q < 64 then readShown m (0x4000 + 0x14 + 256 * q) ecc s else s) := rfl
theorem exec_sqFlushRequest (m q : Nat) (s : State) : exec (.sqFlushRequest m q) s =
    done (if q < 64 then writeSeen m (0x4000 + 0x00 + 256 * q) (2 + flag (sqOf s q).en) s else s) := rfl
theorem exec_sqFlushTimeout (q : Nat) (s : State) :
    exec (.sqFlushTimeout q) s = done (sqFlushStep q (sqLatePop q (sqLatePush q s))) := rfl

variable (hq : q < 64) (hup : windowUp m s = true) (hf : frozen s m = false)
include hq hup hf

/-- The producer's write of SQ_PUSH_LEN. -/
theorem sqPushLenWrite_runs {len : Nat} (hm : (sqOf s q).producer = m) (hlen : len < 8192) :
    exec (.sqPushLenWrite m q len) s = done (sqPushLen q len s) := by
  have hv : len % 2 ^ 32 % 8192 = len := by omega
  have hsq : sqWrite m q 0x08 (len % 2 ^ 32) s = some (sqPushLen q (len % 2 ^ 32 % 8192) s) := if_pos hm
  rw [hv] at hsq
  rw [exec_sqPushLenWrite, if_pos hq, writeSeen_some hup (by omega) ((windowWrite_sq hf hq (by decide) _).trans hsq)]

/-- The producer's write of SQ_PUSH. -/
theorem sqPushWrite_runs {w : Nat} (hm : (sqOf s q).producer = m) :
    exec (.sqPushWrite m q w) s = done (sqPushWord q (w % 2 ^ 32) s) := by
  have hsq : sqWrite m q 0x0C (w % 2 ^ 32) s = some (sqPushWord q (w % 2 ^ 32) s) := if_pos hm
  rw [exec_sqPushWrite, if_pos hq, writeSeen_some hup (by omega) ((windowWrite_sq hf hq (by decide) _).trans hsq)]

/-- The consumer's read of SQ_POP. -/
theorem sqPopRead_runs {ecc : Bool} (hm : (sqOf s q).consumer = m) :
    exec (.sqPopRead m q ecc) s = done (put (.value (sqPop q ecc s).1) (sqPop q ecc s).2) := by
  have hsq : sqRead m q 0x14 ecc s = some (sqPop q ecc s) := if_pos hm
  rw [exec_sqPopRead, if_pos hq, readShown_some hup (by omega) ((windowRead_sq hf hq (by decide) _).trans hsq)]

/-- Either end's request of FLUSH. -/
theorem sqFlushRequest_runs (hm : (sqOf s q).producer = m ∨ (sqOf s q).consumer = m) :
    exec (.sqFlushRequest m q) s = done (sqFlush q s) := by
  have hsq : sqWrite m q 0x00 ((2 + flag (sqOf s q).en) % 2 ^ 32) s = some (sqCtrlWrite q ((2 + flag (sqOf s q).en) % 2 ^ 32) s) :=
    if_pos hm
  rw [sqCtrlWrite_flush] at hsq
  rw [exec_sqFlushRequest, if_pos hq, writeSeen_some hup (by omega) ((windowWrite_sq hf hq (by decide) _).trans hsq)]

end

/-! ### The claims -/

theorem spillPush_holds : Claims.SpillPush := by
  intro m q s _ hq hup hf hm
  refine ⟨fun len hpush hen h16 h4096 => ?_, fun len ws drop w hpush hen => ?_⟩
  · intro space
    have hlen : within len 16 4096 = true := by simp [within, h16, h4096]
    have hrun := sqPushLenWrite_runs hq hup hf hm (show len < 8192 by omega)
    refine ⟨fun hfit => ?_, fun hfull => ⟨_, hrun, ?_⟩⟩
    · rw [hrun, sqPushLen_fits hpush hen hlen hfit]
      rfl
    · rw [sqPushLen_drops hpush hen hlen hfull, sqOverflow]
      refine (core_settle _).trans ((core_modSq (core_sqFault _ _ _)).trans ?_)
      rw [modSq_modSq]
      rfl
  · rw [sqPushWrite_runs hq hup hf hm]
    refine ⟨fun hmore => ?_, fun hfinal hflush => ?_⟩
    · rw [sqPushWord_more hpush hen hmore]
      rfl
    · rw [sqPushWord_final hpush hen hfinal hflush]
      rfl

theorem spillPop_holds : Claims.SpillPop := by
  intro m q s p rest _ hq hup hf hm hen hcut hp hflush hmem w
  have hstuck := sqStuck_false hmem
  have hrun (ecc : Bool) := sqPopRead_runs hq hup hf (ecc := ecc) hm
  refine ⟨fun hmore => ?_, fun hlast => ?_, _, hrun true, ?_, ?_⟩
  · rw [hrun, sqPop_more hcut hen hstuck hp hmore]
    rfl
  · rw [hrun, sqPop_last hcut hen hstuck hp hlast hflush]
    rfl
  · rw [sqPop_ecc hcut hen hstuck hp]
    exact mem_newOuts_of_grows (grows_modSq.trans ((grows_sqFault _ _ _).trans grows_sqFlushStep)) (grows_settle _)
  · rw [sqPop_ecc hcut hen hstuck hp]
    refine (core_settle _).trans ((core_sqFlushStep (core_sqFault _ _ _)).trans ?_)
    exact congrArg core (sqFlushStep_modSq_none (fun _ => rfl) hflush)

/-- The limits of the two ends that have not run out change nothing. -/
theorem sqFlushTimeout_early {q : Nat} {s : State} (hpush : sqLatePush q s = s) (hpop : sqLatePop q s = s)
    (hwait : (sqOf s q).flushAt = none ∨ (sqOf s q).push ≠ none ∨ (sqOf s q).popPos ≠ 0) : exec (.sqFlushTimeout q) s = done s := by
  rw [exec_sqFlushTimeout, hpush, hpop, sqFlushStep_waits hwait]

/-- A flush that a change `f` of the queue, reported as a fault, lets take effect. -/
theorem same_flushed {q k : Nat} {s : State} {f g : SpillQ → SpillQ} (hflush : (f (sqOf s q)).flushAt.isSome = true)
    (hpush : (f (sqOf s q)).push = none) (hpop : (f (sqOf s q)).popPos = 0)
    (hg : g (sqOf s q) = { f (sqOf s q) with flushAt := none, packets := [] }) :
    Same (settle (sqFlushStep q (sqFault q k (modSq q f s)))) (modSq q g s) := by
  refine (core_settle _).trans ((core_sqFlushStep (core_sqFault _ _ _)).trans ?_)
  rw [sqFlushStep, modSq_modSq]
  refine congrArg core (modSq_congr ?_)
  rw [hg, if_pos ⟨hflush, Option.isNone_iff_eq_none.mpr hpush, hpop⟩]

/-- The producer's packet is abandoned after its 100 ms under a flush. -/
theorem sqFlushTimeout_push {q : Nat} {s : State} {g : Gtc} {w : Nat × List Nat × Bool} (hflush : (sqOf s q).flushAt = some g)
    (hpush : (sqOf s q).push = some w) (hpop : (sqOf s q).popPos = 0) :
    (sinceNs s (sqOf s q).pushFrom < 100000000 → exec (.sqFlushTimeout q) s = done s) ∧
    (100000000 ≤ sinceNs s (sqOf s q).pushFrom → ∃ t, exec (.sqFlushTimeout q) s = .next t ∧
      Same t (modSq q (fun x => { x with push := none, abandon := true, flushAt := none, packets := [] }) s)) := by
  refine ⟨fun hearly => ?_, fun hlate => ?_⟩
  · exact sqFlushTimeout_early (sqLatePush_early (sqLate_early hearly)) (sqLatePop_early (.inl hpop)) (.inr (.inl (by simp [hpush])))
  · have hout : (sqOf (sqFault q 3 (modSq q (fun x => { x with push := none, abandon := true }) s)) q).popPos = 0 := by
      rw [sqOf_sqFault]
      exact Eq.trans (sqOf_modSq_field SpillQ.popPos (fun _ => rfl)) hpop
    refine ⟨_, rfl, ?_⟩
    rw [sqFlushExpire, sqLatePush_late hpush (sqLate_true hflush hlate), sqLatePop_early (.inl hout)]
    exact same_flushed (by simp [hflush]) rfl hpop rfl

/-- The rest of the consumer's packet is cut after its 100 ms under a flush. -/
theorem sqFlushTimeout_pop {q : Nat} {s : State} {g : Gtc} {p : List Byte} {rest : List (List Byte)}
    (hflush : (sqOf s q).flushAt = some g) (hpush : (sqOf s q).push = none) (hpop : (sqOf s q).popPos ≠ 0)
    (hp : (sqOf s q).packets = p :: rest) :
    (sinceNs s (sqOf s q).popFrom < 100000000 → exec (.sqFlushTimeout q) s = done s) ∧
    (100000000 ≤ sinceNs s (sqOf s q).popFrom → ∃ t, exec (.sqFlushTimeout q) s = .next t ∧
      Same t (modSq q (fun x => { x with
        packets := []
        cutLeft := (p.length + 3) / 4 - x.popPos
        popPos := 0
        cut := true
        flushAt := none }) s)) := by
  have hin := sqLatePush_outside hpush
  refine ⟨fun hearly => ?_, fun hlate => ⟨_, rfl, ?_⟩⟩
  · exact sqFlushTimeout_early hin (sqLatePop_early (.inr (sqLate_early hearly))) (.inr (.inr hpop))
  · rw [sqFlushExpire, hin, sqLatePop_late hp hpop (sqLate_true hflush hlate)]
    exact same_flushed (by simp [hflush]) hpush rfl rfl

theorem spillFlush_holds : Claims.SpillFlush := by
  intro q s hq
  refine ⟨fun m _ hup hf hm => ?_, fun hnone => ?_, fun g w hflush hpush hpop => sqFlushTimeout_push hflush hpush hpop,
    fun g p rest hflush hpush hpop hp => sqFlushTimeout_pop hflush hpush hpop hp⟩
  · rw [sqFlushRequest_runs hq hup hf hm]
    refine ⟨fun hpush hpop => ?_, fun hin hnone => ?_⟩
    · rw [sqFlush_idle hpush hpop]
      rfl
    · rw [sqFlush_waits hin hnone]
      rfl
  · exact sqFlushTimeout_early (sqLatePush_early (sqLate_unasked hnone _)) (sqLatePop_early (.inr (sqLate_unasked hnone _))) (.inl hnone)

/-- What SQ_CONFIG binds: an empty queue that is disabled, with the flags and the count of the one before (R133; log entry 20). -/
def sqBound (p : List Byte) (x : SpillQ) : SpillQ :=
  { SpillQ.zero with
    producer := u8 p 1
    consumer := u8 p 2
    middle := u8 p 3
    ovf := x.ovf
    ecc := x.ecc
    abandon := x.abandon
    cut := x.cut
    dropped := x.dropped }

theorem spillConfig_holds : Claims.SpillConfig := by
  intro r s ha hlen h0 h3 h1 h2 hne q others
  have hsize : (r.payload.length == 4) = true := by simpa using hlen
  have hrange : (decide (u8 r.payload 0 ≤ 63) && (decide (u8 r.payload 1 ≤ 4) || u8 r.payload 1 == 16) &&
      (decide (u8 r.payload 2 ≤ 4) || u8 r.payload 2 == 16) && decide (u8 r.payload 3 ≤ 64) && u8 r.payload 1 != u8 r.payload 2) = true := by
    simp [Nat.le_of_lt_succ h0, h1, h2, h3, hne]
  have hothers : ((List.range 64).map (fun i => if i = q then 0 else (sqOf (accept 0x0203 r s) i).middle)).sum = others := by
    simp only [sqOf_accept, others]
  refine ⟨fun hfit hen => ?_, fun hover hen => ?_, fun hfit hen => ?_⟩
  · refine runs_checked_fail rfl ha hsize rfl hrange rfl ?_
    rw [sqOf_accept, hothers, failIf_true _ hen, failIf_false _ (decide_eq_false (Nat.not_lt.mpr hfit)), List.append_nil]
  · refine runs_checked_fail rfl ha hsize rfl hrange rfl ?_
    rw [sqOf_accept, hothers, failIf_false _ hen, failIf_true _ (decide_eq_true hover), List.nil_append]
  · obtain ⟨t, ht, hsame, hans⟩ := runs_checked_reply (c := .sqConfig r) (v := modSq q (sqBound r.payload) s) rfl ha hsize rfl
      hrange rfl
      (by rw [sqOf_accept, hothers, failIf_false _ hen, failIf_false _ (decide_eq_false (Nat.not_lt.mpr hfit)), List.append_nil])
      rfl (core_modSq (core_accept _ _ _)) grows_modSq (.of_eq rfl)
    rw [hothers] at hans
    exact ⟨t, ht, hans, hsame⟩

/-- Settles O18: each register of a queue by what its access does, SQ_CONFIG by its checks. -/
theorem spillQueues : Obligations.SpillQueues := ⟨spillPush_holds, spillPop_holds, spillFlush_holds, spillConfig_holds⟩

end Sys2Proof.Machine
end

section
/-!
PROOFS. Eclipse entry (R380, R389, R463) and spot stops (R396 to R398): what an entry and a spot stop set, and what the reports, the
mirroring and the withdrawal of assignments that come with them leave alone (`Stands`).
-/
namespace Sys2Proof.Machine
open Sys2Proof
set_option Elab.async false

/-! ### Reports and mirroring -/

theorem sendLink_sessions (type : Nat) (prio : Bool) (p : List Byte) (s : State) : (sendLink type prio p s).sessions = s.sessions := by
  unfold sendLink
  split
  · rfl
  · split <;> rfl

theorem hush_mirror (s : State) : hush (mirror s) = hush s := by
  unfold mirror
  split
  · exact hush_sendLink _ _ _ _
  · rfl

theorem sessHeld_mirror (s : State) : SessHeld s (mirror s) := by
  unfold mirror
  split
  · exact .of_eq (sendLink_sessions _ _ _ _)
  · exact .refl s

section
variable (old new cause src master note : Nat) (s : State)

theorem hush_eclStateReport : hush (eclStateReport old new cause src master note s) = hush s := by
  unfold eclStateReport
  extract_lets s1
  have h1 : hush s1 = hush s := hush_emit _ _ _ _
  split
  · rw [hush_modeChange, h1]
  · exact h1

theorem sessHeld_eclStateReport : SessHeld s (eclStateReport old new cause src master note s) := by
  unfold eclStateReport
  extract_lets s1
  have h1 : SessHeld s s1 := sessHeld_emit _ _ _ _
  split
  · exact h1.trans (sessHeld_emit _ _ _ _)
  · exact h1

/-- ECL_STATE itself, whether MODE_CHANGE follows it or not (R381). -/
theorem reported_eclStateReport {s₀ : State} (hg : Grows s₀ s) (ht : s.tb.gtc = s₀.tb.gtc) :
    Reported s₀ (eclStateReport old new cause src master note s) 0xC901 src (leBytes 1 old ++ leBytes 1 new ++ leBytes 1 cause
      ++ leBytes 1 src ++ leBytes 2 s.repl.ecl.seq ++ leBytes 1 master ++ zeros 1 ++ leBytes 4 note) := by
  unfold eclStateReport
  extract_lets s1
  have h1 := reported_emit 0xC901 src (leBytes 1 old ++ leBytes 1 new ++ leBytes 1 cause ++ leBytes 1 src ++ leBytes 2 s.repl.ecl.seq
    ++ leBytes 1 master ++ zeros 1 ++ leBytes 4 note) s₀ s hg ht
  split
  · exact newOuts_mono (hg.trans (grows_emit _ _ _ _)) h1 (grows_modeChange _ _ _ _ _ _)
  · exact h1

end

/-! ### What withdrawing assignments leaves alone (R463) -/

/-- The pair without its decisions and without the count of link messages sent. -/
def pairRest (p : Pair) : Pair := { stillPair p with decisions := [] }

/-- `t` comes from `s` by reports, messages and the withdrawal of assignments: the Eclipse state with its spot stops, the time and the
rest of the pair are as they were, every berth keeps its state, no session ends, and what was put out stays. -/
structure Stands (s t : State) : Prop where
  core : t.repl.ecl = s.repl.ecl
  own : t.ecl = s.ecl
  tb : t.tb = s.tb
  pair : pairRest t.pair = pairRest s.pair
  berths : ∀ b, (berthOf t b).state = (berthOf s b).state
  grows : Grows s t
  held : SessHeld s t

theorem berthOf_congr {s t : State} (h : t.repl.mac.berths = s.repl.mac.berths) (b : Nat) : berthOf t b = berthOf s b := by
  rw [berthOf, berthOf, h]

theorem berthOf_modBerth (b c : Nat) (f : Berth → Berth) (s : State) :
    berthOf (modBerth b f s) c = if c = b then f (berthOf s b) else berthOf s c := by
  have h : berthOf (modBerth b f s) c = (look (upsert s.repl.mac.berths b (f (berthOf s b))) c).getD Berth.free := rfl
  rw [h, look_upsert]
  split <;> rfl

namespace Stands
variable {s t u : State}

theorem refl (s : State) : Stands s s := ⟨rfl, rfl, rfl, rfl, fun _ => rfl, .refl s, .refl s⟩

theorem trans (h : Stands s t) (k : Stands t u) : Stands s u :=
  ⟨k.core.trans h.core, k.own.trans h.own, k.tb.trans h.tb, k.pair.trans h.pair, fun b => (k.berths b).trans (h.berths b),
    h.grows.trans k.grows, h.held.trans k.held⟩

/-- What neither decisions nor messages move of the pair. -/
theorem pairField {α : Type} (f : Pair → α) (hf : ∀ p, f (pairRest p) = f p) (h : Stands s t) : f t.pair = f s.pair := by
  rw [← hf t.pair, h.pair, hf]

/-- What sending and reporting move is none of it. -/
theorem of_hush (h : Stands s t) (e : hush u = hush t) (g : Grows t u) (k : SessHeld t u) : Stands s u :=
  h.trans ⟨congrArg Repl.ecl (hush_repl e), hush_ecl e, hush_tb e, congrArg (fun p : Pair => { p with decisions := [] }) (hush_pair e),
    fun b => congrArg Berth.state (berthOf_congr (congrArg (fun x : Repl => x.mac.berths) (hush_repl e)) b), g, k⟩

/-- An update of other fields. -/
theorem update (h : Stands s t) (hc : u.repl.ecl = t.repl.ecl) (ho : u.ecl = t.ecl) (ht : u.tb = t.tb)
    (hp : pairRest u.pair = pairRest t.pair) (hb : u.repl.mac.berths = t.repl.mac.berths) (hout : u.outs = t.outs)
    (hs : u.sessions = t.sessions) : Stands s u :=
  h.trans ⟨hc, ho, ht, hp, fun b => congrArg Berth.state (berthOf_congr hb b), .of_eq hout, .of_eq hs⟩

theorem foldl {α : Type} {f : State → α → State} {l : List α} (hf : ∀ v a, Stands s v → Stands s (f v a)) (h : Stands s t) :
    Stands s (l.foldl f t) := List.foldlRecOn l f h (fun v hv a _ => hf v a hv)

theorem emit {code src : Nat} {p : List Byte} (h : Stands s t) : Stands s (emit code src p t) :=
  h.of_hush (hush_emit _ _ _ _) (grows_emit _ _ _ _) (sessHeld_emit _ _ _ _)

theorem mirror (h : Stands s t) : Stands s (mirror t) :=
  h.of_hush (hush_mirror t) (aside_mirror (.refl t)).grows (sessHeld_mirror t)

theorem report {old new cause src master note : Nat} (h : Stands s t) : Stands s (eclStateReport old new cause src master note t) :=
  h.of_hush (hush_eclStateReport _ _ _ _ _ _ t) (aside_eclStateReport (.refl t)).grows (sessHeld_eclStateReport _ _ _ _ _ _ t)

theorem modBerth {b : Nat} {f : Berth → Berth} (h : Stands s t) (hf : ∀ x, (f x).state = x.state) : Stands s (modBerth b f t) := by
  refine h.trans ⟨rfl, rfl, rfl, rfl, fun c => ?_, .of_eq rfl, .of_eq rfl⟩
  rw [berthOf_modBerth]
  split
  · rename_i hc
    rw [hf, hc]
  · rfl

theorem watchEnds {id b : Nat} (h : Stands s t) : Stands s (watchEnds id b t) := by
  unfold Machine.watchEnds unknownEvent
  extract_lets c age
  have h1 : Stands s (modConform b (fun c => { c with unknown := false, unkStop := false, watchId := 0 }) t) :=
    h.update rfl rfl rfl rfl rfl rfl rfl
  split
  · split
    · exact h1
    · exact h1.emit
  · exact h

theorem dropTransit {x : Transit} {change source : Nat} (h : Stands s t) : Stands s (dropTransit x change source t) := by
  unfold Machine.dropTransit trChange
  extract_lets s1
  have h1 : Stands s s1 := Stands.emit (h.update rfl rfl rfl rfl rfl rfl rfl)
  split
  · exact h1
  · exact h1.watchEnds

theorem withdraw {id : Nat} (h : Stands s t) : Stands s (withdraw id t) := by
  unfold Machine.withdraw
  split
  · exact h
  · extract_lets s1 _ s2 s3 s4
    have h1 : Stands s s1 := by
      simp only [s1]
      split
      · exact h
      · exact h.dropTransit
    have h2 : Stands s s2 := h1.update rfl rfl rfl rfl rfl rfl rfl
    have h3 : Stands s s3 := by
      simp only [s3]
      split
      · exact h2
      · exact h2.modBerth (fun _ => rfl)
    have h4 : Stands s s4 := h3.update rfl rfl rfl rfl rfl rfl rfl
    split
    · exact h4.emit
    · exact h4

theorem withdrawAll (h : Stands s t) : Stands s (withdrawAll t) := h.foldl (fun _ _ => withdraw)

theorem withdrawBerth {b : Nat} (h : Stands s t) : Stands s (withdrawBerth b t) := by
  refine h.foldl (fun v id hv => ?_)
  split
  · exact hv.withdraw
  · exact hv

end Stands

/-- Which assignments have not gone on air follows from the tasks. -/
theorem unsentTasks_congr {s t : State} (h : t.repl.dp.tasks = s.repl.dp.tasks) : unsentTasks t = unsentTasks s := by
  rw [unsentTasks, unsentTasks, h]

theorem withdrawAll_none {s : State} (h : unsentTasks s = []) : withdrawAll s = s := by
  rw [withdrawAll, h]
  rfl

theorem withdrawBerth_none {s : State} (b : Nat) (h : unsentTasks s = []) : withdrawBerth b s = s := by
  rw [withdrawBerth, h]
  rfl

/-! ### Entry into ECLIPSE (R380, R389) -/

/-- What an entry sets, before its reports: state, sequence and cause, the latch and the burst on every head. -/
def eclipseEntered (code note : Nat) (s : State) : State :=
  let s1 := modEcl (fun e => { e with state := 1, seq := nextEclSeq e.seq, cause := code }) s
  { s1 with
    ecl := { s1.ecl with
      latched := 2 ^ code
      entry := s.tb.gtc
      before := s.repl.ecl.state
      entries := satAdd 32 s1.ecl.entries 1
      burstHeads := 0
      note := note }
    mac := { s1.mac with heads := s1.mac.heads.map (fun h => { h with
      burst := if s.modes.radio = 2 then 40 else 0
      burstSince := s.tb.gtc
      eclAir := false }) } }

section
variable (code src master note : Nat) (s : State)

theorem enterEclipse_eq : enterEclipse code src master note s =
    mirror (withdrawAll (eclStateReport s.repl.ecl.state 1 code src master note (eclipseEntered code note s))) := rfl

theorem stands_enterEclipse : Stands (eclipseEntered code note s) (enterEclipse code src master note s) :=
  (Stands.refl _).report.withdrawAll.mirror

/-- The Eclipse state and its spot stops after an entry. -/
theorem enterEclipse_core : (enterEclipse code src master note s).repl.ecl =
    { s.repl.ecl with state := 1, seq := nextEclSeq s.repl.ecl.seq, cause := code } := (stands_enterEclipse code src master note s).core

theorem enterEclipse_role : (enterEclipse code src master note s).pair.role = s.pair.role :=
  .trans (b := (eclipseEntered code note s).pair.role)
    ((stands_enterEclipse code src master note s).pairField Pair.role (fun _ => rfl)) rfl

theorem sessHeld_enterEclipse : SessHeld s (enterEclipse code src master note s) :=
  (SessHeld.of_eq rfl).trans (stands_enterEclipse code src master note s).held

theorem reported_enterEclipse {s₀ : State} (hg : Grows s₀ s) (ht : s.tb.gtc = s₀.tb.gtc) :
    Reported s₀ (enterEclipse code src master note s) 0xC901 src (leBytes 1 s.repl.ecl.state ++ leBytes 1 1 ++ leBytes 1 code
      ++ leBytes 1 src ++ leBytes 2 (nextEclSeq s.repl.ecl.seq) ++ leBytes 1 master ++ zeros 1 ++ leBytes 4 note) := by
  have hg' : Grows s₀ (eclipseEntered code note s) := hg.trans (.of_eq rfl)
  have hr := reported_eclStateReport s.repl.ecl.state 1 code src master note (eclipseEntered code note s) hg' ht
  rw [enterEclipse_eq]
  exact newOuts_mono (hg'.trans (aside_eclStateReport (.refl _)).grows) hr (Stands.refl _).withdrawAll.mirror.grows

/-- With no assignment to withdraw, an entry is what it sets, its reports and the mirroring. -/
theorem hush_enterEclipse (h : unsentTasks s = []) :
    hush (enterEclipse code src master note s) = hush (eclipseEntered code note s) := by
  have hr := hush_eclStateReport s.repl.ecl.state 1 code src master note (eclipseEntered code note s)
  have hn : unsentTasks (eclStateReport s.repl.ecl.state 1 code src master note (eclipseEntered code note s)) = [] :=
    (unsentTasks_congr (congrArg (fun x : Repl => x.dp.tasks) (hush_repl hr))).trans h
  rw [enterEclipse_eq, hush_mirror, withdrawAll_none hn, hr]

/-! ### Latching a trigger (R379, R380) -/

/-- One more trigger has been latched. -/
def triggerCounted (s : State) : State := { s with ecl := { s.ecl with triggers := s.ecl.triggers + 1 } }

variable {s}

theorem latchTrigger_enters (hr : s.pair.role ≠ 2) (h : s.repl.ecl.state ≠ 1) :
    latchTrigger code src master note s = enterEclipse code src master note (triggerCounted s) := (if_neg hr).trans (if_neg h)

theorem latchTrigger_latches (hr : s.pair.role ≠ 2) (h : s.repl.ecl.state = 1) : latchTrigger code src master note s =
    eclTrigger code 1 src 1 { s with ecl := { s.ecl with triggers := s.ecl.triggers + 1, latched := putBit s.ecl.latched code true } } :=
  (if_neg hr).trans (if_pos h)

/-- A latch ends no session. -/
theorem sessHeld_latchTrigger (hr : s.pair.role ≠ 2) : SessHeld s (latchTrigger code src master note s) := by
  by_cases h : s.repl.ecl.state = 1
  · rw [latchTrigger_latches _ _ _ _ hr h]
    refine SessHeld.trans ?_ (sessHeld_emit _ _ _ _)
    exact .of_eq rfl
  · rw [latchTrigger_enters _ _ _ _ hr h]
    refine SessHeld.trans ?_ (sessHeld_enterEclipse _ _ _ _ _)
    exact .of_eq rfl

end

/-! ### Spot stops (R396) -/

theorem spotOf_congr {s t : State} (h : t.repl.ecl = s.repl.ecl) (b : Nat) : spotOf t b = spotOf s b := by rw [spotOf, spotOf, h]

theorem spotOf_setSpot (b : Nat) (v : Spot) (s : State) : spotOf (setSpot b v s) b = v := by
  have h : spotOf (setSpot b v s) b = (look (upsert s.repl.ecl.spots b v) b).getD ⟨false, 0, 0, 0, false⟩ := rfl
  rw [h, look_upsert, if_pos rfl]
  rfl

/-- The stop sequence that follows a berth's last (R396). -/
def nextStop (s : State) (b : Nat) : Nat := ((spotOf s b).seq + 1) % 65536

/-- What a spot stop sets, before assignments to the berth are withdrawn and it is reported. -/
def spotStopped (b cause : Nat) (s : State) : State :=
  let s1 := setSpot b ⟨true, cause, nextStop s b, 8, false⟩ s
  { s1 with ecl := { s1.ecl with spotCount := satAdd 32 s1.ecl.spotCount 1 } }

section
variable (b cause master src : Nat) {s : State}

theorem spotStopBerth_eq (h : (berthOf s b).state ≠ 0) : spotStopBerth b cause master src s =
    mirror (eclSpot b 1 cause master (nextStop s b) src (withdrawBerth b (spotStopped b cause s))) := if_neg h

theorem stands_spotStopBerth (h : (berthOf s b).state ≠ 0) : Stands (spotStopped b cause s) (spotStopBerth b cause master src s) := by
  rw [spotStopBerth_eq _ _ _ _ h]
  exact (Stands.refl _).withdrawBerth.emit.mirror

theorem reported_spotStopBerth {s₀ : State} (h : (berthOf s b).state ≠ 0) (hg : Grows s₀ s) (ht : s.tb.gtc = s₀.tb.gtc) :
    Reported s₀ (spotStopBerth b cause master src s) 0xC904 src (leBytes 1 b ++ leBytes 1 1 ++ leBytes 1 cause ++ leBytes 1 master
      ++ leBytes 2 (nextStop s b) ++ zeros 2) := by
  have hw : Stands (spotStopped b cause s) (withdrawBerth b (spotStopped b cause s)) := (Stands.refl _).withdrawBerth
  have hg' : Grows s₀ (withdrawBerth b (spotStopped b cause s)) := hg.trans (.trans (.of_eq rfl) hw.grows)
  have ht' : (withdrawBerth b (spotStopped b cause s)).tb.gtc = s₀.tb.gtc := (congrArg (·.gtc) hw.tb).trans ht
  rw [spotStopBerth_eq _ _ _ _ h]
  exact newOuts_mono (hg'.trans (grows_emit _ _ _ _)) (reported_emit _ _ _ _ _ hg' ht') (Stands.refl _).mirror.grows

/-- With no assignment to withdraw, a spot stop is what it sets, its report and the mirroring. -/
theorem hush_spotStopBerth (h : (berthOf s b).state ≠ 0) (hn : unsentTasks s = []) :
    hush (spotStopBerth b cause master src s) = hush (spotStopped b cause s) := by
  have hn' : unsentTasks (spotStopped b cause s) = [] := hn
  rw [spotStopBerth_eq _ _ _ _ h, hush_mirror, withdrawBerth_none b hn']
  exact hush_emit _ _ _ _

end

end Sys2Proof.Machine
end

section
/-!
PROOFS. ECLIPSE_TRIGGER (R387), SPOT_STOP and SPOT_RELEASE with its commit (R396 to R398, R402).
-/
namespace Sys2Proof.Machine
open Sys2Proof
set_option Elab.async false

/-! ### Commands that are answered at once -/

theorem Runs.imp {c : Instr} {s : State} {P Q : State → Prop} (h : Runs c s P) (hPQ : ∀ t, P t → Q t) : Runs c s Q := by
  obtain ⟨t, ht, hp⟩ := h
  exact ⟨t, ht, hPQ t hp⟩

/-- Of the pair `core` leaves out the count of link messages alone, so the pair of either state may stand. -/
theorem Same.withPair {t w : State} (h : Same t w) : Same t { w with pair := t.pair } := by
  have hp : stillPair t.pair = stillPair w.pair := h.field (fun u => stillPair u.pair) (fun _ => rfl)
  exact h.trans (congrArg (fun p => { core w with pair := p }) hp).symm

/-- `t` is what `u` becomes once its reply has gone and it has settled; `s` is the state that the command began from. -/
structure Settled (s u t : State) : Prop where
  same : Same t u
  agrees : Agrees t
  kept : ∀ o ∈ newOuts s u, o ∈ newOuts s t

section
variable {c : Instr} {op st : Nat} {al size reserved range unique : Bool} {r : Req} {s u : State} {states : State → List Nat}
  {k : State → State → Ans} {p : List Byte}

/-- An admitted command that passes its checks and is answered at once, with what its effect has put out. -/
theorem runs_checked_settled
    (hx : exec c s = done (runCommand op al r (fun s => checked size reserved range unique (states s) s (k s)) s))
    (h : Admitted op al r s) (h1 : size = true) (h2 : reserved = true) (h3 : range = true) (h4 : unique = true)
    (h5 : states (accept op r s) = []) (hk : k (accept op r s) (accept op r s) = .reply st p u)
    (hg : Grows (accept op r s) u) (hs : SessHeld (accept op r s) u) :
    Runs c s (fun t => Settled s u t ∧ Answered s t r op st p) := by
  have hu : Grows s u := (grows_accept _ _ _).trans hg
  have hr : Grows s (reply r op st p u) := hu.trans (grows_reply _ _ _ _ _)
  have hans := answered_reply r op st p s u hu (answerable_held h.2.2 ((sessHeld_accept op r s).trans hs))
  refine ⟨_, exec_reply _ hx h ((checked_pass _ _ _ _ _ _ _ h1 h2 h3 h4 h5).trans hk), ⟨?_, agrees_settle _, fun o ho => ?_⟩,
    answered_settle hr hans⟩
  · exact (core_settle _).trans (core_reply _ _ _ _ _)
  · exact newOuts_mono hr (newOuts_mono hu ho (grows_reply _ _ _ _ _)) (grows_settle _)

end

/-! ### ECLIPSE_TRIGGER -/

theorem eclShown_of_role {s : State} (h : s.pair.role ≠ 2) : eclShown s = s.repl.ecl.state := if_neg h

theorem eclCoreShown_of_role {s : State} (h : s.pair.role ≠ 2) : eclCoreShown s = s.repl.ecl := if_neg h

theorem triggerPayload_of_role {s : State} (h : s.pair.role ≠ 2) :
    triggerPayload s = leBytes 1 s.repl.ecl.state ++ [0] ++ leBytes 2 s.repl.ecl.seq := by
  rw [triggerPayload, eclShown_of_role h, eclCoreShown_of_role h]
  rfl

/-- ECL_OUT is low while the state shown is not CLEAR (R388). -/
theorem Agrees.eclOut {t : State} (h : Agrees t) : t.pins.eclOut = (eclShown t == 0) := congrArg Pins.eclOut h.2.1

/-- An entry, but for the requests outstanding and what `core` leaves out, by the fields that it sets. -/
theorem core_eclipseEntered (code note op : Nat) (r : Req) (s : State) :
    core (eclipseEntered code note (triggerCounted (accept op r s))) = core { s with
      repl := { s.repl with ecl := { s.repl.ecl with state := 1, seq := nextEclSeq s.repl.ecl.seq, cause := code } }
      ecl := (eclipseEntered code note (triggerCounted s)).ecl } := by
  unfold accept
  split <;> rfl

/-- The state that the effect of an admitted ECLIPSE_TRIGGER leaves, before its reply. -/
def triggerLatched (r : Req) (s : State) : State := latchTrigger 5 r.master r.master (u32 r.payload 0) (accept 0x0901 r s)

section
variable {r : Req} {s : State}

theorem eclipseTrigger_runs (ha : Admitted 0x0901 false r s) (hlen : r.payload.length = 4) (hrole : s.pair.role ≠ 2) :
    Runs (.eclipseTrigger r) s (fun t => Settled s (triggerLatched r s) t ∧
      Answered s t r 0x0901 (changed (s.repl.ecl.state == 1)) (triggerPayload (triggerLatched r s))) := by
  have hrole' : (accept 0x0901 r s).pair.role ≠ 2 := by rwa [accept_pair]
  have hshown : eclShown (accept 0x0901 r s) = s.repl.ecl.state := by rw [eclShown_of_role hrole', accept_repl]
  rw [← hshown]
  exact runs_checked_settled rfl ha (by simp [hlen]) rfl rfl rfl rfl rfl (aside_latchTrigger (.refl _)).grows
    (sessHeld_latchTrigger _ _ _ _ hrole')

theorem triggerLatched_enters (hrole : s.pair.role ≠ 2) (h : s.repl.ecl.state ≠ 1) : triggerLatched r s =
    enterEclipse 5 r.master r.master (u32 r.payload 0) (triggerCounted (accept 0x0901 r s)) :=
  latchTrigger_enters _ _ _ _ (by rwa [accept_pair]) (by rwa [accept_repl])

theorem triggerLatched_again (hrole : s.pair.role ≠ 2) (h : s.repl.ecl.state = 1) : triggerLatched r s =
    eclTrigger 5 1 r.master 1 { accept 0x0901 r s with ecl := { (accept 0x0901 r s).ecl with
      triggers := (accept 0x0901 r s).ecl.triggers + 1, latched := putBit (accept 0x0901 r s).ecl.latched 5 true } } :=
  latchTrigger_latches _ _ _ _ (by rwa [accept_pair]) (by rwa [accept_repl])

/-- What the entry leaves of the Eclipse state, the latch and the role. -/
theorem triggerLatched_entered (hrole : s.pair.role ≠ 2) (h : s.repl.ecl.state ≠ 1) :
    (triggerLatched r s).repl.ecl = { s.repl.ecl with state := 1, seq := nextEclSeq s.repl.ecl.seq, cause := 5 } ∧
    (triggerLatched r s).ecl = (eclipseEntered 5 (u32 r.payload 0) (triggerCounted s)).ecl ∧
    (triggerLatched r s).pair.role ≠ 2 := by
  rw [triggerLatched_enters hrole h, enterEclipse_core, enterEclipse_role, (stands_enterEclipse _ _ _ _ _).own]
  simp [triggerCounted, eclipseEntered, hrole]

theorem reported_triggerLatched (hrole : s.pair.role ≠ 2) (h : s.repl.ecl.state ≠ 1) :
    Reported s (triggerLatched r s) 0xC901 r.master (leBytes 1 s.repl.ecl.state ++ leBytes 1 1 ++ leBytes 1 5 ++ leBytes 1 r.master
      ++ leBytes 2 (nextEclSeq s.repl.ecl.seq) ++ leBytes 1 r.master ++ [0] ++ leBytes 4 (u32 r.payload 0)) := by
  have hrep := reported_enterEclipse 5 r.master r.master (u32 r.payload 0) (triggerCounted (accept 0x0901 r s))
    ((grows_accept 0x0901 r s).trans (.of_eq rfl)) (congrArg (·.gtc) (accept_tb 0x0901 r s))
  rwa [show (triggerCounted (accept 0x0901 r s)).repl = s.repl from accept_repl _ _ _, ← triggerLatched_enters hrole h] at hrep

/-- With no assignment to withdraw the entry moves the Eclipse state alone, but for what `core` leaves out. -/
theorem same_triggerLatched (hrole : s.pair.role ≠ 2) (h : s.repl.ecl.state ≠ 1) (hn : unsentTasks s = []) :
    Same (triggerLatched r s) { s with
      repl := { s.repl with ecl := (triggerLatched r s).repl.ecl }
      ecl := (triggerLatched r s).ecl } := by
  obtain ⟨hcore, hown, -⟩ := triggerLatched_entered (r := r) hrole h
  have hn' : unsentTasks (triggerCounted (accept 0x0901 r s)) = [] := (unsentTasks_congr (by simp [triggerCounted])).trans hn
  rw [hcore, hown, triggerLatched_enters hrole h]
  exact (core_of_hush (hush_enterEclipse _ _ _ _ _ hn')).trans (core_eclipseEntered 5 _ 0x0901 r s)

/-- An ECLIPSE_TRIGGER while the state is not ECLIPSE. -/
theorem eclipseTrigger_enters (ha : Admitted 0x0901 false r s) (hlen : r.payload.length = 4) (hrole : s.pair.role ≠ 2)
    (h1 : s.repl.ecl.state ≠ 1) :
    Runs (.eclipseTrigger r) s (fun t => t.repl.ecl.state = 1 ∧ t.repl.ecl.cause = 5 ∧
      t.repl.ecl.seq = nextEclSeq s.repl.ecl.seq ∧ t.repl.ecl.spots = s.repl.ecl.spots ∧ t.ecl.latched = 2 ^ 5 ∧ t.ecl.entry = s.tb.gtc ∧
      t.pins.eclOut = false ∧ t.ecl.triggers = s.ecl.triggers + 1 ∧
      Answered s t r 0x0901 0 (leBytes 1 1 ++ [0] ++ leBytes 2 (nextEclSeq s.repl.ecl.seq)) ∧
      Reported s t 0xC901 r.master (leBytes 1 s.repl.ecl.state ++ leBytes 1 1 ++ leBytes 1 5 ++ leBytes 1 r.master
        ++ leBytes 2 (nextEclSeq s.repl.ecl.seq) ++ leBytes 1 r.master ++ [0] ++ leBytes 4 (u32 r.payload 0)) ∧
      (unsentTasks s = [] → Same t { s with repl := { s.repl with ecl := t.repl.ecl }, ecl := t.ecl, pair := t.pair })) := by
  obtain ⟨hcore, hown, hur⟩ := triggerLatched_entered (r := r) hrole h1
  refine (eclipseTrigger_runs ha hlen hrole).imp (fun t ⟨ht, hans⟩ => ?_)
  have htc : t.repl.ecl = (triggerLatched r s).repl.ecl := ht.same.field (fun u => u.repl.ecl) (fun _ => rfl)
  have hto : t.ecl = (triggerLatched r s).ecl := ht.same.field State.ecl (fun _ => rfl)
  have hshown : eclShown t = 1 := by rw [ht.same.field eclShown (fun _ => rfl), eclShown_of_role hur, hcore]
  rw [triggerPayload_of_role hur, hcore, beq_eq_false_iff_ne.mpr h1] at hans
  refine ⟨?_, ?_, ?_, ?_, ?_, ?_, ?_, ?_, hans, ht.kept _ (reported_triggerLatched hrole h1), fun hn => ?_⟩
  · rw [htc, hcore]
  · rw [htc, hcore]
  · rw [htc, hcore]
  · rw [htc, hcore]
  · rw [hto, hown]
    rfl
  · rw [hto, hown]
    rfl
  · rw [ht.agrees.eclOut, hshown]
    rfl
  · rw [hto, hown]
    rfl
  · rw [htc, hto]
    exact Same.withPair (ht.same.trans (same_triggerLatched hrole h1 hn))

/-- An ECLIPSE_TRIGGER in ECLIPSE. -/
theorem eclipseTrigger_latches (ha : Admitted 0x0901 false r s) (hlen : r.payload.length = 4) (hrole : s.pair.role ≠ 2)
    (h1 : s.repl.ecl.state = 1) :
    Runs (.eclipseTrigger r) s (fun t =>
      Same t { s with ecl := { s.ecl with triggers := s.ecl.triggers + 1, latched := putBit s.ecl.latched 5 true } } ∧
      Answered s t r 0x0901 0x0102 (leBytes 1 1 ++ [0] ++ leBytes 2 s.repl.ecl.seq) ∧
      Reported s t 0xC902 r.master (leBytes 1 5 ++ leBytes 1 1 ++ leBytes 1 r.master ++ leBytes 1 1)) := by
  have hu := triggerLatched_again (r := r) hrole h1
  have hrepl : (triggerLatched r s).repl = s.repl := by rw [hu, eclTrigger, emit_repl, accept_repl]
  have hur : (triggerLatched r s).pair.role ≠ 2 := by rwa [hu, eclTrigger, emit_pair, accept_pair]
  have hsame : Same (triggerLatched r s)
      { s with ecl := { s.ecl with triggers := s.ecl.triggers + 1, latched := putBit s.ecl.latched 5 true } } := by
    rw [hu]
    refine (core_emit _ _ _ _).trans ?_
    unfold accept
    split <;> rfl
  have hrep : Reported s (triggerLatched r s) 0xC902 r.master (leBytes 1 5 ++ leBytes 1 1 ++ leBytes 1 r.master ++ leBytes 1 1) := by
    rw [hu]
    exact reported_emit _ _ _ _ _ ((grows_accept 0x0901 r s).trans (.of_eq rfl)) (congrArg (·.gtc) (accept_tb 0x0901 r s))
  refine (eclipseTrigger_runs ha hlen hrole).imp (fun t ⟨ht, hans⟩ => ⟨ht.same.trans hsame, ?_, ht.kept _ hrep⟩)
  rwa [triggerPayload_of_role hur, hrepl, h1] at hans

end

/-- Settles O26: the command latches trigger 5, which enters ECLIPSE unless the state is ECLIPSE already. -/
theorem eclipseTriggered : Obligations.EclipseTriggered := fun _ _ ha hlen hrole =>
  ⟨eclipseTrigger_enters ha hlen hrole, eclipseTrigger_latches ha hlen hrole⟩

end Sys2Proof.Machine
end

section
/-!
PROOFS. SPOT_STOP and SPOT_RELEASE with its commit (R396 to R398, R402).
-/
namespace Sys2Proof.Machine
open Sys2Proof
set_option Elab.async false

/-! ### SPOT_STOP -/

section
variable {r : Req} {s : State}

theorem berthOf_accept (op b : Nat) : berthOf (accept op r s) b = berthOf s b :=
  berthOf_congr (congrArg (fun x : Repl => x.mac.berths) (accept_repl op r s)) b

theorem spotOf_accept (op b : Nat) : spotOf (accept op r s) b = spotOf s b := spotOf_congr (congrArg Repl.ecl (accept_repl op r s)) b

theorem spotStop_free (ha : Admitted 0x0903 false r s) (hlen : r.payload.length = 4) (hz : zeroAt r.payload 1 3 = true)
    (hrole : s.pair.role ≠ 2) (hb : (berthOf s (u8 r.payload 0)).state = 0) :
    Runs (.spotStop r) s (fun t => Same t s ∧ Answered s t r 0x0903 0x8904 []) := by
  refine runs_checked_fail rfl ha (by simp [hlen]) hz rfl rfl ?_
  rw [accept_pair, if_neg hrole, berthOf_accept, hb]
  rfl

theorem spotStop_unlinked (ha : Admitted 0x0903 false r s) (hlen : r.payload.length = 4) (hz : zeroAt r.payload 1 3 = true)
    (hrole : s.pair.role = 2) (hl : linkUp s = false) :
    Runs (.spotStop r) s (fun t => Same t s ∧ Answered s t r 0x0903 0x2004 []) := by
  refine runs_checked_fail rfl ha (by simp [hlen]) hz rfl rfl ?_
  rw [if_pos ((congrArg Pair.role (accept_pair 0x0903 r s)).trans hrole)]
  refine failIf_true _ ?_
  rw [linkUp, accept_pair]
  simpa [linkUp] using hl

/-- A request that a STANDBY forwards awaits the acknowledgement (R402). -/
def spotForwarded (r : Req) (s : State) : State := modPair (fun p => { p with forwards := p.forwards ++ [r] }) s

theorem spotStop_forwarded (ha : Admitted 0x0903 false r s) (hlen : r.payload.length = 4) (hz : zeroAt r.payload 1 3 = true)
    (hrole : s.pair.role = 2) (hl : linkUp s = true) :
    Runs (.spotStop r) s (fun t => t.pair.forwards = s.pair.forwards ++ [r] ∧ Same t { s with pair := t.pair }) := by
  have hrole' : (accept 0x0903 r s).pair.role = 2 := by rw [accept_pair, hrole]
  have hl' : linkUp (accept 0x0903 r s) = true := by rwa [linkUp, accept_pair]
  have hcore : core (spotForwarded r (accept 0x0903 r s)) = core (spotForwarded r s) := by
    unfold accept
    split <;> rfl
  have hrun : Runs (.spotStop r) s (fun t => Same t (spotForwarded r s)) := by
    refine runs_later _ rfl ha ((checked_pass _ _ _ _ _ _ _ (by simp [hlen]) hz rfl rfl ?_).trans (if_pos hrole'))
      ((core_of_hush (hush_sendLink _ _ _ _)).trans hcore)
    rw [if_pos hrole', failIf_false _ (by rw [hl']; rfl)]
  exact hrun.imp (fun t ht => ⟨ht.field (fun u => u.pair.forwards) (fun _ => rfl), ht.withPair⟩)

/-- The state that the effect of an admitted SPOT_STOP leaves on a member that is no STANDBY, before its reply. -/
def spotLatched (r : Req) (s : State) : State := spotStopBerth (u8 r.payload 0) 1 r.master r.master (accept 0x0903 r s)

theorem spotLatched_stands (hb : (berthOf s (u8 r.payload 0)).state ≠ 0) :
    Stands (spotStopped (u8 r.payload 0) 1 (accept 0x0903 r s)) (spotLatched r s) :=
  stands_spotStopBerth _ _ _ _ (by rwa [berthOf_accept])

/-- The stop is in force under a new sequence with 8 frames to send (R396, R397). -/
theorem spotLatched_spots (hb : (berthOf s (u8 r.payload 0)).state ≠ 0) : (spotLatched r s).repl.ecl.spots =
    upsert s.repl.ecl.spots (u8 r.payload 0) ⟨true, 1, nextStop s (u8 r.payload 0), 8, false⟩ := by
  have h : (spotStopped (u8 r.payload 0) 1 (accept 0x0903 r s)).repl.ecl.spots = upsert (accept 0x0903 r s).repl.ecl.spots (u8 r.payload 0)
    ⟨true, 1, nextStop (accept 0x0903 r s) (u8 r.payload 0), 8, false⟩ := rfl
  rw [(spotLatched_stands hb).core, h, nextStop, spotOf_accept, accept_repl]
  rfl

theorem spotOf_spotLatched (hb : (berthOf s (u8 r.payload 0)).state ≠ 0) :
    spotOf (spotLatched r s) (u8 r.payload 0) = ⟨true, 1, nextStop s (u8 r.payload 0), 8, false⟩ := by
  rw [spotOf, spotLatched_spots hb, look_upsert, if_pos rfl]
  rfl

theorem spotPayload_spotLatched (hb : (berthOf s (u8 r.payload 0)).state ≠ 0) : spotPayload (u8 r.payload 0) (spotLatched r s) =
    leBytes 1 (u8 r.payload 0) ++ leBytes 1 (berthOf s (u8 r.payload 0)).state ++ leBytes 2 (nextStop s (u8 r.payload 0)) := by
  have h : (berthOf (spotLatched r s) (u8 r.payload 0)).state = (berthOf (accept 0x0903 r s) (u8 r.payload 0)).state :=
    (spotLatched_stands hb).berths _
  rw [spotPayload, h, berthOf_accept, spotOf_spotLatched hb]

theorem reported_spotLatched (hb : (berthOf s (u8 r.payload 0)).state ≠ 0) : Reported s (spotLatched r s) 0xC904 r.master
    (leBytes 1 (u8 r.payload 0) ++ leBytes 1 1 ++ leBytes 1 1 ++ leBytes 1 r.master ++ leBytes 2 (nextStop s (u8 r.payload 0)) ++ [0, 0]) := by
  have h := reported_spotStopBerth (u8 r.payload 0) 1 r.master r.master (s := accept 0x0903 r s) (by rwa [berthOf_accept])
    (grows_accept 0x0903 r s) (congrArg (·.gtc) (accept_tb 0x0903 r s))
  rwa [nextStop, spotOf_accept] at h

/-- With no assignment to withdraw the stop moves the spot stops and their count alone, but for what `core` leaves out. -/
theorem same_spotLatched (hb : (berthOf s (u8 r.payload 0)).state ≠ 0) (hn : unsentTasks s = []) : Same (spotLatched r s) { s with
    repl := { s.repl with ecl := { s.repl.ecl with spots := (spotLatched r s).repl.ecl.spots } }
    ecl := { s.ecl with spotCount := min (s.ecl.spotCount + 1) (2 ^ 32 - 1) } } := by
  have hb' : (berthOf (accept 0x0903 r s) (u8 r.payload 0)).state ≠ 0 := by rwa [berthOf_accept]
  have hn' : unsentTasks (accept 0x0903 r s) = [] := (unsentTasks_congr (by rw [accept_repl])).trans hn
  rw [spotLatched_spots hb]
  refine (core_of_hush (hush_spotStopBerth _ _ _ _ hb' hn')).trans ?_
  unfold accept
  split <;> rfl

theorem spotStop_runs (ha : Admitted 0x0903 false r s) (hlen : r.payload.length = 4) (hz : zeroAt r.payload 1 3 = true)
    (hrole : s.pair.role ≠ 2) (hb : (berthOf s (u8 r.payload 0)).state ≠ 0) :
    Runs (.spotStop r) s (fun t => Settled s (spotLatched r s) t ∧
      Answered s t r 0x0903 (changed (spotOf s (u8 r.payload 0)).inForce) (spotPayload (u8 r.payload 0) (spotLatched r s))) := by
  have hrole' : (accept 0x0903 r s).pair.role ≠ 2 := by rwa [accept_pair]
  have hst := spotLatched_stands (r := r) hb
  rw [← spotOf_accept (r := r) (s := s) 0x0903]
  refine runs_checked_settled rfl ha (by simp [hlen]) hz rfl rfl ?_ (if_neg hrole') ?_ ?_
  · rw [if_neg hrole', berthOf_accept]
    exact failIf_false _ (beq_eq_false_iff_ne.mpr hb)
  · exact .trans (b := spotStopped _ 1 (accept 0x0903 r s)) (.of_eq rfl) hst.grows
  · exact .trans (b := spotStopped _ 1 (accept 0x0903 r s)) (.of_eq rfl) hst.held

theorem spotStop_inForce (ha : Admitted 0x0903 false r s) (hlen : r.payload.length = 4) (hz : zeroAt r.payload 1 3 = true)
    (hrole : s.pair.role ≠ 2) (hb : (berthOf s (u8 r.payload 0)).state ≠ 0) :
    Runs (.spotStop r) s (fun t => spotOf t (u8 r.payload 0) = ⟨true, 1, nextStop s (u8 r.payload 0), 8, false⟩ ∧
      (∀ c, c ≠ u8 r.payload 0 → look t.repl.ecl.spots c = look s.repl.ecl.spots c) ∧
      Answered s t r 0x0903 (if (spotOf s (u8 r.payload 0)).inForce then 0x0102 else 0) (leBytes 1 (u8 r.payload 0)
        ++ leBytes 1 (berthOf s (u8 r.payload 0)).state ++ leBytes 2 (nextStop s (u8 r.payload 0))) ∧
      Reported s t 0xC904 r.master (leBytes 1 (u8 r.payload 0) ++ leBytes 1 1 ++ leBytes 1 1 ++ leBytes 1 r.master
        ++ leBytes 2 (nextStop s (u8 r.payload 0)) ++ [0, 0]) ∧
      (unsentTasks s = [] → Same t { s with
        repl := { s.repl with ecl := { s.repl.ecl with spots := t.repl.ecl.spots } }
        ecl := { s.ecl with spotCount := min (s.ecl.spotCount + 1) (2 ^ 32 - 1) }
        pair := t.pair })) := by
  refine (spotStop_runs ha hlen hz hrole hb).imp (fun t ⟨ht, hans⟩ => ?_)
  have htc : t.repl.ecl = (spotLatched r s).repl.ecl := ht.same.field (fun u => u.repl.ecl) (fun _ => rfl)
  rw [spotPayload_spotLatched hb] at hans
  refine ⟨?_, fun c hc => ?_, hans, ht.kept _ (reported_spotLatched hb), fun hn => ?_⟩
  · rw [spotOf_congr htc, spotOf_spotLatched hb]
  · rw [htc, spotLatched_spots hb, look_upsert, if_neg hc]
  · rw [htc]
    exact Same.withPair (ht.same.trans (same_spotLatched hb hn))

end

/-! ### SPOT_RELEASE and its commit -/

section
variable {r : Req} {s : State}

theorem spotRelease_refused {st : Nat} (ha : Admitted 0x0904 true r s) (hlen : r.payload.length = 4) (hz : zeroAt r.payload 1 3 = true)
    (h : s.pair.role = 2 ∧ st = 0x2004 ∨ s.pair.role ≠ 2 ∧ (spotOf s (u8 r.payload 0)).inForce = false ∧ st = 0x8905) :
    Runs (.spotRelease r) s (fun t => Same t s ∧ Answered s t r 0x0904 st []) := by
  refine runs_checked_fail rfl ha (by simp [hlen]) hz rfl rfl ?_
  rw [accept_pair, spotOf_accept]
  obtain ⟨hr, rfl⟩ | ⟨hr, hf, rfl⟩ := h
  · exact if_pos hr
  · rw [if_neg hr, hf]
    rfl

theorem spotRelease_held (ha : Admitted 0x0904 true r s) (hlen : r.payload.length = 4) (hz : zeroAt r.payload 1 3 = true)
    (hrole : s.pair.role ≠ 2) (hf : (spotOf s (u8 r.payload 0)).inForce = true) :
    Runs (.spotRelease r) s (fun t => Same t (hold r.master (.spotRelease r (spotOf s (u8 r.payload 0)).seq) s)) := by
  have hstates : (if (accept 0x0904 r s).pair.role = 2 then [0x2004]
      else failIf (!(spotOf (accept 0x0904 r s) (u8 r.payload 0)).inForce) 0x8905) = [] := by
    rw [accept_pair, if_neg hrole, spotOf_accept, hf]
    rfl
  rw [← spotOf_accept (r := r) (s := s) 0x0904]
  exact runs_later _ rfl ha (checked_pass _ _ _ _ _ _ _ (by simp [hlen]) hz rfl rfl hstates) (core_hold_accept _ _ _ _ _)

/-- What the commit of a release leaves, before its reply (R398): the stop is over under a new sequence, with 3 frames to send. -/
def spotReleased (r : Req) (s : State) : State :=
  let b := u8 r.payload 0
  mirror (eclSpot b 0 0 r.master (nextStop s b) r.master (setSpot b ⟨false, (spotOf s b).cause, nextStop s b, 3, true⟩ s))

theorem commitSpotRelease_ends (hf : (spotOf s (u8 r.payload 0)).inForce = true) :
    commitSpotRelease r (spotOf s (u8 r.payload 0)).seq s =
      reply r 0x0904 0 (spotPayload (u8 r.payload 0) (spotReleased r s)) (spotReleased r s) :=
  (if_neg (by simp [hf])).trans (if_neg (by simp))

/-- A stop put in force since the release arrived supersedes it (R398). -/
theorem commitSpotRelease_superseded {n : Nat} (hf : (spotOf s (u8 r.payload 0)).inForce = true) (hn : n ≠ (spotOf s (u8 r.payload 0)).seq) :
    commitSpotRelease r n s = reply r 0x0904 0x8906 (spotPayload (u8 r.payload 0) s) s :=
  (if_neg (by simp [hf])).trans (if_pos hn.symm)

theorem spotReleased_stands : Stands (setSpot (u8 r.payload 0) ⟨false, (spotOf s (u8 r.payload 0)).cause, nextStop s (u8 r.payload 0), 3, true⟩ s)
    (spotReleased r s) := (Stands.refl _).emit.mirror

theorem spotOf_spotReleased : spotOf (spotReleased r s) (u8 r.payload 0) =
    ⟨false, (spotOf s (u8 r.payload 0)).cause, nextStop s (u8 r.payload 0), 3, true⟩ := by
  rw [spotOf_congr spotReleased_stands.core, spotOf_setSpot]

theorem spotPayload_spotReleased : spotPayload (u8 r.payload 0) (spotReleased r s) =
    leBytes 1 (u8 r.payload 0) ++ leBytes 1 (berthOf s (u8 r.payload 0)).state ++ leBytes 2 (nextStop s (u8 r.payload 0)) := by
  have h : (berthOf (spotReleased r s) (u8 r.payload 0)).state = (berthOf s (u8 r.payload 0)).state := spotReleased_stands.berths _
  rw [spotPayload, h, spotOf_spotReleased]

theorem spotRelease_commits (hr : r.sess = none) (hf : (spotOf s (u8 r.payload 0)).inForce = true) :
    spotOf (commitSpotRelease r (spotOf s (u8 r.payload 0)).seq s) (u8 r.payload 0) =
      ⟨false, (spotOf s (u8 r.payload 0)).cause, nextStop s (u8 r.payload 0), 3, true⟩ ∧
    Answered s (commitSpotRelease r (spotOf s (u8 r.payload 0)).seq s) r 0x0904 0 (leBytes 1 (u8 r.payload 0)
      ++ leBytes 1 (berthOf s (u8 r.payload 0)).state ++ leBytes 2 (nextStop s (u8 r.payload 0))) ∧
    ∀ n, n ≠ (spotOf s (u8 r.payload 0)).seq → Same (commitSpotRelease r n s) s ∧
      Answered s (commitSpotRelease r n s) r 0x0904 0x8906 (spotPayload (u8 r.payload 0) s) := by
  rw [commitSpotRelease_ends hf]
  refine ⟨?_, ?_, fun n hn => ?_⟩
  · rw [spotOf_congr (congrArg Repl.ecl (reply_repl _ _ _ _ _)), spotOf_spotReleased]
  · rw [spotPayload_spotReleased]
    exact answered_open hr (.trans (.of_eq rfl) spotReleased_stands.grows) _ _ _
  · rw [commitSpotRelease_superseded hf hn]
    exact ⟨core_reply _ _ _ _ _, answered_open hr (.refl s) _ _ _⟩

end

/-- Settles O28: SPOT_STOP by role and berth state, SPOT_RELEASE by its checks, its commit by the stop sequence it was held under. -/
theorem spotStops : Obligations.SpotStops := fun _ _ hlen hz =>
  ⟨fun ha hrole => ⟨spotStop_free ha hlen hz hrole, spotStop_inForce ha hlen hz hrole⟩,
    fun ha hrole hl => spotStop_unlinked ha hlen hz hrole hl,
    fun ha hrole hl => spotStop_forwarded ha hlen hz hrole hl,
    fun ha => ⟨fun hrole => spotRelease_refused ha hlen hz (.inl ⟨hrole, rfl⟩),
      fun hrole hf => spotRelease_refused ha hlen hz (.inr ⟨hrole, hf, rfl⟩), spotRelease_held ha hlen hz⟩,
    fun hr hf _ => spotRelease_commits hr hf⟩

end Sys2Proof.Machine
end

section
/-!
PROOFS. Eclipse across the pair (R402, R478, R493 to R495): ECLIPSE and TRIGGER messages, the partner's pin, the held stop level, and
packets of master 4.
-/
namespace Sys2Proof.Machine
open Sys2Proof
set_option Elab.async false

/-! ### What a STANDBY shows (R495) -/

theorem eclShown_stop {s : State} (hr : s.pair.role = 2)
    (hv : s.pair.viewPin = true ∨ s.pair.viewPrio.state = 1 ∨ s.pair.viewCommitted.state = 1) : eclShown s = 1 :=
  (if_pos hr).trans (if_pos hv)

theorem viewsChanged_same {old : Nat} {s : State} (h : s.pair.role ≠ 2 ∨ eclShown s = old) : viewsChanged old s = s := if_pos h

/-- Reporting a change of what is shown changes no view. -/
theorem viewsChanged_pair (old : Nat) (s : State) : (viewsChanged old s).pair = s.pair := by
  unfold viewsChanged
  extract_lets new c _ s1 s2
  have h1 : s1.pair = s.pair := by
    simp only [s1]
    split <;> rfl
  have h2 : s2.pair = s.pair := (emit_pair _ _ _ _).trans h1
  split
  · rfl
  · split
    · exact h2
    · rw [modeChange_pair, h2]

/-- Settling moves the count of link messages alone. -/
theorem settle_pairField {α : Type} (f : Pair → α) (hf : ∀ p, f (stillPair p) = f p) (s : State) : f (settle s).pair = f s.pair := by
  rw [← hf (settle s).pair, ← hf s.pair]
  exact congrArg f ((same_settle s).field (fun u => stillPair u.pair) (fun _ => rfl))

theorem eclShown_viewsChanged (old : Nat) (s : State) : eclShown (viewsChanged old s) = eclShown s := by
  by_cases h : s.pair.role = 2
  · simp only [eclShown, viewsChanged_pair, h, ↓reduceIte]
  · rw [viewsChanged_same (.inl h)]

/-! ### The stop level held for a momentary trigger (R493) -/

/-- Only the held level itself may go. -/
theorem holdStep_cases (s : State) : holdStep s = s ∨ holdStep s = modPair (fun p => { p with hold := none }) s := by
  unfold holdStep
  split
  · exact .inl rfl
  · split
    · exact .inr rfl
    · exact .inl rfl

section
variable {s : State} {g : Gtc} {q : Nat}

theorem holdStep_ends (h : s.pair.hold = some (g, q)) (hq : s.pair.viewPrio.seq ≠ q) (ht : 1000000000 ≤ sinceNs s g) :
    holdStep s = modPair (fun p => { p with hold := none }) s := by
  rw [holdStep, h]
  exact if_pos ⟨hq, ht⟩

theorem holdStep_stays (h : s.pair.hold = some (g, q)) (hq : s.pair.viewPrio.seq = q ∨ sinceNs s g < 1000000000) : holdStep s = s := by
  rw [holdStep, h]
  exact if_neg (fun hc => hq.elim hc.1 (Nat.not_lt.mpr hc.2))

end

/-- Reporting what is shown and settling leave the views as they are, whatever becomes of the held level. -/
theorem shown_pair {α : Type} (f : Pair → α) (hf : ∀ p, f (stillPair { p with hold := none }) = f p) (old : Nat) (s : State) :
    f (settle (holdStep (viewsChanged old s))).pair = f s.pair := by
  have hstill (p : Pair) : f (stillPair p) = f p := by rw [← hf (stillPair p), ← hf p]; rfl
  have hhold (p : Pair) : f { p with hold := none } = f p := by rw [← hstill, hf]
  rw [settle_pairField f hstill]
  obtain h | h := holdStep_cases (viewsChanged old s)
  · rw [h, viewsChanged_pair]
  · rw [h, modPair_pair, hhold, viewsChanged_pair]

/-! ### ECLIPSE messages -/

/-- The views after an ECLIPSE message that a STANDBY takes. -/
def eclipseViewed (m : LinkMsg) (s : State) : State :=
  let v := modEcl (fun x => { x with spots := mergeSpots x.spots (spotsOf x.spots m.payload) })
    (modPair (fun p => { p with viewPrio := eclipseOf m.payload }) (linkSeen m s))
  if (eclipseOf m.payload).state = 0 ∧ s.pair.halfTrip ≤ sinceNs s s.pair.pinSince then modPair (fun p => { p with viewPin := false }) v else v

section
variable {m : LinkMsg} {s : State}

theorem pairEclipseMsg_standby (hr : s.pair.role = 2) (h : linkVerdict 7 m s = 2) :
    exec (.pairEclipseMsgRx m) s = done (holdStep (viewsChanged (eclShown s) (eclipseViewed m s))) := by
  simp only [exec, execPairEclipseMsgRx, h, hr]
  rfl

theorem pairEclipseMsg_other (hr : s.pair.role ≠ 2) (h : linkVerdict 7 m s = 2) : exec (.pairEclipseMsgRx m) s = done (linkSeen m s) := by
  simp only [exec, execPairEclipseMsgRx, h]
  exact congrArg done (if_pos hr)

/-- A message whose tag fails counts as a view of stop alone (R478). -/
theorem pairEclipseMsg_fails (hr : s.pair.role = 2) (h : linkVerdict 7 m s = 1) : exec (.pairEclipseMsgRx m) s =
    done (if (eclipseOf m.payload).state = 1 then
      viewsChanged (eclShown s) (modPair (fun p => { p with viewPrio := eclipseOf m.payload }) (tagDrop s)) else tagDrop s) := by
  simp only [exec, execPairEclipseMsgRx, h, hr, true_and]

theorem eclipseViewed_pair : (eclipseViewed m s).pair.role = s.pair.role ∧ (eclipseViewed m s).pair.viewPrio = eclipseOf m.payload ∧
    (eclipseViewed m s).pair.viewPin = (if (eclipseOf m.payload).state = 0 ∧ s.pair.halfTrip ≤ sinceNs s s.pair.pinSince then false
      else s.pair.viewPin) := by
  unfold eclipseViewed
  dsimp only
  split <;> exact ⟨rfl, rfl, rfl⟩

theorem eclipseMsg_taken (hr : s.pair.role = 2) (h : linkVerdict 7 m s = 2) : ∃ t, exec (.pairEclipseMsgRx m) s = .next t ∧
    t.pair.viewPrio = eclipseOf m.payload ∧
    ((eclipseOf m.payload).state = 0 → s.pair.halfTrip ≤ sinceNs s s.pair.pinSince → t.pair.viewPin = false) ∧
    ((eclipseOf m.payload).state ≠ 0 ∨ sinceNs s s.pair.pinSince < s.pair.halfTrip → t.pair.viewPin = s.pair.viewPin) ∧
    ((eclipseOf m.payload).state = 1 → eclShown t = 1) := by
  obtain ⟨hrole, hprio, hpin⟩ := eclipseViewed_pair (m := m) (s := s)
  refine ⟨_, pairEclipseMsg_standby hr h, ?_, fun h0 hl => ?_, fun hl => ?_, fun h1 => ?_⟩
  · exact (shown_pair Pair.viewPrio (fun _ => rfl) _ _).trans hprio
  · rw [shown_pair Pair.viewPin (fun _ => rfl) _ _, hpin, if_pos ⟨h0, hl⟩]
  · rw [shown_pair Pair.viewPin (fun _ => rfl) _ _, hpin, if_neg (fun hc => hl.elim (fun hn => hn hc.1) (Nat.not_lt.mpr hc.2))]
  · refine eclShown_stop ((shown_pair Pair.role (fun _ => rfl) _ _).trans (hrole.trans hr)) (.inr (.inl ?_))
    rw [shown_pair Pair.viewPrio (fun _ => rfl) _ _, hprio, h1]

theorem eclipseMsg_unproved (hr : s.pair.role = 2) (h : linkVerdict 7 m s = 1) : ∃ t, exec (.pairEclipseMsgRx m) s = .next t ∧
    t.pair.tagDrops = min (s.pair.tagDrops + 1) (2 ^ 32 - 1) ∧
    t.pair.viewPrio = (if (eclipseOf m.payload).state = 1 then eclipseOf m.payload else s.pair.viewPrio) := by
  rw [pairEclipseMsg_fails hr h]
  refine ⟨_, rfl, ?_⟩
  split
  · rw [settle_pairField Pair.tagDrops (fun _ => rfl), settle_pairField Pair.viewPrio (fun _ => rfl), viewsChanged_pair]
    exact ⟨rfl, rfl⟩
  · exact ⟨settle_pairField Pair.tagDrops (fun _ => rfl) _, settle_pairField Pair.viewPrio (fun _ => rfl) _⟩

end

/-! ### TRIGGER messages -/

theorem linkVerdict_cases (type : Nat) (m : LinkMsg) (s : State) :
    linkVerdict type m s = 0 ∨ linkVerdict type m s = 1 ∨ linkVerdict type m s = 2 := by
  unfold linkVerdict
  split
  · exact .inl rfl
  · split
    · exact .inr (.inl rfl)
    · split
      · exact .inl rfl
      · exact .inr (.inr rfl)

section
variable {m : LinkMsg} {s : State}

theorem pairTriggerMsg_passes (h : linkVerdict 8 m s = 2) : exec (.pairTriggerMsgRx m) s =
    done (partnerTriggerActs (u8 m.payload 0) (u8 m.payload 1 == 1) (linkSeen m s)) := by
  simp only [exec, execPairTriggerMsgRx, h]

theorem pairTriggerMsg_fails (h : linkVerdict 8 m s = 1) : exec (.pairTriggerMsgRx m) s =
    done (if (u8 m.payload 1 == 1) = true then partnerTriggerActs (u8 m.payload 0) true (tagDrop s) else tagDrop s) := by
  simp only [exec, execPairTriggerMsgRx, h]

theorem partnerTriggerActs_other {code : Nat} {active : Bool} (hr : s.pair.role ≠ 1) : partnerTriggerActs code active s = s := if_pos hr

theorem partnerTriggerActs_momentary {code : Nat} (hr : s.pair.role = 1) (hc : code = 5 ∨ code = 6) :
    partnerTriggerActs code true s = latchTrigger code 4 4 0 s := by
  rw [partnerTriggerActs, if_neg (not_not_intro hr), if_pos hc]
  rfl

theorem partnerTriggerActs_lasting {code : Nat} (active : Bool) (hr : s.pair.role = 1) (h5 : code ≠ 5) (h6 : code ≠ 6) :
    partnerTriggerActs code active s = evalPartner (modPair (fun p => { p with partnerTrigger := active }) s) := by
  rw [partnerTriggerActs, if_neg (not_not_intro hr), if_neg (by simp [h5, h6])]

/-- A latch on a member that is no STANDBY and not in ECLIPSE, as the settled state shows it. -/
theorem latched_settles {code src master note : Nat} (hr : s.pair.role ≠ 2) (h : s.repl.ecl.state ≠ 1) :
    (settle (latchTrigger code src master note s)).repl.ecl =
      { s.repl.ecl with state := 1, seq := nextEclSeq s.repl.ecl.seq, cause := code } := by
  rw [latchTrigger_enters _ _ _ _ hr h]
  exact ((same_settle _).field (fun u => u.repl.ecl) (fun _ => rfl)).trans (enterEclipse_core _ _ _ _ _)

/-- A momentary trigger of the partner acts whether its tag verifies or not (R478, R494). -/
theorem triggerMsg_momentary (hr : s.pair.role = 1) (h : linkVerdict 8 m s ≠ 0) (hc : u8 m.payload 0 = 5 ∨ u8 m.payload 0 = 6)
    (hact : u8 m.payload 1 = 1) (hs : s.repl.ecl.state ≠ 1) : ∃ t, exec (.pairTriggerMsgRx m) s = .next t ∧
    t.repl.ecl.state = 1 ∧ t.repl.ecl.cause = u8 m.payload 0 ∧ t.repl.ecl.seq = nextEclSeq s.repl.ecl.seq := by
  have hb : (u8 m.payload 1 == 1) = true := beq_iff_eq.mpr hact
  have hacts {v : State} (hv : v.pair.role = 1) (he : v.repl = s.repl) :
      (settle (partnerTriggerActs (u8 m.payload 0) true v)).repl.ecl =
        { s.repl.ecl with state := 1, seq := nextEclSeq s.repl.ecl.seq, cause := u8 m.payload 0 } := by
    rw [partnerTriggerActs_momentary hv hc, latched_settles (by omega) (by rwa [he]), he]
  obtain h0 | h1 | h2 := linkVerdict_cases 8 m s
  · exact absurd h0 h
  · have ht := hacts (v := tagDrop s) hr rfl
    refine ⟨_, by rw [pairTriggerMsg_fails h1, if_pos hb]; rfl, ?_⟩
    rw [ht]
    exact ⟨rfl, rfl, rfl⟩
  · have ht := hacts (v := linkSeen m s) hr rfl
    refine ⟨_, by rw [pairTriggerMsg_passes h2, hb]; rfl, ?_⟩
    rw [ht]
    exact ⟨rfl, rfl, rfl⟩

/-! ### Trigger 7 (R494) -/

variable {code src : Nat} {cond : Bool}

theorem latchTrigger_pair (hr : s.pair.role ≠ 2) (master note : Nat) :
    pairRest (latchTrigger code src master note s).pair = pairRest s.pair := by
  by_cases h : s.repl.ecl.state = 1
  · rw [latchTrigger_latches _ _ _ _ hr h]
    exact congrArg pairRest (emit_pair _ _ _ _)
  · rw [latchTrigger_enters _ _ _ _ hr h]
    exact (stands_enterEclipse _ _ _ _ _).pair

theorem latchTrigger_role (hr : s.pair.role ≠ 2) (master note : Nat) : (latchTrigger code src master note s).pair.role = s.pair.role := by
  have h := congrArg Pair.role (latchTrigger_pair (code := code) (src := src) hr master note)
  exact h

/-- On a member that is no STANDBY the evaluation of a lasting trigger moves nothing of the pair but decisions and messages. -/
theorem evalLasting_pair (hr : s.pair.role ≠ 2) : pairRest (evalLasting code src cond s).pair = pairRest s.pair := by
  unfold evalLasting
  extract_lets was _ s1 s2 s3
  have h1 : s1.pair = s.pair := by
    simp only [s1]
    split <;> rfl
  have h1r : s1.pair.role ≠ 2 := by rwa [h1]
  have h3 : pairRest s3.pair = pairRest s.pair := congrArg pairRest (emit_pair _ _ _ _)
  split
  · split
    · split
      · rw [h1]
      · rw [latchTrigger_pair h1r, h1]
    · split
      · rw [h1]
      · rw [eclTrigger, emit_pair, h1]
  · split
    · exact h3
    · rfl

/-- While the state is CLEAR an armed lasting trigger that holds is latched, whether it was active already or not (R382). -/
theorem evalLasting_latches (ha : armed s (armOf code) = true) (h0 : eclShown s = 0) :
    ∃ v, v.pair = s.pair ∧ v.repl = s.repl ∧ evalLasting code src true s = latchTrigger code src 0xFF 0 v := by
  unfold evalLasting
  extract_lets was _ s1
  refine ⟨s1, ?_, ?_, ?_⟩
  · simp only [s1]
    split <;> rfl
  · simp only [s1]
    split <;> rfl
  · rw [if_pos rfl, if_pos ha, if_neg (fun h => h.2.2 h0)]

theorem evalPartner_other (hr : s.pair.role ≠ 1) : evalPartner s = s := if_neg hr

theorem evalPartner_active (hr : s.pair.role = 1) : evalPartner s = evalLasting 7 4 (s.pair.pinIn || s.pair.partnerTrigger) s := if_pos hr

theorem triggerMsg_lasting (hr : s.pair.role = 1) (h : linkVerdict 8 m s = 2) (h5 : u8 m.payload 0 ≠ 5) (h6 : u8 m.payload 0 ≠ 6) :
    ∃ t, exec (.pairTriggerMsgRx m) s = .next t ∧ t.pair.partnerTrigger = (u8 m.payload 1 == 1) := by
  let v := modPair (fun p => { p with partnerTrigger := u8 m.payload 1 == 1 }) (linkSeen m s)
  have hv : v.pair.role = 1 := hr
  have hp : pairRest (evalPartner v).pair = pairRest v.pair := by
    rw [evalPartner_active hv]
    exact evalLasting_pair (by omega)
  refine ⟨settle (evalPartner v), ?_, ?_⟩
  · rw [pairTriggerMsg_passes h, partnerTriggerActs_lasting (s := linkSeen m s) _ hr h5 h6]
    rfl
  · exact (settle_pairField Pair.partnerTrigger (fun _ => rfl) _).trans (congrArg Pair.partnerTrigger hp)

theorem triggerMsg_dropped (h : linkVerdict 8 m s = 1) (hn : u8 m.payload 1 ≠ 1 ∨ s.pair.role ≠ 1) :
    exec (.pairTriggerMsgRx m) s = done (tagDrop s) := by
  rw [pairTriggerMsg_fails h]
  split
  · rename_i hb
    rw [partnerTriggerActs_other (s := tagDrop s) (hn.resolve_left (not_not_intro (beq_iff_eq.mp hb)))]
  · rfl

theorem triggerMsg_seen (h : linkVerdict 8 m s = 2) (hr : s.pair.role ≠ 1) : exec (.pairTriggerMsgRx m) s = done (linkSeen m s) := by
  rw [pairTriggerMsg_passes h, partnerTriggerActs_other (s := linkSeen m s) hr]

/-! ### The partner's pin (R494, R495) -/

/-- What a level of PAIR_ECL_IN sets before it is evaluated. -/
def pinLevel (high : Bool) (s : State) : State :=
  modPair (fun p => { p with
    pinIn := high
    pinSince := if high then s.tb.gtc else p.pinSince
    viewPin := p.viewPin || (high && p.role == 2) }) s

theorem pairEclIn_standbyPower (h4 : s.pwr.state = 4) (high : Bool) : exec (.pairEclInChange high) s = done s :=
  congrArg done (if_pos h4)

theorem pairEclIn_evaluated (h4 : s.pwr.state ≠ 4) (high : Bool) :
    exec (.pairEclInChange high) s = done (viewsChanged (eclShown s) (evalPartner (pinLevel high s))) := congrArg done (if_neg h4)

theorem pairEclIn_idle (h4 : s.pwr.state ≠ 4) (h1 : s.pair.role ≠ 1) {high : Bool}
    (h : s.pair.role ≠ 2 ∨ high = false) : exec (.pairEclInChange high) s = done (pinLevel high s) := by
  rw [pairEclIn_evaluated h4, evalPartner_other (s := pinLevel high s) h1, viewsChanged_same]
  refine h.imp id (fun hh => ?_)
  subst hh
  simp [eclShown, pinLevel]

theorem pinLevel_low : pinLevel false s = { s with pair := { s.pair with pinIn := false } } := by simp [pinLevel, modPair]

theorem pinLevel_high (hr : s.pair.role ≠ 2) :
    pinLevel true s = { s with pair := { s.pair with pinIn := true, pinSince := s.tb.gtc } } := by simp [pinLevel, modPair, hr]

theorem pairEclIn_low (h4 : s.pwr.state ≠ 4) (hr : s.pair.role = 2) :
    exec (.pairEclInChange false) s = done { s with pair := { s.pair with pinIn := false } } := by
  rw [pairEclIn_idle h4 (by omega) (.inr rfl), pinLevel_low]

theorem pairEclIn_solo (h4 : s.pwr.state ≠ 4) (hr : s.pair.role = 0) :
    exec (.pairEclInChange true) s = done { s with pair := { s.pair with pinIn := true, pinSince := s.tb.gtc } } := by
  rw [pairEclIn_idle h4 (by omega) (.inl (by omega)), pinLevel_high (by omega)]

theorem pairEclIn_shown (h4 : s.pwr.state ≠ 4) (hr : s.pair.role = 2) : ∃ t, exec (.pairEclInChange true) s = .next t ∧
    t.pair.viewPin = true ∧ eclShown t = 1 ∧ t.pair.pinIn = true := by
  have hv : (pinLevel true s).pair.viewPin = true := by simp [pinLevel, hr]
  have h1 : (pinLevel true s).pair.role ≠ 1 := by
    change s.pair.role ≠ 1
    omega
  rw [pairEclIn_evaluated h4, evalPartner_other h1]
  refine ⟨_, rfl, ?_, ?_, ?_⟩
  · rw [settle_pairField Pair.viewPin (fun _ => rfl), viewsChanged_pair, hv]
  · rw [(same_settle _).field eclShown (fun _ => rfl), eclShown_viewsChanged]
    exact eclShown_stop hr (.inl hv)
  · rw [settle_pairField Pair.pinIn (fun _ => rfl), viewsChanged_pair]
    rfl

/-- On an ACTIVE member with 0x03 armed a high level enters ECLIPSE with cause 7 (R494). -/
theorem pairEclIn_enters (h4 : s.pwr.state ≠ 4) (hr : s.pair.role = 1) (ha : bit s.repl.armed 3 = true) (h0 : s.repl.ecl.state = 0) :
    ∃ t, exec (.pairEclInChange true) s = .next t ∧ t.repl.ecl.state = 1 ∧ t.repl.ecl.cause = 7 := by
  have hr' : (pinLevel true s).pair.role = 1 := hr
  have hshown : eclShown (pinLevel true s) = 0 := (eclShown_of_role (by omega)).trans h0
  obtain ⟨v, hvp, hvr, hv⟩ := evalLasting_latches (code := 7) (src := 4) (s := pinLevel true s) ha hshown
  have hvrole : v.pair.role = 1 := (congrArg Pair.role hvp).trans hr'
  have hve : v.repl.ecl = s.repl.ecl := congrArg Repl.ecl hvr
  have heval : evalPartner (pinLevel true s) = latchTrigger 7 4 0xFF 0 v := (evalPartner_active hr').trans hv
  have hrole : (latchTrigger 7 4 0xFF 0 v).pair.role ≠ 2 := by
    rw [latchTrigger_role (by omega)]
    omega
  have hecl := latched_settles (code := 7) (src := 4) (master := 0xFF) (note := 0) (s := v) (by omega) (by rw [hve]; omega)
  refine ⟨settle (latchTrigger 7 4 0xFF 0 v), ?_, ?_, ?_⟩
  · rw [pairEclIn_evaluated h4, heval, viewsChanged_same (.inl hrole)]
    rfl
  · rw [hecl]
  · rw [hecl]

/-! ### Packets of master 4 (R402, R477) -/

theorem pairEfbex_passes (h : linkVerdict 9 m s = 2) (hup : portUp 4 s = true) : exec (.pairEfbexRx m) s =
    if framed 4 m.payload = false then done (framingError 4 (linkSeen m s))
    else if bit (packetFields m.payload).flags 0 = true ∧ (packetFields m.payload).session = 0 then
      done (forwardReply (packetFields m.payload) (linkSeen m s))
    else if (packetFields m.payload).session = 0 ∧ (packetFields m.payload).opcode = 0x0903 then
      execSpotStop (reqOf 4 .transport noAddr true 0 (packetFields m.payload)) (linkSeen m s)
    else receive 4 .transport noAddr m.payload (linkSeen m s) := by
  have hup' : portUp 4 (linkSeen m s) = true := hup
  simp only [exec, execPairEfbexRx, h, hup', Bool.true_eq_false, ↓reduceIte]

theorem pairEfbex_unframed (h : linkVerdict 9 m s = 2) (hup : portUp 4 s = true) (hf : framed 4 m.payload = false) :
    exec (.pairEfbexRx m) s = done (framingError 4 (linkSeen m s)) := by
  rw [pairEfbex_passes h hup, if_pos hf]

theorem pairEfbex_framed (h : linkVerdict 9 m s = 2) (hup : portUp 4 s = true) (hf : framed 4 m.payload = true) :
    ((packetFields m.payload).session ≠ 0 → exec (.pairEfbexRx m) s = receive 4 .transport noAddr m.payload (linkSeen m s)) ∧
    ((packetFields m.payload).session = 0 → bit (packetFields m.payload).flags 0 = false → (packetFields m.payload).opcode = 0x0903 →
      exec (.pairEfbexRx m) s = exec (.spotStop (reqOf 4 .transport noAddr true 0 (packetFields m.payload))) (linkSeen m s)) ∧
    ((packetFields m.payload).session = 0 → bit (packetFields m.payload).flags 0 = true →
      exec (.pairEfbexRx m) s = done (forwardReply (packetFields m.payload) (linkSeen m s))) := by
  rw [pairEfbex_passes h hup, if_neg (by simp [hf])]
  refine ⟨fun hs => ?_, fun hs hb ho => ?_, fun hs hb => ?_⟩
  · rw [if_neg (fun hc => hs hc.2), if_neg (fun hc => hs hc.1)]
  · rw [if_neg (by simp [hb]), if_pos ⟨hs, ho⟩]
    rfl
  · rw [if_pos ⟨hb, hs⟩]

end

/-- Settles O52: each row by what its message, its level or its time is worth in the member's role. The bodies of the messages are those of
log entry 10, the end of the pin's view by half the round trip that of log entry 27, and a forwarded SPOT_STOP a packet of session 0 as in
log entry 30. -/
theorem pairEclipse : Obligations.PairEclipse := fun _ _ =>
  ⟨eclipseMsg_taken, eclipseMsg_unproved, pairEclipseMsg_other, triggerMsg_momentary, triggerMsg_lasting, triggerMsg_dropped,
    triggerMsg_seen, pairEclIn_standbyPower,
    pairEclIn_shown, pairEclIn_low, pairEclIn_enters, pairEclIn_solo,
    fun _ _ h => ⟨fun hq ht => congrArg done (holdStep_ends h hq ht), fun hq => congrArg done (holdStep_stays h hq)⟩,
    pairEfbex_unframed, pairEfbex_framed⟩

end Sys2Proof.Machine
end

section
/-!
PROOFS. The test of a transit request (R411, R413, R414): what is left of a decision when R418 has no blocker to report.
-/
namespace Sys2Proof.Machine
open Sys2Proof
set_option Elab.async false

/-! ### The blocker that R418 reports -/

/-- The last blocker looked at replaces the one kept so far or leaves it: one is reported either way. -/
theorem reported_concat_ne_none (l : List Blocker) (x : Blocker) : reported (l ++ [x]) ≠ none := by
  rw [reported, List.foldl_append, List.foldl_cons, List.foldl_nil]
  split
  · exact Option.some_ne_none x
  · split <;> exact Option.some_ne_none _

theorem reported_eq_none {l : List Blocker} : reported l = none ↔ l = [] := by
  obtain rfl | ⟨l, x, rfl⟩ := l.eq_nil_or_concat
  · exact iff_of_true rfl rfl
  · rw [List.concat_eq_append]
    exact iff_of_false (reported_concat_ne_none l x) (List.concat_ne_nil x l)

theorem askBlocker_eq_none {a : TrAsk} {limit : Nat} {s : State} : askBlocker a limit s = none ↔
    transitBlockers a s = [] ∧ zoneBlockers a s = [] ∧ claimBlockers a limit s = [] := by
  rw [askBlocker, reported_eq_none, List.append_eq_nil_iff, List.append_eq_nil_iff, and_assoc]

/-! ### The objects of each kind that block -/

theorem transitBlockers_eq_nil {a : TrAsk} {s : State} : transitBlockers a s = [] ↔
    ∀ t ∈ s.repl.tr.transits, sameOwner a t s = false → timeConflict a.start a.stop t.start t.stop s.repl.tr.cfg.guard = true →
      lineConflict a.line a.half t.line t.half s.repl.tr.cfg.clearance = false := by
  rw [transitBlockers, List.map_eq_nil_iff, List.filter_eq_nil_iff]
  simp only [Bool.and_eq_true, Bool.not_eq_true', Bool.not_eq_true, not_and, and_imp]

theorem zoneBlockers_eq_nil {a : TrAsk} {s : State} : zoneBlockers a s = [] ↔
    ∀ z ∈ s.repl.tr.zones, timeConflict a.start a.stop z.start z.stop s.repl.tr.cfg.guard = true →
      zoneConflict a.line a.half z.poly s.repl.tr.cfg.clearance = false := by
  rw [zoneBlockers, List.map_eq_nil_iff, List.filter_eq_nil_iff]
  simp only [Bool.and_eq_true, Bool.not_eq_true, not_and]

theorem claimBlockers_eq_nil {a : TrAsk} {limit : Nat} {s : State} : claimBlockers a limit s = [] ↔
    ∀ k ∈ s.repl.tr.claims, k.level < limit → a.owner ≠ some k.owner →
      timeConflict a.start a.stop k.start openEnd s.repl.tr.cfg.guard = true →
      lineConflict a.line a.half k.line k.half s.repl.tr.cfg.clearance = false := by
  rw [claimBlockers, List.map_eq_nil_iff, List.filter_eq_nil_iff]
  simp only [Bool.and_eq_true, decide_eq_true_eq, bne_iff_ne, Bool.not_eq_true, not_and, and_imp]

/-- Settles O41: nothing is reported only where no transit, no zone and no claim blocks, and each kind blocks where it conflicts. -/
theorem grantsAreClear : Obligations.GrantsAreClear := fun _ _ _ =>
  askBlocker_eq_none.trans (and_congr transitBlockers_eq_nil (and_congr zoneBlockers_eq_nil claimBlockers_eq_nil))

end Sys2Proof.Machine
end

section
/-!
PROOFS. The setting commands of group 0x0B (R447, R448, R450, R456, R465, R467, R469): what the state refuses, and what waits for its
commit.
-/
namespace Sys2Proof.Machine
open Sys2Proof
set_option Elab.async false

section
variable {r : Req} {s : State}

/-! ### What the checks of state see of an accepted request -/

theorem notStandby_accept (op : Nat) (r : Req) (h : s.pair.role ≠ 2) : notStandby (accept op r s) = [] :=
  notStandby_of_role (by rwa [accept_pair])

theorem taskOf_congr {t : State} (h : t.repl.dp.tasks = s.repl.dp.tasks) (id : Nat) : taskOf t id = taskOf s id := by
  rw [taskOf, taskOf, h]

theorem taskOf_accept (op : Nat) (r : Req) (s : State) (id : Nat) : taskOf (accept op r s) id = taskOf s id :=
  taskOf_congr (by rw [accept_repl]) id

theorem packOf_congr {t : State} (h : t.repl.dp.packs = s.repl.dp.packs) (i : Nat) : packOf t i = packOf s i := by
  rw [packOf, packOf, h]

theorem packOf_accept (op : Nat) (r : Req) (s : State) (i : Nat) : packOf (accept op r s) i = packOf s i :=
  packOf_congr (by rw [accept_repl]) i

/-- Where the checks of form pass and one check of state fails, its status is the answer. -/
theorem checked_refuses {size reserved range unique : Bool} {states : List Nat} {st : Nat} (u : State) (k : State → Ans)
    (h1 : size = true) (h2 : reserved = true) (h3 : range = true) (h4 : unique = true) (h5 : states = [st]) :
    checked size reserved range unique states u k = .reply st [] u := by
  rw [h1, h2, h3, h4, h5, checked_fail]

/-! ### DP_TASK_ADD -/

/-- Whether a new task's polyline and duration keep the rules of R447. -/
def taskFits (p : List Byte) (s : State) : Bool :=
  lineValid (pointsOf p 32 (u8 p 5)) && decide (u8 p 5 ≤ if bit (u8 p 1) 1 then 15 else 16) &&
    decide (u32 p 12 ≤ s.repl.tr.cfg.maxDur * 1000)

theorem length_le_of_lineValid {l : List Pt} (h : lineValid l = true) : l.length ≤ 16 := by
  simp only [lineValid, within, Bool.and_eq_true, decide_eq_true_eq] at h
  exact h.1.1.2

/-- A valid line has at most 16 waypoints, so the count is bounded anew by the lead-in alone. -/
theorem taskFits_iff (p : List Byte) (s : State) : taskFits p s = true ↔
    lineValid (pointsOf p 32 (u8 p 5)) = true ∧ (bit (u8 p 1) 1 = true → u8 p 5 ≤ 15) ∧
      u32 p 12 ≤ s.repl.tr.cfg.maxDur * 1000 := by
  rw [taskFits, Bool.and_eq_true, Bool.and_eq_true, decide_eq_true_eq, decide_eq_true_eq, and_assoc]
  refine and_congr_right fun hl => and_congr_left fun _ => ?_
  have h16 : u8 p 5 ≤ 16 := by simpa [pointsOf] using length_le_of_lineValid hl
  cases bit (u8 p 1) 1
  · simpa using h16
  · simp

theorem taskAdd_held (hrole : s.pair.role ≠ 2) (ha : Admitted 0x0B01 true r s)
    (hlen : r.payload.length = 32 + 8 * u8 r.payload 5 + u16 r.payload 26) (h1 : u8 r.payload 1 < 8) (h0 : u8 r.payload 0 ≤ 63)
    (h4 : u8 r.payload 4 ≤ 15 ∨ u8 r.payload 4 = 0xFF) (h8 : u32 r.payload 8 ≤ s.repl.tr.cfg.horizon * 1000)
    (h12 : 1000 ≤ u32 r.payload 12) (h24 : u16 r.payload 24 ≤ 65534) (h26 : u16 r.payload 26 ≤ 512)
    (h6 : within (u16 r.payload 6) 50 65000 = true) :
    (taskFits r.payload s = true → 8192 ≤ s.repl.dp.tasks.length →
      Runs (.dpTaskAdd r) s (fun t => Same t s ∧ Answered s t r 0x0B01 0x8B01 [])) ∧
    (¬ taskFits r.payload s = true → s.repl.dp.tasks.length < 8192 →
      Runs (.dpTaskAdd r) s (fun t => Same t s ∧ Answered s t r 0x0B01 0x8B05 [])) ∧
    (taskFits r.payload s = true → s.repl.dp.tasks.length < 8192 →
      Runs (.dpTaskAdd r) s (fun t => Same t (hold r.master (.command 0x0B01 r) s))) := by
  have hsize : (r.payload.length == 32 + 8 * u8 r.payload 5 + u16 r.payload 26) = true := by simpa using hlen
  have hres : bitsBelow (u8 r.payload 1) 3 = true := decide_eq_true h1
  have hrange : (decide (u8 r.payload 0 ≤ 63) && (decide (u8 r.payload 4 ≤ 15) || u8 r.payload 4 == 0xFF) &&
      decide (u32 r.payload 8 ≤ s.repl.tr.cfg.horizon * 1000) && decide (1000 ≤ u32 r.payload 12) &&
      decide (u16 r.payload 24 ≤ 65534) && decide (u16 r.payload 26 ≤ 512) && within (u16 r.payload 6) 50 65000) = true := by
    simp [h0, h4, h8, h12, h24, h26, h6]
  rw [← accept_repl 0x0B01 r s] at hrange
  have hst : notStandby (accept 0x0B01 r s) ++ failIf (decide (8192 ≤ (accept 0x0B01 r s).repl.dp.tasks.length)) 0x8B01 ++
      failIf (!taskFits r.payload (accept 0x0B01 r s)) 0x8B05 =
      failIf (decide (8192 ≤ s.repl.dp.tasks.length)) 0x8B01 ++ failIf (!taskFits r.payload s) 0x8B05 := by
    rw [notStandby_accept _ _ hrole, List.nil_append, taskFits, taskFits, accept_repl]
  have hrefuse {st : Nat} (h : failIf (decide (8192 ≤ s.repl.dp.tasks.length)) 0x8B01 ++ failIf (!taskFits r.payload s) 0x8B05 = [st]) :
      Runs (.dpTaskAdd r) s (fun t => Same t s ∧ Answered s t r 0x0B01 st []) :=
    runs_reply _ rfl ha (checked_refuses _ _ hsize hres hrange rfl (hst.trans h)) (core_accept _ _ _) (grows_accept _ _ _) (.refl _)
  refine ⟨fun hok hfull => hrefuse ?_, fun hbad hroom => hrefuse ?_, fun hok hroom => ?_⟩
  · rw [failIf_true _ (decide_eq_true hfull), failIf_false _ (by rw [hok]; rfl), List.append_nil]
  · rw [failIf_false _ (decide_eq_false (Nat.not_le.mpr hroom)), failIf_true _ (by rwa [Bool.not_eq_true', ← Bool.not_eq_true]),
      List.nil_append]
  · have hnone : failIf (decide (8192 ≤ s.repl.dp.tasks.length)) 0x8B01 ++ failIf (!taskFits r.payload s) 0x8B05 = [] := by
      rw [failIf_false _ (decide_eq_false (Nat.not_le.mpr hroom)), failIf_false _ (by rw [hok]; rfl), List.append_nil]
    exact runs_later _ rfl ha (checked_pass _ _ _ _ _ _ _ hsize hres hrange rfl (hst.trans hnone)) (core_hold_accept _ _ _ _ _)

/-! ### DP_TASK_READY and DP_TASK_CANCEL -/

/-- What refuses a DP_TASK_READY of the task found. -/
def readyRefusal (o : Option Task) : List Nat :=
  match o with
  | none => [0x8B02]
  | some t => failIf (t.state != 1) 0x8B03

theorem readyRefusal_accept (id : Nat) (hrole : s.pair.role ≠ 2) :
    notStandby (accept 0x0B02 r s) ++ readyRefusal (taskOf (accept 0x0B02 r s) id) = readyRefusal (taskOf s id) := by
  rw [notStandby_accept _ _ hrole, taskOf_accept, List.nil_append]

theorem taskReady_held (hrole : s.pair.role ≠ 2) (ha : Admitted 0x0B02 true r s) (hlen : r.payload.length = 4) :
    (taskOf s (u32 r.payload 0) = none → Runs (.dpTaskReady r) s (fun t => Same t s ∧ Answered s t r 0x0B02 0x8B02 [])) ∧
    (∀ x, taskOf s (u32 r.payload 0) = some x →
      (x.state ≠ 1 → Runs (.dpTaskReady r) s (fun t => Same t s ∧ Answered s t r 0x0B02 0x8B03 [])) ∧
      (x.state = 1 → Runs (.dpTaskReady r) s (fun t => Same t (hold r.master (.command 0x0B02 r) s)))) := by
  have hsize : (r.payload.length == 4) = true := by simpa using hlen
  have hst := readyRefusal_accept (r := r) (u32 r.payload 0) hrole
  refine ⟨fun hn => ?_, fun x hx => ⟨fun h1 => ?_, fun h1 => ?_⟩⟩
  · rw [hn] at hst
    exact runs_checked_fail rfl ha hsize rfl rfl rfl hst
  · rw [hx] at hst
    exact runs_checked_fail rfl ha hsize rfl rfl rfl (hst.trans (failIf_true _ (by simpa using h1)))
  · rw [hx] at hst
    exact runs_checked_hold rfl ha hsize rfl rfl rfl (hst.trans (failIf_false _ (by simpa using h1))) (fun _ => rfl)

theorem taskCancel_held (hrole : s.pair.role ≠ 2) (ha : Admitted 0x0B03 true r s) (hlen : r.payload.length = 4) :
    (taskOf s (u32 r.payload 0) = none → Runs (.dpTaskCancel r) s (fun t => Same t s ∧ Answered s t r 0x0B03 0x8B02 [])) ∧
    (∀ x, taskOf s (u32 r.payload 0) = some x →
      Runs (.dpTaskCancel r) s (fun t => Same t (hold r.master (.cancel r (u32 r.payload 0) (cancelPayload x)) s))) := by
  have hsize : (r.payload.length == 4) = true := by simpa using hlen
  have hst : notStandby (accept 0x0B03 r s) ++ failIf (taskOf (accept 0x0B03 r s) (u32 r.payload 0)).isNone 0x8B02 =
      failIf (taskOf s (u32 r.payload 0)).isNone 0x8B02 := by
    rw [notStandby_accept _ _ hrole, taskOf_accept, List.nil_append]
  refine ⟨fun hn => ?_, fun x hx => ?_⟩
  · exact runs_checked_fail rfl ha hsize rfl rfl rfl (hst.trans (failIf_true _ (by rw [hn]; rfl)))
  · refine runs_later _ rfl ha ((checked_pass _ _ _ _ _ _ _ hsize rfl rfl rfl (hst.trans (failIf_false _ (by rw [hx]; rfl)))).trans ?_)
      (core_hold_accept 0x0B03 r _ (.cancel r (u32 r.payload 0) (cancelPayload x)) _)
    rw [taskOf_accept, hx]

/-! ### DP_CONFIG_SET and DP_BERTH_SET -/

theorem configSet_held (hrole : s.pair.role ≠ 2) (ha : Admitted 0x0B05 true r s) (hlen : r.payload.length = 4)
    (hz : zeroAt r.payload 3 1 = true) (h0 : 1 ≤ u8 r.payload 0) (h1 : u8 r.payload 1 ≤ 50) (h2 : within (u8 r.payload 2) 1 16 = true) :
    Runs (.dpConfigSet r) s (fun t => Same t (hold r.master (.command 0x0B05 r) s)) := by
  have hsize : (r.payload.length == 4) = true := by simpa using hlen
  have hrange : (decide (1 ≤ u8 r.payload 0) && decide (u8 r.payload 1 ≤ 50) && within (u8 r.payload 2) 1 16) = true := by
    rw [decide_eq_true h0, decide_eq_true h1, h2]
    rfl
  exact runs_checked_hold rfl ha hsize hz hrange rfl (notStandby_accept _ _ hrole) (fun _ => rfl)

theorem berthSet_held (hrole : s.pair.role ≠ 2) (ha : Admitted 0x0B06 true r s) (hlen : r.payload.length = 4 + 8 * u8 r.payload 0)
    (h0 : within (u8 r.payload 0) 1 64 = true) (hz : zeroAt r.payload 1 3 = true)
    (hes : ∀ i, i < u8 r.payload 0 → u8 r.payload (5 + 8 * i) < 4 ∧ zeroAt r.payload (10 + 8 * i) 2 = true)
    (hrep : noRepeat ((dpBerthEntries r.payload).map (fun e => e.1)) = true) :
    Runs (.dpBerthSet r) s (fun t => Same t (hold r.master (.command 0x0B06 r) s)) := by
  have hsize : (r.payload.length == 4 + 8 * u8 r.payload 0) = true := by simpa using hlen
  have hflags : (dpBerthEntries r.payload).all (fun e => bitsBelow e.2.1 2) = true := by
    rw [List.all_eq_true]
    intro e he
    obtain ⟨i, hi, rfl⟩ := List.mem_map.mp he
    exact decide_eq_true (hes i (List.mem_range.mp hi)).1
  have htail : (List.range (u8 r.payload 0)).all (fun i => zeroAt r.payload (10 + 8 * i) 2) = true :=
    List.all_eq_true.mpr fun i hi => (hes i (List.mem_range.mp hi)).2
  have hres : (zeroAt r.payload 1 3 && (dpBerthEntries r.payload).all (fun e => bitsBelow e.2.1 2) &&
      (List.range (u8 r.payload 0)).all (fun i => zeroAt r.payload (10 + 8 * i) 2)) = true := by
    rw [hz, hflags, htail]
    rfl
  exact runs_checked_hold rfl ha hsize hres h0 hrep (notStandby_accept _ _ hrole) (fun _ => rfl)

/-! ### DP_PACK_SET and DP_PACK_BIND -/

/-- A single entry that changes an index the ledger does not hold is refused. -/
theorem packApplyAll_missing {a : PackAsk} {l : List Pack} (h0 : a.action ≠ 0) (h : ∀ k ∈ l, k.index ≠ a.index) :
    (packApplyAll [a] l []).1 = 0x8B07 := by
  have hnone : l.find? (fun k => k.index == a.index) = none := List.find?_eq_none.mpr fun k hk => by simpa using h k hk
  simp only [packApplyAll, packApply, hnone, if_neg h0]

theorem packAsks_one {p : List Byte} (h : u8 p 0 = 1) : packAsks p = [⟨u16 p 4, u8 p 6, u64 p 8, u16 p 16, u32 p 20, u32 p 24⟩] := by
  rw [packAsks, h]
  rfl

theorem packSet_held (hrole : s.pair.role ≠ 2) (ha : Admitted 0x0B09 true r s) (hlen : r.payload.length = 4 + 24 * u8 r.payload 0)
    (h0 : within (u8 r.payload 0) 1 32 = true) (hz : zeroAt r.payload 1 3 = true)
    (hes : ∀ i, i < u8 r.payload 0 → zeroAt r.payload (7 + 24 * i) 1 = true ∧ zeroAt r.payload (18 + 24 * i) 2 = true)
    (has : ∀ a ∈ packAsks r.payload, (a.index ≤ 1023 ∨ a.index = 0xFFFF) ∧ a.action ≤ 4 ∧
      (a.action = 0 → within a.ident 1 (2 ^ 64 - 2) = true ∧ within a.rated 1 65534 = true ∧ within a.life 1 1000000 = true))
    (hrep : noRepeat (((packAsks r.payload).filter (fun a => a.index != 0xFFFF)).map (fun a => a.index)) = true) :
    let st := (packApplyAll (packAsks r.payload) s.repl.dp.packs []).1
    (u8 r.payload 0 = 1 → u8 r.payload 6 ≠ 0 → (∀ k ∈ s.repl.dp.packs, k.index ≠ u16 r.payload 4) → st = 0x8B07) ∧
    (st ≠ 0 → Runs (.dpPackSet r) s (fun t => Same t s ∧ Answered s t r 0x0B09 st [])) ∧
    (st = 0 → Runs (.dpPackSet r) s (fun t => Same t (hold r.master (.command 0x0B09 r) s))) := by
  intro st
  have hsize : (r.payload.length == 4 + 24 * u8 r.payload 0) = true := by simpa using hlen
  have hres : (zeroAt r.payload 1 3 && (List.range (u8 r.payload 0)).all (fun i => zeroAt r.payload (7 + 24 * i) 1 &&
      zeroAt r.payload (18 + 24 * i) 2)) = true := by
    rw [hz, Bool.true_and, List.all_eq_true]
    intro i hi
    obtain ⟨h7, h18⟩ := hes i (List.mem_range.mp hi)
    rw [h7, h18]
    rfl
  have hrange : (within (u8 r.payload 0) 1 32 && (packAsks r.payload).all (fun a => (decide (a.index ≤ 1023) || a.index == 0xFFFF) &&
      decide (a.action ≤ 4) && (a.action != 0 ||
        (within a.ident 1 (2 ^ 64 - 2) && within a.rated 1 65534 && within a.life 1 1000000)))) = true := by
    rw [h0, Bool.true_and, List.all_eq_true]
    intro a hmem
    obtain ⟨hindex, haction, hnew⟩ := has a hmem
    by_cases hact : a.action = 0
    · obtain ⟨hi, hr, hl⟩ := hnew hact
      rw [hi, hr, hl]
      simp [hindex, haction]
    · simp [hindex, haction, hact]
  have hst : notStandby (accept 0x0B09 r s) ++ failIf ((packApplyAll (packAsks r.payload) (accept 0x0B09 r s).repl.dp.packs []).1 != 0)
      (packApplyAll (packAsks r.payload) (accept 0x0B09 r s).repl.dp.packs []).1 = failIf (st != 0) st := by
    rw [notStandby_accept _ _ hrole, accept_repl, List.nil_append]
  refine ⟨fun hone hact hmiss => ?_, fun hbad => ?_, fun hgood => ?_⟩
  · simp only [st, packAsks_one hone]
    exact packApplyAll_missing hact hmiss
  · exact runs_checked_fail rfl ha hsize hres hrange hrep (hst.trans (failIf_true _ (by simpa using hbad)))
  · exact runs_checked_hold rfl ha hsize hres hrange hrep (hst.trans (failIf_false _ (by simpa using hgood))) (fun _ => rfl)

/-- What refuses the binding of the pack found to berth `b`. -/
def bindRefusal (b : Nat) (o : Option Pack) : List Nat :=
  match o with
  | none => [0x8B07]
  | some k => failIf (k.berth.isSome && k.berth != some b) 0x8B08

theorem bindRefusal_bound {b : Nat} {k : Pack} (h : k.berth ≠ none) (hb : k.berth ≠ some b) : bindRefusal b (some k) = [0x8B08] :=
  failIf_true _ (by simp [Option.isSome_iff_ne_none.mpr h, hb])

theorem bindRefusal_free {b : Nat} {k : Pack} (h : k.berth = none ∨ k.berth = some b) : bindRefusal b (some k) = [] :=
  failIf_false _ (by obtain h | h := h <;> simp [h])

theorem packUnbind_held (hrole : s.pair.role ≠ 2) (ha : Admitted 0x0B0A true r s) (hlen : r.payload.length = 4)
    (hz : zeroAt r.payload 1 1 = true) (hi : u16 r.payload 2 = 0xFFFF) :
    Runs (.dpPackBind r) s (fun t => Same t (hold r.master (.command 0x0B0A r) s)) := by
  have hsize : (r.payload.length == 4) = true := by simpa using hlen
  have hrange : (decide (u16 r.payload 2 ≤ 1023) || u16 r.payload 2 == 0xFFFF) = true := by simp [hi]
  refine runs_checked_hold rfl ha hsize hz hrange rfl ?_ (fun _ => rfl)
  rw [notStandby_accept _ _ hrole, if_pos hi, List.nil_append]

theorem packBind_held (hrole : s.pair.role ≠ 2) (ha : Admitted 0x0B0A true r s) (hlen : r.payload.length = 4)
    (hz : zeroAt r.payload 1 1 = true) (hi : u16 r.payload 2 ≤ 1023) :
    (packOf s (u16 r.payload 2) = none → Runs (.dpPackBind r) s (fun t => Same t s ∧ Answered s t r 0x0B0A 0x8B07 [])) ∧
    (∀ k, packOf s (u16 r.payload 2) = some k →
      (k.berth ≠ none → k.berth ≠ some (u8 r.payload 0) →
        Runs (.dpPackBind r) s (fun t => Same t s ∧ Answered s t r 0x0B0A 0x8B08 [])) ∧
      (k.berth = none ∨ k.berth = some (u8 r.payload 0) →
        Runs (.dpPackBind r) s (fun t => Same t (hold r.master (.command 0x0B0A r) s)))) := by
  have hsize : (r.payload.length == 4) = true := by simpa using hlen
  have hrange : (decide (u16 r.payload 2 ≤ 1023) || u16 r.payload 2 == 0xFFFF) = true := by simp [hi]
  have hst : notStandby (accept 0x0B0A r s) ++ (if u16 r.payload 2 = 0xFFFF then [] else
      bindRefusal (u8 r.payload 0) (packOf (accept 0x0B0A r s) (u16 r.payload 2))) =
      bindRefusal (u8 r.payload 0) (packOf s (u16 r.payload 2)) := by
    rw [notStandby_accept _ _ hrole, if_neg (by omega), packOf_accept, List.nil_append]
  refine ⟨fun hn => ?_, fun k hk => ⟨fun h hb => ?_, fun h => ?_⟩⟩
  · rw [hn] at hst
    exact runs_checked_fail rfl ha hsize hz hrange rfl hst
  · rw [hk] at hst
    exact runs_checked_fail rfl ha hsize hz hrange rfl (hst.trans (bindRefusal_bound h hb))
  · rw [hk] at hst
    exact runs_checked_hold rfl ha hsize hz hrange rfl (hst.trans (bindRefusal_free h)) (fun _ => rfl)

end

/-! ### The claim -/

theorem dispatcherHeld_holds : Claims.DispatcherHeld := by
  intro r s hrole p id
  refine ⟨fun ha hlen h1 h0 h4 h8 h12 h24 h26 h6 => ?_, taskReady_held hrole, taskCancel_held hrole, configSet_held hrole,
    berthSet_held hrole, packSet_held hrole, packUnbind_held hrole, packBind_held hrole⟩
  have h := taskAdd_held hrole ha hlen h1 h0 h4 h8 h12 h24 h26 h6
  rwa [taskFits_iff] at h

end Sys2Proof.Machine
end

section
/-!
PROOFS. The queries of group 0x0B (R473): what they reply, and that they change nothing.
-/
namespace Sys2Proof.Machine
open Sys2Proof
set_option Elab.async false

/-! ### What the queries reply -/

/-- The reply payload of DP_TASK_GET (R473); an assignment that waits for its commit is not shown. -/
def taskBytes (id : Nat) (x : Task) : List Byte :=
  let pend := x.state = 2 ∧ x.berth.isSome = true
  leBytes 4 id ++ leBytes 1 x.state ++ leBytes 1 x.bypasses
    ++ leBytes 2 (if pend then 0xFFFF else x.berth.getD 0xFFFF) ++ leBytes 8 x.ready.toNat ++ leBytes 1 x.readySource ++ zeros 3
    ++ leBytes 4 (if pend then 0 else x.transit) ++ leBytes 8 x.commitSt ++ zeros 8 ++ leBytes 1 x.level ++ leBytes 1 x.flags
    ++ leBytes 2 x.caps ++ leBytes 1 x.area ++ leBytes 1 x.line.length ++ leBytes 2 x.half ++ leBytes 4 x.offset
    ++ leBytes 4 x.duration ++ leBytes 8 x.deadline ++ leBytes 2 x.energy ++ leBytes 2 x.payload.length ++ leBytes 4 x.tag
    ++ pointBytes x.line ++ x.payload

/-- The available energy that DP_BERTH_GET shows; a free value where no pack's energy is known (log entry 4). -/
def energyShown (b : Nat) (s : State) : Int :=
  match available s b with
  | none => toSigned 4 ((fresh s).1 % 2 ^ 32)
  | some a => a / 100

/-- The reply payload of DP_BERTH_GET (R473). -/
def berthBytes (b : Nat) (s : State) : List Byte :=
  let c := dpCountOf s b
  leBytes 1 b
    ++ leBytes 1 (bitsOf [isIdle s b (dpBerthOf s b), (dpBerthOf s b).available, (berthOf s b).resting, (spotOf s b).inForce,
        (List.range 64).any (fun l => (levelOf s l).claimBerth == some b)])
    ++ leBytes 2 c.depth ++ leBytes 4 (((busyTask s b).map taskId).getD 0)
    ++ leBytes 2 (((boundPack s b).map (fun k => k.index)).getD 0xFFFF) ++ [0, 0] ++ leInt 4 (energyShown b s)
    ++ c.load.flatMap (leBytes 2) ++ [0, 0] ++ c.hist.flatMap (leBytes 4) ++ leBytes 4 c.completed ++ leBytes 4 c.failed

/-- The reply payload of DP_LEVEL_GET (R473). -/
def levelBytes (s : State) : List Byte :=
  (List.range 64).flatMap (fun l => leBytes 2 (nth s.dpown.depths l 0) ++ leBytes 1 (levelOf s l).bypass
    ++ leBytes 1 (bitsOf [(levelOf s l).blocked, (levelOf s l).claim, (levelOf s l).refusedZone])
    ++ leBytes 4 (((headOf s l).map (fun t => min (sinceNs s t.ready / 1000000) 0xFFFFFFFF)).getD 0)
    ++ leBytes 4 (((headOf s l).map taskId).getD 0) ++ leBytes 2 ((levelOf s l).claimBerth.getD 0xFFFF) ++ [0, 0])

/-- The reply payload of DP_PACK_GET (R473). -/
def packsBytes (p : List Byte) (s : State) : List Byte := (List.range (u16 p 2)).flatMap (fun j => packBytes (u16 p 0 + j) s)

section
variable (op : Nat) (r : Req) (s : State)

theorem berthBytes_accept (b : Nat) : berthBytes b (accept op r s) = berthBytes b s := by
  unfold accept
  split <;> rfl

theorem levelBytes_accept : levelBytes (accept op r s) = levelBytes s := by
  unfold accept
  split <;> rfl

theorem packsBytes_accept (p : List Byte) : packsBytes p (accept op r s) = packsBytes p s := by
  unfold accept
  split <;> rfl

theorem dpStatusBytes_accept : dpStatusBytes (accept op r s) = dpStatusBytes s := by
  unfold accept
  split <;> rfl

theorem core_fresh_accept : core (fresh (accept op r s)).2 = core { s with free := s.free + 1 } := by
  unfold accept
  split <;> rfl

end

section
variable {r : Req} {s : State}

theorem taskGet_answers (ha : Admitted 0x0B04 false r s) (hlen : r.payload.length = 4) :
    (taskOf s (u32 r.payload 0) = none → Runs (.dpTaskGet r) s (fun t => Same t s ∧ Answered s t r 0x0B04 0x8B02 [])) ∧
    (∀ x, taskOf s (u32 r.payload 0) = some x →
      Runs (.dpTaskGet r) s (fun t => Same t s ∧ Answered s t r 0x0B04 0 (taskBytes (u32 r.payload 0) x))) := by
  have hsize : (r.payload.length == 4) = true := by simpa using hlen
  have hst : failIf (taskOf (accept 0x0B04 r s) (u32 r.payload 0)).isNone 0x8B02 = failIf (taskOf s (u32 r.payload 0)).isNone 0x8B02 := by
    rw [taskOf_accept]
  refine ⟨fun hn => ?_, fun x hx => ?_⟩
  · exact runs_checked_fail rfl ha hsize rfl rfl rfl (hst.trans (failIf_true _ (by rw [hn]; rfl)))
  · refine runs_checked_reply (u := accept 0x0B04 r s) rfl ha hsize rfl rfl rfl (hst.trans (failIf_false _ (by rw [hx]; rfl))) ?_
      (core_accept _ _ _) (.refl _) (.refl _)
    rw [taskOf_accept, hx]
    rfl

theorem berthGet_answers (ha : Admitted 0x0B07 false r s) (hlen : r.payload.length = 4) (hz : zeroAt r.payload 1 3 = true) :
    Runs (.dpBerthGet r) s (fun t => Same t { s with free := s.free + 1 } ∧ Answered s t r 0x0B07 0 (berthBytes (u8 r.payload 0) s)) :=
  runs_checked_reply rfl ha (by simpa using hlen) hz rfl rfl rfl (congrArg (fun p => Ans.reply 0 p _) (berthBytes_accept 0x0B07 r s _))
    (core_fresh_accept _ _ _) (.of_eq rfl) (.of_eq rfl)

theorem levelGet_answers (ha : Admitted 0x0B08 false r s) (hp : r.payload = []) :
    Runs (.dpLevelGet r) s (fun t => Same t s ∧ Answered s t r 0x0B08 0 (levelBytes s)) :=
  runs_checked_reply rfl ha (by simp [hp]) rfl rfl rfl rfl (congrArg (fun p => Ans.reply 0 p _) (levelBytes_accept 0x0B08 r s))
    (core_accept _ _ _) (.refl _) (.refl _)

theorem packGet_answers (ha : Admitted 0x0B0B false r s) (hlen : r.payload.length = 4) (hn : within (u16 r.payload 2) 1 64 = true)
    (hend : u16 r.payload 0 + u16 r.payload 2 ≤ 1024) :
    Runs (.dpPackGet r) s (fun t => Same t s ∧ Answered s t r 0x0B0B 0 (packsBytes r.payload s)) := by
  have h1 : 1 ≤ u16 r.payload 2 := by
    simp only [within, Bool.and_eq_true, decide_eq_true_eq] at hn
    exact hn.1
  have hrange : (decide (u16 r.payload 0 ≤ 1023) && within (u16 r.payload 2) 1 64 &&
      decide (u16 r.payload 0 + u16 r.payload 2 ≤ 1024)) = true := by
    rw [hn, decide_eq_true hend, decide_eq_true (by omega)]
    rfl
  exact runs_checked_reply rfl ha (by simpa using hlen) rfl hrange rfl rfl
    (congrArg (fun p => Ans.reply 0 p _) (packsBytes_accept 0x0B0B r s _)) (core_accept _ _ _) (.refl _) (.refl _)

theorem dpStatus_answers (ha : Admitted 0x0B0C false r s) (hp : r.payload = []) :
    Runs (.dpStatus r) s (fun t => Same t s ∧ Answered s t r 0x0B0C 0 (dpStatusBytes s)) :=
  runs_checked_reply rfl ha (by simp [hp]) rfl rfl rfl rfl (congrArg (fun p => Ans.reply 0 p _) (dpStatusBytes_accept 0x0B0C r s))
    (core_accept _ _ _) (.refl _) (.refl _)

end

theorem dispatcherQueries_holds : Claims.DispatcherQueries := by
  intro r s p
  refine ⟨taskGet_answers, fun ha hlen hz => ?_, levelGet_answers, packGet_answers, dpStatus_answers⟩
  exact (berthGet_answers ha hlen hz).imp fun t ⟨hsame, hans⟩ =>
    ⟨hsame, energyShown (u8 p 0) s, fun a h => by rw [energyShown, h], hans⟩

end Sys2Proof.Machine
end

section
/-!
PROOFS. The commits of the dispatcher's settings and of the ledger (R450, R456, R467, R469, R471).
-/
namespace Sys2Proof.Machine
open Sys2Proof
set_option Elab.async false

/-! ### Levels of the dispatcher -/

section
variable {s t u : State} {l : Nat} {f : Level → Level}

theorem levelOf_congr (h : t.repl.dp.levels = s.repl.dp.levels) (k : Nat) : levelOf t k = levelOf s k := by
  rw [levelOf, levelOf, h]

theorem levelOf_modLevel_self (h : l < s.repl.dp.levels.length) : levelOf (modLevel l f s) l = f (levelOf s l) :=
  (nth_modNth_self _ _ _ _).trans (if_pos h)

theorem levelOf_modLevel_ne {k : Nat} (h : k ≠ l) : levelOf (modLevel l f s) k = levelOf s k := nth_modNth_ne _ _ _ _ _ h

theorem levelOf_modLevel (l : Nat) (f : Level → Level) (s : State) (k : Nat) :
    levelOf (modLevel l f s) k = levelOf s k ∨ levelOf (modLevel l f s) k = f (levelOf s k) := by
  by_cases hk : k = l
  · subst hk
    by_cases hlen : k < s.repl.dp.levels.length
    · exact .inr (levelOf_modLevel_self hlen)
    · have hd : levelOf (modLevel k f s) k = Level.zero := (nth_modNth_self _ _ _ _).trans (if_neg hlen)
      have hz : levelOf s k = Level.zero := by
        rw [levelOf, nth, List.getD_eq_getElem?_getD, List.getElem?_eq_none (Nat.not_lt.mp hlen), Option.getD_none]
      exact .inl (hd.trans hz.symm)
  · exact .inl (levelOf_modLevel_ne hk)

theorem headOf_congr (h : t.repl.dp.tasks = s.repl.dp.tasks) (k : Nat) : headOf t k = headOf s k := by
  rw [headOf, headOf, readyTasks, readyTasks, h]

/-! ### The blocking of levels (R456) -/

/-- `t` comes from `s` by the blocking of levels and the requests for their claims: no level is unblocked, the bypass counters are as
they were, and so is the rest of what the dispatcher holds. -/
structure Blocks (s t : State) : Prop where
  rest : { t.repl.dp with levels := [] } = { s.repl.dp with levels := [] }
  count : t.repl.dp.levels.length = s.repl.dp.levels.length
  bypass : ∀ k, (levelOf t k).bypass = (levelOf s k).bypass
  blocked : ∀ k, (levelOf s k).blocked = true → (levelOf t k).blocked = true
  grows : Grows s t

namespace Blocks

theorem refl (s : State) : Blocks s s := ⟨rfl, rfl, fun _ => rfl, fun _ h => h, .refl s⟩

theorem trans (h : Blocks s t) (k : Blocks t u) : Blocks s u :=
  ⟨k.rest.trans h.rest, k.count.trans h.count, fun i => (k.bypass i).trans (h.bypass i), fun i hi => k.blocked i (h.blocked i hi),
    h.grows.trans k.grows⟩

/-- What is no level is the same. -/
theorem field {α : Type} (g : Dispatch → α) (hg : ∀ d : Dispatch, g { d with levels := [] } = g d) (h : Blocks s t) :
    g t.repl.dp = g s.repl.dp := by
  rw [← hg t.repl.dp, h.rest, hg]

theorem headOf_eq (h : Blocks s t) (k : Nat) : headOf t k = headOf s k := headOf_congr (h.field Dispatch.tasks (fun _ => rfl)) k

theorem of_dp (h : Blocks s t) (hd : u.repl.dp = t.repl.dp) (hg : Grows t u) : Blocks s u :=
  h.trans ⟨by rw [hd], by rw [hd], fun k => by rw [levelOf_congr (congrArg Dispatch.levels hd)],
    fun k hk => by rwa [levelOf_congr (congrArg Dispatch.levels hd)], hg⟩

theorem emit {code src : Nat} {p : List Byte} (h : Blocks s t) : Blocks s (emit code src p t) :=
  h.of_dp (congrArg Repl.dp (emit_repl _ _ _ _)) (grows_emit _ _ _ _)

theorem modLevel (h : Blocks s t) (hp : ∀ v, (f v).bypass = v.bypass) (hb : ∀ v, v.blocked = true → (f v).blocked = true) :
    Blocks s (modLevel l f t) := by
  refine h.trans ⟨rfl, List.length_modify _ _ _, fun k => ?_, fun k hk => ?_, .of_eq rfl⟩
  · obtain e | e := levelOf_modLevel l f t k <;> rw [e]
    exact hp _
  · obtain e | e := levelOf_modLevel l f t k <;> rw [e]
    · exact hk
    · exact hb _ hk

theorem foldl {α : Type} {g : State → α → State} {as : List α} (hg : ∀ v a, Blocks s v → Blocks s (g v a)) (h : Blocks s t) :
    Blocks s (as.foldl g t) := List.foldlRecOn as g h (fun v hv a _ => hg v a hv)

theorem askClaim (h : Blocks s t) : Blocks s (askClaim l t) := by
  unfold Machine.askClaim
  split
  · exact h
  · extract_lets b line ask s0 s1
    have h1 : Blocks s s1 := Blocks.modLevel (h.of_dp rfl (.of_eq rfl)) (fun _ => rfl) (fun _ hv => hv)
    split
    · exact h
    · split
      · exact h1.emit
      · exact h.modLevel (fun _ => rfl) (fun _ hv => hv)

end Blocks

/-- A level that is blocked already, has no head or is below the limit stays as it is. -/
theorem blockStep_stays (h : (levelOf s l).blocked = true ∨ headOf s l = none ∨ (levelOf s l).bypass < s.repl.dp.bypassLimit) :
    blockStep l s = s := by
  unfold blockStep
  split
  · rfl
  · rename_i x hx
    refine if_neg fun hc => ?_
    obtain hb | hn | hlt := h
    · rw [hc.1] at hb
      cases hb
    · rw [hx] at hn
      cases hn
    · exact absurd hc.2 (Nat.not_le.mpr hlt)

/-- A level whose head has been passed over as often as the limit says becomes blocked. -/
theorem blockStep_blocks {x : Task} (hx : headOf s l = some x) (hb : (levelOf s l).blocked = false)
    (hp : s.repl.dp.bypassLimit ≤ (levelOf s l).bypass) :
    let s1 := askClaim l (modLevel l (fun v => { v with blocked := true }) s)
    blockStep l s = dpLevel l 1 (if (levelOf s1 l).claim then 1 else if (levelOf s1 l).refusedZone then 2 else 0) (taskId x) s1 := by
  unfold blockStep
  rw [hx]
  exact if_pos ⟨hb, hp⟩

theorem blocks_blockStep (l : Nat) (s : State) : Blocks s (blockStep l s) := by
  by_cases h : (levelOf s l).blocked = true ∨ headOf s l = none ∨ (levelOf s l).bypass < s.repl.dp.bypassLimit
  · rw [blockStep_stays h]
    exact .refl s
  · simp only [not_or, Bool.not_eq_true, Nat.not_lt] at h
    obtain ⟨hb, hx, hp⟩ := h
    obtain ⟨x, hx⟩ := Option.ne_none_iff_exists'.mp hx
    have hset : Blocks s (modLevel l (fun v => { v with blocked := true }) s) := (Blocks.refl s).modLevel (fun _ => rfl) (fun _ _ => rfl)
    rw [blockStep_blocks hx hb hp]
    exact hset.askClaim.emit

theorem blocked_blockStep (hl : l < s.repl.dp.levels.length) (hx : headOf s l ≠ none)
    (hp : s.repl.dp.bypassLimit ≤ (levelOf s l).bypass) : (levelOf (blockStep l s) l).blocked = true := by
  cases hb : (levelOf s l).blocked with
  | true => exact (blocks_blockStep l s).blocked l hb
  | false =>
    obtain ⟨x, hx⟩ := Option.ne_none_iff_exists'.mp hx
    have hset : (levelOf (modLevel l (fun v => { v with blocked := true }) s) l).blocked = true :=
      congrArg Level.blocked (levelOf_modLevel_self hl)
    rw [blockStep_blocks hx hb hp]
    exact ((Blocks.refl _).askClaim.emit).blocked l hset

/-! ### The commit of DP_CONFIG_SET (R456, R471) -/

/-- The values of a DP_CONFIG_SET in force. -/
def configured (p : List Byte) (s : State) : State :=
  modDp (fun d => { d with bypassLimit := u8 p 0, reserve := u8 p 1, perPass := u8 p 2 }) s

/-- Every level looked at under the limit in force. -/
def blockAll (s : State) : State := (List.range 64).foldl (fun t l => blockStep l t) s

theorem blocks_blockAll (s : State) : Blocks s (blockAll s) := (Blocks.refl s).foldl (fun v l hv => hv.trans (blocks_blockStep l v))

theorem blockAll_stays (h : ∀ l, l < 64 →
    (levelOf s l).blocked = true ∨ headOf s l = none ∨ (levelOf s l).bypass < s.repl.dp.bypassLimit) : blockAll s = s :=
  List.foldlRecOn (motive := fun v => v = s) _ _ rfl (fun _ hv l hl => by
    rw [hv]
    exact blockStep_stays (h l (List.mem_range.mp hl)))

/-- When its turn comes the level is as it was, and once blocked it stays so. -/
theorem blocked_blockAll (h64 : l < 64) (hl : l < s.repl.dp.levels.length) (hx : headOf s l ≠ none)
    (hp : s.repl.dp.bypassLimit ≤ (levelOf s l).bypass) : (levelOf (blockAll s) l).blocked = true := by
  obtain ⟨l₁, l₂, hsplit⟩ := List.append_of_mem (List.mem_range.mpr h64)
  rw [blockAll, hsplit, List.foldl_append, List.foldl_cons]
  have h1 : Blocks s (l₁.foldl (fun t k => blockStep k t) s) := (Blocks.refl s).foldl (fun v k hv => hv.trans (blocks_blockStep k v))
  generalize l₁.foldl (fun t k => blockStep k t) s = v at h1
  have hnow : (levelOf (blockStep l v) l).blocked = true := by
    refine blocked_blockStep (by rwa [h1.count]) (by rwa [h1.headOf_eq]) ?_
    rw [h1.bypass, h1.field Dispatch.bypassLimit (fun _ => rfl)]
    exact hp
  exact (Blocks.foldl (fun w k hw => hw.trans (blocks_blockStep k w)) (.refl (blockStep l v))).blocked l hnow

theorem commitDpConfig_eq (r : Req) (s : State) : commitDpConfig r s =
    reply r 0x0B05 (changed (s.repl.dp.bypassLimit == u8 r.payload 0 && s.repl.dp.reserve == u8 r.payload 1 &&
      s.repl.dp.perPass == u8 r.payload 2)) r.payload (blockAll (configured r.payload s)) := by
  simp only [commitDpConfig, blockAll, configured]

theorem commitDpConfig_dp (r : Req) (s : State) : (commitDpConfig r s).repl.dp = (blockAll (configured r.payload s)).repl.dp := by
  rw [commitDpConfig_eq, reply_repl]

theorem commitDpConfig_field {α : Type} (g : Dispatch → α) (hg : ∀ d : Dispatch, g { d with levels := [] } = g d) (r : Req)
    (s : State) : g (commitDpConfig r s).repl.dp = g (configured r.payload s).repl.dp :=
  (congrArg g (commitDpConfig_dp r s)).trans ((blocks_blockAll _).field g hg)

/-- The status of a setting whose values are in force already (R88). -/
theorem changed_eq {same : Bool} {P : Prop} [Decidable P] (h : same = true ↔ P) : changed same = if P then 0x0102 else 0 := by
  by_cases hp : P
  · rw [if_pos hp, h.mpr hp]
    rfl
  · rw [if_neg hp, Bool.eq_false_iff.mpr (mt h.mp hp)]
    rfl

theorem answered_dpConfig {r : Req} (hr : r.sess = none) (s : State) : Answered s (commitDpConfig r s) r 0x0B05
    (if s.repl.dp.bypassLimit = u8 r.payload 0 ∧ s.repl.dp.reserve = u8 r.payload 1 ∧ s.repl.dp.perPass = u8 r.payload 2 then 0x0102
      else 0) r.payload := by
  have hset : Grows s (configured r.payload s) := .of_eq rfl
  have hg := hset.trans (blocks_blockAll (configured r.payload s)).grows
  have hsame : (s.repl.dp.bypassLimit == u8 r.payload 0 && s.repl.dp.reserve == u8 r.payload 1 && s.repl.dp.perPass == u8 r.payload 2) =
      true ↔ s.repl.dp.bypassLimit = u8 r.payload 0 ∧ s.repl.dp.reserve = u8 r.payload 1 ∧ s.repl.dp.perPass = u8 r.payload 2 := by
    simp only [Bool.and_eq_true, beq_iff_eq, and_assoc]
  rw [commitDpConfig_eq, changed_eq hsame]
  exact answered_open hr hg _ _ _

end

/-! ### The commit of DP_BERTH_SET (R450) -/

theorem dpBerthOf_modDpBerth (b k : Nat) (f : DpBerth → DpBerth) (s : State) :
    dpBerthOf (modDpBerth b f s) k = if k = b then f (dpBerthOf s b) else dpBerthOf s k := by
  have h : dpBerthOf (modDpBerth b f s) k = (look (upsert s.repl.dp.berths b (f (dpBerthOf s b))) k).getD DpBerth.zero := rfl
  rw [h, look_upsert]
  split <;> rfl

/-- The settings of an entry of DP_BERTH_SET in a berth's. -/
def berthWith (e : Nat × Nat × Nat × Nat) (d : DpBerth) : DpBerth :=
  { d with available := bit e.2.1 0, autoBind := bit e.2.1 1, caps := e.2.2.1, areas := e.2.2.2 }

/-- One entry alone is set. -/
theorem commitDpBerth_one {r : Req} (h : u8 r.payload 0 = 1) (s : State) : ∃ st, commitDpBerth r s = reply r 0x0B06 st r.payload
    (modDpBerth (u8 r.payload 4) (berthWith (u8 r.payload 4, u8 r.payload 5, u16 r.payload 6, u16 r.payload 8)) s) := by
  have he : dpBerthEntries r.payload = [(u8 r.payload 4, u8 r.payload 5, u16 r.payload 6, u16 r.payload 8)] := by
    rw [dpBerthEntries, h]
    rfl
  unfold commitDpBerth
  rw [he]
  exact ⟨_, rfl⟩

theorem dpBerthOf_congr {s t : State} (h : t.repl = s.repl) (b : Nat) : dpBerthOf t b = dpBerthOf s b := by rw [dpBerthOf, dpBerthOf, h]

theorem dpBerth_commits {r : Req} (hr : r.sess = none) (h : u8 r.payload 0 = 1) (s : State) :
    dpBerthOf (commitDpBerth r s) (u8 r.payload 4) = { dpBerthOf s (u8 r.payload 4) with
      available := bit (u8 r.payload 5) 0, autoBind := bit (u8 r.payload 5) 1, caps := u16 r.payload 6, areas := u16 r.payload 8 } ∧
    (∀ k, k ≠ u8 r.payload 4 → dpBerthOf (commitDpBerth r s) k = dpBerthOf s k) ∧
    ∃ st, Answered s (commitDpBerth r s) r 0x0B06 st r.payload := by
  obtain ⟨st, hc⟩ := commitDpBerth_one h s
  have hg : Grows s (modDpBerth (u8 r.payload 4) (berthWith (u8 r.payload 4, u8 r.payload 5, u16 r.payload 6, u16 r.payload 8)) s) :=
    .of_eq rfl
  rw [hc]
  refine ⟨?_, fun k hk => ?_, st, answered_open hr hg _ _ _⟩
  · rw [dpBerthOf_congr (reply_repl _ _ _ _ _), dpBerthOf_modDpBerth, if_pos rfl]
    rfl
  · rw [dpBerthOf_congr (reply_repl _ _ _ _ _), dpBerthOf_modDpBerth, if_neg hk]

/-! ### The commit of DP_PACK_SET (R469, R472) -/

/-- DP_PACK of an entry that has reached its life. -/
def ledgerReport (old : List Pack) (t : State) (k : Pack) : State :=
  if k.expired = true ∧ (old.any (fun o => o.index == k.index && o.ident == k.ident && o.expired)) = false then
    dpPack k.index 1 (k.berth.getD 0xFF) k.cycles k.ident t
  else t

/-- A new ledger in force, with its reports. -/
def ledgerReported (l : List Pack) (s : State) : State :=
  l.foldl (ledgerReport s.repl.dp.packs) (modDp (fun d => { d with packs := l }) s)

/-- The changed entries on their way to boot flash. -/
def ledgerWritten (l : List Pack) (s : State) : State :=
  { ledgerReported l s with pwr := { (ledgerReported l s).pwr with flash := (ledgerReported l s).pwr.flash ++ [⟨3, none⟩] } }

section
variable {r : Req} {s : State}

theorem commitPackSet_refused (h : (packApplyAll (packAsks r.payload) s.repl.dp.packs []).1 ≠ 0) :
    commitPackSet r s = reply r 0x0B09 (packApplyAll (packAsks r.payload) s.repl.dp.packs []).1 [] s := if_pos h

theorem commitPackSet_changed (h : (packApplyAll (packAsks r.payload) s.repl.dp.packs []).1 = 0) :
    commitPackSet r s = reply r 0x0B09 0
      (leBytes 2 (packApplyAll (packAsks r.payload) s.repl.dp.packs []).2.1.length ++ [0, 0] ++
        (packApplyAll (packAsks r.payload) s.repl.dp.packs []).2.2.flatMap (leBytes 2))
      (ledgerWritten (packApplyAll (packAsks r.payload) s.repl.dp.packs []).2.1 s) := by
  unfold commitPackSet
  exact if_neg (not_not_intro h)

theorem hush_ledgerReport (old : List Pack) (t : State) (k : Pack) : hush (ledgerReport old t k) = hush t := by
  unfold ledgerReport
  split
  · exact hush_emit _ _ _ _
  · rfl

theorem grows_ledgerReport (old : List Pack) (t : State) (k : Pack) : Grows t (ledgerReport old t k) := by
  unfold ledgerReport
  split
  · exact grows_emit _ _ _ _
  · exact .refl t

theorem hush_ledgerReported (l : List Pack) (s : State) :
    hush (ledgerReported l s) = hush (modDp (fun d => { d with packs := l }) s) := hush_foldl _ (hush_ledgerReport _) _ _

theorem grows_ledgerWritten (l : List Pack) (s : State) : Grows s (ledgerWritten l s) :=
  .trans (.of_eq rfl) ((grows_foldl _ (grows_ledgerReport s.repl.dp.packs) l (modDp (fun d => { d with packs := l }) s)).trans (.of_eq rfl))

theorem packSet_commits (hr : r.sess = none) (s : State) :
    let a := packApplyAll (packAsks r.payload) s.repl.dp.packs []
    (a.1 ≠ 0 → Same (commitPackSet r s) s ∧ Answered s (commitPackSet r s) r 0x0B09 a.1 []) ∧
    (a.1 = 0 → (commitPackSet r s).repl.dp.packs = a.2.1 ∧ (commitPackSet r s).pwr.flash = s.pwr.flash ++ [⟨3, none⟩] ∧
      Answered s (commitPackSet r s) r 0x0B09 0 (leBytes 2 a.2.1.length ++ [0, 0] ++ a.2.2.flatMap (leBytes 2))) := by
  intro a
  refine ⟨fun h => ?_, fun h => ?_⟩
  · rw [commitPackSet_refused h]
    exact ⟨core_reply _ _ _ _ _, answered_open hr (.refl s) _ _ _⟩
  · have hq := hush_ledgerReported a.2.1 s
    rw [commitPackSet_changed h]
    refine ⟨?_, ?_, answered_open hr (grows_ledgerWritten _ _) _ _ _⟩
    · rw [reply_repl]
      exact congrArg (fun x => x.dp.packs) (hush_repl hq)
    · rw [reply_pwr]
      exact congrArg (fun x => x.flash ++ [⟨3, none⟩]) (hush_pwr hq)

end

/-! ### The commit of DP_PACK_BIND (R467) -/

section
variable {r : Req} {s a : State} {b i : Nat} {k k0 : Pack}

theorem packOf_index (h : packOf s i = some k) : k.index = i := by simpa using List.find?_some h

theorem boundPack_berth (h : boundPack s b = some k) : k.berth = some b := by simpa using List.find?_some h

theorem packOf_modPack_self {f : Pack → Pack} (hf : ∀ x, (f x).index = x.index) (h : packOf s i = some k) :
    packOf (modPack i f s) i = some (f k) := by
  have hp : (fun x : Pack => x.index == i) ∘ (fun x => if x.index = i then f x else x) = fun x => x.index == i := by
    funext x
    rw [Function.comp_apply]
    split
    · rw [hf]
    · rfl
  rw [packOf, modPack, modDp_repl, List.find?_map, hp]
  exact (congrArg (Option.map _) h).trans (congrArg some (if_pos (packOf_index h)))

theorem packOf_modPack_ne {f : Pack → Pack} {j : Nat} (hf : ∀ x, (f x).index = x.index) (hj : j ≠ i) :
    packOf (modPack i f s) j = packOf s j := by
  have hp : (fun x : Pack => x.index == j) ∘ (fun x => if x.index = i then f x else x) = fun x => x.index == j := by
    funext x
    rw [Function.comp_apply]
    split
    · rw [hf]
    · rfl
  rw [packOf, modPack, modDp_repl, List.find?_map, hp]
  cases h : packOf s j with
  | none => exact congrArg (Option.map _) h
  | some k => exact (congrArg (Option.map _) h).trans (congrArg some (if_neg (by rwa [packOf_index h])))

theorem packOf_dpPack (idx event c cycles ident j : Nat) : packOf (dpPack idx event c cycles ident s) j = packOf s j :=
  packOf_congr (congrArg (fun x : Repl => x.dp.packs) (emit_repl _ _ _ _)) j

theorem packOf_reply (op st : Nat) (p : List Byte) (j : Nat) : packOf (reply r op st p s) j = packOf s j :=
  packOf_congr (congrArg (fun x : Repl => x.dp.packs) (reply_repl _ _ _ _ _)) j

/-- The ledger with the entry of an index bound to a berth. -/
def packBound (b i : Nat) (s : State) : State := modPack i (fun k => { k with berth := some b }) s

/-- The ledger with the entry of an index bound to none. -/
def packFreed (i : Nat) (s : State) : State := modPack i (fun k => { k with berth := none }) s

theorem packOf_packBound (h : packOf s i = some k) : packOf (packBound b i s) i = some { k with berth := some b } :=
  packOf_modPack_self (fun _ => rfl) h

theorem packOf_packFreed (h : packOf s i = some k) : packOf (packFreed i s) i = some { k with berth := none } :=
  packOf_modPack_self (fun _ => rfl) h

theorem packOf_packFreed_ne {j : Nat} (hj : j ≠ i) : packOf (packFreed i s) j = packOf s j := packOf_modPack_ne (fun _ => rfl) hj

theorem unbindPack_eq (h : k.berth = some b) : unbindPack k s = dpPack k.index 3 b k.cycles k.ident (packFreed k.index s) := by
  unfold unbindPack
  rw [h]
  rfl

/-- Binding to a berth without a pack. -/
theorem bindPack_empty (h : boundPack s b = none) (hk : packOf s i = some k) (hb : k.berth = none) :
    bindPack b i s = dpPack i 2 b k.cycles k.ident (packBound b i s) := by
  unfold bindPack
  simp only [h, hk]
  exact if_neg (by rw [hb]; nofun)

/-- Binding to a berth in place of another pack, which is unbound first. -/
theorem bindPack_replaces (h : boundPack s b = some k0) (h0 : k0.index ≠ i) (hk : packOf s i = some k) (hb : k.berth = none) :
    bindPack b i s = dpPack i 2 b k.cycles k.ident (packBound b i (dpPack k0.index 3 b k0.cycles k0.ident (packFreed k0.index s))) := by
  have hk' : packOf (dpPack k0.index 3 b k0.cycles k0.ident (packFreed k0.index s)) i = some k := by
    rw [packOf_dpPack, packOf_packFreed_ne h0.symm, hk]
  unfold bindPack
  simp only [h, if_neg h0, unbindPack_eq (boundPack_berth h), hk']
  exact if_neg (by rw [hb]; nofun)

theorem commitPackBind_binds (hi : u16 r.payload 2 ≠ 0xFFFF) (hk : packOf s (u16 r.payload 2) = some k) (hb : k.berth = none) :
    commitPackBind r s = reply r 0x0B0A 0 r.payload (bindPack (u8 r.payload 0) (u16 r.payload 2) s) := by
  unfold commitPackBind
  simp only [if_neg hi, hk, hb]
  rfl

theorem commitPackBind_frees (hi : u16 r.payload 2 = 0xFFFF) (hk : boundPack s (u8 r.payload 0) = some k) :
    commitPackBind r s = reply r 0x0B0A 0 r.payload (unbindPack k s) := by
  unfold commitPackBind
  simp only [if_pos hi, hk]

theorem reported_dpPack (idx event cycles ident : Nat) (hg : Grows s a) (ht : a.tb.gtc = s.tb.gtc) :
    Reported s (dpPack idx event b cycles ident a) 0xCB03 30
      (leBytes 2 idx ++ leBytes 1 event ++ leBytes 1 b ++ leBytes 4 cycles ++ leBytes 8 ident) := reported_emit _ _ _ s a hg ht

theorem grows_dpPack (idx event cycles ident : Nat) (s : State) : Grows s (dpPack idx event b cycles ident s) := grows_emit _ _ _ _

/-- What a reply adds keeps every report made before it. -/
theorem Reported.reply {code src : Nat} {p : List Byte} (h : Reported s a code src p) (hg : Grows s a) (op st : Nat) (q : List Byte) :
    Reported s (reply r op st q a) code src p := newOuts_mono hg h (grows_reply _ _ _ _ _)

theorem packBind_empty_commits (hr : r.sess = none) (hi : u16 r.payload 2 ≠ 0xFFFF) (hk : packOf s (u16 r.payload 2) = some k)
    (hb : k.berth = none) (h : boundPack s (u8 r.payload 0) = none) :
    packOf (commitPackBind r s) (u16 r.payload 2) = some { k with berth := some (u8 r.payload 0) } ∧
    Answered s (commitPackBind r s) r 0x0B0A 0 r.payload ∧
    Reported s (commitPackBind r s) 0xCB03 30
      (leBytes 2 (u16 r.payload 2) ++ [2] ++ leBytes 1 (u8 r.payload 0) ++ leBytes 4 k.cycles ++ leBytes 8 k.ident) := by
  have hg : Grows s (packBound (u8 r.payload 0) (u16 r.payload 2) s) := .of_eq rfl
  have hg' := hg.trans (grows_dpPack (b := u8 r.payload 0) (u16 r.payload 2) 2 k.cycles k.ident _)
  rw [commitPackBind_binds hi hk hb, bindPack_empty h hk hb]
  refine ⟨?_, answered_open hr hg' _ _ _, (reported_dpPack _ 2 _ _ hg rfl).reply hg' _ _ _⟩
  rw [packOf_reply, packOf_dpPack]
  exact packOf_packBound hk

theorem packBind_replaces_commits (hr : r.sess = none) (hi : u16 r.payload 2 ≠ 0xFFFF) (hk : packOf s (u16 r.payload 2) = some k)
    (hb : k.berth = none) (h : boundPack s (u8 r.payload 0) = some k0) (h0 : k0.index ≠ u16 r.payload 2) :
    packOf (commitPackBind r s) (u16 r.payload 2) = some { k with berth := some (u8 r.payload 0) } ∧
    Answered s (commitPackBind r s) r 0x0B0A 0 r.payload ∧
    Reported s (commitPackBind r s) 0xCB03 30
      (leBytes 2 k0.index ++ [3] ++ leBytes 1 (u8 r.payload 0) ++ leBytes 4 k0.cycles ++ leBytes 8 k0.ident) ∧
    Reported s (commitPackBind r s) 0xCB03 30
      (leBytes 2 (u16 r.payload 2) ++ [2] ++ leBytes 1 (u8 r.payload 0) ++ leBytes 4 k.cycles ++ leBytes 8 k.ident) := by
  have hg : Grows s (packFreed k0.index s) := .of_eq rfl
  have hg1 := hg.trans (grows_dpPack (b := u8 r.payload 0) k0.index 3 k0.cycles k0.ident _)
  have hfreed : Reported s (dpPack k0.index 3 (u8 r.payload 0) k0.cycles k0.ident (packFreed k0.index s)) 0xCB03 30
      (leBytes 2 k0.index ++ [3] ++ leBytes 1 (u8 r.payload 0) ++ leBytes 4 k0.cycles ++ leBytes 8 k0.ident) :=
    reported_dpPack _ 3 _ _ hg rfl
  have hgtc : (dpPack k0.index 3 (u8 r.payload 0) k0.cycles k0.ident (packFreed k0.index s)).tb.gtc = s.tb.gtc :=
    congrArg Timebase.gtc (emit_tb _ _ _ _)
  have hpack : packOf (dpPack k0.index 3 (u8 r.payload 0) k0.cycles k0.ident (packFreed k0.index s)) (u16 r.payload 2) = some k := by
    rw [packOf_dpPack, packOf_packFreed_ne h0.symm, hk]
  rw [commitPackBind_binds hi hk hb, bindPack_replaces h h0 hk hb]
  generalize dpPack k0.index 3 (u8 r.payload 0) k0.cycles k0.ident (packFreed k0.index s) = v at *
  have hbound : Grows v (packBound (u8 r.payload 0) (u16 r.payload 2) v) := .of_eq rfl
  have hg2 := hg1.trans hbound
  have hg3 := hg2.trans (grows_dpPack (b := u8 r.payload 0) (u16 r.payload 2) 2 k.cycles k.ident _)
  refine ⟨?_, answered_open hr hg3 _ _ _, newOuts_mono hg1 hfreed (hbound.trans ?_), (reported_dpPack _ 2 _ _ hg2 hgtc).reply hg3 _ _ _⟩
  · rw [packOf_reply, packOf_dpPack]
    exact packOf_packBound hpack
  · exact (grows_dpPack _ _ _ _ _).trans (grows_reply _ _ _ _ _)

theorem packUnbind_commits (hr : r.sess = none) (hi : u16 r.payload 2 = 0xFFFF) (hk : boundPack s (u8 r.payload 0) = some k) :
    (packOf s k.index = some k → packOf (commitPackBind r s) k.index = some { k with berth := none }) ∧
    Answered s (commitPackBind r s) r 0x0B0A 0 r.payload ∧
    Reported s (commitPackBind r s) 0xCB03 30
      (leBytes 2 k.index ++ [3] ++ leBytes 1 (u8 r.payload 0) ++ leBytes 4 k.cycles ++ leBytes 8 k.ident) := by
  have hg : Grows s (packFreed k.index s) := .of_eq rfl
  have hg' := hg.trans (grows_dpPack (b := u8 r.payload 0) k.index 3 k.cycles k.ident _)
  rw [commitPackBind_frees hi hk, unbindPack_eq (boundPack_berth hk)]
  refine ⟨fun hown => ?_, answered_open hr hg' _ _ _, (reported_dpPack _ 3 _ _ hg rfl).reply hg' _ _ _⟩
  rw [packOf_reply, packOf_dpPack]
  exact packOf_packFreed hown

end

/-! ### The claim -/

theorem dispatcherCommits_hold : Claims.DispatcherCommits := by
  intro r s hr p
  refine ⟨⟨answered_dpConfig hr s, fun h => ?_, ?_, ?_, ?_, fun l h64 hl hx hp => ?_⟩, fun h => dpBerth_commits hr h s,
    packSet_commits hr s, fun k hi hk hb h => packBind_empty_commits hr hi hk hb h,
    fun k k0 hi hk hb h h0 => packBind_replaces_commits hr hi hk hb h h0, fun k hi hk => packUnbind_commits hr hi hk⟩
  · have hstay : blockAll (configured p s) = configured p s := blockAll_stays h
    rw [commitDpConfig_eq, hstay]
    exact core_reply _ _ _ _ _
  · exact commitDpConfig_field Dispatch.bypassLimit (fun _ => rfl) r s
  · exact commitDpConfig_field Dispatch.reserve (fun _ => rfl) r s
  · exact commitDpConfig_field Dispatch.perPass (fun _ => rfl) r s
  · rw [levelOf_congr (congrArg Dispatch.levels (commitDpConfig_dp r s))]
    exact blocked_blockAll (s := configured p s) h64 hl hx hp

/-- Settles O46: the settings and the queries by their checks, the commits by the tables they leave. -/
theorem dispatcherSettings : Obligations.DispatcherSettings := ⟨dispatcherHeld_holds, dispatcherCommits_hold, dispatcherQueries_holds⟩

end Sys2Proof.Machine
end

section
/-!
PROOFS. Tasks by their IDs (R444), and what the ends of transits, claims and levels leave alone of tasks, berths and counters (`Steady`).
-/
namespace Sys2Proof.Machine
open Sys2Proof
set_option Elab.async false

/-! ### Tasks by their IDs (R444) -/

section
variable {s t u : State} {id : Nat} {x : Task}

theorem taskOf_id (h : taskOf s id = some x) : taskId x = id := by simpa using List.find?_some h

/-- A change that keeps every ID is what the ID then gives. -/
theorem taskOf_modTask {f : Task → Task} (hf : ∀ y, taskId (f y) = taskId y) (h : taskOf s id = some x) :
    taskOf (modTask id f s) id = some (f x) := by
  have hp : (fun y : Task => taskId y == id) ∘ (fun y => if taskId y == id then f y else y) = fun y => taskId y == id := by
    funext y
    rw [Function.comp_apply]
    split
    · rw [hf]
    · rfl
  rw [taskOf, modTask, modDp_repl, List.find?_map, hp]
  exact (congrArg (Option.map _) h).trans (congrArg some (if_pos (beq_iff_eq.mpr (taskOf_id h))))

theorem taskOf_dropTask (id : Nat) (s : State) : taskOf (dropTask id s) id = none :=
  List.find?_eq_none.mpr fun y hy => by simpa using (List.mem_filter.mp hy).2

theorem taskOf_dpTask (y : Task) (old new cause : Nat) (s : State) (id : Nat) : taskOf (dpTask y old new cause s) id = taskOf s id :=
  taskOf_congr (congrArg (fun r : Repl => r.dp.tasks) (emit_repl _ _ _ _)) id

theorem taskOf_reply (r : Req) (op st : Nat) (p : List Byte) (s : State) (id : Nat) : taskOf (reply r op st p s) id = taskOf s id :=
  taskOf_congr (congrArg (fun r : Repl => r.dp.tasks) (reply_repl _ _ _ _ _)) id

theorem taskOf_settle (s : State) (id : Nat) : taskOf (settle s) id = taskOf s id := taskOf_congr (settle_tasks s) id

/-- The payload of DP_TASK after its GTC (Table 12-8). -/
def taskReport (id : Nat) (x : Task) (old new cause : Nat) : List Byte :=
  leBytes 4 id ++ leBytes 1 old ++ leBytes 1 new ++ leBytes 1 cause ++ leBytes 1 x.level ++ leBytes 2 (x.berth.getD 0xFFFF) ++ [0, 0]
    ++ leBytes 4 x.transit ++ leBytes 4 x.tag

theorem grows_dpTask (x : Task) (old new cause : Nat) (s : State) : Grows s (dpTask x old new cause s) := grows_emit _ _ _ _

theorem reported_dpTask (x : Task) (old new cause : Nat) (hg : Grows s t) (ht : t.tb.gtc = s.tb.gtc) :
    Reported s (dpTask x old new cause t) 0xCB01 30 (taskReport (taskId x) x old new cause) := reported_emit _ _ _ s t hg ht

/-! ### Counters of berths (Table 12-4) -/

theorem dpCountOf_congr (h : t.dpown.berths = s.dpown.berths) (b : Nat) : dpCountOf t b = dpCountOf s b := by
  rw [dpCountOf, dpCountOf, h]

theorem dpCountOf_modDpCount (b k : Nat) (f : DpCount → DpCount) (s : State) :
    dpCountOf (modDpCount b f s) k = if k = b then f (dpCountOf s b) else dpCountOf s k := by
  have h : dpCountOf (modDpCount b f s) k = (look (upsert s.dpown.berths b (f (dpCountOf s b))) k).getD DpCount.zero := rfl
  rw [h, look_upsert]
  split <;> rfl

/-! ### Ends of transits and claims -/

/-- The dispatcher's tables without levels, space count and transits that wait for their release. -/
def dpRest (d : Dispatch) : Dispatch := { d with levels := [], spaceCount := 0, waitRelease := [] }

/-- `t` comes from `s` by reports, ends of transits and claims and changes of levels: tasks, packs and the dispatcher's settings are as
they were, and so are the berths, the counters and the time; what was put out stays. -/
structure Steady (s t : State) : Prop where
  dp : dpRest t.repl.dp = dpRest s.repl.dp
  berths : t.repl.mac.berths = s.repl.mac.berths
  own : t.dpown = s.dpown
  tb : t.tb = s.tb
  grows : Grows s t

namespace Steady

theorem refl (s : State) : Steady s s := ⟨rfl, rfl, rfl, rfl, .refl s⟩

theorem trans (h : Steady s t) (k : Steady t u) : Steady s u :=
  ⟨k.dp.trans h.dp, k.berths.trans h.berths, k.own.trans h.own, k.tb.trans h.tb, h.grows.trans k.grows⟩

/-- What `dpRest` keeps is the same. -/
theorem field {α : Type} (g : Dispatch → α) (hg : ∀ d, g (dpRest d) = g d) (h : Steady s t) : g t.repl.dp = g s.repl.dp := by
  rw [← hg t.repl.dp, h.dp, hg]

theorem taskOf_eq (h : Steady s t) (id : Nat) : taskOf t id = taskOf s id := taskOf_congr (h.field Dispatch.tasks (fun _ => rfl)) id

theorem berthOf_eq (h : Steady s t) (b : Nat) : berthOf t b = berthOf s b := berthOf_congr h.berths b

theorem dpCountOf_eq (h : Steady s t) (b : Nat) : dpCountOf t b = dpCountOf s b := dpCountOf_congr (congrArg DpOwn.berths h.own) b

theorem emit {code src : Nat} {p : List Byte} (h : Steady s t) : Steady s (emit code src p t) :=
  h.trans ⟨by rw [emit_repl], by rw [emit_repl], emit_dpown _ _ _ _, emit_tb _ _ _ _, grows_emit _ _ _ _⟩

theorem modArb {f : Arbiter → Arbiter} (h : Steady s t) : Steady s (modArb f t) := h.trans ⟨rfl, rfl, rfl, rfl, .of_eq rfl⟩

theorem modDp {f : Dispatch → Dispatch} (h : Steady s t) (hf : ∀ d, dpRest (f d) = dpRest d) : Steady s (modDp f t) :=
  h.trans ⟨hf _, rfl, rfl, rfl, .of_eq rfl⟩

theorem spaceBump (h : Steady s t) : Steady s (spaceBump t) := h.modDp (fun _ => rfl)

theorem modLevel {l : Nat} {f : Level → Level} (h : Steady s t) : Steady s (modLevel l f t) := h.modDp (fun _ => rfl)

theorem ite {c : Prop} [Decidable c] (ht : Steady s t) (hu : Steady s u) : Steady s (if c then t else u) := by
  split
  · exact ht
  · exact hu

theorem foldl {α : Type} {f : State → α → State} {l : List α} (hf : ∀ v a, Steady s v → Steady s (f v a)) (h : Steady s t) :
    Steady s (l.foldl f t) := List.foldlRecOn l f h (fun v hv a _ => hf v a hv)

theorem watchEnds {n b : Nat} (h : Steady s t) : Steady s (watchEnds n b t) := by
  unfold Machine.watchEnds unknownEvent
  exact ite (ite (h.trans ⟨rfl, rfl, rfl, rfl, .of_eq rfl⟩) (emit (h.trans ⟨rfl, rfl, rfl, rfl, .of_eq rfl⟩))) h

theorem dropTransit {y : Transit} {change source : Nat} (h : Steady s t) : Steady s (dropTransit y change source t) := by
  unfold Machine.dropTransit
  extract_lets s1
  have h1 : Steady s s1 := h.modArb.spaceBump.emit
  split
  · exact h1
  · exact h1.watchEnds

theorem releaseNow {n source : Nat} (h : Steady s t) : Steady s (releaseNow n source t) := by
  unfold Machine.releaseNow
  split
  · exact h
  · exact ite h.dropTransit (ite h h.modArb.spaceBump.emit)

theorem dropClaim {l change n : Nat} (h : Steady s t) : Steady s (dropClaim l change n t) := by
  unfold Machine.dropClaim
  split
  · exact h
  · extract_lets s1
    have h1 : Steady s s1 := h.modArb.modLevel
    exact emit (ite h1.spaceBump h1)

theorem headLeaves {l head granted : Nat} (h : Steady s t) : Steady s (headLeaves l head granted t) := by
  unfold Machine.headLeaves
  extract_lets v s1 s2
  have h1 : Steady s s1 := h.modLevel
  have h2 : Steady s s2 := ite h1.dropClaim h1
  exact ite h2.modLevel.emit h1

end Steady

end

end Sys2Proof.Machine
end

section
/-!
PROOFS. The commits of tasks and of an assignment's life (R444, R445, R448, R454, R460 to R462, R465).
-/
namespace Sys2Proof.Machine
open Sys2Proof
set_option Elab.async false

section
variable {r : Req} {s : State} {id : Nat} {x : Task}

/-! ### New tasks and tasks made READY (R444, R448) -/

/-- The lowest free slot of the task store. -/
def newSlot (s : State) : Nat := freeSlot 8192 (s.repl.dp.tasks.map (fun t => t.slot))

/-- The generation that the slot's next task has. -/
def newGen (s : State) : Nat := nextGen (2 ^ 19) ((look s.repl.dp.gens (newSlot s)).getD 0)

/-- The task that a DP_TASK_ADD brings. -/
def newTask (r : Req) (g : Gtc) (s : State) : Task := taskAdd r.payload (newSlot s) (newGen s) g r.master

theorem taskAdd_self (p : List Byte) (slot gen src : Nat) (g : Gtc) :
    taskAdd p slot gen g src = taskAdd p (taskAdd p slot gen g src).slot (taskAdd p slot gen g src).gen g src := rfl

/-- A task in its slot. -/
def taskStored (x : Task) (s : State) : State := modDp (fun d => { d with tasks := d.tasks ++ [x], gens := upsert d.gens x.slot x.gen }) s

theorem commitTaskAdd_room (g : Gtc) (h : s.repl.dp.tasks.length < 8192) : commitTaskAdd r g s =
    reply r 0x0B01 0 (leBytes 4 (taskId (newTask r g s)) ++ leBytes 1 (newTask r g s).state ++ [0, 0, 0] ++
      leBytes 8 (newTask r g s).ready.toNat) (dpTask (newTask r g s) 0 (newTask r g s).state 0 (taskStored (newTask r g s) s)) := by
  unfold commitTaskAdd
  rw [if_neg (Nat.not_le.mpr h), newTask, newGen, newSlot]
  dsimp only
  generalize freeSlot 8192 (s.repl.dp.tasks.map (fun t => t.slot)) = slot
  generalize nextGen (2 ^ 19) ((look s.repl.dp.gens slot).getD 0) = gen
  rfl

theorem taskAdd_commits (hr : r.sess = none) (g : Gtc) (h : s.repl.dp.tasks.length < 8192) :
    ∃ x, (commitTaskAdd r g s).repl.dp.tasks = s.repl.dp.tasks ++ [x] ∧ x = taskAdd r.payload x.slot x.gen g r.master ∧
      Reported s (commitTaskAdd r g s) 0xCB01 30 (taskReport (taskId x) x 0 x.state 0) ∧
      Answered s (commitTaskAdd r g s) r 0x0B01 0 (leBytes 4 (taskId x) ++ leBytes 1 x.state ++ [0, 0, 0] ++ leBytes 8 x.ready.toNat) := by
  have hg : Grows s (taskStored (newTask r g s) s) := .of_eq rfl
  have hg' := hg.trans (grows_dpTask (newTask r g s) 0 (newTask r g s).state 0 _)
  rw [commitTaskAdd_room g h]
  refine ⟨newTask r g s, ?_, taskAdd_self _ _ _ _ _, (reported_dpTask _ _ _ _ hg rfl).reply hg' _ _ _, answered_open hr hg' _ _ _⟩
  rw [reply_repl, dpTask, emit_repl]
  rfl

/-- A HELD task in ready order under a GTC and a master. -/
def taskReadied (id : Nat) (r : Req) (g : Gtc) (s : State) : State :=
  modTask id (fun t => { t with state := 2, ready := g, readySource := r.master }) s

theorem commitTaskReady_held (g : Gtc) (hx : taskOf s (u32 r.payload 0) = some x) (h1 : x.state = 1) : commitTaskReady r g false s =
    reply r 0x0B02 0 (leBytes 4 (u32 r.payload 0) ++ [0, 0, 0, 0] ++ leBytes 8 g.toNat)
      (dpTask x 1 2 0 (taskReadied (u32 r.payload 0) r g s)) := by
  unfold commitTaskReady
  simp only [Bool.false_eq_true, ↓reduceIte, hx, h1]
  rfl

theorem commitTaskReady_cancelled (r : Req) (g : Gtc) (s : State) : commitTaskReady r g true s = reply r 0x0B02 0x8B04 [] s := by
  unfold commitTaskReady
  exact if_pos rfl

theorem taskReady_commits (hr : r.sess = none) (g : Gtc) (hx : taskOf s (u32 r.payload 0) = some x) (h1 : x.state = 1) :
    taskOf (commitTaskReady r g false s) (u32 r.payload 0) = some { x with state := 2, ready := g, readySource := r.master } ∧
    Reported s (commitTaskReady r g false s) 0xCB01 30 (taskReport (taskId x) x 1 2 0) ∧
    Answered s (commitTaskReady r g false s) r 0x0B02 0 (leBytes 4 (u32 r.payload 0) ++ [0, 0, 0, 0] ++ leBytes 8 g.toNat) := by
  have hg : Grows s (taskReadied (u32 r.payload 0) r g s) := .of_eq rfl
  have hg' := hg.trans (grows_dpTask x 1 2 0 _)
  rw [commitTaskReady_held g hx h1]
  refine ⟨?_, (reported_dpTask _ _ _ _ hg rfl).reply hg' _ _ _, answered_open hr hg' _ _ _⟩
  rw [taskOf_reply, taskOf_dpTask]
  exact taskOf_modTask (fun _ => rfl) hx

/-! ### The end of a task (R445, R462) -/

/-- The counters of a berth once a task of its has ended. -/
def countEnd (st : Nat) (c : DpCount) : DpCount :=
  if st = 5 then { c with completed := satAdd 32 c.completed 1 }
  else if st = 6 ∨ st = 9 then { c with failed := satAdd 32 c.failed 1 } else c

theorem countEnd_completed (st : Nat) (c : DpCount) :
    (countEnd st c).completed = if st = 5 then min (c.completed + 1) (2 ^ 32 - 1) else c.completed := by
  unfold countEnd
  split
  · rfl
  · split <;> rfl

theorem countEnd_failed (st : Nat) (c : DpCount) :
    (countEnd st c).failed = if st = 6 ∨ st = 9 then min (c.failed + 1) (2 ^ 32 - 1) else c.failed := by
  unfold countEnd
  split
  · rename_i h
    rw [if_neg (by omega)]
  · split <;> rfl

/-- A task has left its slot with its report. -/
def taskGone (id : Nat) (x : Task) (st cause : Nat) (s : State) : State := dropTask id (dpTask x x.state st cause s)

theorem grows_taskGone (id : Nat) (x : Task) (st cause : Nat) (s : State) :
    Grows (dpTask x x.state st cause s) (taskGone id x st cause s) :=
  .of_eq (modDp_outs _ _)

theorem taskGone_mac (id : Nat) (x : Task) (st cause : Nat) (s : State) : (taskGone id x st cause s).repl.mac = s.repl.mac := by
  rw [taskGone, dropTask, modDp_repl, dpTask, emit_repl]

theorem taskGone_dpown (id : Nat) (x : Task) (st cause : Nat) (s : State) : (taskGone id x st cause s).dpown = s.dpown := by
  rw [taskGone, dropTask, modDp_dpown, dpTask, emit_dpown]

/-- It is counted at its berth. -/
def taskCounted (id : Nat) (x : Task) (st cause : Nat) (s : State) : State :=
  match x.berth with
  | none => taskGone id x st cause s
  | some b => modDpCount b (countEnd st) (taskGone id x st cause s)

theorem taskCounted_repl (id : Nat) (x : Task) (st cause : Nat) (s : State) :
    (taskCounted id x st cause s).repl = (taskGone id x st cause s).repl := by
  unfold taskCounted
  split <;> rfl

theorem grows_taskCounted (id : Nat) (x : Task) (st cause : Nat) (s : State) :
    Grows (dpTask x x.state st cause s) (taskCounted id x st cause s) := by
  unfold taskCounted
  split
  · exact grows_taskGone id x st cause s
  · exact (grows_taskGone id x st cause s).trans (.of_eq (modDpCount_outs _ _ _))

/-- Beyond that a transit may be released, now or with the berth's next assignment, and the head of a level may leave it. -/
theorem steady_commitTaskEnd (hx : taskOf s id = some x) (st cause : Nat) :
    Steady (taskCounted id x st cause s) (commitTaskEnd id st cause s) := by
  unfold commitTaskEnd
  split
  · rename_i hn
    rw [hx] at hn
    cases hn
  · rename_i y hy
    obtain rfl : x = y := Option.some.inj (hx.symm.trans hy)
    extract_lets isHead s1 s2
    have h2 : Steady (taskCounted id x st cause s) s2 := by
      simp only [s2, taskCounted]
      cases x.berth with
      | none => exact .refl _
      | some b => exact .ite (.refl _) (.ite (Steady.refl _).releaseNow ((Steady.refl _).modDp (fun _ => rfl)))
    exact .ite h2.headLeaves h2

theorem grows_commitTaskEnd (hx : taskOf s id = some x) (st cause : Nat) :
    Grows (dpTask x x.state st cause s) (commitTaskEnd id st cause s) :=
  (grows_taskCounted id x st cause s).trans (steady_commitTaskEnd hx st cause).grows

theorem taskOf_commitTaskEnd (hx : taskOf s id = some x) (st cause : Nat) : taskOf (commitTaskEnd id st cause s) id = none := by
  rw [(steady_commitTaskEnd hx st cause).taskOf_eq, taskOf_congr (congrArg (fun r => r.dp.tasks) (taskCounted_repl id x st cause s))]
  exact taskOf_dropTask _ _

theorem berthOf_commitTaskEnd (hx : taskOf s id = some x) (st cause b : Nat) : berthOf (commitTaskEnd id st cause s) b = berthOf s b := by
  have hmac : (taskCounted id x st cause s).repl.mac = s.repl.mac := by rw [taskCounted_repl, taskGone_mac]
  exact ((steady_commitTaskEnd hx st cause).berthOf_eq b).trans (berthOf_congr (congrArg Mac.berths hmac) b)

theorem dpCountOf_commitTaskEnd (hx : taskOf s id = some x) (st cause : Nat) {b : Nat} (hb : x.berth = some b) :
    dpCountOf (commitTaskEnd id st cause s) b = countEnd st (dpCountOf s b) := by
  have hown : dpCountOf (taskGone id x st cause s) b = dpCountOf s b :=
    dpCountOf_congr (congrArg DpOwn.berths (taskGone_dpown id x st cause s)) b
  rw [(steady_commitTaskEnd hx st cause).dpCountOf_eq, taskCounted, hb, ← hown]
  exact (dpCountOf_modDpCount b b _ _).trans (if_pos rfl)

theorem reported_commitTaskEnd {s₀ : State} (hg : Grows s₀ s) (ht : s.tb.gtc = s₀.tb.gtc) (hx : taskOf s id = some x)
    (st cause : Nat) : Reported s₀ (commitTaskEnd id st cause s) 0xCB01 30
      (taskReport (taskId x) x x.state st cause) :=
  newOuts_mono (hg.trans (grows_dpTask _ _ _ _ _)) (reported_dpTask _ _ _ _ hg ht) (grows_commitTaskEnd hx st cause)

/-! ### A cancel (R460, R465) -/

/-- The cancel of a task on its way to the machine that has it, in place of what waits for it. -/
def cancelSent (id : Nat) (x : Task) (s : State) : State :=
  match x.berth with
  | none => s
  | some b => if x.state = 3 ∨ x.state = 4 then
      queueFrame b ⟨5, 1, id, cancelBody x s, s.tb.gtc, 0, true, [], 0, true⟩
        (modBerth b (fun x => { x with queue := x.queue.filter (fun f => !(f.ftype == 5 && f.seq == id)) }) s)
    else s

/-- Only the queue of a berth changes. -/
theorem cancelSent_keeps (id : Nat) (x : Task) (s : State) : (cancelSent id x s).repl.dp = s.repl.dp ∧ (cancelSent id x s).tb = s.tb ∧
    Grows s (cancelSent id x s) := by
  unfold cancelSent
  split
  · exact ⟨rfl, rfl, .refl s⟩
  · split
    · exact ⟨rfl, rfl, .of_eq rfl⟩
    · exact ⟨rfl, rfl, .refl s⟩

theorem taskOf_cancelSent (id : Nat) (x : Task) (s : State) : taskOf (cancelSent id x s) id = taskOf s id :=
  taskOf_congr (congrArg Dispatch.tasks (cancelSent_keeps id x s).1) id

theorem cancelSent_frame {b : Nat} (hb : x.berth = some b) (h : x.state = 3 ∨ x.state = 4) :
    ∃ f ∈ (berthOf (cancelSent id x s) b).queue, f.ftype = 5 ∧ f.kind = 1 ∧ f.seq = id := by
  refine ⟨⟨5, 1, id, cancelBody x s, s.tb.gtc, 0, true, [], 0, true⟩, ?_, rfl, rfl, rfl⟩
  simp only [cancelSent, hb, if_pos h, queueFrame]
  rw [berthOf_modBerth, if_pos rfl]
  exact List.mem_append_right _ (List.mem_singleton_self _)

/-- A task whose assignment does not wait is cancelled as it stands. -/
theorem commitCancel_direct (p : List Byte) (hx : taskOf s id = some x) (h2 : x.state ≠ 2) :
    commitCancel r id p s = reply r 0x0B03 0 p (commitTaskEnd id 7 0 (cancelSent id x s)) := by
  have hs0 : (if x.state = 2 ∧ x.berth.isSome = true then withdraw id s else s) = s := if_neg fun h => h2 h.1
  unfold commitCancel
  simp only [hx, hs0]
  rfl

/-- An assignment that waits is withdrawn first; what is then left of the task ends. -/
theorem commitCancel_cases (r : Req) (p : List Byte) (hx : taskOf s id = some x) : ∃ s0, Grows s s0 ∧
    ((taskOf s0 id = none ∧ commitCancel r id p s = reply r 0x0B03 0 p s0) ∨
      ∃ y, taskOf s0 id = some y ∧ commitCancel r id p s = reply r 0x0B03 0 p (commitTaskEnd id 7 0 (cancelSent id y s0))) := by
  have hg : Grows s (if x.state = 2 ∧ x.berth.isSome = true then withdraw id s else s) :=
    (Aside.ite (aside_withdraw (.refl s)) (.refl s)).grows
  refine ⟨_, hg, ?_⟩
  unfold commitCancel
  simp only [hx]
  cases h0 : taskOf (if x.state = 2 ∧ x.berth.isSome = true then withdraw id s else s) id with
  | none => exact .inl ⟨rfl, rfl⟩
  | some y => exact .inr ⟨y, rfl, rfl⟩

theorem cancel_commits (hr : r.sess = none) (p : List Byte) (hx : taskOf s id = some x) :
    taskOf (commitCancel r id p s) id = none ∧ Answered s (commitCancel r id p s) r 0x0B03 0 p := by
  obtain ⟨s0, hg, ⟨hn, hc⟩ | ⟨y, hy, hc⟩⟩ := commitCancel_cases r p hx
  · rw [hc, taskOf_reply]
    exact ⟨hn, answered_open hr hg _ _ _⟩
  · have hy' : taskOf (cancelSent id y s0) id = some y := (taskOf_cancelSent id y s0).trans hy
    have hsent : Grows s (cancelSent id y s0) := hg.trans (cancelSent_keeps id y s0).2.2
    have hend := (grows_dpTask y y.state 7 0 (cancelSent id y s0)).trans (grows_commitTaskEnd hy' 7 0)
    rw [hc, taskOf_reply]
    exact ⟨taskOf_commitTaskEnd hy' 7 0, answered_open hr (hsent.trans hend) _ _ _⟩

theorem cancel_reported (p : List Byte) (hx : taskOf s id = some x) (h2 : x.state ≠ 2) :
    Reported s (commitCancel r id p s) 0xCB01 30 (taskReport (taskId x) x x.state 7 0) := by
  have hx' : taskOf (cancelSent id x s) id = some x := (taskOf_cancelSent id x s).trans hx
  obtain ⟨-, htb, hg⟩ := cancelSent_keeps id x s
  have hend := (grows_dpTask x x.state 7 0 (cancelSent id x s)).trans (grows_commitTaskEnd hx' 7 0)
  rw [commitCancel_direct p hx h2]
  exact (reported_commitTaskEnd hg (congrArg Timebase.gtc htb) hx' 7 0).reply (hg.trans hend) _ _ _

theorem cancel_sends (p : List Byte) (hx : taskOf s id = some x) {b : Nat} (hb : x.berth = some b) (h : x.state = 3 ∨ x.state = 4) :
    ∃ f ∈ (berthOf (commitCancel r id p s) b).queue, f.ftype = 5 ∧ f.kind = 1 ∧ f.seq = id := by
  have hx' : taskOf (cancelSent id x s) id = some x := (taskOf_cancelSent id x s).trans hx
  rw [commitCancel_direct p hx (by omega), berthOf_congr (congrArg (fun r => r.mac.berths) (reply_repl _ _ _ _ _)),
    berthOf_commitTaskEnd hx' 7 0 b]
  exact cancelSent_frame hb h

theorem taskCommits_hold : Claims.TaskCommits := by
  intro r s hr id tells
  refine ⟨fun g h => taskAdd_commits hr g h, fun g x hx h1 => taskReady_commits hr g hx h1, fun g => ?_, fun p x hx => ?_⟩
  · rw [commitTaskReady_cancelled]
    exact ⟨core_reply _ _ _ _ _, answered_open hr (.refl s) _ _ _⟩
  · obtain ⟨hgone, hans⟩ := cancel_commits hr p hx
    refine ⟨hgone, hans, fun h1 => ?_, fun b hb h => ⟨cancel_reported p hx (by omega), cancel_sends p hx hb h⟩⟩
    have hrep := cancel_reported (r := r) p hx (by omega)
    rwa [h1] at hrep

/-! ### The life of an assignment (R454, R461, R462) -/

/-- The transits of a berth's completed tasks are released with its next assignment (R462). -/
def transitsReleased (b : Nat) (s : State) : State :=
  (s.repl.dp.waitRelease.filter (fun w => w.1 == b)).foldl (fun a w => releaseNow w.2 30 a)
    (modDp (fun d => { d with waitRelease := d.waitRelease.filter (fun w => w.1 != b) }) s)

theorem steady_transitsReleased (b : Nat) (s : State) : Steady s (transitsReleased b s) :=
  .foldl (fun _ _ hv => hv.releaseNow) ((Steady.refl s).modDp (fun _ => rfl))

/-- The TASK frame of an assignment (R460). -/
def taskFrame (id : Nat) (x : Task) (y : Transit) (s : State) : DownFrame := ⟨5, 0, id, taskBody x y, s.tb.gtc, 0, true, [], 0, true⟩

/-- An assignment put in force in `u` under the time of `s`: the task ASSIGNED, its waiting time counted, its frame queued. -/
def assigned (id b : Nat) (x : Task) (y : Transit) (s u : State) : State :=
  queueFrame b (taskFrame id x y s) (modDpCount b (fun c => { c with
      hist := modNth c.hist (waitBin (sinceNs s x.ready)) (fun n => satAdd 32 n 1) })
    (modTask id (fun t => { t with state := 3, commitSt := stMs s }) u))

theorem assigned_keeps (id b : Nat) (x : Task) (y : Transit) (s u : State) :
    (assigned id b x y s u).tb = u.tb ∧ Grows u (assigned id b x y s u) := ⟨rfl, .of_eq rfl⟩

theorem taskOf_assigned {u : State} (b : Nat) (y : Transit) (s : State) (h : taskOf u id = some x) :
    taskOf (assigned id b x y s u) id = some { x with state := 3, commitSt := stMs s } := taskOf_modTask (fun _ => rfl) h

theorem assigned_frame (id b : Nat) (x : Task) (y : Transit) (s u : State) :
    taskFrame id x y s ∈ (berthOf (assigned id b x y s u) b).queue := by
  rw [assigned, queueFrame, berthOf_modBerth, if_pos rfl]
  exact List.mem_append_right _ (List.mem_singleton_self _)

theorem commitAssign_eq {b : Nat} {y : Transit} (hx : taskOf s id = some x) (h2 : x.state = 2) (hb : x.berth = some b)
    (hy : transitOf s x.transit = some y) : commitAssign id b s =
    dpTask { x with state := 3 } 2 3 1 (assigned id b x y s (transitsReleased b s)) := by
  unfold commitAssign
  simp only [hx, hy]
  exact if_pos ⟨h2, hb⟩

theorem assign_commits {b : Nat} {y : Transit} (hx : taskOf s id = some x) (h2 : x.state = 2) (hb : x.berth = some b)
    (hy : transitOf s x.transit = some y) :
    taskOf (commitAssign id b s) id = some { x with state := 3, commitSt := stMs s } ∧
    Reported s (commitAssign id b s) 0xCB01 30 (taskReport id x 2 3 1) ∧
    taskFrame id x y s ∈ (berthOf (commitAssign id b s) b).queue := by
  have hid := taskOf_id hx
  have hst := steady_transitsReleased b s
  obtain ⟨htb, hset⟩ := assigned_keeps id b x y s (transitsReleased b s)
  rw [commitAssign_eq hx h2 hb hy, taskOf_dpTask]
  refine ⟨taskOf_assigned b y s ((hst.taskOf_eq id).trans hx), ?_, ?_⟩
  · have hgtc := congrArg Timebase.gtc (htb.trans hst.tb)
    have h := reported_dpTask { x with state := 3 } 2 3 1 (hst.grows.trans hset) hgtc
    rwa [show taskId { x with state := 3 } = id from hid] at h
  · rw [dpTask, berthOf_congr (congrArg (fun r => r.mac.berths) (emit_repl _ _ _ _))]
    exact assigned_frame id b x y s _

theorem commitTaskActive_eq (hx : taskOf s id = some x) (h3 : x.state = 3) :
    commitTaskActive id s = dpTask x 3 4 2 (modTask id (fun t => { t with state := 4 }) s) := by
  unfold commitTaskActive
  rw [hx]
  exact if_pos h3

theorem taskActive_commits (hx : taskOf s id = some x) (h3 : x.state = 3) :
    taskOf (commitTaskActive id s) id = some { x with state := 4 } ∧
    Reported s (commitTaskActive id s) 0xCB01 30 (taskReport (taskId x) x 3 4 2) := by
  have hg : Grows s (modTask id (fun t => { t with state := 4 }) s) := .of_eq rfl
  rw [commitTaskActive_eq hx h3, taskOf_dpTask]
  exact ⟨taskOf_modTask (fun _ => rfl) hx, reported_dpTask _ _ _ _ hg rfl⟩

end

theorem assignmentCommits_hold : Claims.AssignmentCommits := by
  intro id x s hx tells
  have hid := taskOf_id hx
  refine ⟨fun b y h2 hb hy => assign_commits hx h2 hb hy, fun h3 => ?_, fun st cause => ?_⟩
  · have h := taskActive_commits hx h3
    rwa [hid] at h
  · have hrep := reported_commitTaskEnd (.refl s) rfl hx st cause
    rw [hid] at hrep
    refine ⟨taskOf_commitTaskEnd hx st cause, hrep, fun b hb => ?_⟩
    rw [dpCountOf_commitTaskEnd hx st cause hb]
    exact ⟨countEnd_completed _ _, countEnd_failed _ _⟩

end Sys2Proof.Machine
end

section
/-!
PROOFS. Selection passes, deadlines and the counters of each second (R449, R451, R452, R470).
-/
namespace Sys2Proof.Machine
open Sys2Proof
set_option Elab.async false

/-! ### When a pass runs (R452) -/

theorem passAllowed_false {s : State} (h : s.pair.role = 2 ∨ s.modes.radio ≠ 2 ∨ eclShown s ≠ 0 ∨ 2 ≤ s.pwr.state) :
    passAllowed s = false := by
  rw [passAllowed, Bool.eq_false_iff]
  simp only [ne_eq, Bool.and_eq_true, bne_iff_ne, beq_iff_eq, decide_eq_true_eq]
  omega

theorem selectionPass_none {s : State} (h : passAllowed s = false) : selectionPass s = claimsFollow s := if_neg (by rw [h]; nofun)

theorem claimsFollow_none {s : State} (h : s.pair.role = 2 ∨ ∀ v ∈ s.repl.dp.levels, v.blocked = false) : claimsFollow s = s := by
  refine if_neg ?_
  rw [Bool.and_eq_true, bne_iff_ne, List.any_eq_true]
  rintro ⟨hrole, v, hv, hb⟩
  obtain h | h := h
  · exact hrole h
  · rw [h v hv] at hb
    cases hb

/-! ### One task offered to a berth (R451, R452) -/

/-- What lets a request for a task and a berth reach the arbiter. -/
structure Offered (b : Nat) (head : Option Nat) (p : PassSt) (x : Task) : Prop where
  eligible : eligible x b p.s = true
  untried : triedNow x b p.s = false
  inTime : pastDeadline x p.s = false
  budget : p.budget ≠ 0
  head : (levelOf p.s x.level).blocked = true → head = some (taskId x)
  claim : (levelOf p.s x.level).claimBerth = none ∨ (levelOf p.s x.level).claimBerth = some b

/-- Without a request nothing is granted. -/
theorem passTask_granted {b : Nat} {head : Option Nat} {p : PassSt} {x : Task} (hp : p.granted = false)
    (h : (passTask b head p x).granted = true) : Offered b head p x := by
  have hno : ∀ {c : Bool}, ({ p with ended := c } : PassSt).granted ≠ true := by
    intro c hc
    rw [hp] at hc
    cases hc
  unfold passTask at h
  dsimp only at h
  split at h
  case isTrue => exact absurd h hno
  split at h
  case isTrue => exact absurd h hno
  rename_i hblocked
  split at h
  case isTrue => exact absurd h hno
  rename_i hclaim
  split at h
  case isTrue => exact absurd h hno
  rename_i hfit
  split at h
  case isTrue => exact absurd h hno
  rename_i hbudget
  simp only [not_or, Bool.not_eq_false, Bool.not_eq_true] at hfit
  obtain ⟨helig, htried, hpast⟩ := hfit
  refine ⟨helig, htried, hpast, hbudget, fun hb => Decidable.not_not.mp fun hne => hblocked ⟨hb, hne⟩, ?_⟩
  rw [not_and, Decidable.not_not] at hclaim
  cases hc : (levelOf p.s x.level).claimBerth with
  | none => exact .inl rfl
  | some c => exact .inr (hc ▸ hclaim (by rw [hc]; rfl))

/-! ### Deadlines (R449) -/

section
variable {s : State} {id : Nat} {x : Task}

/-- A terminal change of a task that waits for its commit. -/
def taskEnding (id st cause : Nat) (x : Task) (s : State) : State :=
  hold 30 (.taskEnd x.slot x.gen st cause) (modTask id (fun t => { t with ending := true }) s)

theorem endTask_eq (hx : taskOf s id = some x) (he : x.ending = false) (st cause : Nat) :
    endTask id st cause s = taskEnding id st cause x s := by
  unfold endTask
  rw [hx]
  exact if_neg (by rw [he]; nofun)

theorem taskDeadline_passed (hx : taskOf s id = some x) (hrole : s.pair.role ≠ 2) (he : x.ending = false)
    (hst : x.state = 1 ∨ x.state = 2 ∧ x.berth = none) (h0 : x.deadline ≠ 0) (hd : x.deadline < stMs s) :
    exec (.taskDeadline id) s = done (taskEnding id 8 3 x s) := by
  change execTaskDeadline id s = _
  unfold execTaskDeadline
  rw [hx, ← endTask_eq hx he]
  exact congrArg done (if_pos ⟨hst, h0, hd, hrole⟩)

theorem taskDeadline_waits (hx : taskOf s id = some x) (h : stMs s ≤ x.deadline ∨ x.deadline = 0 ∨ x.state = 3 ∨ x.state = 4) :
    exec (.taskDeadline id) s = done s := by
  change execTaskDeadline id s = _
  unfold execTaskDeadline
  rw [hx]
  refine congrArg done (if_neg ?_)
  rintro ⟨hst, h0, hd, -⟩
  omega

theorem taskDeadline_expires (hx : taskOf s id = some x) (hrole : s.pair.role ≠ 2) (he : x.ending = false)
    (hst : x.state = 1 ∨ x.state = 2 ∧ x.berth = none) (h0 : x.deadline ≠ 0) (hd : x.deadline < stMs s) :
    ∃ t, exec (.taskDeadline id) s = .next t ∧ taskOf t id = some { x with ending := true } ∧
      t.pair.decisions = s.pair.decisions ++ [⟨s.tb.gtc, 30, .taskEnd x.slot x.gen 8 3⟩] := by
  refine ⟨_, taskDeadline_passed hx hrole he hst h0 hd, ?_, ?_⟩
  · rw [taskOf_settle]
    exact taskOf_modTask (fun _ => rfl) hx
  · exact settle_pairField Pair.decisions (fun _ => rfl) (taskEnding id 8 3 x s)

end

/-! ### The counters of each second (R470) -/

/-- The depth of every level, taken. -/
def depthsTaken (s : State) : State := { s with dpown := { s.dpown with depths := (List.range 64).map (fun l => (readyTasks s l).length) } }

/-- The busy seconds of a berth's last hour. -/
def busyNow (b : Nat) (s : State) : List Bool := ((busyTask s b).isSome :: (dpCountOf s b).busy).take 3600

/-- A berth's counters after one more second. -/
def secondCount (s : State) (b : Nat) (c : DpCount) : DpCount :=
  { c with
    depth := min (eligibleDepth b s) 8192
    busy := busyNow b s
    load := [share (busyNow b s) 60, share (busyNow b s) 600, share (busyNow b s) 3600] }

/-- Every berth's counters after one more second. -/
def secondCounted (s : State) : State :=
  (countedBerths s).foldl (fun t b => modDpCount b (secondCount s b) t) s

theorem exec_dpCountersUpdate (s : State) : exec .dpCountersUpdate s = done (secondCounted (depthsTaken s)) := rfl

section
variable {s : State} {b : Nat}

/-- Counting a berth twice in one second gives what counting it once does. -/
theorem secondCount_twice (s : State) (b : Nat) (c : DpCount) : secondCount s b (secondCount s b c) = secondCount s b c := rfl

theorem dpCountOf_foldl (s : State) (b : Nat) (l : List Nat) (t : State) :
    dpCountOf (l.foldl (fun t k => modDpCount k (secondCount s k) t) t) b =
      if b ∈ l then secondCount s b (dpCountOf t b) else dpCountOf t b := by
  induction l generalizing t with
  | nil => rfl
  | cons k r ih =>
    rw [List.foldl_cons, ih, dpCountOf_modDpCount]
    by_cases hk : b = k
    · subst hk
      simp [secondCount_twice]
    · simp [hk]

theorem mem_countedBerths (s : State) (b : Nat) : b ∈ countedBerths s ↔
    b < 256 ∧ (look s.repl.mac.berths b ≠ none ∨ look s.repl.dp.berths b ≠ none ∨ look s.dpown.berths b ≠ none) := by
  simp only [countedBerths, List.mem_filter, List.mem_range, Bool.or_eq_true, Option.isSome_iff_ne_none, or_assoc]

theorem secondCounted_own (s : State) : secondCounted s = { s with dpown := (secondCounted s).dpown } ∧
    (secondCounted s).dpown.depths = s.dpown.depths :=
  List.foldlRecOn (motive := fun v : State => v = { s with dpown := v.dpown } ∧ v.dpown.depths = s.dpown.depths) (countedBerths s)
    (fun t b => modDpCount b (secondCount s b) t) ⟨rfl, rfl⟩ (fun v ⟨hv, hd⟩ b _ => ⟨by rw [hv]; rfl, hd⟩)

theorem settle_dpown (s : State) : (settle s).dpown = s.dpown := (same_settle s).field State.dpown (fun _ => rfl)

/-- Only the dispatcher's own counters move. -/
theorem same_secondCounted (s : State) :
    Same (settle (secondCounted (depthsTaken s))) { s with dpown := (settle (secondCounted (depthsTaken s))).dpown } := by
  have h := (secondCounted_own (depthsTaken s)).1
  rw [settle_dpown]
  exact (core_settle _).trans (congrArg core h)

theorem counters_update (hb : b < 256)
    (h : look s.repl.mac.berths b ≠ none ∨ look s.repl.dp.berths b ≠ none ∨ look s.dpown.berths b ≠ none) :
    dpCountOf (settle (secondCounted (depthsTaken s))) b = secondCount s b (dpCountOf s b) := by
  have hmem : b ∈ countedBerths (depthsTaken s) := (mem_countedBerths _ _).mpr ⟨hb, h⟩
  rw [dpCountOf_congr (congrArg DpOwn.berths (settle_dpown _)), secondCounted, dpCountOf_foldl, if_pos hmem]
  rfl

end

/-! ### The claim -/

theorem selectionAndTimers_holds : Claims.SelectionAndTimers := by
  refine ⟨fun s h => selectionPass_none (passAllowed_false h), fun s h => claimsFollow_none h, fun b head p x hp h => ?_,
    fun id x s hx hrole he => ⟨taskDeadline_expires hx hrole he, taskDeadline_waits hx⟩, fun b s hb h => ?_, fun s => ?_⟩
  · obtain ⟨helig, htried, hpast, hbudget, hhead, hclaim⟩ := passTask_granted hp h
    exact ⟨helig, htried, hpast, hbudget, hhead, hclaim⟩
  · refine ⟨_, exec_dpCountersUpdate s, same_secondCounted s, ?_⟩
    rw [counters_update hb h]
    exact ⟨rfl, rfl, rfl, rfl⟩
  · refine ⟨_, exec_dpCountersUpdate s, ?_⟩
    rw [settle_dpown, (secondCounted_own _).2]
    rfl

/-- Settles O47: each commit by the operations it is made of, a pass by what one offer asks for, the counters by what a second adds. -/
theorem tasksAndAssignments : Obligations.TasksAndAssignments := ⟨taskCommits_hold, assignmentCommits_hold, selectionAndTimers_holds⟩

end Sys2Proof.Machine
end
